-- ==== Sys2Proof/Word.lean ====
section
/-! DEFINITION. Words, bit fields and the sparse maps in which the model keeps numbered things. -/

namespace Sys2Proof

/-- A byte of memory. -/
abbrev Byte := BitVec 8
/-- A register or instruction word (R5: registers are 32 bits wide unless their table states 64). -/
abbrev Word := BitVec 32
/-- A 64-bit register or address. -/
abbrev DWord := BitVec 64
/-- A 32-byte engine command (R156); byte 0 is the least significant. -/
abbrev Cmd := BitVec 256

/-- Numbered things, keyed by number, keys strictly rising; a number that is not listed has the default its reader names. -/
abbrev SMap (α : Type) := List (Nat × α)

end Sys2Proof
end

