-- ==== Sys2Proof/Machine/Maps.lean ====
section
/-! DEFINITION. Operations on sparse maps and on bit fields. -/

namespace Sys2Proof

/-- The entry under key `k`, if one is listed. -/
def SMap.find {α : Type} (k : Nat) : SMap α → Option α
  | [] => none
  | (a, v) :: m => if a = k then some v else SMap.find k m

/-- The entry under key `k`, or the default. -/
def SMap.get {α : Type} (m : SMap α) (k : Nat) (d : α) : α := (SMap.find k m).getD d

/-- The map with `v` under key `k`. -/
def SMap.put {α : Type} (k : Nat) (v : α) : SMap α → SMap α
  | [] => [(k, v)]
  | (a, w) :: m => if k < a then (k, v) :: (a, w) :: m else if a = k then (k, v) :: m else (a, w) :: SMap.put k v m

/-- The map without key `k`. -/
def SMap.del {α : Type} (k : Nat) : SMap α → SMap α
  | [] => []
  | (a, w) :: m => if a = k then SMap.del k m else (a, w) :: SMap.del k m

/-- The `w` bits of `x` from bit `lo` up. -/
def bitsOf (x lo w : Nat) : Nat := (x >>> lo) % 2 ^ w

/-- `x` with its `w` bits from bit `lo` up replaced by `v`. -/
def putBits (x lo w v : Nat) : Nat := x - (bitsOf x lo w) * 2 ^ lo + (v % 2 ^ w) * 2 ^ lo

/-- Bit `n` of `x`. -/
def bitOf (x n : Nat) : Bool := x.testBit n

/-- `x` with bit `n` set. -/
def setBit (x n : Nat) : Nat := x ||| (1 <<< n)

/-- `x` with bit `n` clear. -/
def clrBit (x n : Nat) : Nat := if x.testBit n then x - 2 ^ n else x

/-- Addition that saturates at `top`. -/
def satAdd (top x n : Nat) : Nat := min top (x + n)

/-- 1 for true, 0 for false. -/
def b2n (b : Bool) : Nat := if b then 1 else 0

/-- The little-endian value of a list of bytes (R5). -/
def leNat : List Byte → Nat
  | [] => 0
  | b :: bs => b.toNat + 256 * leNat bs

/-- The first `n` bytes of `x`, least significant first (R5). -/
def leBytes : Nat → Nat → List Byte
  | 0, _ => []
  | n + 1, x => BitVec.ofNat 8 x :: leBytes n (x / 256)

/-- The value of `w` bits read as a two's-complement number. -/
def sext (w x : Nat) : Int := if 2 ^ (w - 1) ≤ x % 2 ^ w then (x % 2 ^ w : Nat) - (2 ^ w : Int) else ((x % 2 ^ w : Nat) : Int)

/-- `f` applied for each number below `n`, in ascending order. -/
def forN {σ : Type} (n : Nat) (s : σ) (f : σ → Nat → σ) : σ := (List.range n).foldl f s

theorem SMap.find_put_same {α : Type} (k : Nat) (v : α) (m : SMap α) : SMap.find k (SMap.put k v m) = some v := by
  induction m with
  | nil => simp [SMap.put, SMap.find]
  | cons p m ih =>
    obtain ⟨a, w⟩ := p
    simp only [SMap.put]
    split
    · simp [SMap.find]
    · split
      · simp [SMap.find]
      · rename_i h
        simp [SMap.find, h, ih]

theorem SMap.find_put_ne {α : Type} {j k : Nat} (h : j ≠ k) (v : α) (m : SMap α) :
    SMap.find j (SMap.put k v m) = SMap.find j m := by
  induction m with
  | nil => simp [SMap.put, SMap.find, Ne.symm h]
  | cons p m ih =>
    obtain ⟨a, w⟩ := p
    simp only [SMap.put]
    split
    · simp [SMap.find, Ne.symm h]
    · split
      · rename_i _ ha
        subst ha
        simp [SMap.find, Ne.symm h]
      · simp [SMap.find, ih]

@[simp] theorem SMap.get_put_same {α : Type} (k : Nat) (v d : α) (m : SMap α) : (SMap.put k v m).get k d = v := by
  simp [SMap.get, SMap.find_put_same]

theorem SMap.get_put_ne {α : Type} {j k : Nat} (h : j ≠ k) (v d : α) (m : SMap α) :
    (SMap.put k v m).get j d = m.get j d := by
  simp [SMap.get, SMap.find_put_ne h]

end Sys2Proof
end

