-- ==== Sys2Proof/Syntax.lean ====
section
/-! DEFINITION. The commands of the DG-3140: one constructor for each row of spec/opcode_table.json, with the operands that
the row's rule gives it: the number of the unit that acts, the value written, and what arrives from outside the device. -/

namespace Sys2Proof

/-- Where a register access comes from: a function of a host port, or a management core. -/
inductive Source where
  /-- The physical function of a port. -/
  | pf (port : Nat)
  /-- A virtual function of a port. -/
  | vf (port vf : Nat)
  /-- A management core. -/
  | mgmt
  deriving DecidableEq, Repr

/-- A report of a unit (R310, R311): code, detail, the page that reports, the context and frame it names, address, syndrome and WRITER. -/
structure Report where
  code : Nat
  detail : Nat
  page : Nat
  ctx : Option Nat
  frame : Nat
  addr : Nat
  syndrome : Nat
  writer : Option Nat
  deriving DecidableEq, Repr

/-- What the reads of one submission from host memory return (R366, R368): the descriptor's 64 bytes and the input's bytes, or
none where a read ends in error. -/
structure HostRead where
  /-- Channel and index of the submission in its ring. -/
  chan : Nat
  idx : Nat
  desc : Option (List Byte)
  data : Option (List Byte)
  deriving DecidableEq, Repr

/-- A fabric packet as received: the fields of its header (R382) and its opened payload. -/
structure Pkt where
  type : Nat
  /-- ADD, or STATUS of a LANDED. -/
  add : Nat
  final : Bool
  len : Nat
  dest : Nat
  src : Nat
  xtag : Nat
  frame : Nat
  off : Nat
  pad : Nat
  seq : Nat
  ack : Nat
  nak : Bool
  credit : Nat
  epoch : Bool
  payload : List Byte
  deriving DecidableEq, Repr


/-- One step of the device (a row of spec/opcode_table.json). -/
inductive Instr where
  /-- TICK (R33): The Plaza's tick arrives from its own timer or from TICK_IN and starts the eight-step tick gap that ends one frame and starts the next. -/
  | tick (bad : List (Nat × Nat))
  /-- TIME (R405): A TIME packet is received and a follower adopts the carried frame number or sets FRAME_MISMATCH or PERIOD_MISMATCH. -/
  | time (p : Nat) (k : Pkt)
  /-- TICK_IN (R32): A pulse on TICK_IN makes a follower tick after its compensation delay. -/
  | tickIn
  /-- TICK_LOST (R32): A follower that sees no TICK_IN pulse within the period plus 1 µs ticks on its own timer and sets TICK_LOST. -/
  | tickLost
  /-- FRAME_ENDED (R37): Every enabled logical Block has completed frame end, the fault records become final, and commit tokens are sent if all are clean. -/
  | frameEnded
  /-- ACTIVATE (R46): An ACTIVATE written to CTX.CMD is queued and the security engine prepares its checks, measurement, program copy and key grants. -/
  | activate (src : Source) (n : Nat)
  /-- STOP (R42): A STOP written to CTX.CMD is queued for step 3 and then moves the context to STOPPED. -/
  | stop (src : Source) (n : Nat)
  /-- ABORT (R42): An ABORT written to CTX.CMD is queued for step 3 and then moves the context to ABORTED. -/
  | abort (src : Source) (n : Nat)
  /-- RESUME (R55): A RESUME written to CTX.CMD is queued and then returns an OVERRUN context to ACTIVE with REPLAYS at 0. -/
  | resume (src : Source) (n : Nat)
  /-- RELEASE (R252): A RELEASE written to CTX.CMD is queued and then returns the entry to EMPTY and starts the slice sweep of its lines. -/
  | release (src : Source) (n : Nat)
  /-- CONTEXT_ENTRY_WRITE (R45): A host write to a context-table entry is performed, or dropped with ENTRY_BUSY when the entry is busy or device-owned. -/
  | contextEntryWrite (src : Source) (n : Nat) (off : Nat) (bytes : List Byte)
  /-- RESIDENT_LOAD (R46): During the frame after it is made resident, the device loads and rechecks the context's entry, region table and key bindings. -/
  | residentLoad (n : Nat)
  /-- TAIL_VALUE (R35): A tail-word read returns, and the channel's pending count is updated or RING_ERR is set. -/
  | tailValue (h : Nat) (v : Option DWord)
  /-- DUE_READ (R59): The 8-byte read of the DUE field of a channel's oldest pending submission returns and sets that channel's due time. -/
  | dueRead (h : Nat) (v : Option DWord)
  /-- INTAKE_FETCH (R366): During the frame before it, the device fetches the chosen context's intake into intake half H and opens sealed envelopes. -/
  | intakeFetch (reads : List HostRead) (whole : Bool)
  /-- IMEM_LOAD (R149): The device writes the coming frame's code, padded with HALT words, into every enabled Block's idle I-memory half. -/
  | imemLoad (p : Nat)
  /-- OUTPUT_DELIVERY (R372): During the frame after a commit, the device copies or seals each consumed submission's output to OUT_ADDR and writes the second completion half. -/
  | outputDelivery (h : Nat)
  /-- ADD (R129): The control core writes s[RS1] + s[RS2] to s[RD]. -/
  | add (p : Nat)
  /-- SUB (R129): The control core writes s[RS1] − s[RS2] to s[RD]. -/
  | sub (p : Nat)
  /-- AND (R129): The control core writes the bitwise AND of two registers. -/
  | and (p : Nat)
  /-- OR (R129): The control core writes the bitwise OR of two registers. -/
  | or (p : Nat)
  /-- XOR (R129): The control core writes the bitwise XOR of two registers. -/
  | xor (p : Nat)
  /-- ANDN (R129): The control core writes s[RS1] AND NOT s[RS2]. -/
  | andn (p : Nat)
  /-- SLL (R129): The control core shifts s[RS1] left by s[RS2][5:0]. -/
  | sll (p : Nat)
  /-- SRL (R129): The control core shifts s[RS1] right logically by s[RS2][5:0]. -/
  | srl (p : Nat)
  /-- SRA (R129): The control core shifts s[RS1] right arithmetically by s[RS2][5:0]. -/
  | sra (p : Nat)
  /-- MUL (R129): The control core writes the low 64 bits of the product, ready after 3 cycles. -/
  | mul (p : Nat)
  /-- MULHU (R129): The control core writes the high 64 bits of the unsigned product. -/
  | mulhu (p : Nat)
  /-- DIVU (R129): The control core writes the unsigned quotient, all ones for a zero divisor, ready after 66 cycles. -/
  | divu (p : Nat)
  /-- REMU (R129): The control core writes the unsigned remainder, s[RS1] for a zero divisor. -/
  | remu (p : Nat)
  /-- MIN (R129): The control core writes the signed minimum of two registers. -/
  | min (p : Nat)
  /-- MAX (R129): The control core writes the signed maximum of two registers. -/
  | max (p : Nat)
  /-- MINU (R129): The control core writes the unsigned minimum of two registers. -/
  | minu (p : Nat)
  /-- MAXU (R129): The control core writes the unsigned maximum of two registers. -/
  | maxu (p : Nat)
  /-- CMP (R130): The control core compares two registers with EQ, NE, LT, GE, LTU or GEU into a predicate. -/
  | cmp (p : Nat)
  /-- PAND (R129): The control core writes the AND of two predicates. -/
  | pand (p : Nat)
  /-- POR (R129): The control core writes the OR of two predicates. -/
  | por (p : Nat)
  /-- PXOR (R129): The control core writes the XOR of two predicates. -/
  | pxor (p : Nat)
  /-- PANDN (R129): The control core writes p[RS1] AND NOT p[RS2]. -/
  | pandn (p : Nat)
  /-- PNOT (R129): The control core writes the negation of a predicate. -/
  | pnot (p : Nat)
  /-- PTOS (R129): The control core writes 1 or 0 to s[RD] from a predicate. -/
  | ptos (p : Nat)
  /-- ALU_STOP (R129): The control core sets a predicate to whether s[RS1] is non-zero. -/
  | aluStop (p : Nat)
  /-- MFLC (R129): The control core reads a loop counter into s[RD]. -/
  | mflc (p : Nat)
  /-- MFCB (R129): The control core reads a command-build word into s[RD]. -/
  | mfcb (p : Nat)
  /-- RDID (R129): The control core reads the logical Block number, Block count, context number, intake count or intake half. -/
  | rdid (p : Nat)
  /-- RDTIME (R129): The control core reads device time into s[RD]. -/
  | rdtime (p : Nat)
  /-- RDFRAME (R129): The control core reads TICK.FRAME_NUM into s[RD]. -/
  | rdframe (p : Nat)
  /-- SETCLS (R133): The control core sets CLS to a label allowed by CLASS_MASK, or leaves it unchanged. -/
  | setcls (p : Nat)
  /-- JR (R136): The control core jumps to s[RS1] in the live half. -/
  | jr (p : Nat)
  /-- JRL (R136): The control core writes the return offset and jumps to s[RS1]. -/
  | jrl (p : Nat)
  /-- FENCE (R135): The control core waits until every earlier load and store has completed. -/
  | fence (p : Nat)
  /-- HALT (R145): The control core stops issue for the rest of the frame. -/
  | halt (p : Nat)
  /-- ADDI (R128): The control core adds a sign-extended immediate to a register. -/
  | addi (p : Nat)
  /-- ANDI (R128): The control core ANDs a register with a zero-extended immediate. -/
  | andi (p : Nat)
  /-- ORI (R128): The control core ORs a register with a zero-extended immediate. -/
  | ori (p : Nat)
  /-- XORI (R128): The control core XORs a register with a zero-extended immediate. -/
  | xori (p : Nat)
  /-- SHI (R128): The control core shifts or rotates a register by an immediate count. -/
  | shi (p : Nat)
  /-- CMPI (R130): The control core compares a register signed with an immediate into a predicate. -/
  | cmpi (p : Nat)
  /-- CMPIU (R130): The control core compares a register unsigned with an immediate into a predicate. -/
  | cmpiu (p : Nat)
  /-- MOVI (R128): The control core writes a sign-extended 19-bit immediate to a register. -/
  | movi (p : Nat)
  /-- INSI (R128): The control core shifts a register left by 16 and inserts a 16-bit immediate. -/
  | insi (p : Nat)
  /-- LD (R131): The control core loads from a context address through the L1 and the region table. -/
  | ld (p : Nat)
  /-- ST (R131): The control core stores to a context address, writing through the L1 to the home slice. -/
  | st (p : Nat)
  /-- LDS (R132): The control core loads from its Block's scratchpad. -/
  | lds (p : Nat)
  /-- STS (R132): The control core stores to its Block's scratchpad. -/
  | sts (p : Nat)
  /-- LOAD_RETURN (R135): The data of a control-core load in flight returns and its destination becomes ready. -/
  | loadReturn (p : Nat) (k : Nat)
  /-- STORE_ACK (R239): The home slice acknowledges a write-through store, which then completes. -/
  | storeAck (p : Nat) (k : Nat)
  /-- BR (R137): The control core branches when p[GUARD] XOR NEG is true. -/
  | br (p : Nat)
  /-- BRL (R136): The control core writes the return offset and branches relative to PC. -/
  | brl (p : Nat)
  /-- CSKIP (R138): The control core skips forward over a segment when its condition holds and counts the outcome. -/
  | cskip (p : Nat)
  /-- LOOP (R139): The control core latches a count from a register and enters a hardware loop level. -/
  | loop (p : Nat)
  /-- LOOPI (R139): The control core latches an immediate count and enters a hardware loop level. -/
  | loopi (p : Nat)
  /-- CBW (R142): The control core writes the low word of a computed value into a command-build register. -/
  | cbw (p : Nat)
  /-- CBWH (R142): The control core writes the high word of a computed value into a command-build register. -/
  | cbwh (p : Nat)
  /-- CBINS (R142): The control core inserts a field into a command-build register. -/
  | cbins (p : Nat)
  /-- QSEND (R143): The control core forms a command from cb0 to cb7 with its CRC-16 and appends it to a queue, stalling while the queue is full. -/
  | qsend (p : Nat)
  /-- QSENDM (R144): The control core appends 32 bytes from scratchpad to a queue as they stand. -/
  | qsendm (p : Nat)
  /-- QFREE (R128): The control core reads the free entries of a queue. -/
  | qfree (p : Nat)
  /-- MLOAD (R76): The array front end accepts an MLOAD and passes it to the load unit, which copies a tile image into the named buffer of each masked array. -/
  | mload (p : Nat)
  /-- MLOAD_START (R77): An MLOAD starts once every earlier MPASS using its buffer has moved its last row-slot past cell (31,31). -/
  | mloadStart (p : Nat)
  /-- MPASS (R76): The front end accepts an MPASS, and the feeder fetch unit begins fetching its row-slots. -/
  | mpass (p : Nat)
  /-- MPASS_START (R77): An MPASS pops its first row-slot once its previous pass, loads, drains and first row-slot are ready. -/
  | mpassStart (p : Nat)
  /-- MDRAIN (R76): The front end accepts an MDRAIN and passes it to the drain unit. -/
  | mdrain (p : Nat)
  /-- MDRAIN_START (R77): An MDRAIN starts converting and writing token rows once every earlier MPASS into its set has made its last update. -/
  | mdrainStart (p : Nat)
  /-- RAMP_STEP (R94): At each 16-cycle step an array ramping up or down moves one activity level and enters hold or off at the end. -/
  | rampStep (p : Nat)
  /-- HOLD_EXPIRY (R95): After 256 cycles of hold without a new pass the array begins its ramp-down. -/
  | holdExpiry (p : Nat)
  /-- GATE_BOUNDARY (R426): At each 16-cycle boundary of CK_ARR the arrays read GATE and DGATE and gate the next cycles accordingly. -/
  | gateBoundary (d : Nat)
  /-- VLAUNCH (R169): A launch takes GROUPS group slots at once and starts its thread groups at ENTRY. -/
  | vlaunch (p : Nat)
  /-- DCOPY (R170): The Block DMA moves ROWS rows between scratchpad, context addresses and the idle I-memory half, with optional reduction. -/
  | dcopy (p : Nat)
  /-- DGATHER (R172): The district gather engine gathers or scatters indexed table rows. -/
  | dgather (p : Nat)
  /-- FSEND (R173): The Block DMA cuts the source into DATA packets to a destination's staging slot over ACTIVE ports. -/
  | fsend (p : Nat)
  /-- XDISPATCH (R114): A gather engine counts one dispatch part's choices and sends its count table to every engine holding a part. -/
  | xdispatch (p : Nat)
  /-- COUNT_TABLE (R114): A count table of another part of the same dispatch arrives at a gather engine. -/
  | countTable (d : Nat) (k : Nat)
  /-- PLACEMENT (R114): Once all parts' tables are present, a part places its choices in rank-major order and writes batches, lists, maps and drops. -/
  | placement (d : Nat) (k : Nat)
  /-- XCOMBINE (R117): A gather engine folds gated expert outputs into the residual for its tokens. -/
  | xcombine (p : Nat)
  /-- SFENCE (R176): The sync unit waits until every earlier command of the named queues has completed. -/
  | sfence (p : Nat)
  /-- BARRIER (R177): After its drain condition holds the Block arrives at its next chip or district barrier. -/
  | barrier (p : Nat)
  /-- BARRIER_RELEASE (R177): The release of a barrier reaches the waiting Blocks once every enabled Block of the scope has arrived. -/
  | barrierRelease (chip : Bool) (d : Nat)
  /-- FRAME_END (R179): The sync unit waits for every earlier MXQ, VXQ and DXQ command to complete, then completes frame end for the Block. -/
  | frameEnd (p : Nat)
  /-- COMMAND_COMPLETE (R165): A command reaches its completion point and increments EC[POST_EC] if POST is set. -/
  | commandComplete (p : Nat) (k : Nat)
  /-- IADD (R189): Each active thread adds two registers modulo 2³². -/
  | iadd (p : Nat) (g : Nat)
  /-- ISUB (R189): Each active thread subtracts two registers. -/
  | isub (p : Nat) (g : Nat)
  /-- IMUL (R189): Each active thread writes the low 32 bits of a product. -/
  | imul (p : Nat) (g : Nat)
  /-- IMAD (R189): Each active thread writes the low 32 bits of a product plus a third register. -/
  | imad (p : Nat) (g : Nat)
  /-- VX_AND (R189): Each active thread writes a bitwise AND. -/
  | vxAnd (p : Nat) (g : Nat)
  /-- VX_OR (R189): Each active thread writes a bitwise OR. -/
  | vxOr (p : Nat) (g : Nat)
  /-- VX_XOR (R189): Each active thread writes a bitwise XOR. -/
  | vxXor (p : Nat) (g : Nat)
  /-- SHL (R189): Each active thread shifts left by t[B][4:0]. -/
  | shl (p : Nat) (g : Nat)
  /-- SHR (R189): Each active thread shifts right, logically or arithmetically by type. -/
  | shr (p : Nat) (g : Nat)
  /-- VX_MIN (R189): Each active thread writes the minimum, signed or unsigned by type. -/
  | vxMin (p : Nat) (g : Nat)
  /-- VX_MAX (R189): Each active thread writes the maximum, signed or unsigned by type. -/
  | vxMax (p : Nat) (g : Nat)
  /-- SEL (R189): Each active thread selects between two registers by a predicate. -/
  | sel (p : Nat) (g : Nat)
  /-- VX_MOVI (R189): Each active thread writes a 32-bit immediate. -/
  | vxMovi (p : Nat) (g : Nat)
  /-- IADDI (R189): Each active thread adds a 32-bit immediate. -/
  | iaddi (p : Nat) (g : Nat)
  /-- FADD (R189): Each active thread adds two floating values with one rounding. -/
  | fadd (p : Nat) (g : Nat)
  /-- FMUL (R189): Each active thread multiplies two floating values. -/
  | fmul (p : Nat) (g : Nat)
  /-- FFMA (R189): Each active thread computes a fused multiply-add with one rounding. -/
  | ffma (p : Nat) (g : Nat)
  /-- FMIN (R189): Each active thread writes the floating minimum. -/
  | fmin (p : Nat) (g : Nat)
  /-- FMAX (R189): Each active thread writes the floating maximum. -/
  | fmax (p : Nat) (g : Nat)
  /-- FRCP (R189): Each active thread computes an F32 reciprocal. -/
  | frcp (p : Nat) (g : Nat)
  /-- FRSQ (R189): Each active thread computes an F32 reciprocal square root. -/
  | frsq (p : Nat) (g : Nat)
  /-- FEXP2 (R189): Each active thread computes an F32 base-2 exponential. -/
  | fexp2 (p : Nat) (g : Nat)
  /-- FLOG2 (R189): Each active thread computes an F32 base-2 logarithm. -/
  | flog2 (p : Nat) (g : Nat)
  /-- CVT (R189): Each active thread converts a value between types. -/
  | cvt (p : Nat) (g : Nat)
  /-- SETP (R189): Each active thread compares two registers into a predicate. -/
  | setp (p : Nat) (g : Nat)
  /-- PLOP (R189): Each active thread combines two predicates. -/
  | plop (p : Nat) (g : Nat)
  /-- VOTE (R189): Each active thread writes the mask of active threads whose predicate is true. -/
  | vote (p : Nat) (g : Nat)
  /-- SHFL (R189): Each active thread reads a register of another lane. -/
  | shfl (p : Nat) (g : Nat)
  /-- VX_LD (R193): The vector engine loads from scratchpad or context space, one issue cycle per distinct sector. -/
  | vxLd (p : Nat) (g : Nat)
  /-- VX_ST (R193): The vector engine stores to scratchpad or context space. -/
  | vxSt (p : Nat) (g : Nat)
  /-- RED (R195): The vector engine combines thread values into context addresses in the cache die. -/
  | red (p : Nat) (g : Nat)
  /-- BRA (R198): A group branches uniformly or diverges, pushing a reconvergence entry or parking threads. -/
  | bra (p : Nat) (g : Nat)
  /-- JOIN (R198): Active threads at a reconvergence point park and the stack settles. -/
  | join (p : Nat) (g : Nat)
  /-- BAR_G (R201): Active threads wait at a group barrier, which releases when every non-exited thread waits at one offset. -/
  | barG (p : Nat) (g : Nat)
  /-- BAR_B (R202): A group waits at the Block barrier, which releases when every resident non-exited group has arrived. -/
  | barB (p : Nat) (g : Nat)
  /-- EXIT (R198): Threads whose guard is true exit and the group settles. -/
  | exit (p : Nat) (g : Nat)
  /-- RDSR (R185): Each active thread reads a special value. -/
  | rdsr (p : Nat) (g : Nat)
  /-- GMMA (R204): A group computes an 8×8×8 matrix multiply-accumulate. -/
  | gmma (p : Nat) (g : Nat)
  /-- VX_LOAD_RETURN (R190): The data of a vector load returns and its destination registers become ready. -/
  | vxLoadReturn (p : Nat) (g : Nat) (k : Nat)
  /-- GROUP_RETIRE (R182): A group whose threads have all exited and whose stores are complete frees its slot. -/
  | groupRetire (p : Nat) (g : Nat)
  /-- BANK_WAKE (R224): A RETAINED scratchpad bank finishes its 2 µs wake and serves the waiting access. -/
  | bankWake (p : Nat) (b : Nat)
  /-- SP_OWN_WRITE (R217): A write of SP_OWN requests a new owner unit, applied next cycle if the bank is idle or else at step 5. -/
  | spOwnWrite (src : Source) (p : Nat) (b : Nat) (v : Word)
  /-- CLOVE_START (R225): A write of CLOVE_CTRL.START while the Block is disabled starts a destructive or preserving march test of its banks. -/
  | cloveStart (src : Source) (p : Nat) (v : Word)
  /-- CLOVE_DONE (R226): Clove ends, records failing banks and rows in CLOVE_RESULT and sets CLOVE_DONE. -/
  | cloveDone (slice : Bool) (n : Nat) (fail : BitVec 16) (row : BitVec 11)
  /-- SLICE_REQUEST (R236): A home slice takes a read, write or reduction request, looks it up and serves, merges, allocates or holds it. -/
  | sliceRequest (n : Nat) (wires : List Nat)
  /-- LINE_FILL (R238): A fetched line returns to its miss register and the waiters are served in arrival order. -/
  | lineFill (n : Nat) (k : Nat)
  /-- RESOLVE (R244): The memory controller performs the locked read–combine–write of a REDUCE line and returns the result. -/
  | resolve (n : Nat) (k : Nat)
  /-- INV (R241): An L1 receives an invalidation for a line and acknowledges it. -/
  | inv (p : Nat)
  /-- INV_ACK (R241): A slice receives an invalidation acknowledgement and acknowledges the write once all have arrived. -/
  | invAck (n : Nat)
  /-- PREFETCH (R293): A home slice takes a stream or run-ahead prefetch and fetches the line, ignores it or drops it. -/
  | prefetch (n : Nat)
  /-- REQUEST_RETRY (R288): A requester offers a refused request again, oldest first, 16 cycles after its refusal. -/
  | requestRetry (n : Nat)
  /-- HELD_ADMIT (R287): When a bank frees a slot, the controller admits the HELD request with the oldest ISSUED for that bank. -/
  | heldAdmit (d : Nat) (bank : Nat)
  /-- PIN (R246): A PIN request on PIN_REQ is accepted within the ceiling or refused, and with FILL the slices fetch its range. -/
  | pin (src : Source) (d : Nat) (v : Word)
  /-- UNPIN (R247): An UNPIN request clears PIN on the entry's lines and frees its ways. -/
  | unpin (src : Source) (d : Nat) (v : Word)
  /-- PIN_DONE (R247): The last line of a pin fill is present and the group sets PIN_DONE. -/
  | pinDone (d : Nat) (e : Nat)
  /-- SWEEP_END (R252): A slice sweep of a released context or retired key handle ends and its owner's lines are gone. -/
  | sweepEnd (n : Nat)
  /-- RETIRED (R251): A retiring slice ends its drain, reports unreadable lines with their WRITER and enters RETIRED. -/
  | retired (n : Nat) (unreadable : List Nat)
  /-- SCRUB_VISIT (R306): A slice or controller scrub walker visits its next way or sector and corrects, invalidates or poisons as found. -/
  | scrubVisit (memc : Bool) (n : Nat)
  /-- LINE_REQUEST (R268): A memory controller takes a line request from a slice into a slot and serves it by its pick rules. -/
  | lineRequest (d : Nat)
  /-- KEY_FETCH (R266): A controller finishes fetching a key it did not hold, and the waiting requests proceed. -/
  | keyFetch (d : Nat) (h : Nat)
  /-- CHECK_MISS (R262): A check-cache miss fetches the check burst, writing back a dirty victim burst. -/
  | checkMiss (d : Nat)
  /-- REFRESH (R270): The controller issues a per-bank refresh at the interval set by the MR4 multiplier. -/
  | refresh (d : Nat) (c : Nat)
  /-- MR4_READ (R270): Once per millisecond the controller reads MR4 of every rank, applies its multiplier and reports HOT. -/
  | mr4Read (d : Nat) (mults : List Nat) (hot : List Bool)
  /-- DRIFT_TRACK (R274): Every 2 ms the controller corrects WCK-to-DQ drift and retrains a channel whose correction exceeds its range. -/
  | driftTrack (d : Nat) (c : Nat) (exceeds : Bool)
  /-- CHANNEL_TRAINING (R272): The controller trains its four channels and excludes a channel whose margins fail. -/
  | channelTraining (d : Nat) (pass : List Bool)
  /-- LOCK (R257): A write of LAYOUT.LOCK computes and fixes every group's RANGE_BASE and RANGE_SIZE. -/
  | lock (src : Source)
  /-- HOST_WINDOW_ACCESS (R276): A BAR2 access reaches the home slice under the host-window owner and key, or completes as a hole or Unsupported Request. -/
  | hostWindowAccess (port : Nat) (w : Nat) (data : Option (List Byte)) (len : Nat)
  /-- ERROR_REPORT (R310): A unit's report enters the fault record and is stored in the error queue with a sequence number, or suppressed. -/
  | errorReport (r : Report)
  /-- CE_TABLE_UPDATE (R303): A corrected error updates, takes or replaces an entry of its class's correctable-error table. -/
  | ceTableUpdate (c : Nat) (unit : Nat) (addr : Nat) (syndrome : Nat)
  /-- POP (R313): A write of ERRQ.POP removes the head entry of the error queue. -/
  | pop (src : Source)
  /-- FATAL_SET (R315): A write of ERRQ.FATAL_SET makes the device enter FATAL. -/
  | fatalSet (src : Source)
  /-- ERROR_INJECT (R323): A write of INJ_PAGE and INJ_KIND flips one or two bits in the next protected word the unit writes. -/
  | errorInject (src : Source) (v : Word)
  /-- BOND_WINDOW (R318): Every WINDOW ticks a bond field clears all wire counts of its tracker. -/
  | bondWindow (n : Nat) (wires : List Nat)
  /-- PROV_OPEN (R335): The security engine opens a provisioning session, returns S and N_D and derives the wrap key. -/
  | provOpen (m : Nat)
  /-- PROV_IMPORT (R336): The security engine opens the wrapped tenant key, stores it with its policy and returns the confirmation tag. -/
  | provImport (m : Nat)
  /-- SESSION_TIMEOUT (R336): A provisioning session without an import closes after 60 s of device time. -/
  | sessionTimeout (k : Nat)
  /-- REVOKE (R338): The security engine moves a tenant slot to REVOKING, sweeps its lines and drops its keys, then returns it to EMPTY. -/
  | revoke (m : Nat)
  /-- BIND_REQ (R339): A write of SEC.BIND_REQ requests or withdraws a tenant binding for the context's next ACTIVATE. -/
  | bindReq (src : Source) (v : Word)
  /-- ENTROPY_FAIL (R343): The entropy source fails or passes its health tests and the engine holds or resumes key and nonce generation. -/
  | entropyFail (ok : Bool)
  /-- ATTEST (R351): An ATTEST mailbox command requests a signed report of the listed contexts at the next tick gap. -/
  | attest (m : Nat)
  /-- GET_CERTS (R330): The mailbox returns the identity and attestation-key certificates. -/
  | getCerts (m : Nat)
  /-- GET_INFO (R474): The mailbox returns part number, serial number, firmware version, SVNs and BOOT.STATUS. -/
  | getInfo (m : Nat)
  /-- RESP_READ (R473): The mailbox returns a segment of the kept response. -/
  | respRead (m : Nat)
  /-- FW_LOAD_BEGIN (R474): The primary port begins a mailbox firmware load of a given size. -/
  | fwLoadBegin (m : Nat)
  /-- FW_LOAD_DATA (R474): The primary port writes up to 2,040 bytes of the image at an offset. -/
  | fwLoadData (m : Nat)
  /-- FW_LOAD_DMA (R474): The device reads image bytes from host memory. -/
  | fwLoadDma (m : Nat) (data : Option (List Byte))
  /-- FW_LOAD_END (R332): The boot ROM verifies the loaded image and runs it or rejects it. -/
  | fwLoadEnd (m : Nat)
  /-- FW_FLASH_WRITE (R474): A staged image is verified and written to boot flash for the next reset. -/
  | fwFlashWrite (m : Nat)
  /-- SVN_COMMIT (R333): Fuse bits are blown until FUSE_SVN equals the running image's SVN. -/
  | svnCommit (m : Nat)
  /-- AUTH_HANDOVER (R376): The holder hands primary authority to the other port if its link is up. -/
  | authHandover (m : Nat)
  /-- AUTH_CLAIM (R376): The other port claims primary authority when the holder's link has been down longer than CLAIM_MS. -/
  | authClaim (m : Nat)
  /-- TELEMETRY_READ (R481): The mailbox returns bytes of the telemetry map. -/
  | telemetryRead (m : Nat)
  /-- LOG_READ (R474): The mailbox returns bytes of the bond-wear log. -/
  | logRead (m : Nat)
  /-- DEVICE_RESET (R453): The sideband mailbox command starts a device reset. -/
  | deviceReset (m : Nat)
  /-- SIDEBAND_READ (R481): A sideband read transaction latches the telemetry map and a read of EVENTS clears it. -/
  | sidebandRead (a : Nat) (n : Nat)
  /-- CHANNEL_ENABLE (R362): A write of CH_CTRL.ENABLE starts or stops polling and feeding of a channel. -/
  | channelEnable (src : Source) (h : Nat) (v : Bool)
  /-- CHANNEL_RESET (R379): A write of CH_CTRL.RESET with ENABLE at 0 zeroes the channel's counters and clears DOWN. -/
  | channelReset (src : Source) (h : Nat)
  /-- CHAN_OWNER (R361): A write of CHAN_OWNER assigns a channel to the PF or a VF, or is dropped. -/
  | chanOwner (src : Source) (port : Nat) (j : Nat) (v : Word)
  /-- LINK_DOWN (R377): A port's link goes down and every enabled channel of the port enters DOWN. -/
  | linkDown (port : Nat)
  /-- HOT_RESET (R377): A port takes a hot reset or link disable and its channels enter DOWN. -/
  | hotReset (port : Nat)
  /-- PERST (R453): PERST# resets port n. -/
  | perst (port : Nat)
  /-- PF_FLR (R377): A PF function-level reset puts all channels of the port into DOWN. -/
  | pfFlr (port : Nat)
  /-- VF_FLR (R377): A VF function-level reset puts that VF's channels into DOWN. -/
  | vfFlr (port : Nat) (vf : Nat)
  /-- L1_ENTRY (R358): After 64 µs without traffic on a port with no enabled channel, the device requests link entry to L1. -/
  | l1Entry (port : Nat)
  /-- DATA (R390): A DATA packet arrives and is landed, added, refused, held busy or bounded, and answered with LANDED. -/
  | data (p : Nat) (k : Pkt)
  /-- LANDING_COMPLETE (R390): The landing write of a DATA packet completes and the receiver sends LANDED with STATUS 0. -/
  | landingComplete (k : Nat)
  /-- LANDED (R390): A LANDED answer arrives and the sender frees the packet's tags or schedules a resend. -/
  | landed (p : Nat) (k : Pkt)
  /-- COMMIT_TOKEN (R392): A COMMIT packet for a sender frame arrives and allocates or marks its staging slot for visibility. -/
  | commitToken (p : Nat) (k : Pkt)
  /-- ABORT_MARKER (R394): An ABORT packet returns the sender frame's slot to FREE and, when FINAL, writes entry 0x0203. -/
  | abortMarker (p : Nat) (k : Pkt)
  /-- SLOT_FREE (R397): A SLOT_FREE packet arrives and the sender stores the landing limit of that destination. -/
  | slotFree (p : Nat) (k : Pkt)
  /-- CTRL (R385): A CTRL packet arrives carrying only acknowledgement and credit. -/
  | ctrl (p : Nat) (k : Pkt)
  /-- HELLO (R349): A HELLO fragment arrives and is assembled into the peer's session set-up message. -/
  | hello (p : Nat) (k : Pkt) (ok : Bool)
  /-- REKEY (R401): A REKEY packet arrives and both ends derive the keys of a new session epoch. -/
  | rekey (p : Nat) (k : Pkt) (ok : Bool)
  /-- REKEY_TRIGGER (R401): A direction's packet counter reaches 2³¹ and that end sends REKEY. -/
  | rekeyTrigger (p : Nat)
  /-- LANE (R399): A LANE packet arrives requesting or answering a spare-lane swap. -/
  | lane (p : Nat) (k : Pkt)
  /-- RETRY_TIMEOUT (R386): With no acknowledgement for 2 µs the sender resends from its oldest packet, retraining or going DOWN after eight resends. -/
  | retryTimeout (p : Nat)
  /-- BUSY_RESEND (R390): Two microseconds after a busy answer the sender resends the DATA packet. -/
  | busyResend (p : Nat) (t : Nat)
  /-- LANDED_TIMEOUT (R390): A DATA packet without LANDED within TIMEOUT_US counts as lost, frees its tags and reports FABRIC_LOST. -/
  | landedTimeout (p : Nat) (t : Nat)
  /-- SLOT_ZEROED (R393): A ZEROING staging slot finishes being zeroed and returns to FREE. -/
  | slotZeroed (i : Nat) (j : Nat)
  /-- LANE_CHECK (R399): Every 1 ms a port checks each lane's corrected symbols and swaps a failing lane to the spare or retrains. -/
  | laneCheck (p : Nat) (counts : List Nat) (lost : List Nat)
  /-- PORT_TRAINING (R398): A fabric port completes equalisation, bonding, session set-up and credits and becomes ACTIVE or FAILED. -/
  | portTraining (p : Nat) (good : List Nat) (session : Bool) (credits : Nat)
  /-- FAB_ENABLE (R398): A write of CTRL.ENABLE = 1 on a FAB page starts training of that port. -/
  | fabEnable (src : Source) (p : Nat)
  /-- RETRAIN_ALL (R400): A write of RETRAIN_ALL retrains all eight ports in legacy mode. -/
  | retrainAll (src : Source)
  /-- MINSENSE_FRAME (R409): Every 1 µs the device sends a MINSENSE frame with VMIN and VTARGET and checks for undervoltage. -/
  | minsenseFrame (readings : List (Nat × Nat)) (fall : Bool) (rise : Bool)
  /-- FAST_GUARD (R425): Every 1 µs the fast guard and district guards sample current and raise LEVEL or DGATE when over limit. -/
  | fastGuard (ma : Nat) (dist : List Nat) (uj : Nat)
  /-- LIMITER_WINDOW (R424): At each 1 ms window end the limiter raises or lowers LEVEL by its causes and the integrators publish averages. -/
  | limiterWindow (rails : List Nat) (doms : List Nat) (mw : Nat)
  /-- CELL_FAIL (R414): An LDO cell fails, is isolated within 50 ns, and the district cap falls or the district goes dark. -/
  | cellFail (d : Nat) (c : Nat)
  /-- DOMAIN_REQUEST (R421): A write of DOM[n].REQ.STATE_REQ requests a new domain state for the next step 3. -/
  | domainRequest (src : Source) (n : Nat) (v : Word)
  /-- SWITCH_STEP (R422): A switching-on domain makes its next header step after its spacing when headroom allows, or pauses. -/
  | switchStep (n : Nat)
  /-- SWITCH_DONE (R420): A domain finishes the actions of leaving ON, or its switch-on, and reports its new state. -/
  | switchDone (n : Nat) (fails : List Nat)
  /-- VOLTAGE_RAISED (R419): The LDO output reaches a raised level's voltage, and the frequency rises in the following gap. -/
  | voltageRaised
  /-- HK_CHANNEL (R433): Every 2 µs the housekeeping sequencer measures its next channel and computes the logic-tile estimate where due. -/
  | hkChannel (v : Option Int)
  /-- ROUND_END (R437): At the end of each housekeeping round the sequencer forms unit temperatures, updates high and cold states and counts bond-wear cycles. -/
  | roundEnd
  /-- LOG_APPEND (R448): The firmware appends changed cycle counts, substitutions and failed cells to the bond-wear log at most once per 10 s. -/
  | logAppend
  /-- POWER_ON (R451): PWR_OK rises and the device leaves reset, senses fuses and straps and starts the boot ROM. -/
  | powerOn
  /-- POWER_DOWN (R452): PWR_OK falls and the device enters power-on reset within 1 µs. -/
  | powerDown
  /-- SYS_RESET (R453): SYS_RESET# held low for 10 µs starts a device reset. -/
  | sysReset
  /-- RESET_KEY (R453): A write of 0x5A to TOP.RESET.KEY by the primary port starts a device reset 10 µs later. -/
  | resetKey (src : Source) (v : Word)
  /-- REFCLK_LOST (R505): A reference clock stops or drifts beyond 1,000 ppm and its links go down or the device enters FATAL. -/
  | refclkLost (k : Nat)
  /-- BOOT_ROM (R456): The boot ROM self-tests, selects and verifies the firmware image, derives IK and AK and starts the management cores. -/
  | bootRom (fails : List Nat) (flash : Bool)
  /-- BRING_UP (R458): The firmware latches BOOT.OPT, applies fuses and log and switches on the domains. -/
  | bringUp
  /-- BOND_FIELD_TRAINING (R461): Every bond field trains its wires and failed wires are replaced, halved or retired. -/
  | bondFieldTraining (bad : List (Nat × Nat))
  /-- EXTERNAL_MEMORY_TEST (R463): The controllers run the march and retention passes, channels failing R464 are excluded, and the layout is locked and initialised. -/
  | externalMemoryTest (single : List (Nat × Nat)) (multi : List (Nat × Nat))
  /-- CARDAMOM (R466): Known-answer frames run on every Block at each power level, retiring failing sites and slices. -/
  | cardamom (sites : List Nat) (slices : List Nat) (cause : Nat)
  /-- INTERRUPT_DELIVERY (R477): The controller delivers the lowest pending enabled source to the next free enabled core. -/
  | interruptDelivery
  /-- ACK (R478): A write of INTC.ACK[c] ends service of a source. -/
  | ack (src : Source) (c : Nat) (v : Word)
  /-- STOP_REQ (R485): A write of CTRL.STOP_REQ stops the unit after its accepted work and sets STOPPED. -/
  | stopReq (src : Source) (page : Nat)
  /-- SOFT_RESET (R486): A write of CTRL.SOFT_RESET returns the unit's state, RW fields and counters to reset values. -/
  | softReset (src : Source) (page : Nat)
  /-- TICK_CTRL_ENABLE (R485): A write of TICK.CTRL.ENABLE stops the Plaza after its next gap or restarts ticking. -/
  | tickCtrlEnable (src : Source) (v : Bool)
  /-- EVT_CLEAR (R484): A write of EVT_CLEAR clears the named event bits. -/
  | evtClear (src : Source) (page : Nat) (v : Word)
  /-- RETIRE (R492): A write of DIST.RETIRE.SITE retires a site in step 3 of the next gap. -/
  | retire (src : Source) (d : Nat) (v : Word)
  /-- IMEM_DATA (R151): An access to IMEM_DATA reads or writes an I-memory word, with auto-increment, refused when the half is not OPEN and idle. -/
  | imemData (src : Source) (p : Nat) (v : Option Word)
  /-- RC_READ (R8): A read of a read-to-clear field returns its value and clears it. -/
  | rcRead (src : Source) (off : Nat)
  /-- REGISTER_WRITE (R486): A write to a register without its own row applies its L, T and S fields by class or is dropped with CFG_REJECT. -/
  | registerWrite (src : Source) (off : Nat) (size : Nat) (v : DWord)
  /-- ILLEGAL_INSTRUCTION (R153): The control core decodes an illegal encoding, counts it in CC_ILLEGAL and produces an undefined result confined as R155 states. -/
  | illegalInstruction (p : Nat)
  /-- ILLEGAL_VECTOR_ENCODING (R208): The vector engine issues an illegal vector encoding and produces an undefined result confined within the issuing context. -/
  | illegalVectorEncoding (p : Nat) (g : Nat)
  /-- LINK_UP (R357): A PCIe port completes link training and its link comes up at a negotiated rate and width. -/
  | linkUp (port : Nat) (rate : Nat) (width : Nat)
  /-- REFCLK_RETURN (R505): A lost reference clock returns, after which fabric ports train again and a device held at the boot ROM proceeds. -/
  | refclkReturn (k : Nat)
  /-- CHANNEL_RETRAIN (R274): The in-service retraining of one memory channel ends, its waiting requests resume, and a failure reports RETRAIN_FAIL. -/
  | channelRetrain (d : Nat) (c : Nat) (ok : Bool)
  /-- BACKGROUND_LANE_RETRAIN (R399): The background retraining of a removed fabric lane ends, and a passing lane becomes the new spare. -/
  | backgroundLaneRetrain (p : Nat) (ok : Bool)
  /-- BAD_PACKET (R386): A fabric packet arrives that fails its CRC, SEQ order or tag, or carries a reserved TYPE, and is discarded with NAK or counted in RX_BAD. -/
  | badPacket (p : Nat) (why : Nat) (k : Pkt)
  /-- ROW_IDLE_CLOSE (R268): A memory bank that has been idle for 64 cycles closes its open row. -/
  | rowIdleClose (d : Nat) (bank : Nat)
  /-- SIDEBAND_WRITE (R481): A sideband write transaction writes MB_REQ, MB_CTRL, WIN_PTR or WIN_DATA of the telemetry map, with auto-increment of WIN_PTR. -/
  | sidebandWrite (a : Nat) (bytes : List Byte)
  /-- CONFIGURATION_REQUEST (R357): A host configuration write sets PCIe configuration state such as the Resizable BAR size of BAR2 or MSI-X enable. -/
  | configurationRequest (port : Nat) (fn : Nat) (what : Nat) (v : Nat)
  /-- REGISTER_READ (R483): A register read with an effect of its own latches the high word of a 64-bit register on a low-word read, or counts a BAR0 hole access. -/
  | registerRead (src : Source) (off : Nat) (size : Nat)
  deriving DecidableEq, Repr

end Sys2Proof
end

