-- ==== Sys2Proof/Decode.lean ====
section
/-! DEFINITION. Decoding: the instruction words of the control core and of the vector engine, with their legal encodings.
The command table of this block gives no bits to any row, so no word spells a command. -/

namespace Sys2Proof

/-- The command that a word spells by the table's bits: the table gives bits to no row. -/
def decodeTableWord (nbits w : Nat) : Option Instr :=
  match nbits, w with
  | _, _ => none

/-! ### Control core (R126 to R130, R153) -/

/-- The operations of the control core: one for each of its rows of the command table. -/
inductive CoreOp where
  | add | sub | and | or | xor | andn | sll | srl | sra | mul | mulhu | divu | remu | min | max | minu | maxu | cmp
  | pand | por | pxor | pandn | pnot | ptos | stop | mflc | mfcb | rdid | rdtime | rdframe | setcls | jr | jrl | fence | halt
  | addi | andi | ori | xori | shi | cmpi | cmpiu | movi | insi | ld | st | lds | sts | br | brl | cskip | loop | loopi
  | cbw | cbwh | cbins | qsend | qsendm | qfree
  deriving DecidableEq, Repr

namespace CC

/-- GUARD, OP and the fields of the six formats (R126). -/
def guard (w : Nat) : Nat := bitsOf w 29 3
def op (w : Nat) : Nat := bitsOf w 24 5
def rd (w : Nat) : Nat := bitsOf w 19 5
def rs1 (w : Nat) : Nat := bitsOf w 14 5
def rs2 (w : Nat) : Nat := bitsOf w 9 5
def func (w : Nat) : Nat := bitsOf w 0 9
def imm14 (w : Nat) : Int := sext 14 (bitsOf w 0 14)
def sz (w : Nat) : Nat := bitsOf w 11 3
def off11 (w : Nat) : Int := sext 11 (bitsOf w 0 11)
def imm19 (w : Nat) : Int := sext 19 (bitsOf w 0 19)
def neg (w : Nat) : Bool := bitOf w 23
def lcf (w : Nat) : Nat := bitsOf w 22 2
def len (w : Nat) : Nat := bitsOf w 10 12
def cnt (w : Nat) : Nat := bitsOf w 0 10
def loopRs (w : Nat) : Nat := bitsOf w 5 5
def q (w : Nat) : Nat := bitsOf w 22 2
def cb (w : Nat) : Nat := bitsOf w 19 3
def qrs (w : Nat) : Nat := bitsOf w 14 5
def pos (w : Nat) : Nat := bitsOf w 9 5
def widthM1 (w : Nat) : Nat := bitsOf w 4 5

/-- Legal format A operations by FUNC, with the fields that each leaves reserved (R129). -/
def alu (w : Nat) : Option CoreOp :=
  let d := rd w; let a := rs1 w; let b := rs2 w
  let pd := decide (d < 8); let pa := decide (a < 8); let pb := decide (b < 8)
  let on (c : Bool) (o : CoreOp) : Option CoreOp := if c then some o else none
  match func w with
  | 0x000 => some .add | 0x001 => some .sub | 0x002 => some .and | 0x003 => some .or | 0x004 => some .xor
  | 0x005 => some .andn | 0x006 => some .sll | 0x007 => some .srl | 0x008 => some .sra | 0x009 => some .mul
  | 0x00A => some .mulhu | 0x00B => some .divu | 0x00C => some .remu | 0x00D => some .min | 0x00E => some .max
  | 0x00F => some .minu | 0x010 => some .maxu
  | 0x020 => on pd .cmp | 0x021 => on pd .cmp | 0x022 => on pd .cmp | 0x023 => on pd .cmp | 0x024 => on pd .cmp
  | 0x025 => on pd .cmp
  | 0x030 => on (pd && pa && pb) .pand
  | 0x031 => on (pd && pa && pb) .por
  | 0x032 => on (pd && pa && pb) .pxor
  | 0x033 => on (pd && pa && pb) .pandn
  | 0x034 => on (pd && pa && b == 0) .pnot
  | 0x035 => on (pa && b == 0) .ptos
  | 0x036 => on (pd && b == 0) .stop
  | 0x040 => on (decide (a < 4) && b == 0) .mflc
  | 0x041 => on (pa && b == 0) .mfcb
  | 0x042 => on (decide (a < 5) && b == 0) .rdid
  | 0x043 => on (a == 0 && b == 0) .rdtime
  | 0x044 => on (a == 0 && b == 0) .rdframe
  | 0x045 => on (d == 0 && decide (a < 16) && b == 0) .setcls
  | 0x050 => on (d == 0 && b == 0) .jr
  | 0x051 => on (b == 0) .jrl
  | 0x060 => on (d == 0 && a == 0 && b == 0) .fence
  | 0x061 => on (d == 0 && a == 0 && b == 0) .halt
  | _ => none

/-- The operation that a legal encoding names; none for the encodings of R153. -/
def decode (w : Nat) : Option CoreOp :=
  let on (c : Bool) (o : CoreOp) : Option CoreOp := if c then some o else none
  match op w with
  | 0x00 => alu w
  | 0x01 => some .addi
  | 0x02 => some .andi
  | 0x03 => some .ori
  | 0x04 => some .xori
  | 0x05 => on (bitsOf w 6 6 == 0) .shi
  | 0x06 => some .cmpi
  | 0x07 => some .cmpiu
  | 0x08 => some .movi
  | 0x09 => on (bitsOf w 16 3 == 0) .insi
  | 0x0A => on (sz w != 7) .ld
  | 0x0B => on (decide (sz w < 4)) .st
  | 0x0C => on (sz w != 7) .lds
  | 0x0D => on (decide (sz w < 4)) .sts
  | 0x0E => on (bitsOf w 19 4 == 0) .br
  | 0x0F => some .brl
  | 0x10 => on (bitsOf w 19 4 == 0 && decide (0 < imm19 w)) .cskip
  | 0x11 => on (guard w == 0 && len w != 0 && bitsOf w 0 5 == 0) .loop
  | 0x12 => on (guard w == 0 && len w != 0) .loopi
  | 0x13 => on (q w == 0) .cbw
  | 0x14 => on (q w == 0) .cbwh
  | 0x15 => on (q w == 0 && bitsOf w 0 4 == 0 && decide (pos w + widthM1 w + 1 ≤ 32)) .cbins
  | 0x16 => on (bitsOf w 0 22 == 0) .qsend
  | 0x17 => on (cb w == 0) .qsendm
  | 0x18 => on (cb w == 0 && bitsOf w 0 14 == 0) .qfree
  | _ => none

end CC

/-! ### Vector engine (R186 to R189, R193, R195, R204, R208) -/

/-- The operations of the vector engine. -/
inductive VecOp where
  | iadd | isub | imul | imad | and | or | xor | shl | shr | min | max | sel | movi | iaddi
  | fadd | fmul | ffma | fmin | fmax | frcp | frsq | fexp2 | flog2 | cvt | setp | plop | vote | shfl
  | ld | st | red | bra | join | barG | barB | exit | rdsr | gmma
  deriving DecidableEq, Repr

namespace VX

/-- Fields of a 64-bit vector instruction (R186). -/
def guard (w : Nat) : Nat := bitsOf w 61 3
def neg (w : Nat) : Bool := bitOf w 60
def op (w : Nat) : Nat := bitsOf w 52 8
def d (w : Nat) : Nat := bitsOf w 46 6
def a (w : Nat) : Nat := bitsOf w 40 6
def b (w : Nat) : Nat := bitsOf w 34 6
def c (w : Nat) : Nat := bitsOf w 28 6
/-- T in formats R and M, and in format I. -/
def t (w : Nat) : Nat := bitsOf w 24 4
def tI (w : Nat) : Nat := bitsOf w 36 4
def imm (w : Nat) : Nat := bitsOf w 0 32
def sz (w : Nat) : Nat := bitsOf w 31 3
def sp (w : Nat) : Nat := bitsOf w 29 2
def off (w : Nat) : Int := sext 24 (bitsOf w 0 24)

/-- Legal format R: reserved bits zero and T among the codes listed. -/
def fmtR (w : Nat) (ts : List Nat) : Bool := bitsOf w 0 24 == 0 && ts.contains (t w)
/-- Legal format I. -/
def fmtI (w : Nat) (ts : List Nat) : Bool := bitsOf w 32 4 == 0 && ts.contains (tI w)
/-- Legal format M, register r holding the data: SP, SZ and register alignment (R193). -/
def fmtM (w r : Nat) : Bool :=
  bitsOf w 28 1 == 0 && sz w != 7 && (sp w == 0 || (sp w == 1 && a w % 2 == 0))
    && (sz w != 3 || r % 2 == 0) && (sz w != 4 || r % 4 == 0)
/-- JOIN, BAR.G and BAR.B carry GUARD 0 and NEG 0 (R187). -/
def unguarded (w : Nat) : Bool := guard w == 0 && !neg w

/-- The operation that a legal vector encoding names; none for the encodings of R208, and for a condition of SETP above 5. [DEDUCED, log entry 33] -/
def decode (w : Nat) : Option VecOp :=
  let on (c : Bool) (o : VecOp) : Option VecOp := if c then some o else none
  match op w with
  | 0x01 => on (fmtR w [0, 1]) .iadd
  | 0x02 => on (fmtR w [0, 1]) .isub
  | 0x03 => on (fmtR w [0, 1]) .imul
  | 0x04 => on (fmtR w [0, 1]) .imad
  | 0x05 => on (fmtR w [0, 1]) .and
  | 0x06 => on (fmtR w [0, 1]) .or
  | 0x07 => on (fmtR w [0, 1]) .xor
  | 0x08 => on (fmtR w [0, 1]) .shl
  | 0x09 => on (fmtR w [0, 1]) .shr
  | 0x0A => on (fmtR w [0, 1]) .min
  | 0x0B => on (fmtR w [0, 1]) .max
  | 0x0C => on (fmtR w [0, 1]) .sel
  | 0x10 => on (fmtI w [0]) .movi
  | 0x11 => on (fmtI w [0, 1]) .iaddi
  | 0x20 => on (fmtR w [2, 3, 4]) .fadd
  | 0x21 => on (fmtR w [2, 3, 4]) .fmul
  | 0x22 => on (fmtR w [2, 3, 4]) .ffma
  | 0x23 => on (fmtR w [2, 3, 4]) .fmin
  | 0x24 => on (fmtR w [2, 3, 4]) .fmax
  | 0x25 => on (fmtR w [2]) .frcp
  | 0x26 => on (fmtR w [2]) .frsq
  | 0x27 => on (fmtR w [2]) .fexp2
  | 0x28 => on (fmtR w [2]) .flog2
  | 0x29 => on (fmtR w [0, 1, 2, 3, 4] && decide (b w % 16 ≤ 4)) .cvt
  | 0x30 => on (fmtR w [0, 1, 2] && decide (c w % 8 ≤ 5)) .setp
  | 0x31 => on (fmtR w [0]) .plop
  | 0x32 => on (fmtR w [0]) .vote
  | 0x33 => on (fmtR w [0]) .shfl
  | 0x40 => on (fmtM w (d w) && t w == 0) .ld
  | 0x41 => on (fmtM w (b w) && t w == 0 && decide (sz w < 5)) .st
  | 0x42 => on (fmtM w (b w) && sp w == 1 && (([1, 3, 4, 6].contains (t w) && sz w == 2) || ([2, 5].contains (t w) && sz w == 1))) .red
  | 0x50 => on (fmtI w [0] && bitsOf w 0 3 == 0 && bitsOf w 16 3 == 0) .bra
  | 0x51 => on (fmtI w [0] && unguarded w) .join
  | 0x52 => on (fmtI w [0] && unguarded w) .barG
  | 0x53 => on (fmtI w [0] && unguarded w) .barB
  | 0x54 => on (fmtI w [0]) .exit
  | 0x55 => on (fmtI w [0] && decide (bitsOf w 0 4 < 8)) .rdsr
  | 0x60 => on (fmtR w [0, 1, 2] && d w % 2 == 0 && c w % 2 == 0) .gmma
  | _ => none

/-- Bytes of an access size (R193). -/
def szBytes (z : Nat) : Nat :=
  match z with
  | 0 => 1 | 1 => 2 | 2 => 4 | 3 => 8 | 4 => 16 | 5 => 1 | _ => 2

/-- Registers that an access size fills or reads (R193). -/
def szRegs (z : Nat) : Nat := if z = 3 then 2 else if z = 4 then 4 else 1

/-- Registers that an operation reads or writes. -/
def uses (o : VecOp) (w : Nat) : List Nat :=
  let addr := if sp w = 1 then [a w, a w + 1] else [a w]
  match o with
  | .imad | .ffma => [d w, a w, b w, c w]
  | .movi | .vote | .rdsr => [d w]
  | .iaddi | .frcp | .frsq | .fexp2 | .flog2 | .cvt => [d w, a w]
  | .setp => [a w, b w]
  | .plop | .bra | .join | .barG | .barB | .exit => []
  | .ld => addr ++ (List.range (szRegs (sz w))).map (fun i => d w + i)
  | .st | .red => addr ++ (List.range (szRegs (sz w))).map (fun i => b w + i)
  | .gmma => [d w, d w + 1, a w, b w, c w, c w + 1]
  | _ => [d w, a w, b w]

end VX

end Sys2Proof
end

