-- ==== Sys2Proof/Machine/Float.lean ====
section
/-! DEFINITION. Exact arithmetic on the number formats of R69, rounded once where the spec rounds. -/

namespace Sys2Proof.Machine
open Sys2Proof

/-- How a format encodes infinity and NaN (R69). -/
inductive Special where
  /-- Exponent all ones: infinity and NaN. -/
  | ieee
  /-- E4M3: only 0x7F and 0xFF, NaN. -/
  | e4m3
  /-- Neither. -/
  | none
  deriving DecidableEq, Repr

/-- A floating format: exponent bits, mantissa bits, bias. -/
structure Fmt where
  eb : Nat
  mb : Nat
  bias : Nat
  special : Special
  deriving DecidableEq, Repr

def Fmt.f32 : Fmt := ⟨8, 23, 127, .ieee⟩
def Fmt.bf16 : Fmt := ⟨8, 7, 127, .ieee⟩
def Fmt.fp16 : Fmt := ⟨5, 10, 15, .ieee⟩
def Fmt.e4m3 : Fmt := ⟨4, 3, 7, .e4m3⟩
def Fmt.e5m2 : Fmt := ⟨5, 2, 15, .ieee⟩
def Fmt.e3m2 : Fmt := ⟨3, 2, 3, .none⟩
def Fmt.e2m3 : Fmt := ⟨2, 3, 1, .none⟩
def Fmt.e2m1 : Fmt := ⟨2, 1, 1, .none⟩

/-- Width in bits. -/
def Fmt.width (f : Fmt) : Nat := 1 + f.eb + f.mb

/-- A value: NaN, an infinity, or (−1)^neg × m × 2^e exactly (m = 0 is a signed zero). -/
inductive FVal where
  | nan
  | inf (neg : Bool)
  | fin (neg : Bool) (m : Nat) (e : Int)
  deriving DecidableEq, Repr

/-- The value of an encoding (R69, R90: subnormals exactly). -/
def decodeF (f : Fmt) (x : Nat) : FVal :=
  let sgn := bitOf x (f.eb + f.mb)
  let ex := bitsOf x f.mb f.eb
  let ma := bitsOf x 0 f.mb
  if f.special = .ieee ∧ ex = 2 ^ f.eb - 1 then (if ma = 0 then .inf sgn else .nan)
  else if f.special = .e4m3 ∧ ex = 15 ∧ ma = 7 then .nan
  else if ex = 0 then .fin sgn ma (1 - (f.bias : Int) - f.mb)
  else .fin sgn (2 ^ f.mb + ma) ((ex : Int) - f.bias - f.mb)

/-- The NaN that the device produces in a format (R88, R189). -/
def nanCode (f : Fmt) : Nat :=
  match f.special with
  | .ieee => (2 ^ f.eb - 1) * 2 ^ f.mb + 2 ^ (f.mb - 1)
  | .e4m3 => 0x7F
  | .none => 0

/-- First code above the largest finite value, sign aside. -/
def topCode (f : Fmt) : Nat :=
  match f.special with
  | .ieee => (2 ^ f.eb - 1) * 2 ^ f.mb
  | .e4m3 => 0x7F
  | .none => 2 ^ (f.eb + f.mb)

/-- m × 2^e rounded to nearest even at exponent `q`: the multiple of 2^q. -/
def rneAt (m : Nat) (e q : Int) : Nat :=
  if q ≤ e then m * 2 ^ (e - q).toNat
  else
    let d := (q - e).toNat
    let k := m >>> d
    let r := m % 2 ^ d
    if 2 ^ (d - 1) < r ∨ (r = 2 ^ (d - 1) ∧ k % 2 = 1) then k + 1 else k

/-- Code of a finite magnitude rounded to nearest even, subnormals kept; it may reach or pass `topCode` (R88). -/
def roundMag (f : Fmt) (m : Nat) (e : Int) : Nat :=
  if m = 0 then 0
  else
    let emin : Int := 1 - (f.bias : Int) - f.mb
    let q : Int := max (e + (Nat.log2 m + 1 : Nat) - (f.mb + 1 : Nat)) emin
    (q - emin).toNat * 2 ^ f.mb + rneAt m e q

/-- The encoding of a value in a format, rounded once; `sat` saturates at the largest finite value (R88). -/
def encodeF (f : Fmt) (sat : Bool) (v : FVal) : Nat :=
  let sg (neg : Bool) (c : Nat) : Nat := b2n neg * 2 ^ (f.eb + f.mb) + c
  let ovf (neg : Bool) : Nat :=
    if sat then sg neg (topCode f - 1)
    else match f.special with
      | .ieee => sg neg (topCode f)
      | .e4m3 => 0x7F
      | .none => sg neg (topCode f - 1)
  match v with
  | .nan => nanCode f
  | .inf neg => ovf neg
  | .fin neg m e => let c := roundMag f m e; if topCode f ≤ c then ovf neg else sg neg c

/-- Product (R91). -/
def mulF : FVal → FVal → FVal
  | .nan, _ => .nan
  | _, .nan => .nan
  | .inf a, .inf b => .inf (a != b)
  | .inf a, .fin b m _ => if m = 0 then .nan else .inf (a != b)
  | .fin a m _, .inf b => if m = 0 then .nan else .inf (a != b)
  | .fin a m e, .fin b k g => .fin (a != b) (m * k) (e + g)

/-- Exact sum of a list of values (R89, R91): NaN if any is NaN or infinities of both signs meet; a zero sum is −0 only when
every term is −0. -/
def sumF (vs : List FVal) : FVal :=
  if vs.any (fun v => v == .nan) then .nan
  else if vs.any (fun v => v == .inf true) && vs.any (fun v => v == .inf false) then .nan
  else if vs.any (fun v => v == .inf true) then .inf true
  else if vs.any (fun v => v == .inf false) then .inf false
  else
    let e0 : Int := vs.foldl (fun a v => match v with | .fin _ _ e => min a e | _ => a) 0
    let t : Int := vs.foldl (fun a v => match v with
      | .fin neg m e => let x : Int := (m * 2 ^ (e - e0).toNat : Nat); if neg then a - x else a + x
      | _ => a) 0
    if t = 0 then .fin (vs.all (fun v => match v with | .fin neg m _ => neg && decide (m = 0) | _ => false)) 0 0
    else .fin (decide (t < 0)) t.natAbs e0

/-- Sum of two values. -/
def addF (a b : FVal) : FVal := sumF [a, b]

/-- Comparison value: −1, 0 or 1, with the two zeros equal; `none` when either is NaN. -/
def cmpF (a b : FVal) : Option Int :=
  match a, b with
  | .nan, _ => none
  | _, .nan => none
  | .inf x, .inf y => some (if x = y then 0 else if x then -1 else 1)
  | .inf x, _ => some (if x then -1 else 1)
  | _, .inf y => some (if y then 1 else -1)
  | .fin x m e, .fin y k g =>
    let e0 := min e g
    let p : Int := (m * 2 ^ (e - e0).toNat : Nat)
    let q : Int := (k * 2 ^ (g - e0).toNat : Nat)
    let p := if x then -p else p
    let q := if y then -q else q
    some (if p < q then -1 else if p = q then 0 else 1)

/-- Whether a value carries a minus sign. -/
def negF : FVal → Bool
  | .nan => false
  | .inf n => n
  | .fin n _ _ => n

/-- Smaller of two values, −0 below +0, NaN if either is NaN (R189). -/
def minF (a b : FVal) : FVal :=
  match cmpF a b with
  | none => .nan
  | some c => if c < 0 then a else if 0 < c then b else if negF a then a else b

/-- Larger of two values, −0 below +0, NaN if either is NaN (R189, R242). -/
def maxF (a b : FVal) : FVal :=
  match cmpF a b with
  | none => .nan
  | some c => if 0 < c then a else if c < 0 then b else if negF a then b else a

/-- The value of an integer. -/
def intF (x : Int) : FVal := .fin (decide (x < 0)) x.natAbs 0

/-- A value rounded to the nearest even integer and cut to [lo, hi]; NaN gives 0 (R189). -/
def toIntSat (lo hi : Int) : FVal → Int
  | .nan => 0
  | .inf n => if n then lo else hi
  | .fin n m e =>
    let k : Int := (rneAt m e 0 : Nat)
    let x := if n then -k else k
    if x < lo then lo else if hi < x then hi else x

/-! ### Reductions (R242) -/

/-- Element size of a reduction code in bytes (R171). -/
def redSize (redop : Nat) : Nat := if redop = 2 ∨ redop = 5 then 2 else 4

/-- Identity of a reduction. -/
def redIdent (redop : Nat) : Nat :=
  match redop with
  | 1 => 0x8000_0000 | 2 => 0x8000 | 3 => 0 | 4 => 0xFF80_0000 | 5 => 0xFF80 | _ => 0x8000_0000

/-- One combine, rounded once. -/
def redCombine (redop a b : Nat) : Nat :=
  match redop with
  | 1 => encodeF Fmt.f32 false (addF (decodeF Fmt.f32 a) (decodeF Fmt.f32 b))
  | 2 => encodeF Fmt.bf16 false (addF (decodeF Fmt.bf16 a) (decodeF Fmt.bf16 b))
  | 3 => (a + b) % 2 ^ 32
  | 4 => encodeF Fmt.f32 false (maxF (decodeF Fmt.f32 a) (decodeF Fmt.f32 b))
  | 5 => encodeF Fmt.bf16 false (maxF (decodeF Fmt.bf16 a) (decodeF Fmt.bf16 b))
  | _ => if sext 32 a < sext 32 b then b else a

end Sys2Proof.Machine
end

