-- ==== Sys2Proof/Config.lean ====
section
/-! DEFINITION. What one part fixes (fuses, straps, packages) and the values that the spec leaves open: constants without a
body, so that nothing can be proved of their values. -/

namespace Sys2Proof.Config
open Sys2Proof

/-- Free values, one for each number: State.free says which comes next. [DESIGN CHOICE, log entry 5] -/
opaque freeNat : Nat → Nat
/-- Free effects of an illegal core instruction: context stores (address, size in bytes, data) (R155). [DESIGN CHOICE, log entry 26] -/
opaque freeStores : Nat → List (Nat × Nat × Nat)
/-- Free effects of an illegal core instruction: commands appended, by queue number (R155). [DESIGN CHOICE, log entry 26] -/
opaque freeCmds : Nat → List (Nat × Cmd)

/-- The next value of an array's ballast shift register: R93 gives its width, not its taps. [DESIGN CHOICE, log entry 20] -/
opaque lfsrNext : BitVec 32 → BitVec 32

/-- Free effects of a command whose result is undefined: bytes written to scratchpad (address, byte) (R161). -/
opaque freeSp : Nat → List (Nat × BitVec 8)

/-- What the special functions of R189 return, by their F32 operand; R189 bounds it (specialF). [DESIGN CHOICE, log entry 31] -/
opaque frcp : Word → Word
opaque frsq : Word → Word
opaque fexp2 : Word → Word
opaque flog2 : Word → Word

/-- Part number and serial number from fuses (R490). -/
opaque part : Nat
opaque serial : Nat
/-- Rated minimum junction temperature of the part's ordering code in 0.125 °C units (R1, R508). [DEDUCED, log entry 59] -/
def ratedMin : Int := if part % 2 ^ 32 = 0x3140_000E then -40 else 0
/-- Sites that fuses list as bad, as a bit mask by district (R12). -/
opaque fuseBad : Nat → BitVec 34
/-- Fabric lanes of a port that fuses list as bad (R460). [DESIGN CHOICE, log entry 7] -/
opaque fuseLane : Nat → BitVec 9
/-- How many wires of a bond field fuses list, which spares replace (R460). [DESIGN CHOICE, log entry 7] -/
opaque fuseWires : Nat → Nat
/-- The strap that names the first holder of primary authority (R375). -/
opaque holderStrap : Bool
/-- RINT as fused (R450). -/
opaque rint : Nat
/-- Which package of R254 group g has, and whether a 4 GiB channel has two ranks. [DESIGN CHOICE, log entry 41] -/
opaque package : Nat → Nat
opaque rankSel : Nat → Bool
/-- Capacity of one channel of package g in GiB: a row of the table of R254. -/
def chanGiB (g : Nat) : Nat := [4, 6, 8, 12, 16].getD (package g % 5) 4
/-- Whether a channel of package g has two ranks (R254). -/
def twoRanks (g : Nat) : Bool := chanGiB g != 4 || rankSel g

/-- Which wires of a bond field are control wires (in a slice field those of address, command, directory and parity): the spec numbers
no wire (R17, R321). [DESIGN CHOICE, log entry 45] -/
opaque wireRole : Nat → Nat → Bool
/-- Whether a wire of a bond field is a control wire: of the 2,720 signal wires of a slice field 528 are, and 2,192 carry data (R17). -/
def ctrlWire (field wire : Nat) : Bool :=
  if field < 128 ∧ ((List.range 2720).filter (wireRole field)).length ≠ 528 then decide (2192 ≤ wire) else wireRole field wire

/-- Key value of a handle that the engine has loaded no key for (R265). [DESIGN CHOICE, log entry 46] -/
opaque unsetKey : Nat → BitVec 512
/-- What the entropy source gives for one seeding of the DRBG (R325, R343), by the number of free values used. [DESIGN CHOICE, log entry 46] -/
opaque entropy : Nat → BitVec 384

/-- Device secret DS, the fuse field FW_KEY_HASH, and the identity certificate (R327, R330, R332). [DESIGN CHOICE, log entry 46] -/
opaque deviceSecret : BitVec 256
opaque fwKeyHash : BitVec 384
opaque idFuse : List Byte
/-- The identity certificate, in at most 1,536 bytes of one-time-programmable area (R330). -/
def idCert : List Byte := idFuse.take 1536
/-- What R330 leaves open of the attestation-key certificate, in DER: the names of issuer and subject, the extension's object identifier, and how its
value lays out FW_MEASUREMENT, FW_SVN and FUSE_SVN. [DESIGN CHOICE, log entry 46] -/
opaque certIssuer : List Byte
opaque certSubject : List Byte
opaque certExtId : List Byte
opaque certExtValue : BitVec 384 → Nat → Nat → List Byte
/-- The fuse array with DS as zero, by the FUSE_SVN field (R353). -/
opaque fuseArray : BitVec 64 → List Byte
/-- BOOT_SRC strap: true for a mailbox load (R456). -/
opaque bootSrc : Bool
/-- Firmware version of an image, by its measurement; the spec does not say where the image holds it (R474). -/
opaque fwVersion : BitVec 384 → Nat
/-- Byte layouts of responses that R474 names but does not lay out: GET_INFO, GET_CERTS, and the reason of a refusal. [DESIGN CHOICE, log entry 47] -/
opaque infoLayout : List Nat → List Byte
opaque certLayout : List Byte → List Byte → List Byte
opaque reasonBytes : Nat → List Byte
/-- Bytes of the bond-wear log as the flash holds them: R457 does not lay its records out. Kind of record and its numbers. [DESIGN CHOICE, log entry 47] -/
opaque logBytes : Nat → List Nat → List Byte

end Sys2Proof.Config
end

