-- ==== Sys2Proof/Machine/Crypto.lean ====
section
/-! DEFINITION. The primitives of the security engine (R265, R324 to R326): SHA-384 and HKDF, AES-256 in GCM, XTS and CTR_DRBG, and
ECDH and ECDSA on brainpoolP384r1, each as the standard that R325 names defines it. -/

namespace Sys2Proof.Machine
open Sys2Proof

/-! ### Byte strings (R324) -/

/-- Big-endian value of a byte string. -/
def beNat (bs : List Byte) : Nat := bs.foldl (fun n b => 256 * n + b.toNat) 0

/-- `n` bytes of a number, most significant first. -/
def beBytes (n x : Nat) : List Byte := (leBytes n x).reverse

/-- A list cut or filled with zeros to a length. -/
def fitTo (n : Nat) (bs : List Byte) : List Byte := (bs ++ List.replicate (n - bs.length) 0).take n

/-- The bytes of an ASCII string. -/
def ascii (t : String) : List Byte := t.toList.map (fun c => BitVec.ofNat 8 c.toNat)

/-- Exclusive or of two byte strings, of the shorter's length. -/
def xorBytes (a b : List Byte) : List Byte := (a.zip b).map (fun e => e.1 ^^^ e.2)

/-- A string cut into pieces of `n` bytes, the last one shorter; `k` bounds their number. -/
def chunks (n : Nat) : Nat → List Byte → List (List Byte)
  | 0, _ => []
  | k + 1, bs => if bs.isEmpty then [] else bs.take n :: chunks n k (bs.drop n)

/-- The pieces of `n` bytes of a string. -/
def piecesOf (n : Nat) (bs : List Byte) : List (List Byte) := chunks n (bs.length / n + 1) bs

/-! ### SHA-384 (FIPS 180-4) -/

/-- The greatest number below 2^72 whose k-th power is at most x. -/
def rootOf (k x : Nat) : Nat := (List.range 72).foldl (fun r i => if (r + 2 ^ (71 - i)) ^ k ≤ x then r + 2 ^ (71 - i) else r) 0

/-- The first 80 primes. -/
def primes80 : List Nat := ((List.range 410).filter (fun n => 2 ≤ n && (List.range 20).all (fun d => d < 2 || d == n || n % d != 0)))

/-- The 80 round constants: the first 64 bits of the fractional parts of the cube roots of the primes. -/
def shaK : List Nat := primes80.map (fun p => rootOf 3 (p * 2 ^ 192) % 2 ^ 64)

/-- The initial value: the first 64 bits of the fractional parts of the square roots of the ninth to sixteenth primes. -/
def shaInit : List Nat := ((primes80.drop 8).take 8).map (fun p => rootOf 2 (p * 2 ^ 128) % 2 ^ 64)

/-- Rotation of a 64-bit word to the right. -/
def rotr64 (x n : Nat) : Nat := x >>> n ||| (x <<< (64 - n)) % 2 ^ 64

/-- The message schedule, newest word first, after `n` more words. -/
def shaSchedule : Nat → List Nat → List Nat
  | 0, w => w
  | n + 1, w =>
    let x := w.getD 14 0
    let y := w.getD 1 0
    let s0 := rotr64 x 1 ^^^ rotr64 x 8 ^^^ (x >>> 7)
    let s1 := rotr64 y 19 ^^^ rotr64 y 61 ^^^ (y >>> 6)
    shaSchedule n ((s1 + w.getD 6 0 + s0 + w.getD 15 0) % 2 ^ 64 :: w)

/-- One round on the eight working variables. -/
def shaRound (v : List Nat) (kw : Nat × Nat) : List Nat :=
  match v with
  | [a, b, c, d, e, f, g, h] =>
    let t1 := h + (rotr64 e 14 ^^^ rotr64 e 18 ^^^ rotr64 e 41) + ((e &&& f) ^^^ ((2 ^ 64 - 1 - e) &&& g)) + kw.1 + kw.2
    let t2 := (rotr64 a 28 ^^^ rotr64 a 34 ^^^ rotr64 a 39) + ((a &&& b) ^^^ (a &&& c) ^^^ (b &&& c))
    [(t1 + t2) % 2 ^ 64, a, b, c, (d + t1) % 2 ^ 64, e, f, g]
  | v => v

/-- One block of 128 bytes. -/
def shaBlock (h : List Nat) (block : List Byte) : List Nat :=
  let w := (shaSchedule 64 ((piecesOf 8 block).map beNat).reverse).reverse
  (h.zip ((shaK.zip w).foldl shaRound h)).map (fun e => (e.1 + e.2) % 2 ^ 64)

/-- SHA-384 of a byte string, 48 bytes. -/
def sha384Bytes (bs : List Byte) : List Byte :=
  let pad := (239 - bs.length % 128) % 128
  let m := bs ++ [0x80] ++ List.replicate pad 0 ++ beBytes 16 (8 * bs.length)
  (((piecesOf 128 m).foldl shaBlock shaInit).take 6).flatMap (beBytes 8)

/-- SHA-384 as a value whose byte 0 is the first byte of the digest. -/
def sha384 (bs : List Byte) : BitVec 384 := BitVec.ofNat 384 (leNat (sha384Bytes bs))

/-- HMAC-SHA-384. -/
def hmac384 (key msg : List Byte) : List Byte :=
  let k := fitTo 128 (if 128 < key.length then sha384Bytes key else key)
  sha384Bytes (k.map (fun b => b ^^^ 0x5C) ++ sha384Bytes (k.map (fun b => b ^^^ 0x36) ++ msg))

/-- HKDF-SHA-384 (RFC 5869); an absent salt is 48 zero bytes (R325). -/
def hkdf (ikm : List Byte) (salt : Option (List Byte)) (info : List Byte) (n : Nat) : List Byte :=
  let prk := hmac384 (salt.getD (List.replicate 48 0)) ikm
  let (okm, _) := (List.range ((n + 47) / 48)).foldl (fun (acc : List Byte × List Byte) i =>
    let t := hmac384 prk (acc.2 ++ info ++ [BitVec.ofNat 8 (i + 1)])
    (acc.1 ++ t, t)) ([], [])
  okm.take n

/-! ### AES-256 (FIPS 197) -/

/-- Multiplication by x in the field of 256 elements. -/
def gfDouble (x : Nat) : Nat := if x < 128 then 2 * x else 2 * x % 256 ^^^ 0x1B

/-- Product in the field of 256 elements. -/
def gfMul (x y : Nat) : Nat :=
  ((List.range 8).foldl (fun (acc : Nat × Nat) i => (if y.testBit i then acc.1 ^^^ acc.2 else acc.1, gfDouble acc.2)) (0, x)).1

/-- Inverse in the field of 256 elements, 0 for 0: the 254th power. -/
def gfInv (x : Nat) : Nat := (List.range 7).foldl (fun r i => gfMul (gfMul r r) (if i = 6 then 1 else x)) x

/-- Rotation of a byte to the left. -/
def rotl8 (x n : Nat) : Nat := (x <<< n) % 256 ||| x >>> (8 - n)

/-- The substitution of a byte and its inverse. -/
def subByte (b : Byte) : Byte :=
  let x := gfInv b.toNat
  BitVec.ofNat 8 (x ^^^ rotl8 x 1 ^^^ rotl8 x 2 ^^^ rotl8 x 3 ^^^ rotl8 x 4 ^^^ 0x63)
def unsubByte (b : Byte) : Byte := BitVec.ofNat 8 (gfInv (rotl8 b.toNat 1 ^^^ rotl8 b.toNat 3 ^^^ rotl8 b.toNat 6 ^^^ 0x05))

/-- The expanded key, newest word first, after `n` more words. -/
def aesExpand : Nat → Nat → List (List Byte) → List (List Byte)
  | 0, _, w => w
  | n + 1, i, w =>
    let t := w.headD []
    let t := if i % 8 = 0 then xorBytes ((t.drop 1 ++ t.take 1).map subByte) [BitVec.ofNat 8 (2 ^ (i / 8 - 1)), 0, 0, 0]
      else if i % 8 = 4 then t.map subByte else t
    aesExpand n (i + 1) (xorBytes (w.getD 7 []) t :: w)

/-- The 15 round keys of a 32-byte key. -/
def aesKeys (key : List Byte) : List (List Byte) :=
  piecesOf 16 ((aesExpand 52 8 (piecesOf 4 (fitTo 32 key)).reverse).reverse.flatten)

/-- The rows of a block shifted by `d` columns per row, to the left for 1, to the right for 3. -/
def shiftRows (d : Nat) (b : List Byte) : List Byte := (List.range 16).map (fun i => b.getD ((i + 4 * d * (i % 4)) % 16) 0)

/-- Each column of a block multiplied by the circulant matrix of a first row. -/
def mixColumns (row : List Nat) (b : List Byte) : List Byte :=
  (List.range 16).map (fun i => BitVec.ofNat 8 ((List.range 4).foldl (fun x j =>
    x ^^^ gfMul (b.getD (4 * (i / 4) + j) 0).toNat (row.getD ((j + 4 - i % 4) % 4) 0)) 0))

/-- AES-256 of a block under round keys. -/
def aesEncrypt (ks : List (List Byte)) (block : List Byte) : List Byte :=
  let b := ((ks.drop 1).take 13).foldl (fun b k => xorBytes (mixColumns [2, 3, 1, 1] (shiftRows 1 (b.map subByte))) k) (xorBytes block (ks.getD 0 []))
  xorBytes (shiftRows 1 (b.map subByte)) (ks.getD 14 [])

/-- The inverse of AES-256 under round keys. -/
def aesDecrypt (ks : List (List Byte)) (block : List Byte) : List Byte :=
  let b := ((ks.drop 1).take 13).reverse.foldl (fun b k => mixColumns [14, 11, 13, 9] (xorBytes ((shiftRows 3 b).map unsubByte) k)) (xorBytes block (ks.getD 14 []))
  xorBytes ((shiftRows 3 b).map unsubByte) (ks.getD 0 [])

/-! ### XTS-AES-256 (IEEE Std 1619) -/

/-- A sector of 32 bytes through XTS under a key pair, with the tweak that its number is; `enc` encrypts, else decrypts (R265). -/
def xtsSector (enc : Bool) (pair : BitVec 512) (q : Nat) (d : BitVec 256) : BitVec 256 :=
  let ks := aesKeys (leBytes 32 pair.toNat)
  let t0 := leNat (aesEncrypt (aesKeys (leBytes 32 (pair.toNat / 2 ^ 256))) (leBytes 16 q))
  let t1 := if 2 ^ 127 ≤ t0 then 2 * t0 % 2 ^ 128 ^^^ 0x87 else 2 * t0
  let block (t x : Nat) : Nat := leNat ((if enc then aesEncrypt else aesDecrypt) ks (leBytes 16 (x ^^^ t))) ^^^ t
  BitVec.ofNat 256 (block t0 (d.toNat % 2 ^ 128) + block t1 (d.toNat / 2 ^ 128) * 2 ^ 128)

/-! ### AES-256-GCM (NIST SP 800-38D) -/

/-- Product of two blocks in the field of GCM, big-endian values. -/
def ghashMul (x y : Nat) : Nat :=
  ((List.range 128).foldl (fun (acc : Nat × Nat) i =>
    (if x.testBit (127 - i) then acc.1 ^^^ acc.2 else acc.1, if acc.2 % 2 = 1 then acc.2 / 2 ^^^ 0xE1 * 2 ^ 120 else acc.2 / 2)) (0, y)).1

/-- GHASH of additional data and ciphertext. -/
def ghash (h : Nat) (aad ct : List Byte) : Nat :=
  let blocks (bs : List Byte) : List Nat := (piecesOf 16 bs).map (fun b => beNat (fitTo 16 b))
  (blocks aad ++ blocks ct ++ [8 * aad.length * 2 ^ 64 + 8 * ct.length]).foldl (fun y x => ghashMul (y ^^^ x) h) 0

/-- A string through the counter blocks of a 12-byte IV, from number 2 on. -/
def gcmCtr (ks : List (List Byte)) (iv bs : List Byte) : List Byte :=
  ((piecesOf 16 bs).zip (List.range (bs.length / 16 + 1))).flatMap (fun e => xorBytes e.1 (aesEncrypt ks (iv ++ beBytes 4 (e.2 + 2))))

/-- The tag of a ciphertext. -/
def gcmTag (ks : List (List Byte)) (iv aad ct : List Byte) : List Byte :=
  xorBytes (beBytes 16 (ghash (beNat (aesEncrypt ks (List.replicate 16 0))) aad ct)) (aesEncrypt ks (iv ++ beBytes 4 1))

/-- AES-256-GCM: ciphertext of the plaintext's length, then the 16-byte tag (R325). -/
def gcmBox (key iv aad pt : List Byte) : List Byte :=
  let ks := aesKeys key
  let ct := gcmCtr ks iv pt
  ct ++ gcmTag ks iv aad ct

/-- Opening under AES-256-GCM: the plaintext is 16 bytes shorter, or the tag fails (R325). -/
def gcmUnbox (key iv aad box : List Byte) : Option (List Byte) :=
  let ks := aesKeys key
  let ct := box.take (box.length - 16)
  if box.length < 16 ∨ gcmTag ks iv aad ct ≠ box.drop (box.length - 16) then none else some (gcmCtr ks iv ct)

/-! ### CTR_DRBG with AES-256 (NIST SP 800-90A) -/

/-- The working state: key and counter block, and the requests since the last seeding. -/
structure Drbg where
  key : BitVec 256
  v : BitVec 128
  count : Nat
  deriving DecidableEq, Repr

/-- `n` blocks of output after the counter. -/
def Drbg.blocks (d : Drbg) (n : Nat) : List Byte :=
  let ks := aesKeys (leBytes 32 d.key.toNat)
  (List.range n).flatMap (fun i => aesEncrypt ks (beBytes 16 (d.v.toNat + i + 1)))

/-- The state after an update with 48 bytes, past `n` blocks of output. -/
def Drbg.update (d : Drbg) (n : Nat) (data : List Byte) : Drbg :=
  let t := xorBytes ({ d with v := d.v + BitVec.ofNat 128 n }.blocks 3) (fitTo 48 data)
  { d with key := BitVec.ofNat 256 (leNat (t.take 32)), v := BitVec.ofNat 128 (beNat (t.drop 32)) }

/-- The state seeded with 48 bytes of entropy; from no state, that of instantiation. -/
def Drbg.seed (d : Option Drbg) (entropy : List Byte) : Drbg := { (d.getD ⟨0, 0, 0⟩).update 0 entropy with count := 0 }

/-- `n` bytes of output. -/
def Drbg.generate (d : Drbg) (n : Nat) : Drbg × List Byte :=
  let k := (n + 15) / 16
  ({ d.update k [] with count := d.count + 1 }, (d.blocks k).take n)

/-! ### brainpoolP384r1 (RFC 5639) -/

namespace EC384

/-- The field's prime, the coefficients, the base point and its order. -/
def p : Nat := 0x8CB91E82A3386D280F5D6F7E50E641DF152F7109ED5456B412B1DA197FB71123ACD3A729901D1A71874700133107EC53
def a : Nat := 0x7BC382C63D8C150C3C72080ACE05AFA0C2BEA28E4FB22787139165EFBA91F90F8AA5814A503AD4EB04A8C7DD22CE2826
def b : Nat := 0x04A8C7DD22CE28268B39B55416F0447C2FB77DE107DCD2A62E880EA53EEB62D57CB4390295DBC9943AB78696FA504C11
def gx : Nat := 0x1D1C64F068CF45FFA2A63A81B7C13F6B8847A3E77EF14FE3DB7FCAFE0CBD10E8E826E03436D646AAEF87B2E247D4AF1E
def gy : Nat := 0x8ABE1D7520F9C2A45CB1EB8E95CFD55262B70B29FEEC5864E19C054FF99129280E4646217791811142820341263C5315
def n : Nat := 0x8CB91E82A3386D280F5D6F7E50E641DF152F7109ED5456B31F166E6CAC0425A7CF3AB6AF6B7FC3103B883202E9046565

/-- A power modulo m, by the 384 bits of the exponent. -/
def pow (x e m : Nat) : Nat := (List.range 384).foldl (fun r i => (if e.testBit (383 - i) then r * r % m * x else r * r) % m) 1

/-- An inverse modulo a prime. -/
def inv (x m : Nat) : Nat := pow x (m - 2) m

/-- A point: none at infinity. -/
abbrev Point := Option (Nat × Nat)

/-- Sum of two points. -/
def add : Point → Point → Point
  | none, q => q
  | q, none => q
  | some (x, y), some (u, v) =>
    if x = u ∧ (y + v) % p = 0 then none
    else
      let l := if x = u then (3 * x * x + a) * inv (2 * y) p % p else (v + p - y) * inv (u + p - x) p % p
      let w := (l * l + 2 * p - x - u) % p
      some (w, (l * (x + p - w) + p - y) % p)

/-- A multiple of a point. -/
def mul (d : Nat) (q : Point) : Point := (List.range 384).foldl (fun r i => let r := add r r; if d.testBit (383 - i) then add r q else r) none

/-- The base point. -/
def base : Point := some (gx, gy)

/-- The 97-byte uncompressed form; zeros for infinity, which no public key is (R324). -/
def bytes : Point → List Byte
  | some (x, y) => 0x04 :: (beBytes 48 x ++ beBytes 48 y)
  | none => List.replicate 97 0

/-- The point of an uncompressed form, if it is one of the curve. -/
def parse (bs : List Byte) : Point :=
  let x := beNat ((bs.drop 1).take 48)
  let y := beNat (bs.drop 49)
  if bs.length = 97 ∧ bs.headD 0 = 4 ∧ x < p ∧ y < p ∧ y * y % p = (x * x * x + a * x + b) % p then some (x, y) else none
end EC384

/-- Whether 97 bytes are a point of the curve other than infinity (R335). -/
def ecOnCurve (bs : List Byte) : Bool := (EC384.parse bs).isSome

/-- The public key of a scalar (R326). -/
def ecMul (d : Nat) : List Byte := EC384.bytes (EC384.mul d EC384.base)

/-- The shared secret of a scalar and a point: the 48-byte X coordinate (R325). -/
def ecdh (d : Nat) (point : List Byte) : List Byte :=
  match EC384.mul d (EC384.parse point) with
  | some (x, _) => beBytes 48 x
  | none => List.replicate 48 0

/-- A private scalar from 64 bytes (R326). -/
def scalarOf (bs : List Byte) : Nat := beNat bs % (EC384.n - 1) + 1

/-- ECDSA over SHA-384: the signature r ‖ s of a message under scalar d, with the ephemeral scalar k (R324, R325). -/
def ecdsa (d : Nat) (msg : List Byte) (k : Nat) : List Byte :=
  let r := match EC384.mul k EC384.base with | some (x, _) => x % EC384.n | none => 0
  beBytes 48 r ++ beBytes 48 (EC384.inv k EC384.n * (beNat (sha384Bytes msg) + r * d) % EC384.n)

/-- The check of a signature under a point. -/
def ecdsaOk (point msg sig : List Byte) : Bool :=
  let r := beNat (sig.take 48)
  let s := beNat (sig.drop 48)
  let w := EC384.inv s EC384.n
  let q := EC384.add (EC384.mul (beNat (sha384Bytes msg) * w % EC384.n) EC384.base) (EC384.mul (r * w % EC384.n) (EC384.parse point))
  sig.length == 96 && ecOnCurve point && decide (0 < r ∧ r < EC384.n ∧ 0 < s ∧ s < EC384.n)
    && (match q with | some (x, _) => x % EC384.n == r | none => false)

end Sys2Proof.Machine
end

