-- ==== Sys2Proof/Machine/RegTable.lean ====
section
/-! DEFINITION. The register fields of every page, one row per field, from the register tables of the spec: page, byte
offset, stride and count of the registers, place and width of the bits, stride and count of a field repeated inside one
register, access code (R8), class (R9), reset value, and the stated range (R509). -/

namespace Sys2Proof.Machine

/-- Register pages (R487), the common header (R482), the channel block (R362) and the mailbox registers (R479). -/
inductive Page where
  | hdr | top | tick | ctx | pwr | thm | hk | sec | intc | errq | fuse | mb | boot | dom | dist | pcie | fab | fab0 | memc | gath | slc | bond | blk | ch
  deriving DecidableEq, Repr

/-- Access codes (R8). -/
inductive Acc where
  | ro | rw | w1c | wo | rc
  deriving DecidableEq, Repr

/-- Field classes (R9); `none` is class —. -/
inductive Cls where
  | l | t | s | none
  deriving DecidableEq, Repr

/-- The stated range, alignment or codes of a field (R509). -/
inductive Chk where
  | any
  | range (lo hi : Nat)
  | mult (step : Nat) (min : Nat := 0)
  | multRange (step lo hi : Nat)
  deriving DecidableEq, Repr

/-- One row of a register table. -/
structure Fld where
  /-- The page. -/
  page : Page
  /-- Byte offset of the (first) register within the page. -/
  off : Nat
  /-- Bytes from one register of the row to the next. -/
  stride : Nat
  /-- How many registers the row stands for. -/
  count : Nat
  /-- Lowest bit of the field. -/
  lo : Nat
  /-- Width in bits. -/
  width : Nat
  /-- Bits from one copy to the next, where one register holds several. -/
  bstride : Nat
  /-- Copies of the field in one register. -/
  bcount : Nat
  /-- Access code. -/
  acc : Acc
  /-- Class. -/
  cls : Cls
  /-- Reset value; for a repeated field, of the whole register. -/
  reset : Nat
  /-- Stated range. -/
  chk : Chk
  /-- The reset value differs by part, by unit or by strap (see `specialReset`). -/
  special : Bool
  deriving DecidableEq, Repr

/-- Whether a value lies in a stated range (R509). -/
def chkOk : Chk → Nat → Bool
  | .any, _ => true
  | .range lo hi, v => decide (lo ≤ v) && decide (v ≤ hi)
  | .mult st mn, v => decide (v % st = 0) && decide (mn ≤ v)
  | .multRange st lo hi, v => decide (v % st = 0) && decide (lo ≤ v) && decide (v ≤ hi)

/-- TICK 0x100, R31: Tick period in 10 µs steps, 10 to 1,000 -/
def F.TICK_PERIOD_STEPS : Fld := ⟨.tick, 0x100, 0, 1, 0, 10, 0, 1, .rw, .t, 50, .any, false⟩
/-- TICK 0x100, R31: Period in effect -/
def F.TICK_PERIOD_STEPS_EFF : Fld := ⟨.tick, 0x100, 0, 1, 16, 10, 0, 1, .ro, .none, 50, .any, false⟩
/-- TICK 0x104, R31: 0: LOCAL. 1: SOURCE. 2: FOLLOWER. 3: reserved, treated as LOCAL -/
def F.TICK_SYNC_MODE : Fld := ⟨.tick, 0x104, 0, 1, 0, 2, 0, 1, .rw, .s, 0, .any, false⟩
/-- TICK 0x104, R31: Drive TICK_OUT with a pulse at each tick -/
def F.TICK_SYNC_TICK_OUT_EN : Fld := ⟨.tick, 0x104, 0, 1, 2, 1, 0, 1, .rw, .s, 0, .any, false⟩
/-- TICK 0x108, R31: Number of the frame now running. The Plaza increments it at every tick, including ticks that start an idle frame -/
def F.TICK_FRAME_NUM_NUM : Fld := ⟨.tick, 0x108, 0, 1, 0, 64, 0, 1, .ro, .none, 0, .any, false⟩
/-- TICK 0x110, R31: Device time of the most recent tick, in 10 ns units -/
def F.TICK_TICK_TIME_TIME : Fld := ⟨.tick, 0x110, 0, 1, 0, 64, 0, 1, .ro, .none, 0, .any, false⟩
/-- TICK 0x118, R31: Duration of the most recent tick gap in 10 ns units -/
def F.TICK_GAP_LAST : Fld := ⟨.tick, 0x118, 0, 1, 0, 9, 0, 1, .ro, .none, 0, .any, false⟩
/-- TICK 0x118, R31: Longest tick gap since the last read, in 10 ns units -/
def F.TICK_GAP_MAX : Fld := ⟨.tick, 0x118, 0, 1, 16, 9, 0, 1, .rc, .none, 0, .any, false⟩
/-- CTX 0x100, R43: 0x1 ACTIVATE, 0x2 STOP, 0x3 ABORT, 0x4 RESUME, 0x5 RELEASE; other values refused -/
def F.CTX_CMD_OP : Fld := ⟨.ctx, 0x100, 0, 1, 0, 4, 0, 1, .wo, .none, 0, .any, false⟩
/-- CTX 0x100, R43: Context number -/
def F.CTX_CMD_CTX : Fld := ⟨.ctx, 0x100, 0, 1, 16, 10, 0, 1, .wo, .none, 0, .any, false⟩
/-- CTX 0x104, R43: Context of the last refused command -/
def F.CTX_CMD_RESULT_CTX : Fld := ⟨.ctx, 0x104, 0, 1, 0, 10, 0, 1, .rc, .none, 0, .any, false⟩
/-- CTX 0x104, R43: Its OP -/
def F.CTX_CMD_RESULT_OP : Fld := ⟨.ctx, 0x104, 0, 1, 16, 4, 0, 1, .rc, .none, 0, .any, false⟩
/-- CTX 0x104, R43: 1: transition not allowed. 2: ENTRY_CHECK mismatch. 3: program container check or measurement failed. 4: region descriptor check failed. 5: reserved OP. 6: channel check failed (R363). 7: fabric staging check failed (R391). 8 to 15: reserved -/
def F.CTX_CMD_RESULT_REASON : Fld := ⟨.ctx, 0x104, 0, 1, 20, 4, 0, 1, .rc, .none, 0, .any, false⟩
/-- CTX 0x104, R43: A refusal is recorded -/
def F.CTX_CMD_RESULT_VALID : Fld := ⟨.ctx, 0x104, 0, 1, 31, 1, 0, 1, .rc, .none, 0, .any, false⟩
/-- CTX 0x400, R66: Time in µs since the tail read that first saw the channel's oldest unconsumed submission; zero when none; saturates at 0xFFFF_FFFF -/
def F.CTX_BACKLOG_AGE_AGE : Fld := ⟨.ctx, 0x400, 4, 256, 0, 32, 0, 1, .ro, .none, 0, .any, false⟩
/-- CTX 0x800, R66: Submissions with a non-zero DUE consumed by a COMPLETE frame that started after that DUE; a submission with DUE 0 has no due time of its own and never counts, although admission gives it one under R365; saturates -/
def F.CTX_LATE_COUNT_COUNT : Fld := ⟨.ctx, 0x800, 4, 256, 0, 32, 0, 1, .rc, .none, 0, .any, false⟩
/-- BLK 0x400, R101: Bit a set: array a has a pass in flight -/
def F.BLK_MX_STATUS_BUSY : Fld := ⟨.blk, 0x400, 0, 1, 0, 4, 0, 1, .ro, .none, 0, .any, false⟩
/-- BLK 0x400, R101: 0: off. 1: 25%. 2: 50%. 3: 75%. 4: 100%. 5–7: reserved -/
def F.BLK_MX_STATUS_LEVEL : Fld := ⟨.blk, 0x400, 0, 1, 4, 3, 0, 1, .ro, .none, 0, .any, false⟩
/-- BLK 0x400, R101: Array in hold (R95) -/
def F.BLK_MX_STATUS_HOLD : Fld := ⟨.blk, 0x400, 0, 1, 7, 1, 0, 1, .ro, .none, 0, .any, false⟩
/-- BLK 0x400, R101: MLOAD operations held by the load unit -/
def F.BLK_MX_STATUS_LOADS : Fld := ⟨.blk, 0x400, 0, 1, 8, 2, 0, 1, .ro, .none, 0, .any, false⟩
/-- BLK 0x400, R101: MDRAIN operations held by the drain unit -/
def F.BLK_MX_STATUS_DRAINS : Fld := ⟨.blk, 0x400, 0, 1, 10, 2, 0, 1, .ro, .none, 0, .any, false⟩
/-- BLK 0x404, R101: 1: no ballast and no ramps; test only (R98) -/
def F.BLK_MX_TEST_BALLAST_OFF : Fld := ⟨.blk, 0x404, 0, 1, 0, 1, 0, 1, .rw, .s, 0, .any, false⟩
/-- BLK 0x40, R101: Row-slots popped by passes -/
def F.BLK_MX_SLOTS : Fld := ⟨.blk, 0x40, 0, 1, 0, 32, 0, 1, .rc, .none, 0, .any, false⟩
/-- BLK 0x44, R101: Cycles in ramp or hold with any ballast -/
def F.BLK_MX_BALLAST_CYCLES : Fld := ⟨.blk, 0x44, 0, 1, 0, 32, 0, 1, .rc, .none, 0, .any, false⟩
/-- BLK 0x48, R101: Bubbles from an empty feeder queue (R85) -/
def F.BLK_MX_FEED_BUBBLES : Fld := ⟨.blk, 0x48, 0, 1, 0, 32, 0, 1, .rc, .none, 0, .any, false⟩
/-- BLK 0x4c, R101: Cycles in which a pass waited for an MLOAD -/
def F.BLK_MX_LOAD_WAITS : Fld := ⟨.blk, 0x4c, 0, 1, 0, 32, 0, 1, .rc, .none, 0, .any, false⟩
/-- BLK 0x50, R101: Cycles in which a pass waited for an MDRAIN of its set -/
def F.BLK_MX_DRAIN_WAITS : Fld := ⟨.blk, 0x50, 0, 1, 0, 32, 0, 1, .rc, .none, 0, .any, false⟩
/-- BLK 0x54, R101: Cycles removed by issue gating (R97) -/
def F.BLK_MX_GATED : Fld := ⟨.blk, 0x54, 0, 1, 0, 32, 0, 1, .rc, .none, 0, .any, false⟩
/-- BLK 0x58, R111: Cell products skipped under R109, in units of 65,536 -/
def F.BLK_MX_ZERO_GATED : Fld := ⟨.blk, 0x58, 0, 1, 0, 32, 0, 1, .rc, .none, 0, .any, false⟩
/-- BLK 0x5c, R111: Row-slots of masked tokens (R110) -/
def F.BLK_MX_MASKED_SLOTS : Fld := ⟨.blk, 0x5c, 0, 1, 0, 32, 0, 1, .rc, .none, 0, .any, false⟩
/-- BLK 0x60, R111: CSKIP instructions that skipped their segment -/
def F.BLK_CSKIP_TAKEN : Fld := ⟨.blk, 0x60, 0, 1, 0, 32, 0, 1, .rc, .none, 0, .any, false⟩
/-- BLK 0x64, R111: CSKIP instructions that did not skip -/
def F.BLK_CSKIP_FALLTHRU : Fld := ⟨.blk, 0x64, 0, 1, 0, 32, 0, 1, .rc, .none, 0, .any, false⟩
/-- GATH 0x40, R119: Valid choices counted by this engine's parts -/
def F.GATH_XD_CHOICES : Fld := ⟨.gath, 0x40, 0, 1, 0, 32, 0, 1, .rc, .none, 0, .any, false⟩
/-- GATH 0x44, R119: Choices placed in spill slots -/
def F.GATH_XD_SPILLED : Fld := ⟨.gath, 0x44, 0, 1, 0, 32, 0, 1, .rc, .none, 0, .any, false⟩
/-- GATH 0x48, R119: Choices dropped for capacity -/
def F.GATH_XD_DROPPED : Fld := ⟨.gath, 0x48, 0, 1, 0, 32, 0, 1, .rc, .none, 0, .any, false⟩
/-- GATH 0x4c, R119: Invalid choices -/
def F.GATH_XD_INVALID : Fld := ⟨.gath, 0x4c, 0, 1, 0, 32, 0, 1, .rc, .none, 0, .any, false⟩
/-- GATH 0x50, R119: CK_BL cycles in which a placement waited for count tables -/
def F.GATH_XD_TABLE_WAIT : Fld := ⟨.gath, 0x50, 0, 1, 0, 32, 0, 1, .rc, .none, 0, .any, false⟩
/-- GATH 0x54, R119: Tokens combined by XCOMBINE -/
def F.GATH_XC_TOKENS : Fld := ⟨.gath, 0x54, 0, 1, 0, 32, 0, 1, .rc, .none, 0, .any, false⟩
/-- BLK 0x480, R151: PC ÷ 4 of the next instruction -/
def F.BLK_CC_STATUS_PC_WORD : Fld := ⟨.blk, 0x480, 0, 1, 0, 14, 0, 1, .ro, .none, 0, .any, false⟩
/-- BLK 0x480, R151: Issue stopped by HALT or frame end -/
def F.BLK_CC_STATUS_HALTED : Fld := ⟨.blk, 0x480, 0, 1, 14, 1, 0, 1, .ro, .none, 0, .any, false⟩
/-- BLK 0x480, R151: The core is in a frame -/
def F.BLK_CC_STATUS_RUNNING : Fld := ⟨.blk, 0x480, 0, 1, 15, 1, 0, 1, .ro, .none, 0, .any, false⟩
/-- BLK 0x480, R151: Active loop levels -/
def F.BLK_CC_STATUS_DEPTH : Fld := ⟨.blk, 0x480, 0, 1, 16, 3, 0, 1, .ro, .none, 0, .any, false⟩
/-- BLK 0x480, R151: 0: none. 1: queue full. 2: load or store. 3: divide -/
def F.BLK_CC_STATUS_STALL : Fld := ⟨.blk, 0x480, 0, 1, 19, 2, 0, 1, .ro, .none, 0, .any, false⟩
/-- BLK 0x480, R151: Physical half now live -/
def F.BLK_CC_STATUS_LIVE_HALF : Fld := ⟨.blk, 0x480, 0, 1, 21, 1, 0, 1, .ro, .none, 0, .any, false⟩
/-- BLK 0x480, R151: 0: OPEN. 1: LOADING. 2: LOADED. 3: reserved -/
def F.BLK_CC_STATUS_IDLE_STATE : Fld := ⟨.blk, 0x480, 0, 1, 22, 2, 0, 1, .ro, .none, 0, .any, false⟩
/-- BLK 0x484, R151: Word index within the selected half -/
def F.BLK_IMEM_ADDR_WORD : Fld := ⟨.blk, 0x484, 0, 1, 0, 14, 0, 1, .rw, .l, 0, .any, false⟩
/-- BLK 0x484, R151: 0: idle half. 1: live half -/
def F.BLK_IMEM_ADDR_HALF : Fld := ⟨.blk, 0x484, 0, 1, 14, 1, 0, 1, .rw, .l, 0, .any, false⟩
/-- BLK 0x484, R151: 1: each access to IMEM_DATA increments WORD, modulo 16,384 -/
def F.BLK_IMEM_ADDR_AUTOINC : Fld := ⟨.blk, 0x484, 0, 1, 15, 1, 0, 1, .rw, .l, 0, .any, false⟩
/-- BLK 0x68, R151: Instructions issued, guarded-false included -/
def F.BLK_CC_RETIRED : Fld := ⟨.blk, 0x68, 0, 1, 0, 32, 0, 1, .rc, .none, 0, .any, false⟩
/-- BLK 0x6c, R151: Cycles stalled on a full queue -/
def F.BLK_CC_QFULL : Fld := ⟨.blk, 0x6c, 0, 1, 0, 32, 0, 1, .rc, .none, 0, .any, false⟩
/-- BLK 0x70, R151: Cycles stalled on a load or store -/
def F.BLK_CC_MEMWAIT : Fld := ⟨.blk, 0x70, 0, 1, 0, 32, 0, 1, .rc, .none, 0, .any, false⟩
/-- BLK 0x74, R151: Illegal encodings decoded (R153) -/
def F.BLK_CC_ILLEGAL : Fld := ⟨.blk, 0x74, 0, 1, 0, 32, 0, 1, .rc, .none, 0, .any, false⟩
/-- BLK 0x78, R151: Misaligned accesses (R134) -/
def F.BLK_CC_MISALIGNED : Fld := ⟨.blk, 0x78, 0, 1, 0, 32, 0, 1, .rc, .none, 0, .any, false⟩
/-- BLK 0x500, R181: Entries held, 0 to 64 -/
def F.BLK_Q_STATUS_MXQ_FILL : Fld := ⟨.blk, 0x500, 0, 1, 0, 7, 0, 1, .ro, .none, 0, .any, false⟩
/-- BLK 0x500, R181: Entries held -/
def F.BLK_Q_STATUS_VXQ_FILL : Fld := ⟨.blk, 0x500, 0, 1, 8, 7, 0, 1, .ro, .none, 0, .any, false⟩
/-- BLK 0x500, R181: Entries held -/
def F.BLK_Q_STATUS_DXQ_FILL : Fld := ⟨.blk, 0x500, 0, 1, 16, 7, 0, 1, .ro, .none, 0, .any, false⟩
/-- BLK 0x500, R181: Entries held -/
def F.BLK_Q_STATUS_SXQ_FILL : Fld := ⟨.blk, 0x500, 0, 1, 24, 7, 0, 1, .ro, .none, 0, .any, false⟩
/-- BLK 0x504, R181: Head state. 0: moving or empty. 1: event wait. 2: unit full. 3: stopped by R160 -/
def F.BLK_Q_WAIT_MXQ : Fld := ⟨.blk, 0x504, 0, 1, 0, 2, 0, 1, .ro, .none, 0, .any, false⟩
/-- BLK 0x504, R181: As MXQ; 2 means group slots short -/
def F.BLK_Q_WAIT_VXQ : Fld := ⟨.blk, 0x504, 0, 1, 2, 2, 0, 1, .ro, .none, 0, .any, false⟩
/-- BLK 0x504, R181: As MXQ; 2 means DMA or inbound buffer full -/
def F.BLK_Q_WAIT_DXQ : Fld := ⟨.blk, 0x504, 0, 1, 4, 2, 0, 1, .ro, .none, 0, .any, false⟩
/-- BLK 0x504, R181: As MXQ; 2 means drain or release awaited -/
def F.BLK_Q_WAIT_SXQ : Fld := ⟨.blk, 0x504, 0, 1, 6, 2, 0, 1, .ro, .none, 0, .any, false⟩
/-- BLK 0x508, R181: Chip barriers completed in the frame -/
def F.BLK_BAR_COUNT_CHIP : Fld := ⟨.blk, 0x508, 0, 1, 0, 16, 0, 1, .ro, .none, 0, .any, false⟩
/-- BLK 0x508, R181: District barriers completed in the frame -/
def F.BLK_BAR_COUNT_DISTRICT : Fld := ⟨.blk, 0x508, 0, 1, 16, 16, 0, 1, .ro, .none, 0, .any, false⟩
/-- BLK 0x540, R181: Event counter n -/
def F.BLK_EC_COUNT : Fld := ⟨.blk, 0x540, 4, 16, 0, 16, 0, 1, .ro, .none, 0, .any, false⟩
/-- BLK 0x7c, R181: Commands discarded under R161 -/
def F.BLK_CMD_MALFORMED : Fld := ⟨.blk, 0x7c, 0, 1, 0, 32, 0, 1, .rc, .none, 0, .any, false⟩
/-- BLK 0x80, R181: Class labels replaced under R162 -/
def F.BLK_CMD_CLASS_SUBST : Fld := ⟨.blk, 0x80, 0, 1, 0, 32, 0, 1, .rc, .none, 0, .any, false⟩
/-- BLK 0x84, R181: Increments lost at 65,535 (R165) -/
def F.BLK_EC_SATURATED : Fld := ⟨.blk, 0x84, 0, 1, 0, 32, 0, 1, .rc, .none, 0, .any, false⟩
/-- BLK 0x88, R181: CK_BL cycles between arrival and release -/
def F.BLK_BAR_WAIT : Fld := ⟨.blk, 0x88, 0, 1, 0, 32, 0, 1, .rc, .none, 0, .any, false⟩
/-- BLK 0x580, R209: Resident groups, 0 to 16 -/
def F.BLK_VX_STATUS_RESIDENT : Fld := ⟨.blk, 0x580, 0, 1, 0, 5, 0, 1, .ro, .none, 0, .any, false⟩
/-- BLK 0x580, R209: Groups with threads waiting at a barrier -/
def F.BLK_VX_STATUS_WAITING : Fld := ⟨.blk, 0x580, 0, 1, 8, 5, 0, 1, .ro, .none, 0, .any, false⟩
/-- BLK 0x580, R209: Issue stopped by a fault (R207); cleared in step 8 -/
def F.BLK_VX_STATUS_STOPPED : Fld := ⟨.blk, 0x580, 0, 1, 16, 1, 0, 1, .ro, .none, 0, .any, false⟩
/-- BLK 0x584, R209: 0: none. 1 to 4: as R206. 5 to 7: reserved -/
def F.BLK_VX_FAULT_KIND : Fld := ⟨.blk, 0x584, 0, 1, 0, 3, 0, 1, .rc, .none, 0, .any, false⟩
/-- BLK 0x584, R209: Group slot of the first fault since the last read -/
def F.BLK_VX_FAULT_SLOT : Fld := ⟨.blk, 0x584, 0, 1, 4, 4, 0, 1, .rc, .none, 0, .any, false⟩
/-- BLK 0x584, R209: Lowest faulting lane -/
def F.BLK_VX_FAULT_LANE : Fld := ⟨.blk, 0x584, 0, 1, 8, 5, 0, 1, .rc, .none, 0, .any, false⟩
/-- BLK 0x584, R209: Offset ÷ 8 of the faulting instruction -/
def F.BLK_VX_FAULT_PC_WORD : Fld := ⟨.blk, 0x584, 0, 1, 16, 13, 0, 1, .rc, .none, 0, .any, false⟩
/-- BLK 0x588, R209: Address of the lowest faulting lane's access for the fault held in VX_FAULT; zero for KIND 4 -/
def F.BLK_VX_FAULT_ADDR_ADDR : Fld := ⟨.blk, 0x588, 0, 1, 0, 64, 0, 1, .ro, .none, 0, .any, false⟩
/-- BLK 0x5c0, R209: 0: free. 1: running. 2: waiting at a barrier. 3: exited, stores outstanding -/
def F.BLK_VX_SLOT_STATE : Fld := ⟨.blk, 0x5c0, 4, 16, 0, 2, 0, 1, .ro, .none, 0, .any, false⟩
/-- BLK 0x5c0, R209: Reconvergence stack entries, 0 to 16 -/
def F.BLK_VX_SLOT_DEPTH : Fld := ⟨.blk, 0x5c0, 4, 16, 4, 5, 0, 1, .ro, .none, 0, .any, false⟩
/-- BLK 0x5c0, R209: Offset ÷ 8 of the group's next instruction -/
def F.BLK_VX_SLOT_PC_WORD : Fld := ⟨.blk, 0x5c0, 4, 16, 16, 13, 0, 1, .ro, .none, 0, .any, false⟩
/-- BLK 0x8c, R209: Group instructions issued -/
def F.BLK_VX_ISSUED : Fld := ⟨.blk, 0x8c, 0, 1, 0, 32, 0, 1, .rc, .none, 0, .any, false⟩
/-- BLK 0x90, R209: Sectors accessed by LD, ST and RED (R194) -/
def F.BLK_VX_SECTORS : Fld := ⟨.blk, 0x90, 0, 1, 0, 32, 0, 1, .rc, .none, 0, .any, false⟩
/-- BLK 0x94, R209: Divergent branches -/
def F.BLK_VX_DIVERGE : Fld := ⟨.blk, 0x94, 0, 1, 0, 32, 0, 1, .rc, .none, 0, .any, false⟩
/-- BLK 0x98, R209: Group-cycles spent waiting at a barrier -/
def F.BLK_VX_BAR_WAIT : Fld := ⟨.blk, 0x98, 0, 1, 0, 32, 0, 1, .rc, .none, 0, .any, false⟩
/-- BLK 0x9c, R209: Cycles with a resident group and none ready -/
def F.BLK_VX_IDLE : Fld := ⟨.blk, 0x9c, 0, 1, 0, 32, 0, 1, .rc, .none, 0, .any, false⟩
/-- BLK 0xa0, R209: GMMA instructions issued -/
def F.BLK_VX_GMMA : Fld := ⟨.blk, 0xa0, 0, 1, 0, 32, 0, 1, .rc, .none, 0, .any, false⟩
/-- BLK 0x600, R227: Requested owner unit, codes of R213; 6 and 7 reserved -/
def F.BLK_SP_OWN_UNIT_REQ : Fld := ⟨.blk, 0x600, 4, 16, 0, 3, 0, 1, .rw, .l, 0, .range 0 5, false⟩
/-- BLK 0x600, R227: Gather engine for UNIT_REQ 5 -/
def F.BLK_SP_OWN_GATH_REQ : Fld := ⟨.blk, 0x600, 4, 16, 3, 4, 0, 1, .rw, .l, 0, .any, false⟩
/-- BLK 0x600, R227: Owner unit in effect -/
def F.BLK_SP_OWN_UNIT : Fld := ⟨.blk, 0x600, 4, 16, 8, 3, 0, 1, .ro, .none, 0, .any, false⟩
/-- BLK 0x600, R227: Gather engine in effect -/
def F.BLK_SP_OWN_GATH : Fld := ⟨.blk, 0x600, 4, 16, 11, 4, 0, 1, .ro, .none, 0, .any, false⟩
/-- BLK 0x600, R227: A request waits for step 5 (R217) -/
def F.BLK_SP_OWN_PENDING : Fld := ⟨.blk, 0x600, 4, 16, 15, 1, 0, 1, .ro, .none, 0, .any, false⟩
/-- BLK 0x600, R227: Owner context -/
def F.BLK_SP_OWN_CTX : Fld := ⟨.blk, 0x600, 4, 16, 16, 10, 0, 1, .ro, .none, 0, .any, false⟩
/-- BLK 0x600, R227: 0: no owner context since reset -/
def F.BLK_SP_OWN_CTX_VALID : Fld := ⟨.blk, 0x600, 4, 16, 26, 1, 0, 1, .ro, .none, 0, .any, false⟩
/-- BLK 0x640, R227: Half 0. 0: LINEAR. 1: INTERLEAVE -/
def F.BLK_SP_MAP_MODE0 : Fld := ⟨.blk, 0x640, 0, 1, 0, 1, 0, 1, .rw, .t, 0, .any, false⟩
/-- BLK 0x640, R227: Half 1, as MODE0 -/
def F.BLK_SP_MAP_MODE1 : Fld := ⟨.blk, 0x640, 0, 1, 1, 1, 0, 1, .rw, .t, 0, .any, false⟩
/-- BLK 0x640, R227: Mode of half 0 in effect -/
def F.BLK_SP_MAP_MODE0_EFF : Fld := ⟨.blk, 0x640, 0, 1, 8, 1, 0, 1, .ro, .none, 0, .any, false⟩
/-- BLK 0x640, R227: Mode of half 1 in effect -/
def F.BLK_SP_MAP_MODE1_EFF : Fld := ⟨.blk, 0x640, 0, 1, 9, 1, 0, 1, .ro, .none, 0, .any, false⟩
/-- BLK 0x644, R227: Bit n set: bank n enters RETAINED when idle in step 5 -/
def F.BLK_SP_PWR_RET : Fld := ⟨.blk, 0x644, 0, 1, 0, 16, 0, 1, .rw, .l, 0, .any, false⟩
/-- BLK 0x648, R227: Bit n set: bank n is RETAINED -/
def F.BLK_SP_STATUS_RETAINED : Fld := ⟨.blk, 0x648, 0, 1, 0, 16, 0, 1, .ro, .none, 0, .any, false⟩
/-- BLK 0x648, R227: Bit n set: bank n is WAKING -/
def F.BLK_SP_STATUS_WAKING : Fld := ⟨.blk, 0x648, 0, 1, 16, 16, 0, 1, .ro, .none, 0, .any, false⟩
/-- BLK 0x64c, R227: Address of the first uncorrectable word since the last read -/
def F.BLK_SP_UE_ADDR_ADDR : Fld := ⟨.blk, 0x64c, 0, 1, 0, 20, 0, 1, .rc, .none, 0, .any, false⟩
/-- BLK 0x64c, R227: ADDR holds an address -/
def F.BLK_SP_UE_ADDR_VALID : Fld := ⟨.blk, 0x64c, 0, 1, 31, 1, 0, 1, .rc, .none, 0, .any, false⟩
/-- BLK 0x650, R227: 1: start a run -/
def F.BLK_CLOVE_CTRL_START : Fld := ⟨.blk, 0x650, 0, 1, 0, 1, 0, 1, .wo, .s, 0, .any, false⟩
/-- BLK 0x650, R227: 0: destructive. 1: preserving -/
def F.BLK_CLOVE_CTRL_MODE : Fld := ⟨.blk, 0x650, 0, 1, 1, 1, 0, 1, .rw, .s, 0, .any, false⟩
/-- BLK 0x654, R227: Bit n set: bank n failed in the last run -/
def F.BLK_CLOVE_RESULT_FAIL : Fld := ⟨.blk, 0x654, 0, 1, 0, 16, 0, 1, .ro, .none, 0, .any, false⟩
/-- BLK 0x654, R227: First failing row of the lowest failing bank -/
def F.BLK_CLOVE_RESULT_ROW : Fld := ⟨.blk, 0x654, 0, 1, 16, 11, 0, 1, .ro, .none, 0, .any, false⟩
/-- BLK 0x654, R227: A run is in progress -/
def F.BLK_CLOVE_RESULT_BUSY : Fld := ⟨.blk, 0x654, 0, 1, 31, 1, 0, 1, .ro, .none, 0, .any, false⟩
/-- BLK 0xa4, R227: Foreign accesses (R214) -/
def F.BLK_SP_FOREIGN : Fld := ⟨.blk, 0xa4, 0, 1, 0, 32, 0, 1, .rc, .none, 0, .any, false⟩
/-- BLK 0xa8, R227: Corrected single-bit errors -/
def F.BLK_SP_CE : Fld := ⟨.blk, 0xa8, 0, 1, 0, 32, 0, 1, .rc, .none, 0, .any, false⟩
/-- BLK 0xac, R227: Partial-word writes (R212) -/
def F.BLK_SP_RMW : Fld := ⟨.blk, 0xac, 0, 1, 0, 32, 0, 1, .rc, .none, 0, .any, false⟩
/-- BLK 0xb0, R227: Wakes from RETAINED -/
def F.BLK_SP_WAKE : Fld := ⟨.blk, 0xb0, 0, 1, 0, 32, 0, 1, .rc, .none, 0, .any, false⟩
/-- BLK 0xb4, R227: Cycles in which a guest access waited -/
def F.BLK_SP_GUEST_WAIT : Fld := ⟨.blk, 0xb4, 0, 1, 0, 32, 0, 1, .rc, .none, 0, .any, false⟩
/-- SLC 0x100, R253: 0: FULL. 1: HALF. 2: RETIRING. 3: RETIRED -/
def F.SLC_SLICE_STATE_MODE : Fld := ⟨.slc, 0x100, 0, 1, 0, 2, 0, 1, .ro, .none, 0, .any, false⟩
/-- SLC 0x100, R253: A sweep under R252 is running -/
def F.SLC_SLICE_STATE_SWEEP : Fld := ⟨.slc, 0x100, 0, 1, 2, 1, 0, 1, .ro, .none, 0, .any, false⟩
/-- SLC 0x100, R253: Rollback-list entries in use, 0 to 512 -/
def F.SLC_SLICE_STATE_RLIST : Fld := ⟨.slc, 0x100, 0, 1, 12, 9, 0, 1, .ro, .none, 0, .any, false⟩
/-- SLC 0x110, R253: Slice index m for bucket 8j + i; the word resets to 0x7654_3210 -/
def F.SLC_BUCKET_MAP_SLICE : Fld := ⟨.slc, 0x110, 4, 8, 0, 3, 4, 8, .ro, .none, 0x76543210, .any, false⟩
/-- SLC 0x140, R253: Pin ceiling in ways, 0 to 14 (R246) -/
def F.SLC_PIN_CFG_CEIL : Fld := ⟨.slc, 0x140, 0, 1, 0, 4, 0, 1, .rw, .l, 8, .any, false⟩
/-- SLC 0x140, R253: Sum of WAYS over valid entries -/
def F.SLC_PIN_CFG_RESERVED : Fld := ⟨.slc, 0x140, 0, 1, 8, 4, 0, 1, .ro, .none, 0, .any, false⟩
/-- SLC 0x144, R253: 1: PIN. 2: UNPIN. 0 and 3: refused -/
def F.SLC_PIN_REQ_OP : Fld := ⟨.slc, 0x144, 0, 1, 0, 2, 0, 1, .wo, .none, 0, .any, false⟩
/-- SLC 0x144, R253: Pin entry, 0 to 15 -/
def F.SLC_PIN_REQ_ENTRY : Fld := ⟨.slc, 0x144, 0, 1, 2, 4, 0, 1, .wo, .none, 0, .any, false⟩
/-- SLC 0x144, R253: 1 to 14 -/
def F.SLC_PIN_REQ_WAYS : Fld := ⟨.slc, 0x144, 0, 1, 6, 4, 0, 1, .wo, .none, 0, .any, false⟩
/-- SLC 0x144, R253: Fetch the range (R247) -/
def F.SLC_PIN_REQ_FILL : Fld := ⟨.slc, 0x144, 0, 1, 10, 1, 0, 1, .wo, .none, 0, .any, false⟩
/-- SLC 0x144, R253: Owner number (R234) -/
def F.SLC_PIN_REQ_OWNER : Fld := ⟨.slc, 0x144, 0, 1, 16, 14, 0, 1, .wo, .none, 0, .any, false⟩
/-- SLC 0x148, R253: First device address of the range for the next PIN, a multiple of 0x1_0000 -/
def F.SLC_PIN_BASE_BASE : Fld := ⟨.slc, 0x148, 0, 1, 0, 64, 0, 1, .rw, .l, 0, .mult 0x10000, false⟩
/-- SLC 0x150, R253: Range length, a multiple of 0x1_0000, non-zero -/
def F.SLC_PIN_SIZE_SIZE : Fld := ⟨.slc, 0x150, 0, 1, 0, 64, 0, 1, .rw, .l, 0, .mult 0x10000 1, false⟩
/-- SLC 0x158, R253: 1: accepted. 2: refused, ceiling. 3: refused, entry in use for PIN or free for UNPIN. 4: refused, range misaligned or outside the group. 5: refused, OP, WAYS or OWNER invalid. 0, 6, 7: none -/
def F.SLC_PIN_RESULT_CODE : Fld := ⟨.slc, 0x158, 0, 1, 0, 3, 0, 1, .rc, .none, 0, .any, false⟩
/-- SLC 0x158, R253: Entry of the request -/
def F.SLC_PIN_RESULT_ENTRY : Fld := ⟨.slc, 0x158, 0, 1, 3, 4, 0, 1, .rc, .none, 0, .any, false⟩
/-- SLC 0x158, R253: A result is recorded -/
def F.SLC_PIN_RESULT_VALID : Fld := ⟨.slc, 0x158, 0, 1, 31, 1, 0, 1, .rc, .none, 0, .any, false⟩
/-- SLC 0x180, R253: Entry pinned -/
def F.SLC_PIN_ENTRY_VALID : Fld := ⟨.slc, 0x180, 4, 16, 0, 1, 0, 1, .ro, .none, 0, .any, false⟩
/-- SLC 0x180, R253: FILL complete -/
def F.SLC_PIN_ENTRY_FILLED : Fld := ⟨.slc, 0x180, 4, 16, 1, 1, 0, 1, .ro, .none, 0, .any, false⟩
/-- SLC 0x180, R253: Ways of the entry -/
def F.SLC_PIN_ENTRY_WAYS : Fld := ⟨.slc, 0x180, 4, 16, 2, 4, 0, 1, .ro, .none, 0, .any, false⟩
/-- SLC 0x180, R253: Owner number -/
def F.SLC_PIN_ENTRY_OWNER : Fld := ⟨.slc, 0x180, 4, 16, 16, 14, 0, 1, .ro, .none, 0, .any, false⟩
/-- SLC 0x160, R253: Constrained victim choices per frame above which THRASH is set -/
def F.SLC_THRASH_CFG_LIMIT : Fld := ⟨.slc, 0x160, 0, 1, 0, 20, 0, 1, .rw, .l, 4096, .any, false⟩
/-- SLC 0x168, R253: ADDR holds an address -/
def F.SLC_UE_ADDR_VALID : Fld := ⟨.slc, 0x168, 0, 1, 0, 1, 0, 1, .rc, .none, 0, .any, false⟩
/-- SLC 0x168, R253: Line address of the first uncorrectable error since the last read -/
def F.SLC_UE_ADDR_ADDR : Fld := ⟨.slc, 0x168, 0, 1, 7, 57, 0, 1, .rc, .none, 0, .any, false⟩
/-- SLC 0x40, R253: Lookups that hit -/
def F.SLC_HITS : Fld := ⟨.slc, 0x40, 0, 1, 0, 32, 0, 1, .rc, .none, 0, .any, false⟩
/-- SLC 0x44, R253: Lookups that took a miss register -/
def F.SLC_MISSES : Fld := ⟨.slc, 0x44, 0, 1, 0, 32, 0, 1, .rc, .none, 0, .any, false⟩
/-- SLC 0x48, R253: Requests joined to a waiter list (R238) -/
def F.SLC_MERGED : Fld := ⟨.slc, 0x48, 0, 1, 0, 32, 0, 1, .rc, .none, 0, .any, false⟩
/-- SLC 0x4c, R253: Address matches with another owner or key (R235) -/
def F.SLC_OWNER_MISS : Fld := ⟨.slc, 0x4c, 0, 1, 0, 32, 0, 1, .rc, .none, 0, .any, false⟩
/-- SLC 0x50, R253: Lines written back -/
def F.SLC_WRITEBACKS : Fld := ⟨.slc, 0x50, 0, 1, 0, 32, 0, 1, .rc, .none, 0, .any, false⟩
/-- SLC 0x54, R253: REDUCE lines allocated -/
def F.SLC_REDUCE_ALLOC : Fld := ⟨.slc, 0x54, 0, 1, 0, 32, 0, 1, .rc, .none, 0, .any, false⟩
/-- SLC 0x58, R253: Locked read–combine–writes (R244) -/
def F.SLC_RESOLVES : Fld := ⟨.slc, 0x58, 0, 1, 0, 32, 0, 1, .rc, .none, 0, .any, false⟩
/-- SLC 0x5c, R253: Invalidations sent to L1 caches -/
def F.SLC_INVALS : Fld := ⟨.slc, 0x5c, 0, 1, 0, 32, 0, 1, .rc, .none, 0, .any, false⟩
/-- SLC 0x60, R253: Constrained victim choices (R237) -/
def F.SLC_CONSTRAINED : Fld := ⟨.slc, 0x60, 0, 1, 0, 32, 0, 1, .rc, .none, 0, .any, false⟩
/-- SLC 0x64, R253: Cycles in which a request waited for an eligible way -/
def F.SLC_VICTIM_WAIT : Fld := ⟨.slc, 0x64, 0, 1, 0, 32, 0, 1, .rc, .none, 0, .any, false⟩
/-- SLC 0x68, R253: Pinned-range lines allocated as ordinary lines -/
def F.SLC_PIN_OVERFLOW : Fld := ⟨.slc, 0x68, 0, 1, 0, 32, 0, 1, .rc, .none, 0, .any, false⟩
/-- SLC 0x6c, R253: Shadow reductions fetched because the list was full -/
def F.SLC_RLIST_FULL : Fld := ⟨.slc, 0x6c, 0, 1, 0, 32, 0, 1, .rc, .none, 0, .any, false⟩
/-- SLC 0x70, R253: Corrected single-bit errors -/
def F.SLC_CE : Fld := ⟨.slc, 0x70, 0, 1, 0, 32, 0, 1, .rc, .none, 0, .any, false⟩
/-- SLC 0x74, R253: Lines that entered POISON -/
def F.SLC_POISONED : Fld := ⟨.slc, 0x74, 0, 1, 0, 32, 0, 1, .rc, .none, 0, .any, false⟩
/-- MEMC 0x100, R278: 0: 8,533 MT/s. 1: 9,600 MT/s -/
def F.MEMC_CFG_RATE : Fld := ⟨.memc, 0x100, 0, 1, 0, 1, 0, 1, .rw, .s, 1, .any, false⟩
/-- MEMC 0x104, R278: 1: exclude channel c; ignored after the lock -/
def F.MEMC_CHAN_EXCLUDE : Fld := ⟨.memc, 0x104, 0, 1, 0, 1, 8, 4, .rw, .s, 0, .any, false⟩
/-- MEMC 0x104, R278: Channel c passed training -/
def F.MEMC_CHAN_TRAINED : Fld := ⟨.memc, 0x104, 0, 1, 1, 1, 8, 4, .ro, .none, 0, .any, false⟩
/-- MEMC 0x104, R278: Channel c out of service -/
def F.MEMC_CHAN_EXCLUDED : Fld := ⟨.memc, 0x104, 0, 1, 2, 1, 8, 4, .ro, .none, 0, .any, false⟩
/-- MEMC 0x104, R278: MR4 reports channel c above its rated range -/
def F.MEMC_CHAN_HOT : Fld := ⟨.memc, 0x104, 0, 1, 3, 1, 8, 4, .ro, .none, 0, .any, false⟩
/-- MEMC 0x108, R278: First device address of group g, valid after the lock -/
def F.MEMC_RANGE_BASE_BASE : Fld := ⟨.memc, 0x108, 0, 1, 0, 64, 0, 1, .ro, .none, 0, .any, false⟩
/-- MEMC 0x110, R278: Range length in bytes (R256) -/
def F.MEMC_RANGE_SIZE_SIZE : Fld := ⟨.memc, 0x110, 0, 1, 0, 64, 0, 1, .ro, .none, 0, .any, false⟩
/-- MEMC 0x118, R278: 1: compute and fix all ranges (R257) -/
def F.MEMC_LAYOUT_LOCK : Fld := ⟨.memc, 0x118, 0, 1, 0, 1, 0, 1, .wo, .none, 0, .any, false⟩
/-- MEMC 0x118, R278: Ranges fixed -/
def F.MEMC_LAYOUT_LOCKED : Fld := ⟨.memc, 0x118, 0, 1, 1, 1, 0, 1, .ro, .none, 0, .any, false⟩
/-- MEMC 0x11c, R278: Multiplier in use on channel c. 0: 0.25×. 1: 0.5×. 2: 1×. 3: 2×. 4: 4×. 5–7: reserved -/
def F.MEMC_REFRESH_MULT : Fld := ⟨.memc, 0x11c, 0, 1, 0, 3, 3, 4, .ro, .none, 1170, .any, false⟩
/-- MEMC 0x11c, R278: 1: use FORCE_MULT on all channels (R271) -/
def F.MEMC_REFRESH_FORCE : Fld := ⟨.memc, 0x11c, 0, 1, 24, 1, 0, 1, .rw, .l, 0, .any, false⟩
/-- MEMC 0x11c, R278: Codes as MULT_c -/
def F.MEMC_REFRESH_FORCE_MULT : Fld := ⟨.memc, 0x11c, 0, 1, 25, 3, 0, 1, .rw, .l, 2, .range 0 4, false⟩
/-- MEMC 0x120, R278: ADDR holds an address -/
def F.MEMC_UE_ADDR_VALID : Fld := ⟨.memc, 0x120, 0, 1, 0, 1, 0, 1, .rc, .none, 0, .any, false⟩
/-- MEMC 0x120, R278: Cause was an address-parity mismatch -/
def F.MEMC_UE_ADDR_ADDRESS : Fld := ⟨.memc, 0x120, 0, 1, 1, 1, 0, 1, .rc, .none, 0, .any, false⟩
/-- MEMC 0x120, R278: Sector address of the first uncorrectable error since the last read -/
def F.MEMC_UE_ADDR_ADDR : Fld := ⟨.memc, 0x120, 0, 1, 5, 59, 0, 1, .rc, .none, 0, .any, false⟩
/-- PCIE 0x300, R278: Device address of window offset 0, in 64 KiB units -/
def F.PCIE_BAR2_MAP_BASE : Fld := ⟨.pcie, 0x300, 0, 1, 16, 24, 0, 1, .rw, .l, 0, .any, false⟩
/-- MEMC 0x40, R278: 64-byte data read bursts -/
def F.MEMC_READ_BURSTS : Fld := ⟨.memc, 0x40, 0, 1, 0, 32, 0, 1, .rc, .none, 0, .any, false⟩
/-- MEMC 0x44, R278: 64-byte data write bursts -/
def F.MEMC_WRITE_BURSTS : Fld := ⟨.memc, 0x44, 0, 1, 0, 32, 0, 1, .rc, .none, 0, .any, false⟩
/-- MEMC 0x48, R278: Column commands to an open row -/
def F.MEMC_ROW_HITS : Fld := ⟨.memc, 0x48, 0, 1, 0, 32, 0, 1, .rc, .none, 0, .any, false⟩
/-- MEMC 0x4c, R278: Activations -/
def F.MEMC_ROW_MISSES : Fld := ⟨.memc, 0x4c, 0, 1, 0, 32, 0, 1, .rc, .none, 0, .any, false⟩
/-- MEMC 0x50, R278: Check-cache misses (R262) -/
def F.MEMC_CHECK_MISSES : Fld := ⟨.memc, 0x50, 0, 1, 0, 32, 0, 1, .rc, .none, 0, .any, false⟩
/-- MEMC 0x54, R278: Partial-sector writes (R263) -/
def F.MEMC_RMW : Fld := ⟨.memc, 0x54, 0, 1, 0, 32, 0, 1, .rc, .none, 0, .any, false⟩
/-- MEMC 0x58, R278: Corrected sectors -/
def F.MEMC_CE : Fld := ⟨.memc, 0x58, 0, 1, 0, 32, 0, 1, .rc, .none, 0, .any, false⟩
/-- MEMC 0x5c, R278: Uncorrectable sectors -/
def F.MEMC_UE : Fld := ⟨.memc, 0x5c, 0, 1, 0, 32, 0, 1, .rc, .none, 0, .any, false⟩
/-- MEMC 0x60, R278: Requests that waited for a key (R266) -/
def F.MEMC_KEY_MISS : Fld := ⟨.memc, 0x60, 0, 1, 0, 32, 0, 1, .rc, .none, 0, .any, false⟩
/-- MEMC 0x64, R278: Requests served by the age rule of R268 -/
def F.MEMC_AGED : Fld := ⟨.memc, 0x64, 0, 1, 0, 32, 0, 1, .rc, .none, 0, .any, false⟩
/-- PCIE 0x50, R278: Window accesses outside every group (R277) -/
def F.PCIE_WIN_HOLE : Fld := ⟨.pcie, 0x50, 0, 1, 0, 32, 0, 1, .rc, .none, 0, .any, false⟩
/-- MEMC 0x200, R297: Slots that class c may hold, 1 to 512 (R283) -/
def F.MEMC_CLASS_CAP_CAP : Fld := ⟨.memc, 0x200, 4, 16, 0, 10, 0, 1, .rw, .t, 512, .range 1 512, false⟩
/-- MEMC 0x200, R297: Cap in effect -/
def F.MEMC_CLASS_CAP_CAP_EFF : Fld := ⟨.memc, 0x200, 4, 16, 16, 10, 0, 1, .ro, .none, 512, .any, false⟩
/-- MEMC 0x240, R297: 0: SERVICE. 1: PARTITION (R285) -/
def F.MEMC_REG_MODE : Fld := ⟨.memc, 0x240, 0, 1, 0, 1, 0, 1, .rw, .l, 1, .any, false⟩
/-- MEMC 0x240, R297: PARTITION mode in force -/
def F.MEMC_REG_MODE_EFF : Fld := ⟨.memc, 0x240, 0, 1, 1, 1, 0, 1, .ro, .none, 1, .any, false⟩
/-- MEMC 0x240, R297: In force because a slice of the group is RETIRING -/
def F.MEMC_REG_AUTO : Fld := ⟨.memc, 0x240, 0, 1, 2, 1, 0, 1, .ro, .none, 0, .any, false⟩
/-- MEMC 0x244, R297: Partition of rotation entry i (R286) -/
def F.MEMC_ROT_ENTRY : Fld := ⟨.memc, 0x244, 0, 1, 0, 2, 2, 16, .rw, .l, 0xe626e626, .any, false⟩
/-- SLC 0x200, R297: Miss registers that class c may hold, 1 to 96 (R282) -/
def F.SLC_CLASS_CAP_CAP : Fld := ⟨.slc, 0x200, 4, 16, 0, 7, 0, 1, .rw, .t, 96, .range 1 96, false⟩
/-- SLC 0x200, R297: Cap in effect -/
def F.SLC_CLASS_CAP_CAP_EFF : Fld := ⟨.slc, 0x200, 4, 16, 8, 7, 0, 1, .ro, .none, 96, .any, false⟩
/-- SLC 0x240, R297: Run-ahead lines, 0 to 32 (R291) -/
def F.SLC_RA_CFG_DEPTH : Fld := ⟨.slc, 0x240, 0, 1, 0, 6, 0, 1, .rw, .t, 8, .range 0 32, false⟩
/-- SLC 0x240, R297: Background class -/
def F.SLC_RA_CFG_CLASS : Fld := ⟨.slc, 0x240, 0, 1, 8, 4, 0, 1, .rw, .t, 15, .any, false⟩
/-- SLC 0x240, R297: Depth in effect -/
def F.SLC_RA_CFG_DEPTH_EFF : Fld := ⟨.slc, 0x240, 0, 1, 16, 6, 0, 1, .ro, .none, 8, .any, false⟩
/-- SLC 0x240, R297: Background class in effect -/
def F.SLC_RA_CFG_CLASS_EFF : Fld := ⟨.slc, 0x240, 0, 1, 24, 4, 0, 1, .ro, .none, 15, .any, false⟩
/-- BLK 0x680, R297: Stream prefetch lines ahead, 0 to 64 (R290) -/
def F.BLK_PF_CFG_DEPTH : Fld := ⟨.blk, 0x680, 0, 1, 0, 7, 0, 1, .rw, .t, 16, .range 0 64, false⟩
/-- BLK 0x680, R297: Depth in effect -/
def F.BLK_PF_CFG_DEPTH_EFF : Fld := ⟨.blk, 0x680, 0, 1, 16, 7, 0, 1, .ro, .none, 16, .any, false⟩
/-- MEMC 0x68, R297: Overdue latency-critical reads served (R284) -/
def F.MEMC_DL_MISSED : Fld := ⟨.memc, 0x68, 0, 1, 0, 32, 0, 1, .rc, .none, 0, .any, false⟩
/-- MEMC 0x6c, R297: Latency-critical reads served -/
def F.MEMC_LC_READS : Fld := ⟨.memc, 0x6c, 0, 1, 0, 32, 0, 1, .rc, .none, 0, .any, false⟩
/-- MEMC 0x70, R297: Cycles with any bank holding 64 slots (R287) -/
def F.MEMC_BANK_FULL : Fld := ⟨.memc, 0x70, 0, 1, 0, 32, 0, 1, .rc, .none, 0, .any, false⟩
/-- MEMC 0x74, R297: Cycles with a line request held back by a class cap (R283) -/
def F.MEMC_CLASS_FULL : Fld := ⟨.memc, 0x74, 0, 1, 0, 32, 0, 1, .rc, .none, 0, .any, false⟩
/-- SLC 0x78, R297: Requests not taken (R282, R287, R238) -/
def F.SLC_REFUSED : Fld := ⟨.slc, 0x78, 0, 1, 0, 32, 0, 1, .rc, .none, 0, .any, false⟩
/-- SLC 0x7c, R297: Miss registers marked HELD -/
def F.SLC_HELD : Fld := ⟨.slc, 0x7c, 0, 1, 0, 32, 0, 1, .rc, .none, 0, .any, false⟩
/-- SLC 0x80, R297: Prefetch fills started, both sources (R293) -/
def F.SLC_PF_ISSUED : Fld := ⟨.slc, 0x80, 0, 1, 0, 32, 0, 1, .rc, .none, 0, .any, false⟩
/-- SLC 0x84, R297: Stream prefetches useful (R294) -/
def F.SLC_STREAM_USEFUL : Fld := ⟨.slc, 0x84, 0, 1, 0, 32, 0, 1, .rc, .none, 0, .any, false⟩
/-- SLC 0x88, R297: Stream prefetches late -/
def F.SLC_STREAM_LATE : Fld := ⟨.slc, 0x88, 0, 1, 0, 32, 0, 1, .rc, .none, 0, .any, false⟩
/-- SLC 0x8c, R297: Run-ahead prefetches useful -/
def F.SLC_RA_USEFUL : Fld := ⟨.slc, 0x8c, 0, 1, 0, 32, 0, 1, .rc, .none, 0, .any, false⟩
/-- SLC 0x90, R297: Run-ahead prefetches late -/
def F.SLC_RA_LATE : Fld := ⟨.slc, 0x90, 0, 1, 0, 32, 0, 1, .rc, .none, 0, .any, false⟩
/-- SLC 0x94, R297: Run-ahead lines dropped at RA_LIMIT (R292) -/
def F.SLC_RA_DROP_BOUNDARY : Fld := ⟨.slc, 0x94, 0, 1, 0, 32, 0, 1, .rc, .none, 0, .any, false⟩
/-- SLC 0x98, R297: Prefetches dropped under R293 -/
def F.SLC_RA_DROP_BUSY : Fld := ⟨.slc, 0x98, 0, 1, 0, 32, 0, 1, .rc, .none, 0, .any, false⟩
/-- BLK 0xb8, R297: Stream prefetches sent by the Block DMA -/
def F.BLK_PF_STREAM_SENT : Fld := ⟨.blk, 0xb8, 0, 1, 0, 32, 0, 1, .rc, .none, 0, .any, false⟩
/-- BLK 0xbc, R297: Stream prefetch lines dropped at RA_LIMIT -/
def F.BLK_PF_DROP_BOUNDARY : Fld := ⟨.blk, 0xbc, 0, 1, 0, 32, 0, 1, .rc, .none, 0, .any, false⟩
/-- GATH 0x58, R297: Rows moved by DGATHER -/
def F.GATH_G_ROWS : Fld := ⟨.gath, 0x58, 0, 1, 0, 32, 0, 1, .rc, .none, 0, .any, false⟩
/-- GATH 0x5c, R297: Row fetches saved (R295) -/
def F.GATH_G_MERGED : Fld := ⟨.gath, 0x5c, 0, 1, 0, 32, 0, 1, .rc, .none, 0, .any, false⟩
/-- GATH 0x60, R297: Line requests not taken by a slice -/
def F.GATH_G_REFUSED : Fld := ⟨.gath, 0x60, 0, 1, 0, 32, 0, 1, .rc, .none, 0, .any, false⟩
/-- ERRQ 0x100, R323: Words of the head entry; zero when the queue is empty -/
def F.ERRQ_HEAD : Fld := ⟨.errq, 0x100, 4, 8, 0, 32, 0, 1, .ro, .none, 0, .any, false⟩
/-- ERRQ 0x120, R323: 1: remove the head entry -/
def F.ERRQ_POP : Fld := ⟨.errq, 0x120, 0, 1, 0, 1, 0, 1, .wo, .none, 0, .any, false⟩
/-- ERRQ 0x124, R323: Entries held, 0 to 64 -/
def F.ERRQ_COUNT : Fld := ⟨.errq, 0x124, 0, 1, 0, 7, 0, 1, .ro, .none, 0, .any, false⟩
/-- ERRQ 0x124, R323: FATAL latched (R315) -/
def F.ERRQ_FATAL : Fld := ⟨.errq, 0x124, 0, 1, 7, 1, 0, 1, .ro, .none, 0, .any, false⟩
/-- ERRQ 0x128, R323: Fill that raises source 17; 1 to 63 -/
def F.ERRQ_HIGH_WATER : Fld := ⟨.errq, 0x128, 0, 1, 0, 6, 0, 1, .rw, .l, 48, .range 1 63, false⟩
/-- ERRQ 0x12c, R323: 1: overflow. 2: storage error. 3: self-test. 4: firmware. Others reserved -/
def F.ERRQ_FATAL_CAUSE : Fld := ⟨.errq, 0x12c, 0, 1, 0, 3, 0, 1, .ro, .none, 0, .any, false⟩
/-- ERRQ 0x130, R323: 1: enter FATAL -/
def F.ERRQ_FATAL_SET : Fld := ⟨.errq, 0x130, 0, 1, 0, 1, 0, 1, .wo, .none, 0, .any, false⟩
/-- ERRQ 0x140, R323: Scrub pass in hours, 1 to 168 -/
def F.ERRQ_PERIOD_H : Fld := ⟨.errq, 0x140, 0, 1, 0, 8, 0, 1, .rw, .t, 24, .range 1 168, false⟩
/-- ERRQ 0x140, R323: Scrub walkers run -/
def F.ERRQ_ENABLE : Fld := ⟨.errq, 0x140, 0, 1, 8, 1, 0, 1, .rw, .t, 1, .any, false⟩
/-- ERRQ 0x140, R323: Pass length in effect -/
def F.ERRQ_PERIOD_EFF : Fld := ⟨.errq, 0x140, 0, 1, 16, 8, 0, 1, .ro, .none, 24, .any, false⟩
/-- ERRQ 0x140, R323: Walkers running -/
def F.ERRQ_ENABLE_EFF : Fld := ⟨.errq, 0x140, 0, 1, 24, 1, 0, 1, .ro, .none, 1, .any, false⟩
/-- ERRQ 0x144, R323: Full scrub passes completed -/
def F.ERRQ_PASSES : Fld := ⟨.errq, 0x144, 0, 1, 0, 16, 0, 1, .ro, .none, 0, .any, false⟩
/-- ERRQ 0x144, R323: Percent of the current pass, lowest walker -/
def F.ERRQ_PROGRESS : Fld := ⟨.errq, 0x144, 0, 1, 16, 7, 0, 1, .ro, .none, 0, .any, false⟩
/-- ERRQ 0x148, R323: Checkers that failed self-test (R308) -/
def F.ERRQ_ST_FAILS : Fld := ⟨.errq, 0x148, 0, 1, 0, 16, 0, 1, .ro, .none, 0, .any, false⟩
/-- ERRQ 0x148, R323: Page index of the first failing unit -/
def F.ERRQ_ST_PAGE : Fld := ⟨.errq, 0x148, 0, 1, 16, 16, 0, 1, .ro, .none, 0, .any, false⟩
/-- ERRQ 0x150, R323: Page index of a BLK, SLC or MEMC unit; other pages ignore -/
def F.ERRQ_INJ_PAGE : Fld := ⟨.errq, 0x150, 0, 1, 0, 16, 0, 1, .wo, .none, 0, .any, false⟩
/-- ERRQ 0x150, R323: 1: one bit, 2: two bits flipped in the next protected word the unit writes -/
def F.ERRQ_INJ_KIND : Fld := ⟨.errq, 0x150, 0, 1, 16, 2, 0, 1, .wo, .none, 0, .any, false⟩
/-- ERRQ 0x40, R323: Reports not stored (R311) -/
def F.ERRQ_SUPPRESSED : Fld := ⟨.errq, 0x40, 0, 1, 0, 32, 0, 1, .rc, .none, 0, .any, false⟩
/-- ERRQ 0x44, R323: Entries stored -/
def F.ERRQ_ENTRIES : Fld := ⟨.errq, 0x44, 0, 1, 0, 32, 0, 1, .rc, .none, 0, .any, false⟩
/-- ERRQ 0x48, R323: CE-table replacements (R303) -/
def F.ERRQ_CE_REPLACED : Fld := ⟨.errq, 0x48, 0, 1, 0, 32, 0, 1, .rc, .none, 0, .any, false⟩
/-- BOND 0x100, R323: Corrections that make a wire failing, 1 to 255 -/
def F.BOND_THRESH : Fld := ⟨.bond, 0x100, 0, 1, 0, 8, 0, 1, .rw, .l, 16, .range 1 255, false⟩
/-- BOND 0x100, R323: Window in ticks, 1 to 65,535 -/
def F.BOND_WINDOW : Fld := ⟨.bond, 0x100, 0, 1, 16, 16, 0, 1, .rw, .l, 2000, .range 1 65535, false⟩
/-- BOND 0x104, R323: Slice fields: 0 FULL, 1 HALF, 2 RETIRED. District fields: 0 -/
def F.BOND_MODE : Fld := ⟨.bond, 0x104, 0, 1, 0, 2, 0, 1, .ro, .none, 0, .any, false⟩
/-- BOND 0x104, R323: Spares steered in -/
def F.BOND_SPARES_USED : Fld := ⟨.bond, 0x104, 0, 1, 2, 11, 0, 1, .ro, .none, 0, .any, false⟩
/-- BOND 0x104, R323: Spares of the field -/
def F.BOND_SPARES_TOTAL : Fld := ⟨.bond, 0x104, 0, 1, 13, 11, 0, 1, .ro, .none, 0, .any, true⟩
/-- BOND 0x104, R323: A change waits for step 3 -/
def F.BOND_PENDING : Fld := ⟨.bond, 0x104, 0, 1, 24, 1, 0, 1, .ro, .none, 0, .any, false⟩
/-- BOND 0x108, R323: District fields: site 16j + i; 0 FULL, 1 HALF, 2 RETIRED; slice fields read zero -/
def F.BOND_SITE_MODE : Fld := ⟨.bond, 0x108, 4, 3, 0, 2, 2, 16, .ro, .none, 0, .any, false⟩
/-- BOND 0x140, R323: Wire, count and VALID of tracker entry i, i = 0 to 15 -/
def F.BOND_TRACK_WIRE : Fld := ⟨.bond, 0x140, 4, 16, 0, 16, 0, 1, .ro, .none, 0, .any, false⟩
/-- BOND 0x140, R323: Wire, count and VALID of tracker entry i, i = 0 to 15 -/
def F.BOND_TRACK_COUNT : Fld := ⟨.bond, 0x140, 4, 16, 16, 8, 0, 1, .ro, .none, 0, .any, false⟩
/-- BOND 0x140, R323: Wire, count and VALID of tracker entry i, i = 0 to 15 -/
def F.BOND_TRACK_VALID : Fld := ⟨.bond, 0x140, 4, 16, 24, 1, 0, 1, .ro, .none, 0, .any, false⟩
/-- BOND 0x40, R323: Corrected bond errors -/
def F.BOND_CE : Fld := ⟨.bond, 0x40, 0, 1, 0, 32, 0, 1, .rc, .none, 0, .any, false⟩
/-- BOND 0x44, R323: Parity errors -/
def F.BOND_PARITY : Fld := ⟨.bond, 0x44, 0, 1, 0, 32, 0, 1, .rc, .none, 0, .any, false⟩
/-- BOND 0x48, R323: Spare substitutions -/
def F.BOND_SUBST : Fld := ⟨.bond, 0x48, 0, 1, 0, 32, 0, 1, .rc, .none, 0, .any, false⟩
/-- BOND 0x4c, R323: Wire-group tests run (R319) -/
def F.BOND_GROUP_TESTS : Fld := ⟨.bond, 0x4c, 0, 1, 0, 32, 0, 1, .rc, .none, 0, .any, false⟩
/-- SEC 0x100, R356: AK derived and its certificate built -/
def F.SEC_STATUS_AK_READY : Fld := ⟨.sec, 0x100, 0, 1, 0, 1, 0, 1, .ro, .none, 0, .any, false⟩
/-- SEC 0x100, R356: Entropy health tests pass -/
def F.SEC_STATUS_DRBG_OK : Fld := ⟨.sec, 0x100, 0, 1, 1, 1, 0, 1, .ro, .none, 0, .any, false⟩
/-- SEC 0x100, R356: SVN of the running image -/
def F.SEC_STATUS_FW_SVN : Fld := ⟨.sec, 0x100, 0, 1, 8, 7, 0, 1, .ro, .none, 0, .any, false⟩
/-- SEC 0x100, R356: R333 -/
def F.SEC_STATUS_FUSE_SVN : Fld := ⟨.sec, 0x100, 0, 1, 16, 7, 0, 1, .ro, .none, 0, .any, false⟩
/-- SEC 0x10c, R356: Open provisioning sessions, 0 to 16 -/
def F.SEC_SESSIONS_OPEN : Fld := ⟨.sec, 0x10c, 0, 1, 0, 5, 0, 1, .ro, .none, 0, .any, false⟩
/-- SEC 0x10c, R356: Measurement-table entries in use, 0 to 2,048 -/
def F.SEC_SESSIONS_MEAS_USED : Fld := ⟨.sec, 0x10c, 0, 1, 16, 12, 0, 1, .ro, .none, 0, .any, false⟩
/-- SEC 0x104, R356: Context n -/
def F.SEC_BIND_REQ_CTX : Fld := ⟨.sec, 0x104, 0, 1, 0, 10, 0, 1, .wo, .none, 0, .any, false⟩
/-- SEC 0x104, R356: Slot j -/
def F.SEC_BIND_REQ_SLOT : Fld := ⟨.sec, 0x104, 0, 1, 10, 6, 0, 1, .wo, .none, 0, .any, false⟩
/-- SEC 0x104, R356: Tenant t -/
def F.SEC_BIND_REQ_TENANT : Fld := ⟨.sec, 0x104, 0, 1, 16, 12, 0, 1, .wo, .none, 0, .any, false⟩
/-- SEC 0x104, R356: 1: withdraw slot j -/
def F.SEC_BIND_REQ_CLEAR : Fld := ⟨.sec, 0x104, 0, 1, 28, 1, 0, 1, .wo, .none, 0, .any, false⟩
/-- SEC 0x108, R356: Context of the first refused grant since the last read -/
def F.SEC_BIND_RESULT_CTX : Fld := ⟨.sec, 0x108, 0, 1, 0, 10, 0, 1, .rc, .none, 0, .any, false⟩
/-- SEC 0x108, R356: Its slot -/
def F.SEC_BIND_RESULT_SLOT : Fld := ⟨.sec, 0x108, 0, 1, 10, 6, 0, 1, .rc, .none, 0, .any, false⟩
/-- SEC 0x108, R356: 1: slot not PROVISIONED. 2: measurement not in policy. 3: FW_SVN below MIN_FW_SVN. Others reserved -/
def F.SEC_BIND_RESULT_REASON : Fld := ⟨.sec, 0x108, 0, 1, 16, 4, 0, 1, .rc, .none, 0, .any, false⟩
/-- SEC 0x108, R356: A refusal is recorded -/
def F.SEC_BIND_RESULT_VALID : Fld := ⟨.sec, 0x108, 0, 1, 31, 1, 0, 1, .rc, .none, 0, .any, false⟩
/-- SEC 0x800, R356: Tenant 16i + k. 0: EMPTY. 1: PROVISIONED. 2: PROVISIONED and bound in a context that is not EMPTY. 3: REVOKING -/
def F.SEC_TENANT_STATE : Fld := ⟨.sec, 0x800, 4, 256, 0, 2, 2, 16, .ro, .none, 0, .any, false⟩
/-- SEC 0x40, R356: Inbound envelopes opened -/
def F.SEC_ENV_OPENED : Fld := ⟨.sec, 0x40, 0, 1, 0, 32, 0, 1, .rc, .none, 0, .any, false⟩
/-- SEC 0x44, R356: Envelopes failing format, context or tag (R345) -/
def F.SEC_ENV_AUTH_FAIL : Fld := ⟨.sec, 0x44, 0, 1, 0, 32, 0, 1, .rc, .none, 0, .any, false⟩
/-- SEC 0x48, R356: Envelopes failing the SEQ rule -/
def F.SEC_ENV_SEQ_FAIL : Fld := ⟨.sec, 0x48, 0, 1, 0, 32, 0, 1, .rc, .none, 0, .any, false⟩
/-- SEC 0x4c, R356: Outbound envelopes sealed -/
def F.SEC_ENV_SEALED : Fld := ⟨.sec, 0x4c, 0, 1, 0, 32, 0, 1, .rc, .none, 0, .any, false⟩
/-- SEC 0x50, R356: Slots granted (R340) -/
def F.SEC_BIND_GRANTED : Fld := ⟨.sec, 0x50, 0, 1, 0, 32, 0, 1, .rc, .none, 0, .any, false⟩
/-- SEC 0x54, R356: Slots refused -/
def F.SEC_BIND_REFUSED : Fld := ⟨.sec, 0x54, 0, 1, 0, 32, 0, 1, .rc, .none, 0, .any, false⟩
/-- SEC 0x58, R356: Successful PROV_IMPORT commands -/
def F.SEC_IMPORTS : Fld := ⟨.sec, 0x58, 0, 1, 0, 32, 0, 1, .rc, .none, 0, .any, false⟩
/-- SEC 0x5c, R356: Slots returned to EMPTY by REVOKE -/
def F.SEC_REVOKES : Fld := ⟨.sec, 0x5c, 0, 1, 0, 32, 0, 1, .rc, .none, 0, .any, false⟩
/-- CH 0x0, R362: 1: the channel is polled and fed -/
def F.CH_ENABLE : Fld := ⟨.ch, 0x0, 0, 1, 0, 1, 0, 1, .rw, .l, 0, .any, false⟩
/-- CH 0x0, R362: 1: set HEAD, FETCHED, TAIL_SEEN and DELIVERED to 0 and clear DOWN; performed only while ENABLE is 0 -/
def F.CH_RESET : Fld := ⟨.ch, 0x0, 0, 1, 1, 1, 0, 1, .wo, .none, 0, .any, false⟩
/-- CH 0x4, R362: Channel stopped by link loss or function reset (R379) -/
def F.CH_DOWN : Fld := ⟨.ch, 0x4, 0, 1, 0, 1, 0, 1, .ro, .none, 0, .any, false⟩
/-- CH 0x4, R362: A tail value more than the ring size ahead of HEAD was read -/
def F.CH_RING_ERR : Fld := ⟨.ch, 0x4, 0, 1, 1, 1, 0, 1, .w1c, .none, 0, .any, false⟩
/-- CH 0x4, R362: A class-S write was dropped -/
def F.CH_CFG_REJECT : Fld := ⟨.ch, 0x4, 0, 1, 2, 1, 0, 1, .w1c, .none, 0, .any, false⟩
/-- CH 0x4, R362: A delivery of this channel is in progress -/
def F.CH_OUT_BUSY : Fld := ⟨.ch, 0x4, 0, 1, 3, 1, 0, 1, .ro, .none, 0, .any, false⟩
/-- CH 0x8, R362: Ring entries 2^LOG2, 4 to 16 -/
def F.CH_LOG2 : Fld := ⟨.ch, 0x8, 0, 1, 0, 5, 0, 1, .rw, .s, 4, .range 4 16, false⟩
/-- CH 0x10, R362: Submission ring, 64-byte aligned -/
def F.CH_RING_BASE : Fld := ⟨.ch, 0x10, 0, 1, 0, 64, 0, 1, .rw, .s, 0, .mult 64, false⟩
/-- CH 0x18, R362: Completion ring, 32-byte aligned, 32 bytes per entry -/
def F.CH_CQ_BASE : Fld := ⟨.ch, 0x18, 0, 1, 0, 64, 0, 1, .rw, .s, 0, .mult 32, false⟩
/-- CH 0x20, R362: Tail word, 8-byte aligned -/
def F.CH_TAIL_ADDR : Fld := ⟨.ch, 0x20, 0, 1, 0, 64, 0, 1, .rw, .s, 0, .mult 8, false⟩
/-- CH 0x28, R362: Context address of the intake area, multiple of 32 -/
def F.CH_IN_AREA : Fld := ⟨.ch, 0x28, 0, 1, 0, 64, 0, 1, .rw, .s, 0, .mult 32, false⟩
/-- CH 0x30, R362: Bytes per intake half, multiple of 32, 4,096 to 33,554,432 -/
def F.CH_IN_SIZE : Fld := ⟨.ch, 0x30, 0, 1, 0, 32, 0, 1, .rw, .s, 0, .multRange 32 4096 33554432, false⟩
/-- CH 0x34, R362: Vector raised for completions -/
def F.CH_CQ_VEC : Fld := ⟨.ch, 0x34, 0, 1, 0, 11, 0, 1, .rw, .s, 0, .any, false⟩
/-- CH 0x34, R362: Vector raised for deliveries -/
def F.CH_DLV_VEC : Fld := ⟨.ch, 0x34, 0, 1, 16, 11, 0, 1, .rw, .s, 0, .any, false⟩
/-- CH 0x38, R362: Context address of the output table, multiple of 8 -/
def F.CH_OUT_AREA : Fld := ⟨.ch, 0x38, 0, 1, 0, 64, 0, 1, .rw, .s, 0, .mult 8, false⟩
/-- CH 0x40, R362: Submissions consumed, modulo 2³² -/
def F.CH_HEAD : Fld := ⟨.ch, 0x40, 0, 1, 0, 32, 0, 1, .ro, .none, 0, .any, false⟩
/-- CH 0x44, R362: Last tail value returned -/
def F.CH_TAIL_SEEN : Fld := ⟨.ch, 0x44, 0, 1, 0, 32, 0, 1, .ro, .none, 0, .any, false⟩
/-- CH 0x48, R362: Submissions delivered, modulo 2³² -/
def F.CH_DELIVERED : Fld := ⟨.ch, 0x48, 0, 1, 0, 32, 0, 1, .ro, .none, 0, .any, false⟩
/-- CH 0x4c, R362: Fetch position: submissions fetched into held intakes or consumed, modulo 2³² (R63) -/
def F.CH_FETCHED : Fld := ⟨.ch, 0x4c, 0, 1, 0, 32, 0, 1, .ro, .none, 0, .any, false⟩
/-- PCIE 0x100, R380: 0: down. 1 to 6: 2.5, 5, 8, 16, 32, 64 GT/s. 7: reserved -/
def F.PCIE_LINK_RATE : Fld := ⟨.pcie, 0x100, 0, 1, 0, 3, 0, 1, .ro, .none, 0, .any, false⟩
/-- PCIE 0x100, R380: Lanes, 1 to 16 -/
def F.PCIE_LINK_WIDTH : Fld := ⟨.pcie, 0x100, 0, 1, 3, 5, 0, 1, .ro, .none, 0, .any, false⟩
/-- PCIE 0x100, R380: FLIT mode in use -/
def F.PCIE_LINK_FLIT : Fld := ⟨.pcie, 0x100, 0, 1, 8, 1, 0, 1, .ro, .none, 0, .any, false⟩
/-- PCIE 0x100, R380: Link in L1 -/
def F.PCIE_LINK_L1 : Fld := ⟨.pcie, 0x100, 0, 1, 9, 1, 0, 1, .ro, .none, 0, .any, false⟩
/-- PCIE 0x104, R380: This port holds primary authority -/
def F.PCIE_AUTH_HOLDER : Fld := ⟨.pcie, 0x104, 0, 1, 0, 1, 0, 1, .ro, .none, 0, .any, true⟩
/-- PCIE 0x104, R380: Holder link-down time before a claim, ms, 100 to 60,000 -/
def F.PCIE_AUTH_CLAIM_MS : Fld := ⟨.pcie, 0x104, 0, 1, 16, 16, 0, 1, .rw, .l, 2000, .range 100 60000, false⟩
/-- PCIE 0x108, R380: Time in ms since the other port's link went down; 0 while it is up -/
def F.PCIE_PEER_DOWN_MS : Fld := ⟨.pcie, 0x108, 0, 1, 0, 32, 0, 1, .ro, .none, 0, .any, false⟩
/-- PCIE 0x400, R380: Owner of channel 4j + k: 0 the PF; 1 to 16 VF 0 to 15; others reserved (R361) -/
def F.PCIE_CHAN_OWNER_FUNC : Fld := ⟨.pcie, 0x400, 4, 32, 0, 5, 8, 4, .rw, .s, 0, .range 0 16, false⟩
/-- PCIE 0x40, R380: Tail-word reads issued -/
def F.PCIE_TAIL_READS : Fld := ⟨.pcie, 0x40, 0, 1, 0, 32, 0, 1, .rc, .none, 0, .any, false⟩
/-- PCIE 0x44, R380: Intake bytes fetched, in units of 1,024 -/
def F.PCIE_INTAKE_BYTES : Fld := ⟨.pcie, 0x44, 0, 1, 0, 32, 0, 1, .rc, .none, 0, .any, false⟩
/-- PCIE 0x48, R380: Completions not written (R378) -/
def F.PCIE_LOST_COMPL : Fld := ⟨.pcie, 0x48, 0, 1, 0, 32, 0, 1, .rc, .none, 0, .any, false⟩
/-- PCIE 0x4c, R380: Deliveries not written (R378) -/
def F.PCIE_LOST_DLV : Fld := ⟨.pcie, 0x4c, 0, 1, 0, 32, 0, 1, .rc, .none, 0, .any, false⟩
/-- PCIE 0x54, R380: MSI-X messages not sent because the link was down or the function in reset (R377) -/
def F.PCIE_LOST_MSI : Fld := ⟨.pcie, 0x54, 0, 1, 0, 32, 0, 1, .rc, .none, 0, .any, false⟩
/-- TICK 0x11c, R404: Added tick delay in ns, 0 to 2,000 -/
def F.TICK_IN_COMP_NS : Fld := ⟨.tick, 0x11c, 0, 1, 0, 11, 0, 1, .rw, .t, 0, .range 0 2000, false⟩
/-- TICK 0x11c, R404: Delay in effect -/
def F.TICK_IN_COMP_NS_EFF : Fld := ⟨.tick, 0x11c, 0, 1, 16, 11, 0, 1, .ro, .none, 0, .any, false⟩
/-- FAB 0x100, R406: 0 DOWN, 1 TRAINING, 2 SESSION, 3 ACTIVE, 4 HELD, 5 FAILED; 6, 7 reserved -/
def F.FAB_STATE : Fld := ⟨.fab, 0x100, 0, 1, 0, 3, 0, 1, .ro, .none, 0, .any, false⟩
/-- FAB 0x100, R406: Waiting under R402 -/
def F.FAB_COLD_HELD : Fld := ⟨.fab, 0x100, 0, 1, 3, 1, 0, 1, .ro, .none, 0, .any, false⟩
/-- FAB 0x100, R406: A good spare is available -/
def F.FAB_SPARE_GOOD : Fld := ⟨.fab, 0x100, 0, 1, 4, 1, 0, 1, .ro, .none, 0, .any, false⟩
/-- FAB 0x100, R406: Bit n set: physical lane n good -/
def F.FAB_LANES_GOOD : Fld := ⟨.fab, 0x100, 0, 1, 13, 9, 0, 1, .ro, .none, 0, .any, false⟩
/-- FAB 0x104, R406: Corrected symbols per lane per ms that mark a lane failing -/
def F.FAB_THRESH : Fld := ⟨.fab, 0x104, 0, 1, 0, 16, 0, 1, .rw, .l, 4096, .any, false⟩
/-- FAB 0x40, R406: Packets sent, resends excluded -/
def F.FAB_TX_PKTS : Fld := ⟨.fab, 0x40, 0, 1, 0, 32, 0, 1, .rc, .none, 0, .any, false⟩
/-- FAB 0x44, R406: Packets accepted -/
def F.FAB_RX_PKTS : Fld := ⟨.fab, 0x44, 0, 1, 0, 32, 0, 1, .rc, .none, 0, .any, false⟩
/-- FAB 0x48, R406: Symbols corrected -/
def F.FAB_FEC_CORR : Fld := ⟨.fab, 0x48, 0, 1, 0, 32, 0, 1, .rc, .none, 0, .any, false⟩
/-- FAB 0x4c, R406: Uncorrectable codewords -/
def F.FAB_FEC_UNCORR : Fld := ⟨.fab, 0x4c, 0, 1, 0, 32, 0, 1, .rc, .none, 0, .any, false⟩
/-- FAB 0x50, R406: Packets failing CRC -/
def F.FAB_CRC_ERR : Fld := ⟨.fab, 0x50, 0, 1, 0, 32, 0, 1, .rc, .none, 0, .any, false⟩
/-- FAB 0x54, R406: Packets failing the GCM tag -/
def F.FAB_AUTH_ERR : Fld := ⟨.fab, 0x54, 0, 1, 0, 32, 0, 1, .rc, .none, 0, .any, false⟩
/-- FAB 0x58, R406: Packets resent (R386) -/
def F.FAB_RESENDS : Fld := ⟨.fab, 0x58, 0, 1, 0, 32, 0, 1, .rc, .none, 0, .any, false⟩
/-- FAB 0x5c, R406: Packets of reserved TYPE -/
def F.FAB_RX_BAD : Fld := ⟨.fab, 0x5c, 0, 1, 0, 32, 0, 1, .rc, .none, 0, .any, false⟩
/-- FAB0 0x200, R406: This device's number -/
def F.FAB0_NODE : Fld := ⟨.fab0, 0x200, 0, 1, 0, 15, 0, 1, .rw, .s, 0, .any, false⟩
/-- FAB0 0x200, R406: Legacy mode (R400) -/
def F.FAB0_LEGACY : Fld := ⟨.fab0, 0x200, 0, 1, 15, 1, 0, 1, .rw, .s, 0, .any, false⟩
/-- FAB0 0x200, R406: 1: retrain all ports, legacy mode only -/
def F.FAB0_RETRAIN_ALL : Fld := ⟨.fab0, 0x200, 0, 1, 16, 1, 0, 1, .wo, .none, 0, .any, false⟩
/-- FAB0 0x204, R406: End-to-end LANDED timeout, 1 to 1,000 µs -/
def F.FAB0_TIMEOUT_US : Fld := ⟨.fab0, 0x204, 0, 1, 0, 10, 0, 1, .rw, .l, 50, .range 1 1000, false⟩
/-- FAB0 0x208, R406: Landing unit on -/
def F.FAB0_ENABLE : Fld := ⟨.fab0, 0x208, 0, 1, 0, 1, 0, 1, .rw, .l, 0, .any, false⟩
/-- FAB0 0x208, R406: Zero freed slots (R393) -/
def F.FAB0_ZERO : Fld := ⟨.fab0, 0x208, 0, 1, 1, 1, 0, 1, .rw, .s, 0, .any, false⟩
/-- FAB0 0x208, R406: Slots per sender, 2 to 8 -/
def F.FAB0_SLOTS : Fld := ⟨.fab0, 0x208, 0, 1, 2, 4, 0, 1, .rw, .s, 4, .range 2 8, false⟩
/-- FAB0 0x208, R406: Listed senders, 1 to 16 -/
def F.FAB0_SENDERS : Fld := ⟨.fab0, 0x208, 0, 1, 6, 5, 0, 1, .rw, .s, 1, .range 1 16, false⟩
/-- FAB0 0x208, R406: Landing context -/
def F.FAB0_CTX : Fld := ⟨.fab0, 0x208, 0, 1, 16, 10, 0, 1, .rw, .s, 0, .any, false⟩
/-- FAB0 0x210, R406: Context address, multiple of 0x1_0000 -/
def F.FAB0_STAGE_BASE : Fld := ⟨.fab0, 0x210, 0, 1, 0, 64, 0, 1, .rw, .s, 0, .mult 0x10000, false⟩
/-- FAB0 0x218, R406: Slot size in 64 KiB units, 1 to 16,384 -/
def F.FAB0_SLOT_SIZE : Fld := ⟨.fab0, 0x218, 0, 1, 0, 15, 0, 1, .rw, .s, 1, .range 1 16384, false⟩
/-- FAB0 0x240, R406: Device number of sender i -/
def F.FAB0_SENDER : Fld := ⟨.fab0, 0x240, 4, 16, 0, 15, 0, 1, .rw, .s, 0, .any, false⟩
/-- FAB0 0x280, R406: Destination device number and VALID -/
def F.FAB0_DEST_NODE : Fld := ⟨.fab0, 0x280, 4, 16, 0, 15, 0, 1, .rw, .t, 0, .any, false⟩
/-- FAB0 0x280, R406: Destination device number and VALID -/
def F.FAB0_DEST_VALID : Fld := ⟨.fab0, 0x280, 4, 16, 15, 1, 0, 1, .rw, .t, 0, .any, false⟩
/-- FAB0 0x2c0, R406: SOURCE device number and VALID -/
def F.FAB0_TIME_SRC_NODE : Fld := ⟨.fab0, 0x2c0, 0, 1, 0, 15, 0, 1, .rw, .l, 0, .any, false⟩
/-- FAB0 0x2c0, R406: SOURCE device number and VALID -/
def F.FAB0_TIME_SRC_VALID : Fld := ⟨.fab0, 0x2c0, 0, 1, 15, 1, 0, 1, .rw, .l, 0, .any, false⟩
/-- FAB0 0x300, R406: Slot j of sender i: 0 FREE, 1 ZEROING, 2 LANDING, 3 VISIBLE, 4 CONSUMING -/
def F.FAB0_SLOT_STATE : Fld := ⟨.fab0, 0x300, 4, 16, 0, 3, 3, 8, .ro, .none, 0, .any, false⟩
/-- FAB0 0x340, R406: Latest limit from destination d (R397) -/
def F.FAB0_LIMIT : Fld := ⟨.fab0, 0x340, 4, 16, 0, 32, 0, 1, .ro, .none, 0, .any, false⟩
/-- FAB0 0x60, R406: STATUS 1 answers -/
def F.FAB0_LAND_BUSY : Fld := ⟨.fab0, 0x60, 0, 1, 0, 32, 0, 1, .rc, .none, 0, .any, false⟩
/-- FAB0 0x64, R406: STATUS 2 answers -/
def F.FAB0_LAND_BOUNDS : Fld := ⟨.fab0, 0x64, 0, 1, 0, 32, 0, 1, .rc, .none, 0, .any, false⟩
/-- FAB0 0x68, R406: STATUS 3 answers -/
def F.FAB0_LAND_REFUSED : Fld := ⟨.fab0, 0x68, 0, 1, 0, 32, 0, 1, .rc, .none, 0, .any, false⟩
/-- FAB0 0x6c, R406: FABRIC_LOST reports (R390) -/
def F.FAB0_LOST : Fld := ⟨.fab0, 0x6c, 0, 1, 0, 32, 0, 1, .rc, .none, 0, .any, false⟩
/-- FAB0 0x70, R406: Frames started idle under R397 -/
def F.FAB0_LIMIT_IDLE : Fld := ⟨.fab0, 0x70, 0, 1, 0, 32, 0, 1, .rc, .none, 0, .any, false⟩
/-- FAB0 0x74, R406: TIME packets from other devices -/
def F.FAB0_TIME_IGNORED : Fld := ⟨.fab0, 0x74, 0, 1, 0, 32, 0, 1, .rc, .none, 0, .any, false⟩
/-- PWR 0x100, R430: Power level (R418) -/
def F.PWR_PL : Fld := ⟨.pwr, 0x100, 0, 1, 0, 3, 0, 1, .rw, .t, 0, .any, false⟩
/-- PWR 0x100, R430: Level whose frequency runs -/
def F.PWR_PL_EFF : Fld := ⟨.pwr, 0x100, 0, 1, 8, 3, 0, 1, .ro, .none, 0, .any, false⟩
/-- PWR 0x100, R430: Voltage raised; frequency waits (R419) -/
def F.PWR_RAISING : Fld := ⟨.pwr, 0x100, 0, 1, 11, 1, 0, 1, .ro, .none, 0, .any, false⟩
/-- PWR 0x104, R430: Envelope in W, 600 to 1,200 -/
def F.PWR_W : Fld := ⟨.pwr, 0x104, 0, 1, 0, 11, 0, 1, .rw, .t, 1200, .any, false⟩
/-- PWR 0x104, R430: Envelope in effect -/
def F.PWR_W_EFF : Fld := ⟨.pwr, 0x104, 0, 1, 16, 11, 0, 1, .ro, .none, 1200, .any, false⟩
/-- PWR 0x108, R430: Frame energy budget in µJ (R423) -/
def F.PWR_FRAME_BUDGET_UJ : Fld := ⟨.pwr, 0x108, 0, 1, 0, 32, 0, 1, .rw, .t, 0x927c0, .any, false⟩
/-- PWR 0x10c, R430: Budget in effect -/
def F.PWR_FRAME_BUDGET_EFF_UJ : Fld := ⟨.pwr, 0x10c, 0, 1, 0, 32, 0, 1, .ro, .none, 0x927c0, .any, false⟩
/-- PWR 0x110, R430: Throttle level, 0 to 19 -/
def F.PWR_LEVEL : Fld := ⟨.pwr, 0x110, 0, 1, 0, 5, 0, 1, .ro, .none, 0, .any, false⟩
/-- PWR 0x110, R430: min(LEVEL, 4) -/
def F.PWR_CLAMP : Fld := ⟨.pwr, 0x110, 0, 1, 5, 3, 0, 1, .ro, .none, 0, .any, false⟩
/-- PWR 0x110, R430: max(0, LEVEL − 4) -/
def F.PWR_GATE : Fld := ⟨.pwr, 0x110, 0, 1, 8, 4, 0, 1, .ro, .none, 0, .any, false⟩
/-- PWR 0x110, R430: Causes in the last window: THERMAL [12], ENVELOPE [13], CURRENT [14], FAST [15] -/
def F.PWR_CAUSE : Fld := ⟨.pwr, 0x110, 0, 1, 12, 4, 0, 1, .ro, .none, 0, .any, false⟩
/-- PWR 0x110, R430: Highest GATE reached for ENVELOPE alone -/
def F.PWR_GATE_MAX : Fld := ⟨.pwr, 0x110, 0, 1, 16, 4, 0, 1, .rw, .l, 15, .any, false⟩
/-- PWR 0x114, R430: Fast-guard limit in A, 1,000 to 1,650 -/
def F.PWR_I_FAST : Fld := ⟨.pwr, 0x114, 0, 1, 0, 11, 0, 1, .rw, .l, 1600, .range 1000 1650, false⟩
/-- PWR 0x114, R430: Switch-on headroom limit in A, 1,000 to 1,650 -/
def F.PWR_I_HEAD : Fld := ⟨.pwr, 0x114, 0, 1, 16, 11, 0, 1, .rw, .l, 1500, .range 1000 1650, false⟩
/-- PWR 0x118, R430: 0.25 mV units; 2,800 to 3,520 (0.70 V to 0.88 V) -/
def F.PWR_VTARGET_V : Fld := ⟨.pwr, 0x118, 0, 1, 0, 12, 0, 1, .rw, .l, 3120, .range 2800 3520, false⟩
/-- PWR 0x11c, R430: VMIN of the last frame -/
def F.PWR_VMIN_LAST : Fld := ⟨.pwr, 0x11c, 0, 1, 0, 12, 0, 1, .ro, .none, 0, .any, false⟩
/-- PWR 0x11c, R430: Lowest VMIN since the last read -/
def F.PWR_VMIN_LOWEST : Fld := ⟨.pwr, 0x11c, 0, 1, 16, 12, 0, 1, .rc, .none, 4095, .any, false⟩
/-- PWR 0x140, R430: Bit c set: cell c isolated -/
def F.PWR_LDO_FAILED : Fld := ⟨.pwr, 0x140, 4, 16, 0, 24, 0, 1, .ro, .none, 0, .any, false⟩
/-- PWR 0x140, R430: District gate level (R425) -/
def F.PWR_LDO_DGATE : Fld := ⟨.pwr, 0x140, 4, 16, 24, 4, 0, 1, .ro, .none, 0, .any, false⟩
/-- PWR 0x140, R430: District dark (R415) -/
def F.PWR_LDO_DARK : Fld := ⟨.pwr, 0x140, 4, 16, 28, 1, 0, 1, .ro, .none, 0, .any, false⟩
/-- PWR 0x200, R430: Rail r current in mA, 1 ms average; r as in R407 -/
def F.PWR_I_RAIL : Fld := ⟨.pwr, 0x200, 4, 6, 0, 32, 0, 1, .ro, .none, 0, .any, false⟩
/-- PWR 0x220, R430: Domain n current in mA, 1 ms average -/
def F.PWR_I_DOM : Fld := ⟨.pwr, 0x220, 4, 30, 0, 32, 0, 1, .ro, .none, 0, .any, false⟩
/-- PWR 0x2a0, R430: Device power in W, 1 ms average -/
def F.PWR_P_TOTAL : Fld := ⟨.pwr, 0x2a0, 0, 1, 0, 16, 0, 1, .ro, .none, 0, .any, false⟩
/-- PWR 0x2a8, R430: µJ since reset (R427) -/
def F.PWR_ENERGY : Fld := ⟨.pwr, 0x2a8, 0, 1, 0, 64, 0, 1, .ro, .none, 0, .any, false⟩
/-- PWR 0x2b0, R430: Warm-up ballast in cold hold (R429) -/
def F.PWR_WARMUP_EN : Fld := ⟨.pwr, 0x2b0, 0, 1, 0, 1, 0, 1, .rw, .l, 0, .any, false⟩
/-- PWR 0x2b0, R430: Activity in 25% steps, 1 to 4 -/
def F.PWR_WARMUP_LEVEL : Fld := ⟨.pwr, 0x2b0, 0, 1, 1, 3, 0, 1, .rw, .l, 4, .range 1 4, false⟩
/-- PWR 0x40, R430: Windows with LEVEL above 0 -/
def F.PWR_THROTTLE_WINDOWS : Fld := ⟨.pwr, 0x40, 0, 1, 0, 32, 0, 1, .rc, .none, 0, .any, false⟩
/-- PWR 0x44, R430: Fast-guard actions -/
def F.PWR_FAST_TRIPS : Fld := ⟨.pwr, 0x44, 0, 1, 0, 32, 0, 1, .rc, .none, 0, .any, false⟩
/-- PWR 0x48, R430: District-guard raises, all districts -/
def F.PWR_DGATE_TRIPS : Fld := ⟨.pwr, 0x48, 0, 1, 0, 32, 0, 1, .rc, .none, 0, .any, false⟩
/-- DOM 0x100, R430: 0 OFF, 1 RET, 2 ON, 3 reserved -/
def F.DOM_STATE_REQ : Fld := ⟨.dom, 0x100, 0, 1, 0, 2, 0, 1, .rw, .t, 0, .range 0 2, false⟩
/-- DOM 0x104, R430: 0 OFF, 1 RET, 2 ON, 3 SWITCHING -/
def F.DOM_STATE : Fld := ⟨.dom, 0x104, 0, 1, 0, 2, 0, 1, .ro, .none, 0, .any, false⟩
/-- DOM 0x104, R430: Switch-on steps made, 0 to 16 -/
def F.DOM_STEP : Fld := ⟨.dom, 0x104, 0, 1, 2, 5, 0, 1, .ro, .none, 0, .any, false⟩
/-- DOM 0x104, R430: Paused 200 µs in total (R422) -/
def F.DOM_PENDING_HEADROOM : Fld := ⟨.dom, 0x104, 0, 1, 7, 1, 0, 1, .ro, .none, 0, .any, false⟩
/-- DOM 0x104, R430: 0 none, 1 dependency, 2 district dark, 3 reserved -/
def F.DOM_REFUSED : Fld := ⟨.dom, 0x104, 0, 1, 8, 2, 0, 1, .rc, .none, 0, .any, false⟩
/-- DOM 0x104, R430: State set by a protective case (R416) -/
def F.DOM_FORCED : Fld := ⟨.dom, 0x104, 0, 1, 10, 1, 0, 1, .ro, .none, 0, .any, false⟩
/-- DOM 0x40, R430: µs of headroom pause -/
def F.DOM_PAUSE_US : Fld := ⟨.dom, 0x40, 0, 1, 0, 32, 0, 1, .rc, .none, 0, .any, false⟩
/-- THM 0x100, R450: 0 normal, 1 WARNING, 2 THROTTLE, 3 SHUTDOWN -/
def F.THM_STATE_HIGH : Fld := ⟨.thm, 0x100, 0, 1, 0, 2, 0, 1, .ro, .none, 0, .any, false⟩
/-- THM 0x100, R450: 0 normal, 1 COLD_WARNING, 2 COLD_HOLD, 3 reserved -/
def F.THM_STATE_COLD : Fld := ⟨.thm, 0x100, 0, 1, 2, 2, 0, 1, .ro, .none, 0, .any, false⟩
/-- THM 0x100, R450: R438 -/
def F.THM_STATE_FABRIC_MODE : Fld := ⟨.thm, 0x100, 0, 1, 4, 1, 0, 1, .ro, .none, 0, .any, false⟩
/-- THM 0x100, R450: R442 -/
def F.THM_STATE_BELOW_RATED : Fld := ⟨.thm, 0x100, 0, 1, 5, 1, 0, 1, .ro, .none, 0, .any, false⟩
/-- THM 0x100, R450: Sensors out of service -/
def F.THM_STATE_OUT : Fld := ⟨.thm, 0x100, 0, 1, 8, 8, 0, 1, .ro, .none, 0, .any, false⟩
/-- THM 0x104, R450: Signed, 0.125 °C units -/
def F.THM_TEMP_TMAX : Fld := ⟨.thm, 0x104, 0, 1, 0, 12, 0, 1, .ro, .none, 0, .any, false⟩
/-- THM 0x104, R450: Signed, 0.125 °C units -/
def F.THM_TEMP_TMIN : Fld := ⟨.thm, 0x104, 0, 1, 16, 12, 0, 1, .ro, .none, 0, .any, false⟩
/-- THM 0x108, R450: °C, 60 to 120 -/
def F.THM_ALLOW_T_ALLOW : Fld := ⟨.thm, 0x108, 0, 1, 0, 8, 0, 1, .rw, .l, 95, .range 60 120, false⟩
/-- THM 0x108, R450: W/°C, 1 to 100 -/
def F.THM_ALLOW_GAIN : Fld := ⟨.thm, 0x108, 0, 1, 8, 8, 0, 1, .rw, .l, 10, .range 1 100, false⟩
/-- THM 0x108, R450: Allowance in W (R444) -/
def F.THM_ALLOW_THERM_W : Fld := ⟨.thm, 0x108, 0, 1, 16, 11, 0, 1, .rw, .l, 1200, .any, false⟩
/-- THM 0x10c, R450: °C/W in 0.01 units; typical 120 -/
def F.THM_RINT_R : Fld := ⟨.thm, 0x10c, 0, 1, 0, 12, 0, 1, .rw, .s, 0, .any, true⟩
/-- THM 0x110, R450: Cycles that set WEAR -/
def F.THM_WEAR_LIMIT : Fld := ⟨.thm, 0x110, 0, 1, 0, 17, 0, 1, .rw, .l, 0xbb80, .any, false⟩
/-- THM 0x200, R450: Reading of sensor s -/
def F.THM_TSENS_T : Fld := ⟨.thm, 0x200, 4, 160, 0, 12, 0, 1, .ro, .none, 0, .any, false⟩
/-- THM 0x200, R450: E(s − 64) for s = 64 to 127; zero otherwise -/
def F.THM_TSENS_E : Fld := ⟨.thm, 0x200, 4, 160, 16, 12, 0, 1, .ro, .none, 0, .any, false⟩
/-- THM 0x200, R450: R435 held in the last round -/
def F.THM_TSENS_DISAGREE : Fld := ⟨.thm, 0x200, 4, 160, 30, 1, 0, 1, .ro, .none, 0, .any, false⟩
/-- THM 0x200, R450: Sensor in service -/
def F.THM_TSENS_VALID : Fld := ⟨.thm, 0x200, 4, 160, 31, 1, 0, 1, .ro, .none, 0, .any, false⟩
/-- THM 0x500, R450: Cycles of unit u, saturating -/
def F.THM_CYCLES_COUNT : Fld := ⟨.thm, 0x500, 4, 20, 0, 17, 0, 1, .rw, .l, 0, .any, false⟩
/-- THM 0x500, R450: halves is odd -/
def F.THM_CYCLES_ODD : Fld := ⟨.thm, 0x500, 4, 20, 17, 1, 0, 1, .rw, .l, 0, .any, false⟩
/-- THM 0x500, R450: 0 FALLING, 1 RISING -/
def F.THM_CYCLES_DIR : Fld := ⟨.thm, 0x500, 4, 20, 18, 1, 0, 1, .rw, .l, 0, .any, false⟩
/-- THM 0x580, R450: ext of unit u, 0.125 °C units -/
def F.THM_CYC_EXT_EXT : Fld := ⟨.thm, 0x580, 4, 20, 0, 12, 0, 1, .rw, .l, 0, .any, false⟩
/-- THM 0x40, R450: Rounds ending in THROTTLE -/
def F.THM_THROTTLE_ROUNDS : Fld := ⟨.thm, 0x40, 0, 1, 0, 32, 0, 1, .rc, .none, 0, .any, false⟩
/-- THM 0x44, R450: Rounds with any SENSOR_DISAGREE -/
def F.THM_DISAGREE_ROUNDS : Fld := ⟨.thm, 0x44, 0, 1, 0, 32, 0, 1, .rc, .none, 0, .any, false⟩
/-- THM 0x48, R450: Rounds ending in COLD_HOLD -/
def F.THM_COLD_HOLD_ROUNDS : Fld := ⟨.thm, 0x48, 0, 1, 0, 32, 0, 1, .rc, .none, 0, .any, false⟩
/-- HK 0x100, R450: Completed housekeeping rounds, modulo 2³² -/
def F.HK_ROUND_COUNT : Fld := ⟨.hk, 0x100, 0, 1, 0, 32, 0, 1, .ro, .none, 0, .any, false⟩
/-- BOOT 0x100, R469: 1 to 9: step in progress. 10: READY. 14: waiting for a mailbox image. 15: FAILED. Others reserved -/
def F.BOOT_STATUS_STAGE : Fld := ⟨.boot, 0x100, 0, 1, 0, 4, 0, 1, .ro, .none, 1, .any, false⟩
/-- BOOT 0x100, R469: Last rejected image. 0: none. 1: format. 2: key hash. 3: SVN below FUSE_SVN. 4: signature. 5: flash read. Others reserved -/
def F.BOOT_STATUS_RESULT : Fld := ⟨.boot, 0x100, 0, 1, 4, 4, 0, 1, .ro, .none, 0, .any, false⟩
/-- BOOT 0x100, R469: 0: none. 1: no memory channel. 2: gather engine. 3: Plaza, mesh or barrier network. Others reserved -/
def F.BOOT_STATUS_FAIL_CAUSE : Fld := ⟨.boot, 0x100, 0, 1, 8, 4, 0, 1, .ro, .none, 0, .any, false⟩
/-- BOOT 0x100, R469: 0: flash. 1: mailbox -/
def F.BOOT_STATUS_SOURCE : Fld := ⟨.boot, 0x100, 0, 1, 12, 1, 0, 1, .ro, .none, 0, .any, false⟩
/-- BOOT 0x100, R469: Bring-up ran in quick mode -/
def F.BOOT_STATUS_QUICK_DONE : Fld := ⟨.boot, 0x100, 0, 1, 13, 1, 0, 1, .ro, .none, 0, .any, false⟩
/-- BOOT 0x104, R469: 1: skip the retention pass -/
def F.BOOT_OPT_QUICK : Fld := ⟨.boot, 0x104, 0, 1, 0, 1, 0, 1, .rw, .l, 0, .any, false⟩
/-- BOOT 0x104, R469: 1: train fabric ports in step 8 -/
def F.BOOT_OPT_FABRIC : Fld := ⟨.boot, 0x104, 0, 1, 1, 1, 0, 1, .rw, .l, 0, .any, false⟩
/-- BOOT 0x104, R469: Legacy fabric training (R400) -/
def F.BOOT_OPT_LEGACY : Fld := ⟨.boot, 0x104, 0, 1, 2, 1, 0, 1, .rw, .l, 0, .any, false⟩
/-- BOOT 0x104, R469: Value for PWR.WARMUP.EN -/
def F.BOOT_OPT_WARMUP : Fld := ⟨.boot, 0x104, 0, 1, 3, 1, 0, 1, .rw, .l, 0, .any, false⟩
/-- BOOT 0x104, R469: Retention hold in seconds, 1 to 255 -/
def F.BOOT_OPT_RET_HOLD : Fld := ⟨.boot, 0x104, 0, 1, 8, 8, 0, 1, .rw, .l, 76, .range 1 255, false⟩
/-- BOOT 0x140, R469: Duration of step s in ms; 0 until the step ends -/
def F.BOOT_STEP_MS_MS : Fld := ⟨.boot, 0x140, 4, 9, 0, 32, 0, 1, .ro, .none, 0, .any, false⟩
/-- BOOT 0x180, R469: Sectors of package g with one failing bit, saturating -/
def F.BOOT_MEMTEST_SINGLE : Fld := ⟨.boot, 0x180, 4, 16, 0, 16, 0, 1, .ro, .none, 0, .any, false⟩
/-- BOOT 0x180, R469: Channel c had a sector with two or more failing bits -/
def F.BOOT_MEMTEST_MULTI : Fld := ⟨.boot, 0x180, 4, 16, 16, 1, 1, 4, .ro, .none, 0, .any, false⟩
/-- BOOT 0x180, R469: Channel c excluded by the test (R464) -/
def F.BOOT_MEMTEST_EXCL : Fld := ⟨.boot, 0x180, 4, 16, 20, 1, 1, 4, .ro, .none, 0, .any, false⟩
/-- INTC 0x100, R479: Vector base in core address space; bits [13:0] must be zero -/
def F.INTC_BASE : Fld := ⟨.intc, 0x100, 0, 1, 0, 32, 0, 1, .rw, .s, 0, .mult 0x4000, false⟩
/-- INTC 0x104, R479: Bit c set: core c receives interrupts -/
def F.INTC_CORE_EN : Fld := ⟨.intc, 0x104, 0, 1, 0, 4, 0, 1, .rw, .l, 0, .any, false⟩
/-- INTC 0x110, R479: Source in service for core c -/
def F.INTC_CUR_SOURCE : Fld := ⟨.intc, 0x110, 4, 4, 0, 8, 0, 1, .ro, .none, 0, .any, false⟩
/-- INTC 0x110, R479: A source is in service -/
def F.INTC_CUR_VALID : Fld := ⟨.intc, 0x110, 4, 4, 8, 1, 0, 1, .ro, .none, 0, .any, false⟩
/-- INTC 0x120, R479: Source whose service core c ends -/
def F.INTC_ACK : Fld := ⟨.intc, 0x120, 4, 4, 0, 8, 0, 1, .wo, .none, 0, .any, false⟩
/-- INTC 0x200, R479: Bit i: source 32j + i enabled -/
def F.INTC_ENABLE : Fld := ⟨.intc, 0x200, 4, 8, 0, 32, 0, 1, .rw, .l, 0, .any, false⟩
/-- INTC 0x240, R479: Bit i: source 32j + i pending -/
def F.INTC_PENDING : Fld := ⟨.intc, 0x240, 4, 8, 0, 32, 0, 1, .ro, .none, 0, .any, false⟩
/-- INTC 0x280, R479: Bit i: source 32j + i in service -/
def F.INTC_INSERVICE : Fld := ⟨.intc, 0x280, 4, 8, 0, 32, 0, 1, .ro, .none, 0, .any, false⟩
/-- INTC 0x40, R479: Deliveries -/
def F.INTC_DELIVERED : Fld := ⟨.intc, 0x40, 0, 1, 0, 32, 0, 1, .rc, .none, 0, .any, false⟩
/-- INTC 0x44, R479: Ignored ACK writes -/
def F.INTC_ACK_STRAY : Fld := ⟨.intc, 0x44, 0, 1, 0, 32, 0, 1, .rc, .none, 0, .any, false⟩
/-- MB 0x100, R479: Command (R474) -/
def F.MB_REQ_OP : Fld := ⟨.mb, 0x100, 0, 1, 0, 16, 0, 1, .rw, .l, 0, .any, false⟩
/-- MB 0x100, R479: Request bytes in the window, 0 to 2,048 -/
def F.MB_REQ_LEN : Fld := ⟨.mb, 0x100, 0, 1, 16, 12, 0, 1, .rw, .l, 0, .range 0 2048, false⟩
/-- MB 0x104, R479: 1: start the command -/
def F.MB_CTRL_GO : Fld := ⟨.mb, 0x104, 0, 1, 0, 1, 0, 1, .wo, .none, 0, .any, false⟩
/-- MB 0x104, R479: Command in progress -/
def F.MB_CTRL_BUSY : Fld := ⟨.mb, 0x104, 0, 1, 1, 1, 0, 1, .ro, .none, 0, .any, false⟩
/-- MB 0x104, R479: Response ready -/
def F.MB_CTRL_DONE : Fld := ⟨.mb, 0x104, 0, 1, 2, 1, 0, 1, .w1c, .none, 0, .any, false⟩
/-- MB 0x104, R479: A write was dropped under R473 -/
def F.MB_CTRL_REJECT : Fld := ⟨.mb, 0x104, 0, 1, 3, 1, 0, 1, .w1c, .none, 0, .any, false⟩
/-- MB 0x108, R479: Status code -/
def F.MB_RESP_STATUS : Fld := ⟨.mb, 0x108, 0, 1, 0, 4, 0, 1, .ro, .none, 0, .any, false⟩
/-- MB 0x108, R479: Whole response length in bytes -/
def F.MB_RESP_TOTAL : Fld := ⟨.mb, 0x108, 0, 1, 8, 24, 0, 1, .ro, .none, 0, .any, false⟩
/-- HDR 0x0, R482: Page layout version -/
def F.HDR_UNIT_ID_VERSION : Fld := ⟨.hdr, 0x0, 0, 1, 0, 4, 0, 1, .ro, .none, 1, .any, false⟩
/-- HDR 0x0, R482: Instance index -/
def F.HDR_UNIT_ID_INSTANCE : Fld := ⟨.hdr, 0x0, 0, 1, 4, 12, 0, 1, .ro, .none, 0, .any, true⟩
/-- HDR 0x0, R482: Type code from the BAR0 map -/
def F.HDR_UNIT_ID_TYPE : Fld := ⟨.hdr, 0x0, 0, 1, 16, 16, 0, 1, .ro, .none, 0, .any, true⟩
/-- HDR 0x4, R482: Capabilities (R488) -/
def F.HDR_CAPS : Fld := ⟨.hdr, 0x4, 4, 3, 0, 32, 0, 1, .ro, .none, 0, .any, true⟩
/-- HDR 0x10, R482: Unit in service -/
def F.HDR_CTRL_ENABLE : Fld := ⟨.hdr, 0x10, 0, 1, 0, 1, 0, 1, .rw, .l, 0, .any, false⟩
/-- HDR 0x10, R482: 1: stop the unit (R485) -/
def F.HDR_CTRL_STOP_REQ : Fld := ⟨.hdr, 0x10, 0, 1, 1, 1, 0, 1, .wo, .none, 0, .any, false⟩
/-- HDR 0x10, R482: 1: unit reset (R453) -/
def F.HDR_CTRL_SOFT_RESET : Fld := ⟨.hdr, 0x10, 0, 1, 2, 1, 0, 1, .wo, .none, 0, .any, false⟩
/-- HDR 0x14, R482: ENABLE is 1 and the unit is in service -/
def F.HDR_STATUS_ACTIVE : Fld := ⟨.hdr, 0x14, 0, 1, 0, 1, 0, 1, .ro, .none, 0, .any, false⟩
/-- HDR 0x14, R482: A stop is in progress -/
def F.HDR_STATUS_STOPPING : Fld := ⟨.hdr, 0x14, 0, 1, 1, 1, 0, 1, .ro, .none, 0, .any, false⟩
/-- HDR 0x14, R482: A unit reset is in progress -/
def F.HDR_STATUS_RESETTING : Fld := ⟨.hdr, 0x14, 0, 1, 2, 1, 0, 1, .ro, .none, 0, .any, false⟩
/-- HDR 0x20, R482: Events (R484) -/
def F.HDR_EVT_STATUS : Fld := ⟨.hdr, 0x20, 0, 1, 0, 32, 0, 1, .ro, .none, 0, .any, false⟩
/-- HDR 0x24, R482: Bit set: the event makes the page's interrupt source pending -/
def F.HDR_EVT_ENABLE : Fld := ⟨.hdr, 0x24, 0, 1, 0, 32, 0, 1, .rw, .l, 0, .any, false⟩
/-- HDR 0x28, R482: 1: clear the event bit -/
def F.HDR_EVT_CLEAR : Fld := ⟨.hdr, 0x28, 0, 1, 0, 32, 0, 1, .wo, .none, 0, .any, false⟩
/-- TOP 0x14, R490: READY reported (R467) -/
def F.TOP_STATUS_READY : Fld := ⟨.top, 0x14, 0, 1, 4, 1, 0, 1, .ro, .none, 0, .any, false⟩
/-- TOP 0x14, R490: FATAL latched (R315) -/
def F.TOP_STATUS_FATAL : Fld := ⟨.top, 0x14, 0, 1, 5, 1, 0, 1, .ro, .none, 0, .any, false⟩
/-- TOP 0x14, R490: Bring-up failed (R468) -/
def F.TOP_STATUS_FAILED : Fld := ⟨.top, 0x14, 0, 1, 6, 1, 0, 1, .ro, .none, 0, .any, false⟩
/-- TOP 0x14, R490: Thermal shutdown (R439) -/
def F.TOP_STATUS_SHUTDOWN : Fld := ⟨.top, 0x14, 0, 1, 7, 1, 0, 1, .ro, .none, 0, .any, false⟩
/-- TOP 0x100, R490: 0x5A from the primary port: device reset (R453) -/
def F.TOP_RESET_KEY : Fld := ⟨.top, 0x100, 0, 1, 0, 8, 0, 1, .wo, .none, 0, .any, false⟩
/-- TOP 0x108, R490: Device time, 10 ns units -/
def F.TOP_TIME : Fld := ⟨.top, 0x108, 0, 1, 0, 64, 0, 1, .ro, .none, 0, .any, false⟩
/-- TOP 0x110, R490: Part number from fuses -/
def F.TOP_PART : Fld := ⟨.top, 0x110, 0, 1, 0, 32, 0, 1, .ro, .none, 0, .any, true⟩
/-- TOP 0x114, R490: Serial number [31:0] from fuses -/
def F.TOP_SERIAL : Fld := ⟨.top, 0x114, 0, 1, 0, 32, 0, 1, .ro, .none, 0, .any, true⟩
/-- TOP 0x118, R490: CAPS changes since reset (R489) -/
def F.TOP_CAPS_GEN : Fld := ⟨.top, 0x118, 0, 1, 0, 32, 0, 1, .ro, .none, 0, .any, false⟩
/-- TOP 0x40, R490: Accesses outside every page (R483) -/
def F.TOP_BAR0_HOLE : Fld := ⟨.top, 0x40, 0, 1, 0, 32, 0, 1, .rc, .none, 0, .any, false⟩
/-- DIST 0x100, R492: Site s of logical index i, i = 0 to 31 -/
def F.DIST_MAP_SITE : Fld := ⟨.dist, 0x100, 4, 32, 0, 6, 0, 1, .ro, .none, 0, .any, true⟩
/-- DIST 0x100, R492: i < CAPS0.LOGICAL -/
def F.DIST_MAP_VALID : Fld := ⟨.dist, 0x100, 4, 32, 31, 1, 0, 1, .ro, .none, 0, .any, true⟩
/-- DIST 0x180, R492: Site to retire in step 3 of the next tick gap -/
def F.DIST_RETIRE_SITE : Fld := ⟨.dist, 0x180, 0, 1, 0, 6, 0, 1, .wo, .none, 0, .any, false⟩
/-- DIST 0x188, R492: 64 bits, 8-byte aligned. Bit s set: site s bad or retired -/
def F.DIST_SITE_BAD : Fld := ⟨.dist, 0x188, 0, 1, 0, 34, 0, 1, .ro, .none, 0, .any, true⟩
/-- FAB0 0xe80, R406: Model: DEST in effect (class T, R9) -/
def F.FAB0_DEST_NODE_EFF : Fld := ⟨.fab0, 0xe80, 4, 16, 0, 15, 0, 1, .ro, .none, 0, .any, false⟩
/-- FAB0 0xe80, R406: Model: DEST in effect (class T, R9) -/
def F.FAB0_DEST_VALID_EFF : Fld := ⟨.fab0, 0xe80, 4, 16, 15, 1, 0, 1, .ro, .none, 0, .any, false⟩

/-- The fields of page hdr. -/
def regs_hdr : List Fld :=
  [F.HDR_UNIT_ID_VERSION, F.HDR_UNIT_ID_INSTANCE, F.HDR_UNIT_ID_TYPE, F.HDR_CAPS, F.HDR_CTRL_ENABLE, F.HDR_CTRL_STOP_REQ] ++
  [F.HDR_CTRL_SOFT_RESET, F.HDR_STATUS_ACTIVE, F.HDR_STATUS_STOPPING, F.HDR_STATUS_RESETTING, F.HDR_EVT_STATUS, F.HDR_EVT_ENABLE] ++
  [F.HDR_EVT_CLEAR]

/-- The fields of page top. -/
def regs_top : List Fld :=
  [F.TOP_STATUS_READY, F.TOP_STATUS_FATAL, F.TOP_STATUS_FAILED, F.TOP_STATUS_SHUTDOWN, F.TOP_RESET_KEY, F.TOP_TIME] ++
  [F.TOP_PART, F.TOP_SERIAL, F.TOP_CAPS_GEN, F.TOP_BAR0_HOLE]

/-- The fields of page tick. -/
def regs_tick : List Fld :=
  [F.TICK_PERIOD_STEPS, F.TICK_PERIOD_STEPS_EFF, F.TICK_SYNC_MODE, F.TICK_SYNC_TICK_OUT_EN, F.TICK_FRAME_NUM_NUM, F.TICK_TICK_TIME_TIME] ++
  [F.TICK_GAP_LAST, F.TICK_GAP_MAX, F.TICK_IN_COMP_NS, F.TICK_IN_COMP_NS_EFF]

/-- The fields of page ctx. -/
def regs_ctx : List Fld :=
  [F.CTX_CMD_OP, F.CTX_CMD_CTX, F.CTX_CMD_RESULT_CTX, F.CTX_CMD_RESULT_OP, F.CTX_CMD_RESULT_REASON, F.CTX_CMD_RESULT_VALID] ++
  [F.CTX_BACKLOG_AGE_AGE, F.CTX_LATE_COUNT_COUNT]

/-- The fields of page pwr. -/
def regs_pwr : List Fld :=
  [F.PWR_PL, F.PWR_PL_EFF, F.PWR_RAISING, F.PWR_W, F.PWR_W_EFF, F.PWR_FRAME_BUDGET_UJ] ++
  [F.PWR_FRAME_BUDGET_EFF_UJ, F.PWR_LEVEL, F.PWR_CLAMP, F.PWR_GATE, F.PWR_CAUSE, F.PWR_GATE_MAX] ++
  [F.PWR_I_FAST, F.PWR_I_HEAD, F.PWR_VTARGET_V, F.PWR_VMIN_LAST, F.PWR_VMIN_LOWEST, F.PWR_LDO_FAILED] ++
  [F.PWR_LDO_DGATE, F.PWR_LDO_DARK, F.PWR_I_RAIL, F.PWR_I_DOM, F.PWR_P_TOTAL, F.PWR_ENERGY] ++
  [F.PWR_WARMUP_EN, F.PWR_WARMUP_LEVEL, F.PWR_THROTTLE_WINDOWS, F.PWR_FAST_TRIPS, F.PWR_DGATE_TRIPS]

/-- The fields of page thm. -/
def regs_thm : List Fld :=
  [F.THM_STATE_HIGH, F.THM_STATE_COLD, F.THM_STATE_FABRIC_MODE, F.THM_STATE_BELOW_RATED, F.THM_STATE_OUT, F.THM_TEMP_TMAX] ++
  [F.THM_TEMP_TMIN, F.THM_ALLOW_T_ALLOW, F.THM_ALLOW_GAIN, F.THM_ALLOW_THERM_W, F.THM_RINT_R, F.THM_WEAR_LIMIT] ++
  [F.THM_TSENS_T, F.THM_TSENS_E, F.THM_TSENS_DISAGREE, F.THM_TSENS_VALID, F.THM_CYCLES_COUNT, F.THM_CYCLES_ODD] ++
  [F.THM_CYCLES_DIR, F.THM_CYC_EXT_EXT, F.THM_THROTTLE_ROUNDS, F.THM_DISAGREE_ROUNDS, F.THM_COLD_HOLD_ROUNDS]

/-- The fields of page hk. -/
def regs_hk : List Fld :=
  [F.HK_ROUND_COUNT]

/-- The fields of page sec. -/
def regs_sec : List Fld :=
  [F.SEC_STATUS_AK_READY, F.SEC_STATUS_DRBG_OK, F.SEC_STATUS_FW_SVN, F.SEC_STATUS_FUSE_SVN, F.SEC_SESSIONS_OPEN, F.SEC_SESSIONS_MEAS_USED] ++
  [F.SEC_BIND_REQ_CTX, F.SEC_BIND_REQ_SLOT, F.SEC_BIND_REQ_TENANT, F.SEC_BIND_REQ_CLEAR, F.SEC_BIND_RESULT_CTX, F.SEC_BIND_RESULT_SLOT] ++
  [F.SEC_BIND_RESULT_REASON, F.SEC_BIND_RESULT_VALID, F.SEC_TENANT_STATE, F.SEC_ENV_OPENED, F.SEC_ENV_AUTH_FAIL, F.SEC_ENV_SEQ_FAIL] ++
  [F.SEC_ENV_SEALED, F.SEC_BIND_GRANTED, F.SEC_BIND_REFUSED, F.SEC_IMPORTS, F.SEC_REVOKES]

/-- The fields of page intc. -/
def regs_intc : List Fld :=
  [F.INTC_BASE, F.INTC_CORE_EN, F.INTC_CUR_SOURCE, F.INTC_CUR_VALID, F.INTC_ACK, F.INTC_ENABLE] ++
  [F.INTC_PENDING, F.INTC_INSERVICE, F.INTC_DELIVERED, F.INTC_ACK_STRAY]

/-- The fields of page errq. -/
def regs_errq : List Fld :=
  [F.ERRQ_HEAD, F.ERRQ_POP, F.ERRQ_COUNT, F.ERRQ_FATAL, F.ERRQ_HIGH_WATER, F.ERRQ_FATAL_CAUSE] ++
  [F.ERRQ_FATAL_SET, F.ERRQ_PERIOD_H, F.ERRQ_ENABLE, F.ERRQ_PERIOD_EFF, F.ERRQ_ENABLE_EFF, F.ERRQ_PASSES] ++
  [F.ERRQ_PROGRESS, F.ERRQ_ST_FAILS, F.ERRQ_ST_PAGE, F.ERRQ_INJ_PAGE, F.ERRQ_INJ_KIND, F.ERRQ_SUPPRESSED] ++
  [F.ERRQ_ENTRIES, F.ERRQ_CE_REPLACED]

/-- The fields of page fuse. -/
def regs_fuse : List Fld :=
  []

/-- The fields of page mb. -/
def regs_mb : List Fld :=
  [F.MB_REQ_OP, F.MB_REQ_LEN, F.MB_CTRL_GO, F.MB_CTRL_BUSY, F.MB_CTRL_DONE, F.MB_CTRL_REJECT] ++
  [F.MB_RESP_STATUS, F.MB_RESP_TOTAL]

/-- The fields of page boot. -/
def regs_boot : List Fld :=
  [F.BOOT_STATUS_STAGE, F.BOOT_STATUS_RESULT, F.BOOT_STATUS_FAIL_CAUSE, F.BOOT_STATUS_SOURCE, F.BOOT_STATUS_QUICK_DONE, F.BOOT_OPT_QUICK] ++
  [F.BOOT_OPT_FABRIC, F.BOOT_OPT_LEGACY, F.BOOT_OPT_WARMUP, F.BOOT_OPT_RET_HOLD, F.BOOT_STEP_MS_MS, F.BOOT_MEMTEST_SINGLE] ++
  [F.BOOT_MEMTEST_MULTI, F.BOOT_MEMTEST_EXCL]

/-- The fields of page dom. -/
def regs_dom : List Fld :=
  [F.DOM_STATE_REQ, F.DOM_STATE, F.DOM_STEP, F.DOM_PENDING_HEADROOM, F.DOM_REFUSED, F.DOM_FORCED] ++
  [F.DOM_PAUSE_US]

/-- The fields of page dist. -/
def regs_dist : List Fld :=
  [F.DIST_MAP_SITE, F.DIST_MAP_VALID, F.DIST_RETIRE_SITE, F.DIST_SITE_BAD]

/-- The fields of page pcie. -/
def regs_pcie : List Fld :=
  [F.PCIE_BAR2_MAP_BASE, F.PCIE_WIN_HOLE, F.PCIE_LINK_RATE, F.PCIE_LINK_WIDTH, F.PCIE_LINK_FLIT, F.PCIE_LINK_L1] ++
  [F.PCIE_AUTH_HOLDER, F.PCIE_AUTH_CLAIM_MS, F.PCIE_PEER_DOWN_MS, F.PCIE_CHAN_OWNER_FUNC, F.PCIE_TAIL_READS, F.PCIE_INTAKE_BYTES] ++
  [F.PCIE_LOST_COMPL, F.PCIE_LOST_DLV, F.PCIE_LOST_MSI]

/-- The fields of page fab. -/
def regs_fab : List Fld :=
  [F.FAB_STATE, F.FAB_COLD_HELD, F.FAB_SPARE_GOOD, F.FAB_LANES_GOOD, F.FAB_THRESH, F.FAB_TX_PKTS] ++
  [F.FAB_RX_PKTS, F.FAB_FEC_CORR, F.FAB_FEC_UNCORR, F.FAB_CRC_ERR, F.FAB_AUTH_ERR, F.FAB_RESENDS] ++
  [F.FAB_RX_BAD]

/-- The fields of page fab0. -/
def regs_fab0 : List Fld :=
  [F.FAB0_NODE, F.FAB0_LEGACY, F.FAB0_RETRAIN_ALL, F.FAB0_TIMEOUT_US, F.FAB0_ENABLE, F.FAB0_ZERO] ++
  [F.FAB0_SLOTS, F.FAB0_SENDERS, F.FAB0_CTX, F.FAB0_STAGE_BASE, F.FAB0_SLOT_SIZE, F.FAB0_SENDER] ++
  [F.FAB0_DEST_NODE, F.FAB0_DEST_VALID, F.FAB0_TIME_SRC_NODE, F.FAB0_TIME_SRC_VALID, F.FAB0_SLOT_STATE, F.FAB0_LIMIT] ++
  [F.FAB0_LAND_BUSY, F.FAB0_LAND_BOUNDS, F.FAB0_LAND_REFUSED, F.FAB0_LOST, F.FAB0_LIMIT_IDLE, F.FAB0_TIME_IGNORED] ++
  [F.FAB0_DEST_NODE_EFF, F.FAB0_DEST_VALID_EFF]

/-- The fields of page memc. -/
def regs_memc : List Fld :=
  [F.MEMC_CFG_RATE, F.MEMC_CHAN_EXCLUDE, F.MEMC_CHAN_TRAINED, F.MEMC_CHAN_EXCLUDED, F.MEMC_CHAN_HOT, F.MEMC_RANGE_BASE_BASE] ++
  [F.MEMC_RANGE_SIZE_SIZE, F.MEMC_LAYOUT_LOCK, F.MEMC_LAYOUT_LOCKED, F.MEMC_REFRESH_MULT, F.MEMC_REFRESH_FORCE, F.MEMC_REFRESH_FORCE_MULT] ++
  [F.MEMC_UE_ADDR_VALID, F.MEMC_UE_ADDR_ADDRESS, F.MEMC_UE_ADDR_ADDR, F.MEMC_READ_BURSTS, F.MEMC_WRITE_BURSTS, F.MEMC_ROW_HITS] ++
  [F.MEMC_ROW_MISSES, F.MEMC_CHECK_MISSES, F.MEMC_RMW, F.MEMC_CE, F.MEMC_UE, F.MEMC_KEY_MISS] ++
  [F.MEMC_AGED, F.MEMC_CLASS_CAP_CAP, F.MEMC_CLASS_CAP_CAP_EFF, F.MEMC_REG_MODE, F.MEMC_REG_MODE_EFF, F.MEMC_REG_AUTO] ++
  [F.MEMC_ROT_ENTRY, F.MEMC_DL_MISSED, F.MEMC_LC_READS, F.MEMC_BANK_FULL, F.MEMC_CLASS_FULL]

/-- The fields of page gath. -/
def regs_gath : List Fld :=
  [F.GATH_XD_CHOICES, F.GATH_XD_SPILLED, F.GATH_XD_DROPPED, F.GATH_XD_INVALID, F.GATH_XD_TABLE_WAIT, F.GATH_XC_TOKENS] ++
  [F.GATH_G_ROWS, F.GATH_G_MERGED, F.GATH_G_REFUSED]

/-- The fields of page slc. -/
def regs_slc : List Fld :=
  [F.SLC_SLICE_STATE_MODE, F.SLC_SLICE_STATE_SWEEP, F.SLC_SLICE_STATE_RLIST, F.SLC_BUCKET_MAP_SLICE, F.SLC_PIN_CFG_CEIL, F.SLC_PIN_CFG_RESERVED] ++
  [F.SLC_PIN_REQ_OP, F.SLC_PIN_REQ_ENTRY, F.SLC_PIN_REQ_WAYS, F.SLC_PIN_REQ_FILL, F.SLC_PIN_REQ_OWNER, F.SLC_PIN_BASE_BASE] ++
  [F.SLC_PIN_SIZE_SIZE, F.SLC_PIN_RESULT_CODE, F.SLC_PIN_RESULT_ENTRY, F.SLC_PIN_RESULT_VALID, F.SLC_PIN_ENTRY_VALID, F.SLC_PIN_ENTRY_FILLED] ++
  [F.SLC_PIN_ENTRY_WAYS, F.SLC_PIN_ENTRY_OWNER, F.SLC_THRASH_CFG_LIMIT, F.SLC_UE_ADDR_VALID, F.SLC_UE_ADDR_ADDR, F.SLC_HITS] ++
  [F.SLC_MISSES, F.SLC_MERGED, F.SLC_OWNER_MISS, F.SLC_WRITEBACKS, F.SLC_REDUCE_ALLOC, F.SLC_RESOLVES] ++
  [F.SLC_INVALS, F.SLC_CONSTRAINED, F.SLC_VICTIM_WAIT, F.SLC_PIN_OVERFLOW, F.SLC_RLIST_FULL, F.SLC_CE] ++
  [F.SLC_POISONED, F.SLC_CLASS_CAP_CAP, F.SLC_CLASS_CAP_CAP_EFF, F.SLC_RA_CFG_DEPTH, F.SLC_RA_CFG_CLASS, F.SLC_RA_CFG_DEPTH_EFF] ++
  [F.SLC_RA_CFG_CLASS_EFF, F.SLC_REFUSED, F.SLC_HELD, F.SLC_PF_ISSUED, F.SLC_STREAM_USEFUL, F.SLC_STREAM_LATE] ++
  [F.SLC_RA_USEFUL, F.SLC_RA_LATE, F.SLC_RA_DROP_BOUNDARY, F.SLC_RA_DROP_BUSY]

/-- The fields of page bond. -/
def regs_bond : List Fld :=
  [F.BOND_THRESH, F.BOND_WINDOW, F.BOND_MODE, F.BOND_SPARES_USED, F.BOND_SPARES_TOTAL, F.BOND_PENDING] ++
  [F.BOND_SITE_MODE, F.BOND_TRACK_WIRE, F.BOND_TRACK_COUNT, F.BOND_TRACK_VALID, F.BOND_CE, F.BOND_PARITY] ++
  [F.BOND_SUBST, F.BOND_GROUP_TESTS]

/-- The fields of page blk. -/
def regs_blk : List Fld :=
  [F.BLK_MX_STATUS_BUSY, F.BLK_MX_STATUS_LEVEL, F.BLK_MX_STATUS_HOLD, F.BLK_MX_STATUS_LOADS, F.BLK_MX_STATUS_DRAINS, F.BLK_MX_TEST_BALLAST_OFF] ++
  [F.BLK_MX_SLOTS, F.BLK_MX_BALLAST_CYCLES, F.BLK_MX_FEED_BUBBLES, F.BLK_MX_LOAD_WAITS, F.BLK_MX_DRAIN_WAITS, F.BLK_MX_GATED] ++
  [F.BLK_MX_ZERO_GATED, F.BLK_MX_MASKED_SLOTS, F.BLK_CSKIP_TAKEN, F.BLK_CSKIP_FALLTHRU, F.BLK_CC_STATUS_PC_WORD, F.BLK_CC_STATUS_HALTED] ++
  [F.BLK_CC_STATUS_RUNNING, F.BLK_CC_STATUS_DEPTH, F.BLK_CC_STATUS_STALL, F.BLK_CC_STATUS_LIVE_HALF, F.BLK_CC_STATUS_IDLE_STATE, F.BLK_IMEM_ADDR_WORD] ++
  [F.BLK_IMEM_ADDR_HALF, F.BLK_IMEM_ADDR_AUTOINC, F.BLK_CC_RETIRED, F.BLK_CC_QFULL, F.BLK_CC_MEMWAIT, F.BLK_CC_ILLEGAL] ++
  [F.BLK_CC_MISALIGNED, F.BLK_Q_STATUS_MXQ_FILL, F.BLK_Q_STATUS_VXQ_FILL, F.BLK_Q_STATUS_DXQ_FILL, F.BLK_Q_STATUS_SXQ_FILL, F.BLK_Q_WAIT_MXQ] ++
  [F.BLK_Q_WAIT_VXQ, F.BLK_Q_WAIT_DXQ, F.BLK_Q_WAIT_SXQ, F.BLK_BAR_COUNT_CHIP, F.BLK_BAR_COUNT_DISTRICT, F.BLK_EC_COUNT] ++
  [F.BLK_CMD_MALFORMED, F.BLK_CMD_CLASS_SUBST, F.BLK_EC_SATURATED, F.BLK_BAR_WAIT, F.BLK_VX_STATUS_RESIDENT, F.BLK_VX_STATUS_WAITING] ++
  [F.BLK_VX_STATUS_STOPPED, F.BLK_VX_FAULT_KIND, F.BLK_VX_FAULT_SLOT, F.BLK_VX_FAULT_LANE, F.BLK_VX_FAULT_PC_WORD, F.BLK_VX_FAULT_ADDR_ADDR] ++
  [F.BLK_VX_SLOT_STATE, F.BLK_VX_SLOT_DEPTH, F.BLK_VX_SLOT_PC_WORD, F.BLK_VX_ISSUED, F.BLK_VX_SECTORS, F.BLK_VX_DIVERGE] ++
  [F.BLK_VX_BAR_WAIT, F.BLK_VX_IDLE, F.BLK_VX_GMMA, F.BLK_SP_OWN_UNIT_REQ, F.BLK_SP_OWN_GATH_REQ, F.BLK_SP_OWN_UNIT] ++
  [F.BLK_SP_OWN_GATH, F.BLK_SP_OWN_PENDING, F.BLK_SP_OWN_CTX, F.BLK_SP_OWN_CTX_VALID, F.BLK_SP_MAP_MODE0, F.BLK_SP_MAP_MODE1] ++
  [F.BLK_SP_MAP_MODE0_EFF, F.BLK_SP_MAP_MODE1_EFF, F.BLK_SP_PWR_RET, F.BLK_SP_STATUS_RETAINED, F.BLK_SP_STATUS_WAKING, F.BLK_SP_UE_ADDR_ADDR] ++
  [F.BLK_SP_UE_ADDR_VALID, F.BLK_CLOVE_CTRL_START, F.BLK_CLOVE_CTRL_MODE, F.BLK_CLOVE_RESULT_FAIL, F.BLK_CLOVE_RESULT_ROW, F.BLK_CLOVE_RESULT_BUSY] ++
  [F.BLK_SP_FOREIGN, F.BLK_SP_CE, F.BLK_SP_RMW, F.BLK_SP_WAKE, F.BLK_SP_GUEST_WAIT, F.BLK_PF_CFG_DEPTH] ++
  [F.BLK_PF_CFG_DEPTH_EFF, F.BLK_PF_STREAM_SENT, F.BLK_PF_DROP_BOUNDARY]

/-- The fields of page ch. -/
def regs_ch : List Fld :=
  [F.CH_ENABLE, F.CH_RESET, F.CH_DOWN, F.CH_RING_ERR, F.CH_CFG_REJECT, F.CH_OUT_BUSY] ++
  [F.CH_LOG2, F.CH_RING_BASE, F.CH_CQ_BASE, F.CH_TAIL_ADDR, F.CH_IN_AREA, F.CH_IN_SIZE] ++
  [F.CH_CQ_VEC, F.CH_DLV_VEC, F.CH_OUT_AREA, F.CH_HEAD, F.CH_TAIL_SEEN, F.CH_DELIVERED] ++
  [F.CH_FETCHED]

/-- The fields of a page, its header aside. -/
def pageFields : Page → List Fld
  | .hdr => regs_hdr
  | .top => regs_top
  | .tick => regs_tick
  | .ctx => regs_ctx
  | .pwr => regs_pwr
  | .thm => regs_thm
  | .hk => regs_hk
  | .sec => regs_sec
  | .intc => regs_intc
  | .errq => regs_errq
  | .fuse => regs_fuse
  | .mb => regs_mb
  | .boot => regs_boot
  | .dom => regs_dom
  | .dist => regs_dist
  | .pcie => regs_pcie
  | .fab => regs_fab
  | .fab0 => regs_fab0
  | .memc => regs_memc
  | .gath => regs_gath
  | .slc => regs_slc
  | .bond => regs_bond
  | .blk => regs_blk
  | .ch => regs_ch

end Sys2Proof.Machine
end

