-- ==== Sys2Proof/Machine/State.lean ====
section
/-! DEFINITION. The state of the DG-3140: every register, queue, store, buffer and unit the spec gives it, as plain data,
and the state right after reset. -/

namespace Sys2Proof.Machine
open Sys2Proof

/-- Who makes a memory request (R231, R285). -/
inductive Src where
  /-- The control core of a Block. -/
  | core (p : Nat)
  /-- Group slot `g` of a Block's vector engine. -/
  | vx (p g : Nat)
  /-- The DMA of a Block. -/
  | dma (p : Nat)
  /-- A gather engine. -/
  | gath (d : Nat)
  /-- The host window of a PCIe port. -/
  | host (n : Nat)
  /-- The management cores. -/
  | mgmt
  /-- A device engine: loads, fetches, sweeps, pin fill, prefetch. -/
  | engine
  deriving DecidableEq, Repr

/-- What a request does. -/
inductive ROp where
  | read
  | write
  /-- A reduction with a code of R171. -/
  | reduce (redop : Nat)
  /-- A prefetch (R293): `true` for a stream prefetch, `false` for run-ahead. -/
  | prefetch (stream : Bool)
  deriving DecidableEq, Repr

/-- A request to the cache die: one line, a byte mask, and the fields of R234 and R280. -/
structure Req where
  /-- Serial number of the request. -/
  id : Nat
  src : Src
  op : ROp
  /-- Line number L = A[39:7] (R229). -/
  line : Nat
  /-- Bytes of the line that the request reads or writes. -/
  mask : BitVec 128
  /-- Write or reduction data, byte 0 lowest. -/
  data : BitVec 1024
  /-- A reduction that merges the elements of several threads (R194): mask and data of each, in lane order; else empty. -/
  parts : List (BitVec 128 × BitVec 1024)
  /-- Owner number (R234). -/
  owner : Nat
  /-- Key handle (R234). -/
  keyh : Nat
  /-- Context that the request belongs to, if any (R301). -/
  ctx : Option Nat
  /-- Frame number of the request (R39). -/
  frame : Nat
  /-- The request goes to the shadow copy of a committed region (R245). -/
  shadow : Bool
  /-- Class label. -/
  cls : Nat
  /-- Latency-critical read. -/
  lc : Bool
  /-- EXPIRY, 20 bits (R281). -/
  expiry : Nat
  /-- Device time of issue (R280). -/
  issued : Nat
  /-- Partition (R285). -/
  part : Nat
  /-- RA bit (R291). -/
  ra : Bool
  /-- RA_LIMIT, 64 KiB units (R280). -/
  raLimit : Nat
  /-- Bytes of the load inside the line, for the requester: first byte and size. -/
  off : Nat
  size : Nat
  /-- The request was refused and waits to be offered again (R288). -/
  refused : Bool
  deriving DecidableEq, Repr

/-- The answer to a request: the line's bytes as the requester sees them. -/
structure Resp where
  req : Req
  data : BitVec 1024
  deriving DecidableEq, Repr

/-- Line states (R233). -/
inductive LState where
  | clean | dirty | reduce | filling | poison
  deriving DecidableEq, Repr

/-- One way of a slice that is not INVALID: tag entry (R232), data and directory entry (R240). -/
structure Line where
  way : Nat
  /-- Line number, which set, ATAG and slice determine (R229). -/
  line : Nat
  st : LState
  pin : Bool
  redop : Nat
  sdirty : BitVec 4
  owner : Nat
  keyh : Nat
  rl : Bool
  /-- WRITER; `none` where no context has written the line, or the word cannot be read (R249). -/
  writer : Option Nat
  bvalid : BitVec 128
  data : BitVec 1024
  /-- Directory MODE: 0 no sharers, 1 pointers, 2 district bitmap. -/
  dmode : Nat
  ptrs : List Nat
  bitmap : BitVec 16
  deriving DecidableEq, Repr

/-- What a miss register waits for. -/
inductive MKind where
  /-- A fetch of the line (a demand read, a merge, an in-place reduction). -/
  | fetch
  /-- A fetch for a prefetch. -/
  | prefetch (stream : Bool)
  /-- A resolve of a REDUCE line (R244). -/
  | resolve
  /-- No way is eligible yet (R237). -/
  | victim
  deriving DecidableEq, Repr

/-- Where a miss register's line request stands. -/
inductive MStage where
  /-- Not yet in a controller slot. -/
  | waiting
  /-- Kept back because its bank holds 64 slots (R287). -/
  | held
  /-- In a slot of the controller. -/
  | slot
  /-- The controller has answered: the line, and the first sector with an uncorrectable error. -/
  | done (data : BitVec 1024) (ue : Option Nat)
  deriving DecidableEq, Repr

/-- A miss register (R238). -/
structure Miss where
  line : Nat
  owner : Nat
  keyh : Nat
  kind : MKind
  stage : MStage
  cls : Nat
  lc : Bool
  expiry : Nat
  issued : Nat
  part : Nat
  /-- The first request came from a gather engine (R296). -/
  gath : Bool
  /-- Whether the fetched line is to be allocated, and pinned. -/
  alloc : Bool
  waiters : List Req
  /-- The waiting request waits in the slot for a key (R266). -/
  keyWait : Bool
  /-- It waits for its check burst (R262). -/
  checkWait : Bool
  /-- RA_LIMIT, which goes to the controller with the rest (R280). -/
  raLimit : Nat
  /-- Bursts of 64 bytes that the controller has still to read (R268). -/
  cols : Nat
  deriving DecidableEq, Repr

/-- A write, reduction or store that waits for invalidations (R241). -/
structure InvWait where
  req : Req
  /-- Blocks whose acknowledgement is still to come. -/
  left : List Nat
  deriving DecidableEq, Repr

/-- An invalidation on its way to an L1, or its acknowledgement on its way back. -/
structure InvMsg where
  slice : Nat
  line : Nat
  blk : Nat
  /-- Serial number of the write that caused it. -/
  req : Nat
  /-- The L1 has acknowledged. -/
  acked : Bool
  deriving DecidableEq, Repr

/-- A sweep of a slice (R252): every line of an owner, or of a key handle. -/
structure Sweep where
  owner : Option Nat
  handle : Option Nat
  deriving DecidableEq, Repr

/-- A cache-die slice. -/
structure Slice where
  /-- The ways in use. -/
  lines : List Line
  /-- Pseudo-LRU tree of each set (R237). -/
  plru : SMap (BitVec 15)
  /-- Miss registers in order of allocation. -/
  miss : List Miss
  /-- Rollback list: lines (R245). -/
  rlist : List Nat
  /-- Constrained victim choices in the running frame (R248). -/
  constrained : Nat
  /-- Prefetch record, oldest first: line and whether from the stream prefetcher (R294). -/
  record : List (Nat × Bool)
  /-- Writes that wait for invalidations. -/
  invWait : List InvWait
  /-- Sweeps running. -/
  sweeps : List Sweep
  /-- Lines with an injected error (R249, R323): (line, kind), 1 and 2 one and two bits of the data, 3 and 4 of the tag, 5 and 6 of the
directory entry. -/
  errs : List (Nat × Nat)
  /-- The next protected word written is to be flipped in this many bits (R323). -/
  inject : Nat
  /-- Ways that the scrub walker has visited since reset (R306). -/
  scrub : Nat
  /-- A parity error on this group of the bond field's wires has been reported; the request that met it is discarded (R249). -/
  parity : Option Nat
  /-- Buckets that a retirement moved from the slice (R251). -/
  moved : List Nat
  deriving DecidableEq, Repr

/-- A slice after reset: every way INVALID. -/
def Slice.reset : Slice := ⟨[], [], [], [], 0, [], [], [], [], 0, 0, none, []⟩

/-- A pin entry of a package group (R246). -/
structure PinEntry where
  base : Nat
  size : Nat
  owner : Nat
  ways : Nat
  fill : Bool
  deriving DecidableEq, Repr

/-- A check burst in a check cache (R262). -/
structure CheckBurst where
  chan : Nat
  burst : Nat
  dirty : Bool
  /-- Injected error in the cached burst: 0 none, 1 one bit, 2 two bits (R262, R323). -/
  err : Nat
  deriving DecidableEq, Repr

/-- A write that holds a controller slot until its column commands are issued (R268, R269): its line, the sectors that it writes, and device
time of issue. Its bytes are those of the state already, as R269 has every read see them. -/
structure MemWrite where
  line : Nat
  secs : BitVec 4
  issued : Nat
  deriving DecidableEq, Repr

/-- A memory controller and its package. -/
structure Memc where
  /-- Capacity of one channel of the package, in GiB (R254). -/
  chanGiB : Nat
  /-- Two ranks. -/
  twoRanks : Bool
  /-- Key handles whose key the controller holds (R266). -/
  keys : List Nat
  /-- Check bursts held, by set (R262). -/
  checks : SMap (List CheckBurst)
  /-- Open row by bank number 32 × channel + 16 × rank + 4 × group + bank (R259, R268). -/
  rows : SMap Nat
  /-- Next ROT entry (R286). -/
  rot : Nat
  /-- Channels in self-refresh for retraining (R274). -/
  retrain : List Nat
  /-- Sectors that the scrub walker has visited since reset (R307). -/
  scrub : Nat
  /-- The next protected word written is to be flipped in this many bits (R323). -/
  inject : Nat
  /-- Every rank in self-refresh (R275). -/
  selfRefresh : Bool
  /-- Multiplier code that MR4 last requested, by channel (R270). -/
  mr4 : SMap Nat
  /-- The controller's checker failed its self-test (R309). -/
  failed : Bool
  /-- Writes in slots (R268), and how many of a batch of 32 are still to be issued; 0 while reads are served. -/
  writes : List MemWrite
  batch : Nat
  /-- Key handles that are dropped once no request under them remains in the slots (R266). -/
  drops : List Nat
  /-- Bank that the next refresh of a channel names (R270). -/
  refBank : SMap Nat
  /-- Device time until which a bank is unavailable (R270), by bank number. -/
  busy : SMap Nat
  deriving DecidableEq, Repr

/-- A stored sector: the key under which it was last written, and an error kind (0 none, 1 single bit, 2 double bit, 3 address parity,
4 its check word lost in the check cache). -/
structure Sector where
  key : BitVec 512
  err : Nat
  deriving DecidableEq, Repr

/-- A load of the control core in flight (R135). -/
structure CoreLoad where
  /-- Serial number of its request. -/
  req : Nat
  rd : Nat
  /-- Access size code SZ (R131). -/
  sz : Nat
  /-- Context address. -/
  addr : Nat
  deriving DecidableEq, Repr

/-- The registers and the issue state of a control core (R124). -/
structure Core where
  /-- s1 to s31 (R124). -/
  sreg : SMap DWord
  /-- p1 to p7. -/
  preg : SMap Bool
  /-- lc0 to lc3. -/
  lc : SMap Word
  /-- cb0 to cb7. -/
  cb : SMap Word
  /-- Byte offset in the live half. -/
  pc : BitVec 16
  /-- Active loops, innermost first: first instruction and end instruction (R139); DEPTH is their number. -/
  loops : List (Nat × Nat)
  /-- Class label CLS. -/
  cls : BitVec 4
  /-- The core is in a frame (R151). -/
  running : Bool
  /-- Issue stopped by HALT or frame end. -/
  halted : Bool
  /-- STALL of CC_STATUS: 0 none, 1 queue full, 2 load or store, 3 divide. -/
  stall : Nat
  loads : List CoreLoad
  /-- Serial numbers of the stores in flight. -/
  stores : List Nat
  /-- Line of the previous L1 read miss (R291). -/
  lastMiss : Option Nat
  deriving DecidableEq, Repr

/-- A control core that holds nothing and does not run. -/
def Core.reset : Core := ⟨[], [], [], [], 0, [], 0, false, false, 0, [], [], none⟩

/-- The four queues (R156). -/
inductive Q where
  | mxq | vxq | dxq | sxq
  deriving DecidableEq, Repr

/-- A queue entry: its place in the order in which the core appended commands to all queues (R176), and the command. -/
structure QEntry where
  ord : Nat
  cmd : Cmd
  deriving DecidableEq, Repr

/-- A command taken from its queue and not yet complete (R156). -/
structure InFlight where
  ord : Nat
  q : Q
  cmd : Cmd
  /-- The unit has started it (R77). -/
  started : Bool
  /-- The unit's work for it is done, so it can complete. -/
  done : Bool
  deriving DecidableEq, Repr

/-- The command queues, event counters and barrier state of a Block. -/
structure Queues where
  mxq : List QEntry
  vxq : List QEntry
  dxq : List QEntry
  sxq : List QEntry
  /-- Order number of the next command appended. -/
  nextOrd : Nat
  inflight : List InFlight
  /-- Event counters EC[0] to EC[15] (R165). -/
  ec : SMap Nat
  /-- Barriers of chip and district scope completed in the frame (R181). -/
  barChip : Nat
  barDist : Nat
  /-- The Block waits at a barrier: `some true` at a chip barrier, `some false` at a district barrier (R177). -/
  atBarrier : Option Bool
  /-- A command check failed: no queue takes a further command (R160). -/
  stopped : Bool
  /-- FRAME_END has been taken and waits for its drain, and it has completed (R179). -/
  frameEnd : Bool
  ended : Bool
  deriving DecidableEq, Repr

/-- Empty queues. -/
def Queues.reset : Queues := ⟨[], [], [], [], 0, [], [], 0, 0, none, false, false, false⟩

/-- State of the idle I-memory half (R147). -/
inductive IdleState where
  | open | loading | loaded
  deriving DecidableEq, Repr

/-- The I-memory of a Block (R147): two halves of 16,384 words; a word not listed is HALT, 0x0000_0061. -/
structure IMem where
  half0 : SMap Word
  half1 : SMap Word
  /-- Physical half now live. -/
  live : Nat
  idle : IdleState
  /-- Context whose code half 0 and half 1 hold, with no external write since (R150). -/
  code0 : Option Nat
  code1 : Option Nat
  /-- Words with an uncorrectable error, as 16384 × half + word (R298). -/
  bad : List Nat
  /-- Words with an error that is corrected on every fetch (R298). -/
  soft : List Nat
  /-- A half whose power was off: its words not listed are the free values from this number on (R420). The model's own field. -/
  lost0 : Option Nat
  lost1 : Option Nat
  deriving DecidableEq, Repr

/-- I-memory after reset. -/
def IMem.reset : IMem := ⟨[], [], 0, .open, none, none, [], [], none, none⟩

/-- The scratchpad of a Block (R210, R219). -/
structure Spad where
  /-- The 64-bit words whose valid bit is set, by 8192 × bank + 4 × row + word. -/
  words : SMap DWord
  /-- Words with an injected error: 1 single bit, 2 double bit. -/
  errs : SMap Nat
  /-- The next protected word that the Block writes, in scratchpad, I-memory or L1, is to be flipped in this many bits (R323). -/
  inject : Nat
  /-- A Clove run: `some true` preserving, `some false` destructive (R225). -/
  clove : Option Bool
  /-- Owner context of every bank (R213, R216): step 5 gives all banks the same one. -/
  own : Option Nat
  deriving DecidableEq, Repr

/-- A scratchpad with every valid bit clear. -/
def Spad.reset : Spad := ⟨[], [], 0, none, none⟩

/-- A line of an L1 data cache (R239). -/
structure L1Line where
  line : Nat
  owner : Nat
  keyh : Nat
  data : BitVec 1024
  /-- An injected error: the line is refetched (R239, R298). -/
  bad : Bool
  deriving DecidableEq, Repr

/-- The activity of the arrays of a Block (R94 to R96): a level is in steps of 25%. -/
inductive Ramp where
  | off
  | up (level : Nat)
  | hold
  | down (level : Nat)
  deriving DecidableEq, Repr

/-- A weight buffer of one array: the format, the mode and the tile image as loaded (R105). -/
structure WBuf where
  wfmt : Nat
  mode : Nat
  image : List Byte
  deriving DecidableEq, Repr

/-- An accumulator set of one array: token rows written in the frame, each 32 words, and whether an integer pass wrote it. -/
structure AccSet where
  /-- `none`: no pass has written the set in the frame (R79). -/
  isInt : Option Bool
  /-- Passes of both kinds, or of an unsupported pair, have written it: the rows not listed are undefined (R72). -/
  bad : Bool
  rows : SMap (List Word)
  deriving DecidableEq, Repr

/-- An entry of the feeder queues (R67, R83, R110): the 32 queues of 16 entries are written and popped together, so that an entry is one
row-slot of one token: the order number of its MPASS, the token, whether it is masked (a row-slot of zeros), elements and scales. -/
structure FeedSlot where
  ord : Nat
  token : Nat
  masked : Bool
  elems : Nat
  scales : Nat
  deriving DecidableEq, Repr

/-- The matrix arrays of a Block. -/
structure Matrix where
  ramp : Ramp
  /-- Weight buffers by 2 × array + buffer; one not listed is empty (R80). -/
  bufs : SMap WBuf
  /-- Accumulator sets by 2 × array + set; one not listed is empty. -/
  accs : SMap AccSet
  /-- Cell products skipped since the last step of MX_ZERO_GATED, below 65,536 (R111). -/
  zeroGated : Nat
  /-- Issue gate levels that the arrays run under since the last 16-cycle boundary (R426). -/
  gate : Nat
  dgate : Nat
  /-- The feeder queues, oldest row-slot first, at most 16 (R67, R83). -/
  feed : List FeedSlot
  /-- The token mask that the fetch unit has read with the first row-slot of the accepted pass (R110). -/
  tmask : BitVec 512
  /-- The shift registers that ballast cells take their operands from, one for each array (R93). -/
  lfsr : List Word
  deriving DecidableEq, Repr

/-- Arrays off, buffers, sets and queues empty. [DESIGN CHOICE, log entry 64] -/
def Matrix.reset : Matrix := ⟨.off, [], [], 0, 0, 0, [], 0, [0, 0, 0, 0]⟩

/-- An entry of a reconvergence stack (R197). -/
structure StackEnt where
  rpc : Nat
  mask : BitVec 32
  pendPc : Nat
  pendMask : BitVec 32
  deriving DecidableEq, Repr

/-- One thread's part of a vector load: lane, line, byte of the line, bytes. -/
structure VItem where
  lane : Nat
  line : Nat
  off : Nat
  size : Nat
  deriving DecidableEq, Repr

/-- A vector load in flight (R190): destination, size code, the threads' parts, requests still out, lines that have arrived. -/
structure VLoad where
  d : Nat
  sz : Nat
  items : List VItem
  need : List Nat
  got : SMap (BitVec 1024)
  deriving DecidableEq, Repr

/-- A thread group in its slot (R182, R183). -/
structure Group where
  /-- Order of acceptance of its VLAUNCH, which is its age (R190). -/
  ord : Nat
  /-- Group number within the launch, and GROUPS of the launch. -/
  num : Nat
  groups : Nat
  /-- Command word of its VLAUNCH: class, LC, SR, deadline (R192). -/
  cls : Nat
  lc : Bool
  sr : Bool
  deadline : Nat
  pc : Nat
  active : BitVec 32
  exited : BitVec 32
  /-- Threads that wait at a barrier: lane to offset; and whether the wait is for the Block barrier. -/
  waits : SMap Nat
  waitBlk : SMap Bool
  stack : List StackEnt
  /-- t registers by 64 × lane + register. -/
  treg : SMap Word
  /-- q predicates by 8 × lane + predicate. -/
  qreg : SMap Bool
  loads : List VLoad
  /-- Requests still out of each store or reduction in flight. -/
  stores : List (List Nat)
  lastMiss : Option Nat
  deriving DecidableEq, Repr

/-- A Block: the units of one physical site. -/
structure Block where
  core : Core
  q : Queues
  im : IMem
  sp : Spad
  l1 : List L1Line
  mx : Matrix
  /-- Thread groups by slot (R182). -/
  vx : SMap Group
  /-- Vector issue stopped by a fault (R207). -/
  vxStopped : Bool
  /-- The site is a cold spare, bad by fuse or retired: CAPS SITE (R488). -/
  site : Nat
  /-- The site's bond is in half width (R321). -/
  half : Bool
  deriving DecidableEq, Repr

/-- A count table that a part has sent to an engine (R114): entries (rank, expert) to count, keyed 256 × rank + expert. -/
structure CountTable where
  dtag : Nat
  part : Nat
  table : SMap Nat
  deriving DecidableEq, Repr

/-- A dispatch part that has counted and waits for the tables of the other parts (R114). -/
structure Part where
  blk : Nat
  ord : Nat
  cmd : Cmd
  /-- The 128-byte descriptor as read (R174). -/
  desc : List Byte
  dtag : Nat
  parts : Nat
  part : Nat
  tables : List CountTable
  /-- Another part of the dispatch has been found to break the rule of R112: the outputs of every part are undefined. -/
  broken : Bool
  deriving DecidableEq, Repr

/-- A command in a gather engine's inbound buffer: Block, order, command (R158). -/
structure GCmd where
  blk : Nat
  ord : Nat
  cmd : Cmd
  deriving DecidableEq, Repr

/-- A gather engine. -/
structure Gather where
  inbound : List GCmd
  parts : List Part
  /-- Count tables on their way to this engine. -/
  incoming : List CountTable
  deriving DecidableEq, Repr

/-- An idle gather engine. -/
def Gather.reset : Gather := ⟨[], [], []⟩

/-- A region of a context as loaded (R48). -/
structure Region where
  vbase : Nat
  size : Nat
  baseA : Nat
  baseB : Nat
  kind : Nat
  key : Nat
  owner : Nat
  ownerValid : Bool
  deriving DecidableEq, Repr

/-- What the preparation of an ACTIVATE found (R46, R340). -/
structure Prep where
  /-- It was prepared as an ACTIVATE from EMPTY. -/
  fromEmpty : Bool
  /-- REASON of its refusal, 0 for none (R43). -/
  reason : Nat
  meas : BitVec 384
  prog : List Word
  regions : List Region
  curMap : BitVec 1024
  /-- The new context storage key. -/
  key : BitVec 512
  /-- Requested slots: slot, request, and the REASON of a refused grant, 0 for a grant (R340, R356). -/
  slots : List (Nat × Nat × Nat)
  deriving DecidableEq, Repr

/-- A context command queued in CTX.CMD, and for an ACTIVATE whose preparation has finished what it found (R42, R340). -/
structure CtxCmd where
  op : Nat
  ctx : Nat
  prep : Option Prep
  deriving DecidableEq, Repr

/-- A context-table entry (R45) and what the device holds beside it. -/
structure Ctx where
  /-- Host-written bytes 0x000 to 0x1FF, STATUS aside; one not listed is zero. -/
  host : SMap Byte
  /-- STATUS.STATE (R41). -/
  state : Nat
  resident : Bool
  replays : Nat
  faultAtOverrun : Bool
  directWritten : Bool
  cause : Nat
  intakeHalf : Nat
  measurement : BitVec 384
  energyMean : Nat
  lastStart : Nat
  /-- Bound tenants by slot (R339). -/
  bound : SMap Nat
  stopFrame : Nat
  curMap : BitVec 1024
  /-- Regions as the device loaded them. -/
  regions : List Region
  /-- The entry, region table and key bindings are loaded (R47). -/
  loaded : Bool
  /-- The load at residency failed a check; the context is killed in step 1 (R46). -/
  loadFail : Bool
  /-- Code in the device-owned program store (R148). -/
  prog : List Word
  /-- Device time of its activation or resumption, if it has not started since (R59). -/
  activated : Option Nat
  /-- A replay is pending (R54). -/
  replayPending : Bool
  /-- Consecutive choices for which it was ready but ineligible (R60). -/
  overBudget : Nat
  /-- Order in which it last started a frame, or was activated (R47). -/
  startOrder : Nat
  /-- Owner sweeps of a release still running (R252): slices left. -/
  sweeping : List Nat
  /-- A kill decided after a clean frame end, or for a context not yet ACTIVE: its cause (R38, R251). -/
  killDue : Option Nat
  /-- Requested bindings: slot to tenant, or 0x1000 for CLEAR (R339). -/
  bindReq : SMap Nat
  /-- It has started a frame since its ACTIVATE from EMPTY (R47). -/
  started : Bool
  deriving DecidableEq, Repr

/-- An EMPTY entry. -/
def Ctx.reset : Ctx :=
  ⟨[], 0, false, 0, false, false, 0, 0, 0, 0, 0, [], 0, 0, [], false, false, [], none, false, 0, 0, [], none, [], false⟩

/-- A report in the running frame's fault record (R39). -/
structure FaultRep where
  code : Nat
  addr : Nat
  kill : Bool
  cause : Nat
  deriving DecidableEq, Repr

/-- A submission of an intake: channel, index in the ring, and the descriptor's 64 bytes (R365). -/
structure Sub where
  chan : Nat
  idx : Nat
  desc : List Byte
  /-- Status of the submission's envelope (R370). -/
  status : Nat
  /-- Place of the payload in the intake half. -/
  off : Nat
  len : Nat
  /-- Tenant and SEQ of an opened envelope (R345). -/
  seq : Option (Nat × Nat)
  /-- Tenant and SEQ of the envelope that it carries, opened or not (R345). -/
  env : Option (Nat × Nat)
  deriving DecidableEq, Repr

/-- A held intake (R63). -/
structure Intake where
  ctx : Nat
  half : Nat
  subs : List Sub
  /-- Fetch positions where it began, by channel. -/
  starts : SMap Nat
  deriving DecidableEq, Repr

/-- The running frame. -/
structure Run where
  ctx : Nat
  /-- The frame is a replay. -/
  replay : Bool
  intake : Option Intake
  /-- STATUS.INTAKE_HALF when the frame started, or the half of its intake (R129). -/
  half : Nat
  /-- Fault record (R37, R39). -/
  faults : List FaultRep
  /-- Every enabled Block has completed frame end (R37). -/
  ended : Bool
  /-- Committed regions written (R49). -/
  marks : List Nat
  /-- Device time of the start. -/
  start : Nat
  deriving DecidableEq, Repr

/-- The choice for the coming frame (R34). -/
structure Choice where
  ctx : Nat
  replay : Bool
  intake : Option Intake
  /-- The intake has been fetched, or none is needed. -/
  fetched : Bool
  deriving DecidableEq, Repr

/-- The deliveries of a committed frame on one channel (R372): context, frame, and the submissions left with their positions. -/
structure Deliv where
  ctx : Nat
  frame : Nat
  chan : Nat
  subs : List (Nat × Sub)
  deriving DecidableEq, Repr

/-- The Plaza. -/
structure Plaza where
  run : Option Run
  choice : Option Choice
  cmds : List CtxCmd
  /-- The last frame's context, whose L1 lines may remain (R239). -/
  lastCtx : Option Nat
  /-- A held intake of a context waiting for its replay. -/
  held : List Intake
  /-- Ticking (R485); a stop waits for the next gap. -/
  ticking : Bool
  stopping : Bool
  /-- A follower waits for the first TICK_IN pulse. -/
  waitPulse : Bool
  /-- A tick of a follower is due: a pulse has come, or its own timer has run out (R32). -/
  armed : Bool
  /-- Counter that orders frame starts and activations. -/
  starts : Nat
  /-- PWR.ENERGY at the start of the running frame (R428). -/
  frameEnergy : Nat
  /-- The Plaza has made its first tick since reset (R417, R459). -/
  ticked : Bool
  /-- EVT_STATUS of TICK and CTX as the last step 7 saw them (R475). -/
  seen : Nat × Nat
  /-- Deliveries in progress, oldest first (R372). -/
  dlv : List Deliv
  /-- Ticks since reset. -/
  ticks : Nat
  deriving DecidableEq, Repr

/-- A Plaza that has not ticked. -/
def Plaza.reset : Plaza := ⟨none, none, [], none, [], false, false, false, false, 0, 0, false, (0, 0), [], 0⟩

/-- An error-queue entry (R311). -/
structure ErrEntry where
  code : Nat
  detail : Nat
  ctx : Option Nat
  kill : Bool
  replayable : Bool
  late : Bool
  page : Nat
  frame : Nat
  addr : Nat
  syndrome : Nat
  writer : Option Nat
  seq : Nat
  deriving DecidableEq, Repr

/-- An entry of a correctable-error table (R302). -/
structure CeEntry where
  unit : Nat
  addr : Nat
  syndrome : Nat
  count : Nat
  lastFrame : Nat
  deriving DecidableEq, Repr

/-- The error queue and the correctable-error tables. -/
structure ErrQ where
  entries : List ErrEntry
  nextSeq : Nat
  /-- Entries stored per (context or unit, frame), for the limits of R311: key 2 × context, or 2 × page + 1. -/
  stored : List (Nat × Nat × Nat)
  ce : SMap (List CeEntry)
  /-- Interrupt source 18 is raised by a suppressed report. -/
  supp : Bool
  deriving DecidableEq, Repr

/-- An empty error queue. -/
def ErrQ.reset : ErrQ := ⟨[], 0, [], [], false⟩

/-- A PCIe port: what the host configures and what the link does (R357, R276). -/
structure Port where
  up : Bool
  /-- Log2 of the size of BAR2 (R276). -/
  bar2 : Nat
  /-- Functions with MSI-X enabled: 0 the PF, 1 to 16 the VFs. -/
  msix : List Nat
  /-- ASPM L1 enabled by the host (R358). -/
  aspm : Bool
  /-- Functions in reset (R377). -/
  inReset : List Nat
  /-- Device time at which the link went down. -/
  downAt : Nat
  /-- Line of the previous window read that missed (R291). -/
  winMiss : Option Nat
  /-- Intake bytes fetched beyond the last whole 1,024 that INTAKE_BYTES counts (R380). -/
  inRem : Nat
  deriving DecidableEq, Repr

/-- A port after reset: link down, BAR2 of 64 GiB (R276, R454). -/
def Port.reset : Port := ⟨false, 36, [], false, [], 0, none, 0⟩

/-- What the Plaza holds of a channel beside its registers (R35, R59, R66). -/
structure Chan where
  /-- A tail-word read is on its way. -/
  tailAsked : Bool
  /-- Index of the submission whose DUE field is being read or has been read, and what the read returned. -/
  dueIdx : Option Nat
  due : Option Nat
  /-- Tail values that moved the tail on, with the device time of the tail read: for BACKLOG_AGE. -/
  marks : List (Nat × Nat)
  /-- Device time at which the tail read was issued. -/
  tailTime : Nat
  deriving DecidableEq, Repr

/-- A channel that has been polled never. -/
def Chan.reset : Chan := ⟨false, none, none, [], 0⟩

/-- A staging slot of the landing unit (R392), by 8 × sender + slot. -/
structure Stage where
  /-- 0 FREE, 1 ZEROING, 2 LANDING, 3 VISIBLE, 4 CONSUMING. -/
  state : Nat
  frame : Nat
  /-- The COMMIT packet of the frame has arrived. -/
  committed : Bool
  /-- Payload bytes landed. -/
  bytes : Nat
  deriving DecidableEq, Repr

/-- What the landing unit knows of a sender: the newest frame freed, and frames whose COMMIT or ABORT it has handled. -/
structure Sender where
  freed : Option Nat
  held : Bool
  committed : List Nat
  aborted : List Nat
  /-- Frames whose COMMIT found their slot taken or ZEROING, in order of arrival (R56, R392). -/
  late : List Nat
  deriving DecidableEq, Repr

/-- A landing write on its way to completion: the answer that it will send (R390). -/
structure Landing where
  dest : Nat
  xtag : Nat
  frame : Nat
  deriving DecidableEq, Repr

/-- A packet that a port or the device is to send: type, ADD or STATUS, FINAL, LEN, DEST, XTAG, FRAME, OFF, PAD, payload. -/
structure TxPkt where
  type : Nat
  add : Nat
  final : Bool
  len : Nat
  dest : Nat
  src : Nat
  xtag : Nat
  frame : Nat
  off : Nat
  pad : Nat
  payload : List Byte
  deriving DecidableEq, Repr

/-- A packet in a replay buffer: its SEQ, the packet, its header fields and sealed bytes as they were sent (R386), and how often it has been resent. -/
structure Unacked where
  seq : Nat
  pkt : TxPkt
  hdr : List Nat
  wire : List Byte
  resends : Nat
  deriving DecidableEq, Repr

/-- The keys of a link session: traffic to the peer, traffic from it, and the IV salt (R349). -/
structure Link where
  tx : BitVec 256
  rx : BitVec 256
  salt : BitVec 32
  deriving DecidableEq, Repr

/-- A fabric port's link state (R384 to R387, R399, R401). -/
structure FabPort where
  txSeq : Nat
  rxSeq : Nat
  replay : List Unacked
  /-- Credits held from the peer, and cells owed to it. -/
  credits : Nat
  owed : Nat
  txCount : Nat
  rxCount : Nat
  txEpoch : Bool
  rxEpoch : Bool
  rekeySent : Bool
  /-- A gap is open: packets are discarded until it is filled. -/
  gap : Bool
  /-- HELLO bytes assembled so far. -/
  hello : List Byte
  /-- Physical lanes in use, in order, and the spare. -/
  lanes : List Nat
  spare : Option Nat
  /-- A lane removed and being retrained in the background; a swap that waits for its answer. -/
  retrain : Option Nat
  swap : Option Nat
  /-- A checker of the port failed its self-test (R309). -/
  bad : Bool
  /-- Lanes that the fuses list, as bring-up has marked them (R3, R460). -/
  barred : List Nat
  /-- Ephemeral scalar and nonce of this end, of the key exchange in progress (R349, R401). -/
  eph : Option (Nat × List Byte)
  /-- Keys of the session, and those of the session before it while packets of its epoch may arrive (R349, R401). -/
  link : Option Link
  oldLink : Option Link
  /-- A REKEY payload of the peer that waits for the entropy source (R343, R401). -/
  rekeyHeld : Option (List Byte)
  deriving DecidableEq, Repr

/-- A port before training. -/
def FabPort.reset : FabPort := ⟨0, 0, [], 0, 0, 0, 0, false, false, false, false, [], [], none, none, none, false, [], none, none, none, none⟩

/-- A DATA packet that waits for its LANDED (R388, R390). -/
structure Flight where
  port : Nat
  tag : Nat
  tags : Nat
  pkt : TxPkt
  /-- The last answer was STATUS 1. -/
  busy : Bool
  deriving DecidableEq, Repr

/-- An FSEND in progress at a Block DMA. -/
structure Send where
  blk : Nat
  ord : Nat
  cmd : Cmd
  ctx : Nat
  frame : Nat
  /-- Bytes sent so far. -/
  pos : Nat
  flights : List Flight
  deriving DecidableEq, Repr

/-- The device-level part of the fabric. -/
structure Fabric where
  ports : SMap FabPort
  sends : List Send
  stages : SMap Stage
  senders : SMap Sender
  landings : List Landing
  /-- Control packets that found no ACTIVE port (R387). -/
  waiting : List TxPkt
  /-- Destinations that have sent a limit since the link came up (R397). -/
  limited : List Nat
  /-- Frame number that a follower takes at its next tick (R405). -/
  adopt : Option Nat
  deriving DecidableEq, Repr

/-- A fabric that has not trained. -/
def Fabric.reset : Fabric := ⟨[], [], [], [], [], [], [], none⟩

/-- A switched domain (R420 to R422). -/
structure Dom where
  /-- State to which it goes: 0 OFF, 1 RET, 2 ON. -/
  target : Nat
  /-- It left OFF (false) or RET (true) for ON. -/
  fromRet : Bool
  /-- It is leaving ON. -/
  leaving : Bool
  /-- µs of headroom pause in this switch-on. -/
  paused : Nat
  deriving DecidableEq, Repr

/-- The power limiter, the guards and the MINSENSE frame (R409 to R426). -/
structure Power where
  doms : SMap Dom
  /-- MINSENSE frames sent. -/
  seq : Nat
  /-- Consecutive frames with VMIN 50 mV below VTARGET, and below 0.70 V. -/
  under : Nat
  low : Nat
  /-- VIN_CORE sensors out of service until reset (R408). -/
  vout : List Nat
  /-- Latest VIN_CORE sample in mA. -/
  vin : Nat
  /-- The fast guard acted in the window; samples since its last action, and since that of each district guard. -/
  fast : Bool
  fastAge : Nat
  distAge : SMap Nat
  /-- Districts with a sample at or above 95% of their cap in the window. -/
  warm : List Nat
  /-- The firmware's inputs: a level raise waits for its voltage: the target level, and whether the voltage is there. -/
  raise : Option Nat
  raised : Bool
  /-- Warm-up ballast runs (R429). -/
  warming : Bool
  deriving DecidableEq, Repr

/-- Power control after reset. -/
def Power.reset : Power := ⟨[], 0, 0, 0, [], 0, false, 4, [], [], none, false, false⟩

/-- The housekeeping sequencer and the trip logic (R431 to R447). -/
structure Thermal where
  /-- Next channel. -/
  chan : Nat
  /-- Sensors out of service. -/
  out : List Nat
  /-- Readings, by sensor, in 0.125 °C; one not listed has not been read. -/
  read : SMap Int
  /-- Estimates by tile; and tiles whose estimate came from a model. -/
  est : SMap Int
  model : List Nat
  /-- Temperatures of districts 0 to 15 and quadrants 16 to 19 (R436). -/
  units : SMap Int
  /-- TMAX and TMIN last formed. -/
  tmax : Int
  tmin : Int
  /-- SENSOR_DISAGREE held in this round. -/
  disagree : Bool
  /-- Units whose cycle counting has its first temperature (R447). -/
  begun : List Nat
  /-- Latest telemetry measurements by channel, 160 to 361 (R433): bond and cell health, currents in mA, voltages in mV. -/
  tele : SMap Nat
  deriving DecidableEq, Repr

/-- No reading yet. -/
def Thermal.reset : Thermal := ⟨0, [], [], [], [], [], 0, 0, false, [], []⟩

/-- A record of the bond-wear log (R448, R457). -/
inductive LogRec where
  /-- Field and wire replaced by a spare. -/
  | subst (field wire : Nat)
  /-- Field, and site for a district field, in HALF. -/
  | half (field site : Nat)
  | site (p : Nat)
  | slice (n : Nat)
  | cell (d c : Nat)
  /-- Unit: halves, direction, extreme. -/
  | cycles (unit halves dir : Nat) (ext : Int)
  deriving DecidableEq, Repr

/-- The boot flash and the fuses that change in service: they keep their contents across every reset. -/
structure Nvm where
  image : List Byte
  /-- Option record: value for BOOT.OPT, if present with a good check. -/
  opt : Option Nat
  log : List LogRec
  /-- FUSE_SVN field, 64 bits (R333). -/
  svnFuse : BitVec 64
  deriving DecidableEq, Repr

/-- Flash and fuses of a new part. -/
def Nvm.reset : Nvm := ⟨[], none, [], 0⟩

/-- A wire or site change that waits for step 3 (R15, R18, R320, R321), and the other changes that step 3 applies. -/
structure Later where
  /-- Failing wires: field and wire. -/
  wires : List (Nat × Nat)
  /-- Wire groups to test: field and group. -/
  tests : List (Nat × Nat)
  sites : List Nat
  slices : List Nat
  /-- Districts that go dark. -/
  dark : List Nat
  /-- Domain requests of the coming step 3. -/
  doms : SMap Nat
  /-- The mailbox that asked for a change of primary authority, and the port that gains it (R376). -/
  auth : Option (Nat × Nat)
  /-- READY is to be reported (R467). -/
  ready : Bool
  /-- Mailboxes with an ATTEST pending. -/
  attest : List Nat
  /-- Changes for step 3 that the wear log does not hold yet. -/
  log : List LogRec
  deriving DecidableEq, Repr

/-- Nothing waits. -/
def Later.reset : Later := ⟨[], [], [], [], [], [], none, false, [], []⟩

/-- A mailbox (R472, R473). -/
structure Mailbox where
  window : SMap Byte
  /-- The kept response. -/
  kept : List Byte
  deriving DecidableEq, Repr

/-- A tenant slot (R334): 0 EMPTY, 1 PROVISIONED, 3 REVOKING. -/
structure Tenant where
  state : Nat
  key : BitVec 256
  minSvn : Nat
  meas : List (BitVec 384)
  inSeq : Nat
  outSeq : Nat
  /-- Slices whose sweep for a revocation has not ended, and the mailbox that waits. -/
  sweeping : List Nat
  waiter : Option Nat
  deriving DecidableEq, Repr

/-- An EMPTY slot. -/
def Tenant.reset : Tenant := ⟨0, 0, 0, [], 0, 0, [], none⟩

/-- A provisioning session (R335, R336). -/
structure Session where
  id : Nat
  tenant : Nat
  /-- Wrap key. -/
  kw : BitVec 256
  opened : Nat
  deriving DecidableEq, Repr

/-- The security engine and the boot ROM (R327 to R348, R456). -/
structure Sec where
  tenants : SMap Tenant
  sessions : List Session
  /-- The image that the management cores run, and its SVN. -/
  fwMeas : BitVec 384
  fwSvn : Nat
  /-- Image bytes staged through the mailbox, by offset, and the size announced. -/
  stage : SMap Byte
  stageSize : Option Nat
  /-- BOOT.OPT as latched (R458). -/
  opt : Nat
  /-- The management cores run the image (R456). -/
  running : Bool
  /-- The entropy source passes its health tests (R343). -/
  entropyOk : Bool
  /-- The attestation-key certificate that the boot ROM built (R330). -/
  akCert : List Byte
  /-- The working state of the random generator; none before it is first seeded (R325). -/
  drbg : Option Drbg
  /-- The derivation unit is locked against the identity key (R328). -/
  idLocked : Bool
  /-- Step 3 of bring-up has applied the fuses and the log (R460). -/
  applied : Bool
  /-- Slices whose Clove of step 5 runs (R462). -/
  cloves : List Nat
  deriving DecidableEq, Repr

/-- A security engine without keys. -/
def Sec.reset : Sec := ⟨[], [], 0, 0, [], none, 0, false, true, [], none, false, false, []⟩

/-- The interrupt controller beside its registers: the core that received the previous delivery (R477); and the telemetry map's
EVENTS byte and window pointer (R481). -/
structure Mgmt where
  lastCore : Nat
  events : Nat
  /-- The part of the map that a housekeeping round updates, as it was last updated; empty before the first round. -/
  map : List Byte
  winPtr : Nat
  /-- Code memory of the cores, as the boot ROM wrote it (R470). -/
  code : List Byte
  deriving DecidableEq, Repr

/-- Management after reset: the first search begins at core 0. -/
def Mgmt.reset : Mgmt := ⟨3, 0, [], 0, []⟩

/-- Faults: a command that names what does not exist. -/
inductive Fault where
  /-- Raised by every meaning whose operand is a number outside the range that the spec gives the unit (a Block above 543, a
  slice above 127, and so on); safe: the device has no such command. -/
  | noSuchUnit
  deriving DecidableEq, Repr

/-- Refusals. -/
inductive Refusal where
  /-- Raised by no meaning; only an arm of `exec` that has no meaning yet answers with it; safe. -/
  | notModelled (mnemonic : String)
  deriving DecidableEq, Repr

/-- What the device has driven to the outside: a message of some kind with its numbers, in order. -/
structure Out where
  kind : String
  args : List Nat
  bytes : List Byte
  deriving DecidableEq, Repr

/-- The state of the device. -/
structure State where
  /-- Commands that wait, first in, first out. The model's own field. -/
  pending : List Instr
  /-- Register fields that have been written, by the key of the field (R482); one not listed has its reset value. -/
  regs : SMap DWord
  /-- Device time, 10 ns units (R26, R490). -/
  time : DWord
  /-- How many free values have been used. The model's own field. -/
  free : Nat
  /-- Serial number of the next request. The model's own field. -/
  nextReq : Nat
  /-- What the device has driven to the outside, newest first. The model's own field. -/
  out : List Out
  /-- Fault codes that the DXQ commands in progress have reported: Block, order number, code (R170). The model's own field. -/
  told : List (Nat × Nat × Nat)
  /-- Physical Blocks by number P (R13). -/
  blks : SMap Block
  /-- Slices by number (R228). -/
  slices : SMap Slice
  /-- Pin entries by 16 × group + entry (R246). -/
  pins : SMap PinEntry
  /-- Memory controllers (R254). -/
  memcs : SMap Memc
  /-- Bytes of external memory as plaintext under the key that wrote them, in canonical form (R254). -/
  dram : List Host.Cell
  /-- Sectors of external memory that a key has written (R265). -/
  sectors : SMap Sector
  /-- Requests that no slice has taken (R288). -/
  reqs : List Req
  /-- Answers on their way to requesters. -/
  resps : List Resp
  /-- Invalidations and acknowledgements on their way (R241). -/
  invs : List InvMsg
  /-- Gather engines (R172). -/
  gaths : SMap Gather
  /-- Context table (R41). -/
  ctxs : SMap Ctx
  plaza : Plaza
  errq : ErrQ
  /-- Key values by handle (R265); one not listed is the value Config gives the handle. -/
  keys : SMap (BitVec 512)
  /-- PCIe ports (R357). -/
  ports : SMap Port
  /-- Channels (R359 to R366). -/
  chans : SMap Chan
  fab : Fabric
  pwr : Power
  thm : Thermal
  nvm : Nvm
  later : Later
  /-- Mailboxes (R472). -/
  mbs : SMap Mailbox
  sec : Sec
  mgmt : Mgmt
  /-- Bond fields: parity errors of the window by wire group, key 4096 × field + group (R319). -/
  parity : SMap Nat
  /-- Bond fields: the tick at which the window began, if not with the first (R318). -/
  windows : SMap Nat
  /-- Host-window accesses that wait for a slice's drain to end, oldest first (R251): port, device address, data of a write, length. -/
  winWait : List (Nat × Nat × Option (List Byte) × Nat)
  /-- High words latched by low-word reads, by requester and register (R483). -/
  latched : List (Source × Nat × Word)
  /-- PWR_OK is high (R451, R452). -/
  powered : Bool
  /-- Reference clocks now lost (R505): 0 and 1 PCIE_REFCLK[n], 2 FAB_REFCLK, 3 SYS_REFCLK. -/
  clkLost : List Nat
  deriving DecidableEq, Repr

/-- The device right after reset: every register at its reset value, every store and queue empty (R453, R454). [DESIGN CHOICE, log entry 4; DESIGN CHOICE, log entry 64] -/
def State.reset : State where
  pending := []
  regs := []
  time := 0
  free := 0
  nextReq := 0
  out := []
  told := []
  blks := []
  slices := []
  pins := []
  memcs := []
  dram := []
  sectors := []
  reqs := []
  resps := []
  invs := []
  gaths := []
  ctxs := []
  plaza := Plaza.reset
  errq := ErrQ.reset
  keys := []
  ports := []
  chans := []
  fab := Fabric.reset
  pwr := Power.reset
  thm := Thermal.reset
  nvm := Nvm.reset
  later := Later.reset
  mbs := []
  sec := Sec.reset
  mgmt := Mgmt.reset
  parity := []
  windows := []
  winWait := []
  latched := []
  powered := true
  clkLost := []

end Sys2Proof.Machine
end

