-- ==== Sys2Proof/Machine/Ops.lean ====
section
/-! DEFINITION. Named operations on the state: register fields, units, events, free values, outputs, and the error queue. -/

namespace Sys2Proof.Machine
open Sys2Proof

/-! ### Numbers of units (R2, R12, R13, R19) -/

/-- Physical Blocks (R13). -/
def nBlks : Nat := 544
/-- Slices (R19). -/
def nSlices : Nat := 128
/-- Districts, package groups, controllers and gather engines (R19). -/
def nDist : Nat := 16
/-- Context-table entries (R41). -/
def nCtxs : Nat := 1024
/-- Channels (R66). -/
def nChans : Nat := 256
/-- District of a physical Block (R13). -/
def distOf (p : Nat) : Nat := p / 34
/-- Site of a physical Block within its district. -/
def siteOf (p : Nat) : Nat := p % 34

/-! ### Register fields -/

/-- BAR0 offset of the page of a unit (R487). Channel blocks and mailboxes, which no single BAR0 offset names, are put above
the map: channel block of port n, channel c at 0x0400_0000 + 0x1000 × (128 n + c), mailbox m at 0x0500_0000 + 0x1000 × m. -/
def pageBase : Page → Nat → Nat
  | .hdr, _ => 0x0600_0000
  | .top, _ => 0x0000
  | .tick, _ => 0x1000
  | .ctx, _ => 0x2000
  | .pwr, _ => 0x3000
  | .thm, _ => 0x4000
  | .hk, _ => 0x5000
  | .sec, _ => 0x6000
  | .intc, _ => 0x7000
  | .errq, _ => 0x8000
  | .fuse, _ => 0x9000
  | .mb, m => 0x0500_0000 + 0x1000 * m
  | .boot, _ => 0xB000
  | .dom, n => 0x1_0000 + 0x1000 * n
  | .dist, n => 0x3_0000 + 0x1000 * n
  | .pcie, n => 0x4_0000 + 0x1000 * n
  | .fab, n => 0x5_0000 + 0x1000 * n
  | .fab0, _ => 0x5_0000
  | .memc, n => 0x6_0000 + 0x1000 * n
  | .gath, n => 0x7_0000 + 0x1000 * n
  | .slc, n => 0x8_0000 + 0x1000 * n
  | .bond, n => 0x10_0000 + 0x1000 * n
  | .blk, n => 0x20_0000 + 0x1000 * n
  | .ch, n => 0x400_0000 + 0x1000 * n

/-- Key of copy `i` of a field on the page of kind `pg` and unit `u`: the bit address of its lowest bit. -/
def keyAt (pg : Page) (u : Nat) (f : Fld) (i : Nat) : Nat :=
  (pageBase pg u + f.off + f.stride * (i / f.bcount)) * 64 + f.lo + f.bstride * (i % f.bcount)

/-- Good sites of district d by fuse, in ascending order (R12). -/
def fuseGood (d : Nat) : List Nat := (List.range 34).filter (fun s => !(Config.fuseBad d).getLsbD s)

/-- Reset values that differ by unit, part or strap. [DESIGN CHOICE, log entry 7] -/
def specialReset (pg : Page) (u : Nat) (f : Fld) (i : Nat) : Nat :=
  if f = F.BOND_SPARES_TOTAL then (if u < 128 then 85 else 1700)
  else if f = F.TOP_PART then Config.part % 2 ^ 32
  else if f = F.TOP_SERIAL then Config.serial % 2 ^ 32
  else if f = F.DIST_MAP_SITE then ((fuseGood u).getD i 0)
  else if f = F.DIST_MAP_VALID then b2n (decide (i < min 32 (fuseGood u).length))
  else if f = F.DIST_SITE_BAD then (Config.fuseBad u).toNat
  else if f = F.PCIE_AUTH_HOLDER then b2n (Config.holderStrap == decide (u = 1))
  else if f = F.THM_RINT_R then Config.rint % 2 ^ 12
  else if f = F.HDR_UNIT_ID_INSTANCE then u % 2 ^ 12
  else if f = F.HDR_UNIT_ID_TYPE then
    match pg with
    | .top => 1 | .tick => 2 | .ctx => 3 | .pwr => 4 | .thm => 5 | .hk => 6 | .sec => 7 | .intc => 8 | .errq => 9
    | .fuse => 10 | .mb => 11 | .boot => 12 | .dom => 0x10 | .dist => 0x11 | .pcie => 0x12 | .fab => 0x13 | .fab0 => 0x13
    | .memc => 0x14 | .gath => 0x15 | .slc => 0x16 | .bond => 0x17 | .blk => 0x18 | .hdr => 0 | .ch => 0
  else 0

/-- Reset value of copy `i` of a field. -/
def resetOf (pg : Page) (u : Nat) (f : Fld) (i : Nat) : Nat :=
  if f.special then specialReset pg u f i
  else if f.bcount = 1 then f.reset
  else (f.reset >>> (f.bstride * (i % f.bcount))) % 2 ^ f.width

/-- Value of a field, on a page given by kind and unit. -/
def State.rdAt (s : State) (pg : Page) (u : Nat) (f : Fld) (i : Nat) : Nat :=
  match SMap.find (keyAt pg u f i) s.regs with
  | some v => v.toNat
  | none => resetOf pg u f i

/-- The state with a field set, cut to the field's width. -/
def State.wrAt (s : State) (pg : Page) (u : Nat) (f : Fld) (i v : Nat) : State :=
  { s with regs := SMap.put (keyAt pg u f i) (BitVec.ofNat 64 (v % 2 ^ f.width)) s.regs }

/-- Value of copy `i` of a field of unit `u`. -/
def State.rd (s : State) (f : Fld) (u : Nat := 0) (i : Nat := 0) : Nat := s.rdAt f.page u f i

/-- The state with copy `i` of a field of unit `u` set. -/
def State.wr (s : State) (f : Fld) (u i v : Nat) : State := s.wrAt f.page u f i v

/-- The state with `n` added to a field, saturating at its width (R151 and the other counter rules). -/
def State.inc (s : State) (f : Fld) (u i : Nat) (n : Nat := 1) : State :=
  s.wr f u i (satAdd (2 ^ f.width - 1) (s.rd f u i) n)

/-- A unit enters a condition whose cycles a counter counts. The model's commands take no cycles, so the counter advances by a free
value, which stands for the cycles of the condition. [DESIGN CHOICE, log entry 9] -/
def State.cycles (s : State) (f : Fld) (u : Nat) : State :=
  { s.inc f u 0 (Config.freeNat s.free) with free := s.free + 1 }

/-- EVT_STATUS of a page (R484). -/
def State.evts (s : State) (pg : Page) (u : Nat) : Nat := s.rdAt pg u F.HDR_EVT_STATUS 0

/-- The state with event bit `b` of a page set (R484). -/
def State.setEvt (s : State) (pg : Page) (u b : Nat) : State :=
  s.wrAt pg u F.HDR_EVT_STATUS 0 (setBit (s.evts pg u) b)

/-- CTRL.ENABLE of a page, as R485 fixes it for the units that are always in service. -/
def State.enabled (s : State) (pg : Page) (u : Nat) : Bool :=
  match pg with
  | .top | .ctx | .sec | .errq | .fuse | .mb | .boot | .hk => true
  | _ => s.rdAt pg u F.HDR_CTRL_ENABLE 0 != 0

/-- The state with CFG_REJECT of a page raised, where the page has it (R484, R509): bit 7 on PCIE pages, none on TICK and SEC. -/
def State.cfgReject (s : State) (pg : Page) (u : Nat) : State :=
  match pg with
  | .tick => s.setEvt .tick 0 1
  | .sec => s
  | .pcie => s.setEvt .pcie u 7
  | .ch => s.wr F.CH_CFG_REJECT u 0 1
  | .fab0 => s.setEvt .fab 0 0
  | pg => s.setEvt pg u 0

/-! ### Free values and outputs -/

/-- The next free value. [DESIGN CHOICE, log entry 5] -/
def State.freeVal (s : State) : Nat := Config.freeNat s.free
/-- The state after a free value is used. [DESIGN CHOICE, log entry 5] -/
def State.used (s : State) : State := { s with free := s.free + 1 }
/-- The state after the device drives something to the outside. -/
def State.emit (s : State) (kind : String) (args : List Nat) (bytes : List Byte := []) : State :=
  { s with out := ⟨kind, args, bytes⟩ :: s.out }
/-- Device time as a number. -/
def State.now (s : State) : Nat := s.time.toNat
/-- Number of the running frame (R31). -/
def State.frame (s : State) : Nat := s.rd F.TICK_FRAME_NUM_NUM

/-! ### Units -/

/-- State of a site after reset: 0 logical, 1 cold spare, 2 bad by fuse (R12, R488). -/
def siteReset (p : Nat) : Nat :=
  if (Config.fuseBad (distOf p)).getLsbD (siteOf p) then 2
  else if ((fuseGood (distOf p)).take 32).contains (siteOf p) then 0 else 1

/-- A physical Block after reset. -/
def blkReset (p : Nat) : Block :=
  ⟨Core.reset, Queues.reset, IMem.reset, Spad.reset, [], Matrix.reset, [], false, siteReset p, false⟩

/-- A memory controller after reset. -/
def memcReset (g : Nat) : Memc :=
  ⟨Config.chanGiB g, Config.twoRanks g, [], [], [], 0, [], 0, 0, false, [], false, [], 0, [], [], []⟩

def State.blk (s : State) (p : Nat) : Block := s.blks.get p (blkReset p)
def State.setBlk (s : State) (p : Nat) (b : Block) : State := { s with blks := SMap.put p b s.blks }
def State.slc (s : State) (n : Nat) : Slice := s.slices.get n Slice.reset
def State.setSlc (s : State) (n : Nat) (v : Slice) : State := { s with slices := SMap.put n v s.slices }
def State.mem (s : State) (g : Nat) : Memc := s.memcs.get g (memcReset g)
def State.setMem (s : State) (g : Nat) (v : Memc) : State := { s with memcs := SMap.put g v s.memcs }
def State.gath (s : State) (d : Nat) : Gather := s.gaths.get d Gather.reset
def State.setGath (s : State) (d : Nat) (v : Gather) : State := { s with gaths := SMap.put d v s.gaths }
def State.ctx (s : State) (n : Nat) : Ctx := s.ctxs.get n Ctx.reset
def State.setCtx (s : State) (n : Nat) (c : Ctx) : State := { s with ctxs := SMap.put n c s.ctxs }

/-- The state with a Block changed. -/
def State.onBlk (s : State) (p : Nat) (f : Block → Block) : State := s.setBlk p (f (s.blk p))
def State.onSlc (s : State) (n : Nat) (f : Slice → Slice) : State := s.setSlc n (f (s.slc n))
def State.onMem (s : State) (g : Nat) (f : Memc → Memc) : State := s.setMem g (f (s.mem g))
def State.onGath (s : State) (d : Nat) (f : Gather → Gather) : State := s.setGath d (f (s.gath d))
def State.onCtx (s : State) (n : Nat) (f : Ctx → Ctx) : State := s.setCtx n (f (s.ctx n))

def State.port (s : State) (n : Nat) : Port := s.ports.get n Port.reset
def State.chan (s : State) (h : Nat) : Chan := s.chans.get h Chan.reset
def State.mb (s : State) (m : Nat) : Mailbox := s.mbs.get m ⟨[], []⟩
def State.tenant (s : State) (t : Nat) : Tenant := s.sec.tenants.get t Tenant.reset
def State.fport (s : State) (p : Nat) : FabPort := s.fab.ports.get p FabPort.reset
def State.dom (s : State) (n : Nat) : Dom := s.pwr.doms.get n ⟨0, false, false, 0⟩
def State.onPort (s : State) (n : Nat) (f : Port → Port) : State := { s with ports := SMap.put n (f (s.port n)) s.ports }
def State.onChan (s : State) (h : Nat) (f : Chan → Chan) : State := { s with chans := SMap.put h (f (s.chan h)) s.chans }
def State.onMb (s : State) (m : Nat) (f : Mailbox → Mailbox) : State := { s with mbs := SMap.put m (f (s.mb m)) s.mbs }
def State.onTenant (s : State) (t : Nat) (f : Tenant → Tenant) : State :=
  { s with sec := { s.sec with tenants := SMap.put t (f (s.tenant t)) s.sec.tenants } }
def State.onFport (s : State) (p : Nat) (f : FabPort → FabPort) : State :=
  { s with fab := { s.fab with ports := SMap.put p (f (s.fport p)) s.fab.ports } }
def State.onDom (s : State) (n : Nat) (f : Dom → Dom) : State :=
  { s with pwr := { s.pwr with doms := SMap.put n (f (s.dom n)) s.pwr.doms } }
def State.onPlaza (s : State) (f : Plaza → Plaza) : State := { s with plaza := f s.plaza }
def State.onLater (s : State) (f : Later → Later) : State := { s with later := f s.later }
def State.onSec (s : State) (f : Sec → Sec) : State := { s with sec := f s.sec }
def State.onPwr (s : State) (f : Power → Power) : State := { s with pwr := f s.pwr }
def State.onFab (s : State) (f : Fabric → Fabric) : State := { s with fab := f s.fab }

/-- FATAL or shutdown: the device reads no ring and writes no completion (R315, R439). -/
def State.halted (s : State) : Bool := s.rd F.TOP_STATUS_FATAL == 1 || s.rd F.TOP_STATUS_SHUTDOWN == 1

/-- State of a switched domain: 0 OFF, 1 RET, 2 ON, 3 SWITCHING (R420). -/
def State.domState (s : State) (n : Nat) : Nat := s.rd F.DOM_STATE n
/-- Whether a switched domain is ON. -/
def State.domOn (s : State) (n : Nat) : Bool := s.domState n == 2

/-! ### Random bytes and the device's keys (R325 to R327, R343) -/

/-- The random generator, seeded where it has never been, and reseeded after 2^16 requests (R325). [DESIGN CHOICE, log entry 46] -/
def State.seeded (s : State) : State × Drbg :=
  match s.sec.drbg with
  | some d => if d.count < 65536 then (s, d) else (s.used, Drbg.seed (some d) (leBytes 48 (Config.entropy s.free).toNat))
  | none => (s.used, Drbg.seed none (leBytes 48 (Config.entropy s.free).toNat))

/-- `n` random bytes of the engine (R325). -/
def State.random (s : State) (n : Nat) : State × List Byte :=
  let (s, d) := s.seeded
  (s.onSec (fun e => { e with drbg := some (d.generate n).1 }), (d.generate n).2)

/-- A new XTS key pair from the random generator (R327). -/
def State.newKey (s : State) : State × BitVec 512 :=
  let (s, bs) := s.random 64
  (s, BitVec.ofNat 512 (leNat bs))

/-- 48 bytes of a SHA-384 value. -/
def bytes48 (x : BitVec 384) : List Byte := leBytes 48 x.toNat

/-- Identity key IK (R327). -/
def ikScalar : Nat := scalarOf (hkdf (leBytes 32 Config.deviceSecret.toNat) none (ascii "DG3140 IDENTITY") 64)

/-- Attestation key AK of a firmware image (R327). -/
def akScalar (meas : BitVec 384) (svn : Nat) : Nat :=
  scalarOf (hkdf (leBytes 32 Config.deviceSecret.toNat) (some (bytes48 meas)) (ascii "DG3140 ATTEST" ++ leBytes 8 svn) 64)

/-- AK of the running image. -/
def State.ak (s : State) : Nat := akScalar s.sec.fwMeas s.sec.fwSvn

/-- A message signed with AK (R325, R328): the ephemeral scalar comes from the random generator, by R326. [DEDUCED, log entry 46] -/
def State.sign (s : State) (msg : List Byte) : State × List Byte :=
  let (s, bs) := s.random 64
  (s, ecdsa s.ak msg (scalarOf bs))

/-- One element of a list, by a free choice; the state after the choice. [DESIGN CHOICE, log entry 5] -/
def State.pickFree {α : Type} (s : State) (xs : List α) : State × Option α :=
  match xs with
  | [] => (s, none)
  | [x] => (s, some x)
  | _ => (s.used, xs[s.freeVal % xs.length]?)

/-- Whether a context holds a state. -/
def State.ctxState (s : State) (c : Nat) : Nat := (s.ctx c).state

/-- Contexts that have left EMPTY, in ascending order. -/
def State.liveCtxs (s : State) : List Nat := (s.ctxs.filter (fun (e : Nat × Ctx) => e.2.state != 0)).map (fun e => e.1)

/-- Whether a context is ACTIVE, RUNNING or OVERRUN (R485). -/
def State.anyBusy (s : State) : Bool := s.ctxs.any (fun (e : Nat × Ctx) => e.2.state == 2 || e.2.state == 3 || e.2.state == 4)

/-- An MSI-X message of a function of a port (R362, R377): one through a link that is down or a function in reset is counted as
lost. -/
def State.msi (s : State) (port fn vec : Nat) : State :=
  if (if fn = 0 then 2048 else 32) ≤ vec then s
  else if !(s.port port).up || (s.port port).inReset.contains fn then s.inc F.PCIE_LOST_MSI port 0
  else if (s.port port).msix.contains fn then s.emit "MSI-X" [port, fn, vec] else s

/-- Whether a source is a function of one of the two ports, or a management core (R357, R360). -/
def sourceOk : Source → Bool
  | .pf port => decide (port < 2)
  | .vf port vf => decide (port < 2) && decide (vf < 16)
  | .mgmt => true

/-- A command of a source: it faults where the device has no such function. [DESIGN CHOICE, log entry 2] -/
def onSrc (src : Source) (o : Host.Outcome State Fault Refusal) : Host.Outcome State Fault Refusal :=
  if sourceOk src then o else .fault .noSuchUnit

/-- A meaning that acts on unit `n` of a kind with `bound` units: it faults on a number that names no unit. [DESIGN CHOICE, log entry 2] -/
def onUnit (bound n : Nat) (s : State) (t : State → State) : Host.Outcome State Fault Refusal :=
  if n < bound then .next (t s) else .fault .noSuchUnit

/-! ### Logical Blocks (R12 to R15, R493) -/

/-- Logical Blocks of a district. -/
def State.logical (s : State) (d : Nat) : Nat :=
  ((List.range 32).filter (fun i => s.rd F.DIST_MAP_VALID d i != 0)).length

/-- Logical Block count of the device. -/
def State.logicalAll (s : State) : Nat := ((List.range nDist).map s.logical).sum

/-- Physical Block of a logical number, if it is enabled. -/
def State.phys (s : State) (l : Nat) : Option Nat :=
  if s.rd F.DIST_MAP_VALID (l / 32) (l % 32) != 0 then some (34 * (l / 32) + s.rd F.DIST_MAP_SITE (l / 32) (l % 32)) else none

/-- Enabled physical Blocks of a district, in ascending logical order. -/
def State.blksOf (s : State) (d : Nat) : List Nat := (List.range 32).filterMap (fun i => s.phys (32 * d + i))

/-- Enabled physical Blocks of the device. -/
def State.enabledBlks (s : State) : List Nat := ((List.range nDist).map s.blksOf).flatten

/-- Logical number of a physical Block, if it is enabled. -/
def State.logOf (s : State) (p : Nat) : Option Nat :=
  ((List.range 32).find? (fun i => s.phys (32 * distOf p + i) == some p)).map (fun i => 32 * distOf p + i)

/-! ### The error queue (R310 to R315) -/

/-- Codes against a context that are kill-class (R312). -/
def killCode (c : Nat) : Bool := [0x0301, 0x0304, 0x0305, 0x0401, 0x0402].contains c

/-- Codes that enter a fault record as replayable (R312). -/
def replayCode (c : Nat) : Bool :=
  (decide (0x0101 ≤ c) && decide (c ≤ 0x0109)) || [0x0201, 0x0202, 0x0302, 0x0303, 0x0306, 0x0307].contains c

/-- CAUSE of a kill-class report (R316). -/
def causeOf (c : Nat) : Nat :=
  if c = 0x0301 then 0x01 else if c = 0x0305 then 0x02 else if c = 0x0304 then 0x08 else 0x05

/-- A bit of the telemetry map's EVENTS byte is set, and SMBALERT# with it (R481): 0 STATE changed, 1 MEM_HOT rose, 2 THERMAL changed,
3 WEAR. -/
def State.smb (s : State) (b : Nat) : State :=
  { s with mgmt := { s.mgmt with events := setBit s.mgmt.events b } }.emit "SMBALERT#" [1]

/-- The device enters FATAL (R315): cause 1 overflow, 2 storage, 3 self-test, 4 firmware. -/
def State.fatal (s : State) (cause : Nat) : State :=
  if s.rd F.TOP_STATUS_FATAL = 1 then s
  else (((((s.wr F.ERRQ_FATAL_CAUSE 0 0 cause).wr F.ERRQ_FATAL 0 0 1).wr F.TOP_STATUS_FATAL 0 0 1).setEvt .top 0 5).emit "FAULT#" [1]).smb 0

/-- Whether a report names a frame that is already classed or whose record is final (R37, R39, R314). -/
def State.isLate (s : State) (r : Report) : Bool :=
  match r.ctx, s.plaza.run with
  | some c, some run => !(decide (run.ctx = c) && decide (r.frame = s.frame) && !run.ended)
  | some _, none => true
  | none, _ => false

/-- The fault record of the running frame takes a report (R37, R300). -/
def State.record (s : State) (r : Report) : State :=
  match r.ctx, s.plaza.run with
  | some c, some run =>
    if run.ctx = c ∧ r.frame = s.frame ∧ run.ended = false ∧ (killCode r.code || replayCode r.code) = true then
      { s with plaza := { s.plaza with run := some { run with faults := run.faults ++ [⟨r.code, r.addr, killCode r.code, causeOf r.code⟩] } } }
    else s
  | _, _ => s

/-- What a report counts against in the limits of R311: a context or a unit. -/
def limitKey (r : Report) : Nat := match r.ctx with | some c => 2 * c | none => 2 * r.page + 1

/-- Entries that the limits of R311 allow for the report's context or unit in its frame. -/
def limitMax (r : Report) : Nat := match r.ctx with | some _ => 2 | none => 1

/-- How many entries the queue has stored for the report's context or unit in its frame. -/
def State.storedFor (s : State) (r : Report) : Nat :=
  match s.errq.stored.find? (fun e => e.1 == limitKey r && e.2.1 == r.frame) with
  | some e => e.2.2
  | none => 0

/-- The error queue takes a report, suppresses it, or overflows (R310, R311, R314). -/
def State.enqueue (s : State) (r : Report) (late : Bool) : State :=
  if limitMax r ≤ s.storedFor r then
    { s.inc F.ERRQ_SUPPRESSED 0 0 with errq := { s.errq with supp := true } }
  else if 64 ≤ s.errq.entries.length then s.fatal 1
  else
    let e : ErrEntry := ⟨r.code, r.detail, r.ctx, killCode r.code, replayCode r.code, late, r.page, r.frame, r.addr, r.syndrome, r.writer, s.errq.nextSeq⟩
    let st := (limitKey r, r.frame, s.storedFor r + 1) :: s.errq.stored.filter (fun e => !(e.1 == limitKey r && e.2.1 == r.frame))
    { s.inc F.ERRQ_ENTRIES 0 0 with
      errq := { s.errq with entries := s.errq.entries ++ [e], nextSeq := (s.errq.nextSeq + 1) % 2 ^ 32, stored := st } }

/-- A unit's report enters the fault record and the error queue (R300, R310). -/
def State.report (s : State) (r : Report) : State := (s.record r).enqueue r (s.isLate r)

/-- A report against the context of the running frame, by the page at `page`. -/
def State.fault (s : State) (code page addr : Nat) (detail : Nat := 0) : State :=
  match s.plaza.run with
  | some run => s.report ⟨code, detail, page, some run.ctx, s.frame, addr, 0, none⟩
  | none => s

/-- A report for the DXQ command of order number `ord` of Block p: a command reports each code once (R170). -/
def State.once (s : State) (p ord code : Nat) (tell : State → State) : State :=
  if s.told.contains (p, ord, code) then s else tell { s with told := (p, ord, code) :: s.told }

/-- A fault that a DXQ command of Block p meets, by the unit of a page (R170). -/
def State.faultOnce (s : State) (p ord code page addr : Nat) : State := s.once p ord code (fun s => s.fault code page addr)

/-- A report that names no context (R301, R311). -/
def State.event (s : State) (code page addr : Nat) (detail : Nat := 0) (writer : Option Nat := none) : State :=
  s.report ⟨code, detail, page, none, s.frame, addr, 0, writer⟩

/-- A corrected error enters its class's table (R303). -/
def State.ceTable (s : State) (cls unit addr syndrome : Nat) : State :=
  let t := s.errq.ce.get cls []
  let fr := s.frame % 2 ^ 32
  if t.any (fun e => e.unit == unit && e.addr == addr) then
    { s with errq := { s.errq with ce := SMap.put cls (t.map (fun e =>
        if e.unit = unit ∧ e.addr = addr then { e with count := satAdd 65535 e.count 1, syndrome := syndrome, lastFrame := fr } else e)) s.errq.ce } }
  else if t.length < 16 then
    { s with errq := { s.errq with ce := SMap.put cls (t ++ [⟨unit, addr, syndrome, 1, fr⟩]) s.errq.ce } }
  else
    let worst := t.foldl (fun (m : CeEntry) e => if e.count < m.count ∨ (e.count = m.count ∧ e.lastFrame < m.lastFrame) then e else m) (t.headD ⟨0, 0, 0, 0, 0⟩)
    { s.inc F.ERRQ_CE_REPLACED 0 0 with
      errq := { s.errq with ce := SMap.put cls (t.map (fun e => if e = worst then ⟨unit, addr, syndrome, 1, fr⟩ else e)) s.errq.ce } }

/-- A unit corrects an error and records it (R299, R303). The check matrices of the codes are not stated, so the syndrome is a free
value. [DESIGN CHOICE, log entry 36] -/
def State.corrected (s : State) (cls unit addr : Nat) : State :=
  { s.ceTable cls unit addr (Config.freeNat s.free % 2 ^ 16) with free := s.free + 1 }

/-- The page index of a unit (R482). -/
def pageIdx (pg : Page) (u : Nat) : Nat := pageBase pg u / 0x1000

end Sys2Proof.Machine
end

