-- ==== Sys2Proof/Machine/Mem.lean ====
section
/-! DEFINITION. External memory: bytes in canonical form, sectors and keys, address layout, regions and translation. -/

namespace Sys2Proof.Machine
open Sys2Proof

/-! ### Bytes -/

/-- The byte at an address; an unlisted address reads zero (DESIGN CHOICE, assumption 6). -/
def memRead : List Host.Cell → Nat → Byte
  | [], _ => 0
  | (a, b) :: m, x => if a = x then b else memRead m x

/-- The memory with a byte written; a zero removes the entry, so equal memories are equal lists. -/
def memWrite : List Host.Cell → Nat → Byte → List Host.Cell
  | [], x, v => if v = 0 then [] else [(x, v)]
  | (a, b) :: m, x, v =>
    if x < a then (if v = 0 then (a, b) :: m else (x, v) :: (a, b) :: m)
    else if a = x then (if v = 0 then m else (x, v) :: m)
    else (a, b) :: memWrite m x v

/-- Every address is above `n`, addresses rise, no entry is zero. -/
def memFrom : Nat → List Host.Cell → Bool
  | _, [] => true
  | n, (a, b) :: m => decide (n ≤ a) && decide (b ≠ 0) && memFrom (a + 1) m

/-- The canonical form. [DESIGN CHOICE, log entry 6] -/
def Memory.wf (m : List Host.Cell) : Bool := memFrom 0 m

/-- The memory with a list of bytes written from an address on. -/
def memWrites (m : List Host.Cell) (x : Nat) : List Byte → List Host.Cell
  | [] => m
  | b :: bs => memWrites (memWrite m x b) (x + 1) bs

/-- `n` bytes from an address on. -/
def memReads (m : List Host.Cell) (x n : Nat) : List Byte := (List.range n).map (fun i => memRead m (x + i))

/-! ### Lines as words -/

/-- Byte `i` of a 128-byte line. -/
def lineByte (d : BitVec 1024) (i : Nat) : Byte := d.extractLsb' (8 * i) 8

/-- A byte mask widened to bits. -/
def maskBits (m : BitVec 128) : BitVec 1024 :=
  (List.range 128).foldl (fun a i => if m.getLsbD i then a ||| ((0xFF#1024) <<< (8 * i)) else a) 0

/-- The bytes of `new` where the mask is set, of `old` elsewhere. -/
def mergeLine (old new : BitVec 1024) (m : BitVec 128) : BitVec 1024 :=
  (old &&& ~~~(maskBits m)) ||| (new &&& maskBits m)

/-- The mask of `n` bytes from byte `o`. -/
def rangeMask (o n : Nat) : BitVec 128 := BitVec.ofNat 128 ((2 ^ n - 1) * 2 ^ o)

/-- `n` bytes of a line from byte `o`, as a number. -/
def lineNat (d : BitVec 1024) (o n : Nat) : Nat := bitsOf d.toNat (8 * o) (8 * n)

/-- A line with the number `v` at `n` bytes from byte `o`. -/
def lineOf (o n v : Nat) : BitVec 1024 := BitVec.ofNat 1024 ((v % 2 ^ (8 * n)) * 2 ^ (8 * o))

/-- A line of bytes. -/
def lineBytes (d : BitVec 1024) (o n : Nat) : List Byte := (List.range n).map (fun i => lineByte d (o + i))

/-! ### Address layout (R229, R256, R258, R259) -/

/-- Whether the ranges are fixed (R257). -/
def State.locked (s : State) : Bool := s.rd F.MEMC_LAYOUT_LOCKED 0 != 0

/-- Package group of a device address, if it belongs to one (R256). -/
def State.groupOf (s : State) (a : Nat) : Option Nat :=
  if s.locked then
    (List.range nDist).find? (fun g => decide (s.rd F.MEMC_RANGE_BASE_BASE g ≤ a) && decide (a < s.rd F.MEMC_RANGE_BASE_BASE g + s.rd F.MEMC_RANGE_SIZE_SIZE g))
  else none

/-- Bucket of a line number (R229). -/
def bucketOf (l : Nat) : Nat :=
  bitsOf l 0 6 ^^^ bitsOf l 6 6 ^^^ bitsOf l 12 6 ^^^ bitsOf l 18 6 ^^^ bitsOf l 24 6 ^^^ bitsOf l 30 3

/-- Set of a line number (R229). -/
def setOf (l : Nat) : Nat := (l / 8) % 12288

/-- Address tag of a line number (R229). -/
def atagOf (l : Nat) : Nat := (l / 98304) * 8 + l % 8

/-- Home slice of a line (R229, R230), if a group holds it. -/
def State.homeOf (s : State) (l : Nat) : Option Nat :=
  (s.groupOf (l * 128)).map (fun g => 8 * g + s.rd F.SLC_BUCKET_MAP_SLICE (8 * g) (bucketOf l))

/-- Channels in service of a controller (R272). -/
def State.chansOf (s : State) (g : Nat) : List Nat := (List.range 4).filter (fun c => s.rd F.MEMC_CHAN_EXCLUDED g c = 0)

/-- Channel and channel data offset of a device address of group g (R258). -/
def State.chanOf (s : State) (g a : Nat) : Nat × Nat :=
  let o := a - s.rd F.MEMC_RANGE_BASE_BASE g
  let cs := s.chansOf g
  let n := max 1 cs.length
  (cs.getD ((o / 256) % n) 0, (o / (256 * n)) * 256 + o % 256)

/-- Bank number and row of a channel offset (R259): bank 32 × channel + 16 × rank + 4 × group + bank. -/
def bankRow (two : Bool) (c x : Nat) : Nat × Nat :=
  let bg := bitsOf x 11 2 ^^^ bitsOf x 19 2
  let bk := bitsOf x 13 2 ^^^ bitsOf x 21 2
  let rk := if two then bitsOf x 15 1 else 0
  (32 * c + 16 * rk + 4 * bg + bk, if two then x / 2 ^ 16 else x / 2 ^ 15)

/-- Bank and row of a line (R259). -/
def State.rowOf (s : State) (g l : Nat) : Nat × Nat :=
  let (c, x) := s.chanOf g (l * 128)
  bankRow (s.mem g).twoRanks c x

/-- Bank number of a line at its controller. -/
def State.bankOf (s : State) (g l : Nat) : Nat := (s.rowOf g l).1

/-- Whether a line lies in an open row. -/
def State.rowOpen (s : State) (g l : Nat) : Bool := SMap.find (s.rowOf g l).1 (s.mem g).rows == some (s.rowOf g l).2

/-- Check burst that covers a line: channel and burst number (R260). -/
def State.checkOf (s : State) (g l : Nat) : Nat × Nat :=
  let (c, x) := s.chanOf g (l * 128)
  (c, x / 1024)

/-- Bytes of a channel that hold data: 15/16 of its capacity (R260). -/
def State.chanData (s : State) (g : Nat) : Nat := (s.mem g).chanGiB * (15 * 2 ^ 26)

/-- Bank and row of a check burst (R259, R260): the check word of the sector at x lies at D + 2 × ⌊x ÷ 32⌋. -/
def State.checkRow (s : State) (g : Nat) (k : Nat × Nat) : Nat × Nat :=
  bankRow (s.mem g).twoRanks k.1 (s.chanData g + 2 * (1024 * k.2 / 32))

/-- The 32 sectors that a check burst covers (R258, R260), by number. -/
def State.covered (s : State) (g : Nat) (k : Nat × Nat) : List Nat :=
  let cs := s.chansOf g
  let i := (cs.findIdx? (fun c => c == k.1)).getD 0
  (List.range 32).map (fun j =>
    let x := 1024 * k.2 + 32 * j
    (s.rd F.MEMC_RANGE_BASE_BASE g + (x / 256 * max 1 cs.length + i) * 256 + x % 256) / 32)

/-- `n` column commands to a row of a bank: the first opens the row where it is not open (R268, R278). -/
def State.columns (s : State) (g : Nat) (br : Nat × Nat) (n : Nat) : State :=
  if n = 0 then s
  else if SMap.find br.1 (s.mem g).rows = some br.2 then s.inc F.MEMC_ROW_HITS g 0 n
  else
    let s := (s.inc F.MEMC_ROW_MISSES g 0).onMem g (fun m => { m with rows := SMap.put br.1 br.2 m.rows })
    if n = 1 then s else s.inc F.MEMC_ROW_HITS g 0 (n - 1)

/-! ### Controller slots (R279, R287) -/

/-- A miss register of a controller's group: its slice and the register. -/
abbrev GMiss := Nat × Miss

/-- Miss registers of the eight slices of a group. -/
def State.groupMiss (s : State) (g : Nat) : List GMiss :=
  ((List.range 8).map (fun i => (s.slc (8 * g + i)).miss.map (fun m => (8 * g + i, m)))).flatten

/-- Whether a miss register's request is in a slot of the controller. -/
def Miss.inSlot (m : Miss) : Bool := m.stage == .slot

/-- Requests of slices that hold slots of a controller. -/
def State.inSlots (s : State) (g : Nat) : List GMiss := (s.groupMiss g).filter (fun x => x.2.inSlot)

/-- Slots in use: by requests of slices and by writes that wait. -/
def State.slotsUsed (s : State) (g : Nat) : Nat := (s.inSlots g).length + (s.mem g).writes.length

/-! ### Sectors and keys (R261, R265) -/

/-- Key value of a handle (R265). [DESIGN CHOICE, log entry 41; DESIGN CHOICE, log entry 46] -/
def State.key (s : State) (h : Nat) : BitVec 512 := s.keys.get h (Config.unsetKey h)

/-- Stored bytes of a sector as a number. -/
def State.rawSector (s : State) (q : Nat) : BitVec 256 := BitVec.ofNat 256 (leNat (memReads s.dram (32 * q) 32))

/-- A sector read under a key (R265): the bytes that were written where the key is the one that wrote it; else what decryption under the key makes of
the stored bits: those that the other key wrote, or for a sector that no key has written (key 0) those of the initialisation (R463). [DESIGN CHOICE, log entry 41] -/
def State.readSector (s : State) (q h : Nat) : BitVec 256 :=
  let k := (s.sectors.get q ⟨0, 0⟩).key
  if k = s.key h then s.rawSector q
  else xtsSector false (s.key h) q (if k = 0 then s.rawSector q else xtsSector true k q (s.rawSector q))

/-- Error kind of a sector. -/
def State.sectorErr (s : State) (q : Nat) : Nat := (s.sectors.get q ⟨0, 0⟩).err

/-- A sector written whole under a key (R263). [DESIGN CHOICE, log entry 41] -/
def State.writeSector (s : State) (q h : Nat) (d : BitVec 256) (err : Nat) : State :=
  { s with dram := memWrites s.dram (32 * q) (leBytes 32 d.toNat), sectors := SMap.put q ⟨s.key h, err⟩ s.sectors }

/-- Code that reports an uncorrectable sector (R312): one whose check word the check cache has lost has its own. [DEDUCED, log entry 40] -/
def State.ueCode (s : State) (q : Nat) : Nat := if s.sectorErr q = 4 then 0x0109 else 0x0108

/-- Sectors of a line that a byte mask touches. -/
def maskSectors (m : BitVec 128) : List Nat := (List.range 4).filter (fun i => m.extractLsb' (32 * i) 32 != 0#32)

/-- Records an uncorrectable sector in the controller's page (R261, R278). -/
def State.memUe (s : State) (g q : Nat) : State :=
  let s := (s.inc F.MEMC_UE g 0).setEvt .memc g 5
  if s.rd F.MEMC_UE_ADDR_VALID g = 1 then s
  else ((s.wr F.MEMC_UE_ADDR_VALID g 0 1).wr F.MEMC_UE_ADDR_ADDR g 0 q).wr F.MEMC_UE_ADDR_ADDRESS g 0 (b2n (s.sectorErr q == 3))

/-- The key of a handle is loaded by the security engine into a controller of 256 entries (R266); the entry it displaces in a
full controller is a free choice. [DEDUCED, log entry 40] -/
def State.keyLoad (s : State) (g h : Nat) : State :=
  let ks := (s.mem g).keys
  if ks.contains h then s
  else if ks.length < 256 then s.onMem g (fun c => { c with keys := h :: c.keys })
  else (s.onMem g (fun c => { c with keys := h :: ks.eraseIdx (s.freeVal % 256) })).used

/-- A request needs a key: one that the controller does not hold is counted and fetched (R266). -/
def State.keyTouch (s : State) (g h : Nat) : State :=
  if (s.mem g).keys.contains h then s else (s.inc F.MEMC_KEY_MISS g 0).keyLoad g h

/-- Whether a controller holds a check burst (R262). -/
def Memc.holds (m : Memc) (k : Nat × Nat) : Bool := (m.checks.get (k.2 % 128) []).any (fun b => b.chan == k.1 && b.burst == k.2)

/-- The check words of a dirty burst with two bad bits are lost (R262): each sector that it covers reports an uncorrectable error until a
full-sector write. -/
def State.checkLost (s : State) (g : Nat) (b : CheckBurst) : State :=
  if b.err < 2 then s
  else { s with sectors := (s.covered g (b.chan, b.burst)).foldl (fun m q => SMap.put q { (m.get q ⟨0, 0⟩) with err := 4 } m) s.sectors }

/-- A check burst is fetched into its set of 8 (R262); the burst that a full set displaces, written back when dirty, is a free choice. [DEDUCED, log entry 40] -/
def State.checkLoad (s : State) (g : Nat) (k : Nat × Nat) : State :=
  let set := (s.mem g).checks.get (k.2 % 128) []
  if (s.mem g).holds k then s
  else
    let s := s.columns g (s.checkRow g k) 1
    if set.length < 8 then s.onMem g (fun c => { c with checks := SMap.put (k.2 % 128) (⟨k.1, k.2, false, 0⟩ :: set) c.checks })
    else
      let i := s.freeVal % 8
      let s := match set[i]? with
        | some b => if b.dirty then (s.checkLost g b).columns g (s.checkRow g (b.chan, b.burst)) 1 else s
        | none => s
      (s.onMem g (fun c => { c with checks := SMap.put (k.2 % 128) (⟨k.1, k.2, false, 0⟩ :: set.eraseIdx i) c.checks })).used

/-- The burst of a check cache is changed. -/
def State.onCheck (s : State) (g : Nat) (k : Nat × Nat) (f : CheckBurst → CheckBurst) : State :=
  s.onMem g (fun c => { c with checks := SMap.put (k.2 % 128) ((c.checks.get (k.2 % 128) []).map (fun b =>
    if b.chan = k.1 ∧ b.burst = k.2 then f b else b)) c.checks })

/-- An error of a cached check burst is met (R262): one bit is corrected and counted; two bits are repaired by a refetch where the burst is
clean, and cost a dirty burst its check words. [DEDUCED, log entry 40] -/
def State.checkErr (s : State) (g l : Nat) (k : Nat × Nat) : State :=
  match ((s.mem g).checks.get (k.2 % 128) []).find? (fun b => b.chan == k.1 && b.burst == k.2) with
  | none => s
  | some b =>
    match b.err with
    | 0 => s
    | 1 => (s.inc F.MEMC_CE g 0).corrected 4 g (128 * l + 2 ^ 47)
    | _ => (if b.dirty then s.checkLost g b else s.columns g (s.checkRow g k) 1).onCheck g k (fun b => { b with err := 0 })

/-- An access needs the check burst of a line: one that is absent is counted and fetched; a write makes it dirty (R262). -/
def State.checkTouch (s : State) (g l : Nat) (write : Bool) : State :=
  let k := s.checkOf g l
  let s := if (s.mem g).holds k then s.checkErr g l k else (s.inc F.MEMC_CHECK_MISSES g 0).checkLoad g k
  if write then s.onCheck g k (fun b => { b with dirty := true }) else s

/-- Whether a sector reads with an uncorrectable error: its own, or because the controller's checker failed its test (R309). -/
def State.sectorBad (s : State) (g q : Nat) : Bool := decide (2 ≤ s.sectorErr q) || (s.mem g).failed

/-- 64-byte bursts of a list of sectors of a line. -/
def burstsOf (is : List Nat) : Nat := (is.map (fun i => i / 2)).eraseDups.length

/-- What an injection makes of the sector that a controller writes (R261, R323): which bits of sector and check word are flipped is a free
choice, and a flip of an address-parity bit shows as an address mismatch. [DESIGN CHOICE, log entry 41] -/
def memStrike (k v : Nat) : Nat := if v % 3 = 0 then 3 else k

/-- The injection that waits strikes the write of a line (R323): the sector, or the word of the check cache that takes its check word, by a
free choice; the error kind of the sector that is written. [DESIGN CHOICE, log entry 41] -/
def State.memInject (s : State) (g l : Nat) : State × Nat :=
  let k := (s.mem g).inject
  if k = 0 then (s, 0)
  else
    let v := s.freeVal
    let s := s.used.onMem g (fun c => { c with inject := 0 })
    if v % 2 = 0 then (s, memStrike k (v / 2)) else (s.onCheck g (s.checkOf g l) (fun b => { b with err := k }), 0)

/-- One sector of a write (R236, R263): whole, or read, merged and rewritten, with zero in place of unwritten bytes that cannot
be read. -/
def State.writePart (s : State) (g l h i : Nat) (mask : BitVec 128) (d : BitVec 1024) (ctx : Option Nat) : State :=
  let q := 4 * l + i
  let m := mask.extractLsb' (32 * i) 32
  let new := d.extractLsb' (256 * i) 256
  let (s, inj) := s.memInject g l
  if (s.mem g).failed then s.report ⟨0x0108, 0, pageIdx .memc g, ctx, s.frame, 32 * q, 0, none⟩
  else if m = BitVec.allOnes 32 then s.writeSector q h new inj
  else
    let bad := decide (2 ≤ s.sectorErr q)
    let old : BitVec 1024 := if bad then 0 else (s.readSector q h).setWidth 1024
    let s := s.inc F.MEMC_RMW g 0
    let s := if bad then (s.memUe g q).report ⟨s.ueCode q, b2n (s.sectorErr q == 3), pageIdx .memc g, ctx, s.frame, 32 * q, 0, none⟩
      else if s.sectorErr q = 1 then (s.inc F.MEMC_CE g 0).corrected 4 g (32 * q) else s
    s.writeSector q h ((mergeLine old (new.setWidth 1024) (m.setWidth 128)).setWidth 256) inj

/-- The column commands of a write are issued, and its slot is free (R268). -/
def State.issueWrite (s : State) (g : Nat) (w : MemWrite) : State :=
  let n := burstsOf ((List.range 4).filter (fun i => w.secs.getLsbD i))
  ((s.columns g (s.rowOf g w.line) n).inc F.MEMC_WRITE_BURSTS g 0 n).onMem g (fun c => { c with writes := c.writes.erase w })

/-- A write takes a slot (R268, R279), or merges into one that waits for the same line (R269); where no slot is free the oldest write is issued first. -/
def State.slotWrite (s : State) (g l : Nat) (is : List Nat) : State :=
  let secs := is.foldl (fun (b : BitVec 4) i => b ||| (1#4 <<< i)) 0
  if (s.mem g).writes.any (fun w => w.line == l) then
    s.onMem g (fun c => { c with writes := c.writes.map (fun w => if w.line = l then { w with secs := w.secs ||| secs } else w) })
  else
    let s := match (s.mem g).writes with
      | w :: _ => if 512 ≤ s.slotsUsed g then s.issueWrite g w else s
      | [] => s
    s.onMem g (fun c => { c with writes := c.writes ++ [⟨l, secs, s.now % 2 ^ 32⟩] })

/-- A write of the masked bytes of a line to memory under a key (R236, R263). Its bytes stand at once, as R269 has every later read see them. -/
def State.writeLine (s : State) (g l h : Nat) (mask : BitVec 128) (d : BitVec 1024) (ctx : Option Nat) : State :=
  let is := maskSectors mask
  if is = [] then s
  else
    let n := burstsOf (is.filter (fun i => mask.extractLsb' (32 * i) 32 != BitVec.allOnes 32))
    let s := ((s.keyTouch g h).checkTouch g l true).slotWrite g l is
    let s := if n = 0 then s else (s.columns g (s.rowOf g l) n).inc F.MEMC_READ_BURSTS g 0 n
    is.foldl (fun s i => s.writePart g l h i mask d ctx) s

/-- The sectors of a line come back from the dies under a key, with corrections counted and each uncorrectable sector (R261, R278, R299): the
line's bytes, and the first sector with an uncorrectable error. -/
def State.fetchLine (s : State) (g l h : Nat) : State × BitVec 1024 × Option Nat :=
  let s := (s.keyTouch g h).checkTouch g l false
  let bad := (List.range 4).filter (fun i => s.sectorBad g (4 * l + i))
  let ces := (List.range 4).filter (fun i => s.sectorErr (4 * l + i) == 1)
  let s' := ces.foldl (fun s i => (s.inc F.MEMC_CE g 0).corrected 4 g (32 * (4 * l + i))) s
  let d : BitVec 1024 := (s.readSector (4 * l + 3) h) ++ (s.readSector (4 * l + 2) h) ++ (s.readSector (4 * l + 1) h) ++ (s.readSector (4 * l) h)
  match bad with
  | i :: _ => (bad.foldl (fun s i => s.memUe g (4 * l + i)) s', 0, some (4 * l + i))
  | [] => (s', d, none)

/-- A line read from memory under a key in one step: its two bursts, its bytes, and the first sector with an uncorrectable error. -/
def State.readLine (s : State) (g l h : Nat) : State × BitVec 1024 × Option Nat :=
  ((s.columns g (s.rowOf g l) 2).inc F.MEMC_READ_BURSTS g 0 2).fetchLine g l h

/-! ### Regions and translation (R48, R49, R52, R234, R341) -/

/-- The region that holds a context address, with its number. Where the ranges of two descriptors overlap, which R48 neither checks nor
resolves, the lower number holds it. [DESIGN CHOICE, log entry 18] -/
def regionAt (rs : List Region) (a : Nat) : Option (Nat × Region) :=
  match rs.findIdx? (fun r => decide (r.vbase ≤ a) && decide (a < r.vbase + r.size)) with
  | some i => (rs[i]?).map (fun r => (i, r))
  | none => none

/-- Key handle of a region of a context (R234, R341): none where its slot binds no tenant. -/
def State.keyhOf (s : State) (c : Nat) (r : Region) : Option Nat :=
  if r.key = 0xFF then some (0x1000 + c) else SMap.find r.key (s.ctx c).bound

/-- Whether the copy of a region that an access reaches is copy B: a read reaches the committed copy or, with `sr`, the
shadow copy; a write reaches the shadow copy (R49, R163). -/
def usesB (cur sr write : Bool) : Bool := if write || sr then !cur else cur

/-- What an access through a region meets. -/
structure Xlat where
  /-- Device address. -/
  addr : Nat
  owner : Nat
  keyh : Nat
  /-- RA_LIMIT (R280). -/
  limit : Nat
  /-- Region number and kind. -/
  idx : Nat
  kind : Nat
  /-- A write that R52 forbids. -/
  forbidden : Bool
  deriving DecidableEq, Repr

/-- Translation of a context address (R48, R49, R52): none outside every region, or where the key slot binds no tenant. -/
def State.xlat (s : State) (c a : Nat) (sr write : Bool) : Option Xlat :=
  match regionAt (s.ctx c).regions a with
  | none => none
  | some (i, r) =>
    match s.keyhOf c r with
    | none => none
    | some h =>
      let b := decide (r.kind = 0) && usesB ((s.ctx c).curMap.getLsbD i) sr write
      let base := if b then r.baseB else r.baseA
      some ⟨base + (a - r.vbase), if r.kind = 2 then 0x2000 + h else c, h, (base + r.size) / 0x1_0000, i, r.kind,
        write && decide (r.kind = 2) && !(r.ownerValid && decide (r.owner = c))⟩

/-- A write through a region marks it written, or the context as having written a direct region (R49, R52). -/
def State.noteWrite (s : State) (c : Nat) (x : Xlat) : State :=
  if x.kind = 0 then
    match s.plaza.run with
    | some run =>
      if run.ctx = c ∧ ¬ run.marks.contains x.idx then
        { s with plaza := { s.plaza with run := some { run with marks := run.marks ++ [x.idx] } } }
      else s
    | none => s
  else s.onCtx c (fun k => { k with directWritten := true })

end Sys2Proof.Machine
end

