-- ==== Sys2Proof/Machine/Slots.lean ====
section
/-! DEFINITION. The slots of the memory controllers: order among requests, admission, the pick of the next column command, and service
(R268, R281 to R287). -/

namespace Sys2Proof.Machine
open Sys2Proof

/-! ### Choice among requests (R281, R284) -/

/-- The best element of a list by a strict order; the first of equals. -/
def bestBy {α : Type} (lt : α → α → Bool) : List α → Option α
  | [] => none
  | x :: xs => match bestBy lt xs with
    | none => some x
    | some y => if lt y x then some y else some x

/-- An element put into a sorted list before the first that does not precede it. -/
def insertOn {α : Type} (lt : α → α → Bool) (x : α) : List α → List α
  | [] => [x]
  | y :: ys => if lt y x then y :: insertOn lt x ys else x :: y :: ys

/-- A list sorted by an order; equal elements keep their order. -/
def sortOn {α : Type} (lt : α → α → Bool) (xs : List α) : List α := xs.foldr (insertOn lt) []

/-- Device time in the 64 ns units of EXPIRY (R281). -/
def State.now64 (s : State) : Nat := s.now * 10 / 64 % 2 ^ 20

/-- Whether EXPIRY x is earlier than y: their difference modulo 2²⁰ read as a signed value (R281). [DEDUCED, log entry 43] -/
def sooner (x y : Nat) : Bool := decide (2 ^ 19 ≤ (x + 2 ^ 20 - y) % 2 ^ 20)

/-- Age of a request in 10 ns units, measured from ISSUED (R281). -/
def State.age (s : State) (issued : Nat) : Nat := (s.now % 2 ^ 32 + 2 ^ 32 - issued) % 2 ^ 32

/-- Whether a request was issued before another: by age, then by order of issue. -/
def Req.older (s : State) (x y : Req) : Bool :=
  decide (s.age y.issued < s.age x.issued) || (decide (s.age y.issued = s.age x.issued) && decide (x.id < y.id))

/-! ### Admission (R283, R286, R287) -/

/-- A miss register of a slice is changed. -/
def State.onMiss (s : State) (n l : Nat) (f : Miss → Miss) : State :=
  s.onSlc n (fun sl => { sl with miss := sl.miss.map (fun m => if m.line = l then f m else m) })

/-- PARTITION mode in force (R285). -/
def State.partition (s : State) (g : Nat) : Bool :=
  s.rd F.MEMC_REG_MODE g != 0 || (List.range 8).any (fun i => s.rd F.SLC_SLICE_STATE_MODE (8 * g + i) == 2)

/-- Entries of the rotation that name a partition (R286). -/
def State.rotEntries (s : State) (g p : Nat) : Nat := ((List.range 16).filter (fun i => s.rd F.MEMC_ROT_ENTRY g i == p)).length

/-- Whether a request is issued before another. -/
def GMiss.older (s : State) (x y : GMiss) : Bool := decide (s.age y.2.issued < s.age x.2.issued)

/-- Whether slots and caps let a request in: 512 slots, its class's cap in SERVICE mode, its partition's share in PARTITION
mode (R279, R283, R286). -/
def State.slotRoom (s : State) (g : Nat) (m : Miss) : Bool :=
  decide (s.slotsUsed g < 512) &&
    (if s.partition g then decide (((s.inSlots g).filter (fun x => x.2.part == m.part)).length < 32 * s.rotEntries g m.part)
     else decide (((s.inSlots g).filter (fun x => x.2.cls == m.cls)).length < s.rd F.MEMC_CLASS_CAP_CAP_EFF g m.cls))

/-- Slots that requests to a bank hold (R287). -/
def State.bankSlots (s : State) (g b : Nat) : Nat :=
  ((s.inSlots g).filter (fun x => s.bankOf g x.2.line == b)).length + ((s.mem g).writes.filter (fun w => s.bankOf g w.line == b)).length

/-- HELD miss registers of slice n for a bank (R287). -/
def State.heldFor (s : State) (n b : Nat) : Nat := ((s.slc n).miss.filter (fun m => m.stage == .held && s.bankOf (n / 8) m.line == b)).length

/-- Whether a request of any slice of the group is HELD for a bank. -/
def State.bankHeld (s : State) (g b : Nat) : Bool := (s.groupMiss g).any (fun x => x.2.stage == .held && s.bankOf g x.2.line == b)

/-- Whether a bank takes no request of a slice now: it holds 64 slots, or earlier requests are HELD for it (R287). -/
def State.bankShut (s : State) (g b : Nat) : Bool := decide (64 ≤ s.bankSlots g b) || s.bankHeld g b

/-- A request takes a slot; it waits there for a key or a check burst that the controller does not hold (R262, R266). -/
def State.toSlot (s : State) (g n : Nat) (m : Miss) : State :=
  let noKey := !(s.mem g).keys.contains m.keyh
  let noCheck := !(s.mem g).holds (s.checkOf g m.line)
  let s := if noKey then s.inc F.MEMC_KEY_MISS g 0 else s
  let s := if noCheck then s.inc F.MEMC_CHECK_MISSES g 0 else s
  s.onMiss n m.line (fun m => { m with stage := .slot, keyWait := noKey, checkWait := noCheck })

/-- A waiting request is offered to the controller (R283, R287): where its bank takes none it is marked HELD, as far as 16 of its slice may
be; else it takes a slot, or stays in its register for want of room. Cycles of the two conditions count. -/
def State.offerSlot (s : State) (g n : Nat) (m : Miss) : State :=
  let b := s.bankOf g m.line
  if s.bankShut g b then
    let s := if 64 ≤ s.bankSlots g b then s.cycles F.MEMC_BANK_FULL g else s
    if s.heldFor n b < 16 then (s.inc F.SLC_HELD n 0).onMiss n m.line (fun m => { m with stage := .held }) else s
  else if s.slotRoom g m then s.toSlot g n m
  else if s.partition g = false ∧ s.rd F.MEMC_CLASS_CAP_CAP_EFF g m.cls ≤ ((s.inSlots g).filter (fun x => x.2.cls == m.cls)).length
  then s.cycles F.MEMC_CLASS_FULL g else s

/-- Every waiting request of a group is offered, oldest first. -/
def State.offerSlots (s : State) (g : Nat) : State :=
  (sortOn (GMiss.older s) ((s.groupMiss g).filter (fun x => x.2.stage == .waiting && x.2.kind != .victim))).foldl
    (fun s x => s.offerSlot g x.1 x.2) s

/-! ### The pick (R268, R284, R286) -/

/-- Age in units of device time after which a request has waited 2,048 cycles, at the controller's rate (R268). -/
def State.agedAt (s : State) (g : Nat) : Nat := if s.rd F.MEMC_CFG_RATE g = 1 then 171 else 193

/-- Whether the controller can reach a line now: its channel is not retraining, its ranks not in self-refresh, its bank not under refresh (R270, R274, R275). -/
def State.reachable (s : State) (g l : Nat) : Bool :=
  !(s.mem g).selfRefresh && !(s.mem g).retrain.contains (s.chanOf g (l * 128)).1 && decide ((s.mem g).busy.get (s.bankOf g l) 0 ≤ s.now)

/-- Requests for which the controller may issue a column command now: in a slot, with key and check burst, reachable, and no resolve, which
has its own step. -/
def State.servable (s : State) (g : Nat) : List GMiss :=
  (s.inSlots g).filter (fun x => !x.2.keyWait && !x.2.checkWait && x.2.kind != .resolve && s.reachable g x.2.line)

/-- The pick of R268 among candidates, and whether the age rule made it. [DEDUCED, log entry 40] -/
def State.pickMem (s : State) (g : Nat) (deadlines : Bool) (xs : List GMiss) : Option (GMiss × Bool) :=
  let old := xs.filter (fun x => decide (s.agedAt g ≤ s.age x.2.issued))
  let lc := if deadlines then xs.filter (fun x => x.2.lc) else []
  let row := xs.filter (fun x => s.rowOpen g x.2.line)
  if old ≠ [] then (bestBy (GMiss.older s) old).map (fun x => (x, true))
  else if lc ≠ [] then (bestBy (fun x y => sooner x.2.expiry y.2.expiry || (x.2.expiry == y.2.expiry && GMiss.older s x y)) lc).map (fun x => (x, false))
  else if row ≠ [] then (bestBy (GMiss.older s) row).map (fun x => (x, false))
  else (bestBy (GMiss.older s) xs).map (fun x => (x, false))

/-- The next rotation entry whose partition has a candidate, counted from the current one (R286). -/
def State.rotTurn (s : State) (g : Nat) (xs : List GMiss) : Option Nat :=
  (List.range 16).find? (fun i => xs.any (fun x => x.2.part == s.rd F.MEMC_ROT_ENTRY g (((s.mem g).rot + i) % 16)))

/-- The pick in the mode in force, with the rotation moved on by the one column command. -/
def State.pickMode (s : State) (g : Nat) : State × Option (GMiss × Bool) :=
  let xs := s.servable g
  if s.partition g then
    match s.rotTurn g xs with
    | none => (s, none)
    | some i =>
      let e := ((s.mem g).rot + i) % 16
      (s.onMem g (fun m => { m with rot := (e + 1) % 16 }), s.pickMem g false (xs.filter (fun x => x.2.part == s.rd F.MEMC_ROT_ENTRY g e)))
  else (s, s.pickMem g true xs)

/-- The write that is issued next (R268): the oldest that has waited 2,048 cycles, else the oldest to an open row, else the oldest. -/
def State.pickWrite (s : State) (g : Nat) : Option MemWrite :=
  let ws := (s.mem g).writes.filter (fun w => s.reachable g w.line)
  let older (x y : MemWrite) : Bool := decide (s.age y.issued < s.age x.issued)
  let old := ws.filter (fun w => decide (s.agedAt g ≤ s.age w.issued))
  let row := ws.filter (fun w => s.rowOpen g w.line)
  if old ≠ [] then bestBy older old else if row ≠ [] then bestBy older row else bestBy older ws

/-- Whether the controller issues writes now (R268): a batch of 32 is under way, or writes hold 128 slots, or no read waits. -/
def State.writeMode (s : State) (g : Nat) : Bool :=
  (s.mem g).writes != [] && (decide (0 < (s.mem g).batch) || decide (128 ≤ (s.mem g).writes.length) || (s.inSlots g).isEmpty)

/-- One write of a batch is issued. The batch ends after 32, or when no write waits (R268). [DEDUCED, log entry 40] -/
def State.serveWrite (s : State) (g : Nat) : State :=
  match s.pickWrite g with
  | none => s
  | some w =>
    let b := if (s.mem g).batch = 0 then 32 else (s.mem g).batch
    (s.issueWrite g w).onMem g (fun m => { m with batch := if m.writes = [] then 0 else b - 1 })

/-! ### Service -/

/-- What the pages count of a read that the controller takes into service (R268, R284). -/
def State.countServed (s : State) (g : Nat) (m : Miss) (aged : Bool) : State :=
  let s := if aged then s.inc F.MEMC_AGED g 0 else s
  let s := if m.lc then s.inc F.MEMC_LC_READS g 0 else s
  if m.lc && sooner m.expiry s.now64 then s.inc F.MEMC_DL_MISSED g 0 else s

/-- Handles that wait to be dropped leave once no request under them remains in the slots (R266). -/
def State.dropIdle (s : State) (g : Nat) : State :=
  let gone := (s.mem g).drops.filter (fun h => !((s.inSlots g).any (fun x => x.2.keyh == h)))
  if gone = [] then s
  else s.onMem g (fun m => { m with keys := m.keys.filter (fun k => !gone.contains k), drops := m.drops.filter (fun k => !gone.contains k) })

/-- One column command for a request of a slice (R259, R268): after its second burst the line goes back to the miss register. -/
def State.serveColumn (s : State) (g n : Nat) (m : Miss) (aged : Bool) : State :=
  let s := if m.cols = 2 then s.countServed g m aged else s
  let s := (s.columns g (s.rowOf g m.line) 1).inc F.MEMC_READ_BURSTS g 0
  if 1 < m.cols then s.onMiss n m.line (fun m => { m with cols := m.cols - 1 })
  else
    let (s, d, ue) := s.fetchLine g m.line m.keyh
    (s.onMiss n m.line (fun m => { m with stage := .done d ue, cols := 0 })).dropIdle g

/-- The key and the check burst that a request in a slot waits for arrive (R262, R266). -/
def State.slotReady (s : State) (g n : Nat) (m : Miss) : State :=
  let s := if m.keyWait then s.keyLoad g m.keyh else s
  let s := if m.checkWait then s.checkLoad g (s.checkOf g m.line) else s
  s.onMiss n m.line (fun m => { m with keyWait := false, checkWait := false })

/-- A request in a slot is served to its end. -/
def State.finishSlot (s : State) (g n l : Nat) : State :=
  forN 2 (match (s.slc n).miss.find? (fun m => m.line == l) with | some m => s.slotReady g n m | none => s) (fun s _ =>
    match (s.slc n).miss.find? (fun m => m.line == l) with
    | some m => if m.inSlot then s.serveColumn g n m false else s
    | none => s)

/-- Slots for a request of a unit whose work is one step: where none may be taken, the requests that hold them are served first. -/
def State.clearSlots (s : State) (g : Nat) (m : Miss) : State :=
  if s.bankShut g (s.bankOf g m.line) = false ∧ s.slotRoom g m = true then s
  else ((s.inSlots g).filter (fun x => x.2.kind != .resolve)).foldl (fun s x => s.finishSlot g x.1 x.2.line) s

/-- The fetch of a line is brought to its end, through a slot of the controller (for accesses of units whose work is one indivisible
step). [DEDUCED, log entry 43] -/
def State.fetchNow (s : State) (g n l : Nat) : State :=
  match (s.slc n).miss.find? (fun m => m.line == l) with
  | none => s
  | some m =>
    match m.stage with
    | .done _ _ => s
    | .slot => s.finishSlot g n l
    | _ => ((s.clearSlots g m).toSlot g n m).finishSlot g n l

end Sys2Proof.Machine
end

