-- ==== Sys2Proof/Machine/Cache.lean ====
section
/-! DEFINITION. The cache die: lookups, victims, miss registers, the directory, reductions, fills, and the L1 caches. -/

namespace Sys2Proof.Machine
open Sys2Proof

/-! ### L1 data caches (R239) -/

/-- The L1 line of a Block for a line under an owner and a key. [DEDUCED, log entry 35] -/
def State.l1Find (s : State) (p l owner h : Nat) : Option L1Line :=
  (s.blk p).l1.find? (fun x => x.line == l && x.owner == owner && x.keyh == h)

/-- The state with a line dropped from an L1. -/
def State.l1Drop (s : State) (p l : Nat) : State :=
  s.onBlk p (fun b => { b with l1 := b.l1.filter (fun x => x.line != l) })

/-- A load finds an error in its L1 line: the error is counted and the line dropped, to be refetched (R239, R298). -/
def State.l1Clean (s : State) (p l : Nat) : State :=
  if (s.blk p).l1.any (fun x => x.line == l && x.bad) then (s.corrected 5 p (128 * l)).l1Drop p l else s

/-- The state with a line allocated in an L1 of 64 sets of 8 ways; the way displaced in a full set is a free choice. An injection that waits
strikes the line (R323). [DEDUCED, log entry 35] -/
def State.l1Fill (s : State) (p : Nat) (x : L1Line) : State :=
  let b := s.blk p
  let x := if b.sp.inject = 0 then x else { x with bad := true }
  let b := if b.sp.inject = 0 then b else { b with sp := { b.sp with inject := 0 } }
  let l1 := b.l1.filter (fun y => y.line != x.line)
  let same := l1.filter (fun y => y.line % 64 == x.line % 64)
  if same.length < 8 then s.setBlk p { b with l1 := x :: l1 }
  else
    let v := (same.getD (s.freeVal % 8) x).line
    (s.setBlk p { b with l1 := x :: l1.filter (fun y => y.line != v) }).used

/-- A store updates the L1 copy, if one is present (R239); an injection that waits strikes that copy (R323). -/
def State.l1Store (s : State) (p l : Nat) (m : BitVec 128) (d : BitVec 1024) : State :=
  s.onBlk p (fun b =>
    if b.l1.any (fun x => x.line == l) then
      { b with l1 := b.l1.map (fun x => if x.line = l then { x with data := mergeLine x.data d m, bad := x.bad || b.sp.inject != 0 } else x)
               sp := if b.sp.inject = 0 then b.sp else { b.sp with inject := 0 } }
    else b)

/-! ### Ways and victims (R233, R237) -/

/-- The line of number `l` in a slice. -/
def Slice.at (sl : Slice) (l : Nat) : Option Line := sl.lines.find? (fun x => x.line == l)

/-- The slice with a line put in the place of the line with its way and set. -/
def Slice.putLine (sl : Slice) (x : Line) : Slice :=
  { sl with lines := x :: sl.lines.filter (fun y => !(y.way == x.way && setOf y.line == setOf x.line)) }

/-- The slice without line `l`. -/
def Slice.dropLine (sl : Slice) (l : Nat) : Slice :=
  { sl with lines := sl.lines.filter (fun y => y.line != l), record := sl.record.filter (fun y => y.1 != l)
            errs := sl.errs.filter (fun y => y.1 != l) }

/-- Whether a fetch or resolve of a line is in progress: it is FILLING, or a DIRTY line whose other bytes are being fetched (R233). -/
def Slice.busy (sl : Slice) (x : Line) : Bool := x.st == .filling || sl.miss.any (fun m => m.line == x.line)

/-- Whether a line's way may be a victim (R233, R237). -/
def Slice.eligible (sl : Slice) (x : Line) : Bool := !sl.busy x && x.st != .poison && !x.pin

/-- The way that a pseudo-LRU tree names among ways for which `ok` holds: at each node the branch of its bit, or the other
where no way of that branch is allowed. [DEDUCED, log entry 36] -/
def plruWalk (t : BitVec 15) (ok : Nat → Bool) : Nat → Nat → Nat → Nat
  | 0, _, w => w
  | d + 1, node, w =>
    let bit := b2n (t.getLsbD node)
    let any (b : Nat) : Bool := (List.range (2 ^ d)).any (fun j => ok ((2 * w + b) * 2 ^ d + j))
    let b := if any bit then bit else 1 - bit
    plruWalk t ok d (2 * node + 1 + b) (2 * w + b)

/-- The tree after an access to a way: every node on its path points away from it. [DEDUCED, log entry 36] -/
def plruTouch (t : BitVec 15) (way : Nat) : BitVec 15 :=
  (List.range 4).foldl (fun t d =>
    let node := 2 ^ d - 1 + way / 2 ^ (4 - d)
    let b := bitOf way (3 - d)
    if b then t &&& ~~~(1#15 <<< node) else t ||| (1#15 <<< node)) t

/-- What a victim choice finds. -/
inductive Victim where
  | way (w : Nat) (constrained : Bool)
  | wait
  | none
  deriving DecidableEq, Repr

/-- The victim choice of a set (R237). -/
def Slice.victim (sl : Slice) (set : Nat) : Victim :=
  let ls := sl.lines.filter (fun x => setOf x.line == set)
  let used (w : Nat) : Bool := ls.any (fun x => x.way == w)
  match (List.range 16).find? (fun w => !used w) with
  | some w => .way w false
  | none =>
    let ok (w : Nat) : Bool := ls.any (fun x => x.way == w && sl.eligible x)
    let t := sl.plru.get set 0
    if (List.range 16).any ok then
      let free := plruWalk t (fun _ => true) 4 0 0
      .way (plruWalk t ok 4 0 0) (!ok free)
    else if ls.any sl.busy then .wait else .none

/-- The slice after a way of a set is used. -/
def Slice.touch (sl : Slice) (l way : Nat) : Slice :=
  { sl with plru := SMap.put (setOf l) (plruTouch (sl.plru.get (setOf l) 0) way) sl.plru }

/-! ### The directory (R240, R241) -/

/-- Blocks that the directory entry of a line names (R241). -/
def State.sharers (s : State) (x : Line) : List Nat :=
  match x.dmode with
  | 1 => x.ptrs
  | 2 => ((List.range nDist).filter (fun d => x.bitmap.getLsbD d)).map s.blksOf |>.flatten
  | _ => []

/-- The line with a sharer added (R241). -/
def Line.addSharer (x : Line) (p : Nat) : Line :=
  match x.dmode with
  | 2 => { x with bitmap := x.bitmap ||| (1#16 <<< distOf p) }
  | _ =>
    if x.ptrs.contains p then { x with dmode := 1 }
    else if x.ptrs.length < 4 then { x with dmode := 1, ptrs := x.ptrs ++ [p] }
    else { x with dmode := 2, ptrs := [], bitmap := (p :: x.ptrs).foldl (fun b q => b ||| (1#16 <<< distOf q)) 0 }

/-- The line with no sharers. -/
def Line.noSharers (x : Line) : Line := { x with dmode := 0, ptrs := [], bitmap := 0 }

/-- Every sharer of a line loses its copy at once: an eviction, owner change, poison or retirement (R241). -/
def State.dropSharers (s : State) (n : Nat) (x : Line) : State :=
  let ps := s.sharers x
  ps.foldl (fun s p => s.l1Drop p x.line) (s.inc F.SLC_INVALS n 0 ps.length)

/-! ### Memory traffic of a slice -/

/-- A dirty line goes back to memory (R236). -/
def State.writeBack (s : State) (n : Nat) (x : Line) : State :=
  let m := (List.range 4).foldl (fun (m : BitVec 128) i => if x.sdirty.getLsbD i then m ||| rangeMask (32 * i) 32 else m) 0
  (s.writeLine (n / 8) x.line x.keyh (m &&& x.bvalid) x.data x.writer).inc F.SLC_WRITEBACKS n 0

/-- Offset within an element's size at which the elements of a mask stand: 0 where they are aligned (R196). -/
def maskPhase (z : Nat) (mask : BitVec 128) : Nat := ((List.range 128).find? mask.getLsbD).getD 0 % z

/-- Combine of two lines, element by element, under a byte mask of whole elements (R242), which stand where the first byte of the mask says (R196). -/
def combineLine (redop : Nat) (old new : BitVec 1024) (mask : BitVec 128) : BitVec 1024 :=
  let z := redSize redop
  let ph := maskPhase z mask
  (List.range (128 / z)).foldl (fun d i =>
    let o := ph + z * i
    if mask.getLsbD o && decide (o + z ≤ 128) then
      mergeLine d (lineOf o z (redCombine redop (lineNat old o z) (lineNat new o z))) (rangeMask o z)
    else d) old

/-- The parts of a reduction: of each thread, or the one that the request's mask and data give (R194). -/
def Req.elems (r : Req) : List (BitVec 128 × BitVec 1024) := if r.parts = [] then [(r.mask, r.data)] else r.parts

/-- A reduction combined into a line, part by part (R194, R242). -/
def Req.combine (r : Req) (redop : Nat) (old : BitVec 1024) : BitVec 1024 := r.elems.foldl (fun d e => combineLine redop d e.2 e.1) old

/-- Whether an element of a reduction is misaligned (R196): no REDUCE line can hold its partial value, so it combines in place. [DEDUCED, log entry 37] -/
def Req.skew (r : Req) (redop : Nat) : Bool := r.elems.any (fun e => maskPhase (redSize redop) e.1 != 0)

/-- Records the first uncorrectable line of a slice (R249). -/
def State.slcUe (s : State) (n l : Nat) : State :=
  let s := s.setEvt .slc n 5
  if s.rd F.SLC_UE_ADDR_VALID n = 1 then s else (s.wr F.SLC_UE_ADDR_VALID n 0 1).wr F.SLC_UE_ADDR_ADDR n 0 l

/-- The locked read–combine–write of a REDUCE line's partial values (R244, R267): the line's bytes after it, or none where
the memory line cannot be read; then nothing is written and the writer is named in an entry (R264). -/
def State.resolveMem (s : State) (n : Nat) (x : Line) : State × Option (BitVec 1024) :=
  let g := n / 8
  let s := s.inc F.SLC_RESOLVES n 0
  let (s, d, ue) := s.readLine g x.line x.keyh
  match ue with
  | some _ => ((s.slcUe n x.line).event 0x0505 (pageIdx .slc n) (x.line * 128) 0 x.writer, none)
  | none =>
    let d' := combineLine x.redop d x.data (BitVec.allOnes 128)
    (s.writeLine g x.line x.keyh (BitVec.allOnes 128) d' x.writer, some d')

/-- Line `x` leaves its way (R236, R241): written back, resolved or dropped, its sharers invalidated. A REDUCE line that memory does not take is
lost as POISON (R264). The rollback list keeps its entry until step 2 (R245). -/
def State.evict (s : State) (n : Nat) (x : Line) : State :=
  let s := s.dropSharers n x
  let s := match x.st with
    | .dirty => s.writeBack n x
    | .reduce => match s.resolveMem n x with
      | (s, some _) => s
      | (s, none) => s.inc F.SLC_POISONED n 0
    | _ => s
  s.onSlc n (fun sl => sl.dropLine x.line)

/-- A line found under another owner or key (R235). -/
def State.settleForeign (s : State) (n : Nat) (x : Line) : State := (s.inc F.SLC_OWNER_MISS n 0).evict n x

/-! ### Answers -/

/-- Block whose L1 a requester uses. -/
def Src.l1Of : Src → Option Nat
  | .core p | .vx p _ => some p
  | _ => none

/-- Whether a request is a store of Block p to line l. -/
def Req.storeOf (r : Req) (p l : Nat) : Bool := r.op == .write && r.line == l && r.src.l1Of == some p

/-- A request is answered: a read of an L1 client also fills its L1, unless a store of the Block to the line is on its way. -/
def State.answer (s : State) (r : Req) (d : BitVec 1024) (fillL1 : Bool) : State :=
  let s := { s with resps := s.resps ++ [⟨r, d⟩] }
  match r.op, r.src.l1Of with
  | .read, some p => if fillL1 && !(s.reqs.any (fun q => q.storeOf p r.line)) then s.l1Fill p ⟨r.line, r.owner, r.keyh, d, false⟩ else s
  | _, _ => s

/-- Which Blocks a write must invalidate, and the line's directory entry after it (R241). -/
def State.invalTargets (s : State) (x : Line) (r : Req) : List Nat × Line :=
  match r.op, r.src, x.dmode with
  | .write, .core p, 1 | .write, .vx p _, 1 =>
    (x.ptrs.filter (fun q => q != p), if x.ptrs.contains p then { x with ptrs := [p] } else x.noSharers)
  | _, _, _ => (s.sharers x, x.noSharers)

/-- The slice writes a line: an injected error goes with it, and takes the place of one that stood there (R323). Which protected word
takes it, of the data, the tag or the directory entry, is a free choice. [DEDUCED, log entry 37] -/
def State.slcWrote (s : State) (n l : Nat) : State :=
  let es := (s.slc n).errs.filter (fun e => e.1 != l)
  let k := (s.slc n).inject
  if k = 0 then s.onSlc n (fun sl => { sl with errs := es })
  else (s.onSlc n (fun sl => { sl with inject := 0, errs := (l, k + 2 * (s.freeVal % 3)) :: es })).used

/-- A write or reduction has been applied to line `x`: it is acknowledged at once, or after the acknowledgement of every
invalidation that it causes (R241). -/
def State.ackWrite (s : State) (n : Nat) (x : Line) (r : Req) : State :=
  let (ps, x') := s.invalTargets x r
  let s := (s.onSlc n (fun sl => sl.putLine x')).slcWrote n r.line
  if ps = [] then s.answer r 0 false
  else
    let s := s.inc F.SLC_INVALS n 0 ps.length
    let s := s.onSlc n (fun sl => { sl with invWait := sl.invWait ++ [⟨r, ps⟩] })
    { s with invs := s.invs ++ ps.map (fun p => ⟨n, r.line, p, r.id, false⟩) }

/-- Pin entry that a line falls under (R247). -/
def State.pinOf (s : State) (g l owner : Nat) : Option (Nat × PinEntry) :=
  ((List.range 16).find? (fun e => match SMap.find (16 * g + e) s.pins with
    | some p => decide (p.base ≤ l * 128) && decide (l * 128 < p.base + p.size) && decide (p.owner = owner)
    | none => false)).bind (fun e => (SMap.find (16 * g + e) s.pins).map (fun p => (e, p)))

/-- Whether a line allocated now is pinned; a line of an entry whose places in the set are taken counts in PIN_OVERFLOW (R247). -/
def State.pinLine (s : State) (n l owner : Nat) : State × Bool :=
  match s.pinOf (n / 8) l owner with
  | none => (s, false)
  | some (_, p) =>
    let held := ((s.slc n).lines.filter (fun x => x.pin && setOf x.line == setOf l && x.owner == owner
      && decide (p.base ≤ x.line * 128) && decide (x.line * 128 < p.base + p.size))).length
    if held < p.ways then (s, true) else (s.inc F.SLC_PIN_OVERFLOW n 0, false)

/-- A fresh line for a request in way `w`. -/
def newLine (w : Nat) (r : Req) (st : LState) (pin : Bool) : Line :=
  ⟨w, r.line, st, pin, 0, 0, r.owner, r.keyh, false, r.ctx, 0, 0, 0, [], 0⟩

/-- A miss register for a request. -/
def newMiss (r : Req) (k : MKind) (alloc : Bool) (ws : List Req) : Miss :=
  ⟨r.line, r.owner, r.keyh, k, .waiting, r.cls, r.lc, r.expiry, r.issued, r.part,
    match r.src with | .gath _ => true | _ => false, alloc, ws, false, false, r.raLimit, 2⟩

/-- What a slice does with a request. -/
inductive Take where
  | taken
  | refused
  deriving DecidableEq, Repr

/-- Whether a miss of the request may take a miss register (R238, R282, R287, R296). -/
def State.missRoom (s : State) (n : Nat) (r : Req) : Bool :=
  let ms := (s.slc n).miss
  let gath := match r.src with | .gath _ => true | _ => false
  let free := match r.src with | .host _ | .mgmt => true | _ => false
  decide (ms.length < 96)
    && (gath || decide ((ms.filter (fun m => !m.gath)).length < 88))
    && (free || decide ((ms.filter (fun m => m.cls == r.cls && m.part != 0 && m.part != 1)).length < s.rd F.SLC_CLASS_CAP_CAP_EFF n r.cls))
    && (decide (s.bankSlots (n / 8) (s.bankOf (n / 8) r.line) < 64)
      || decide ((ms.filter (fun m => (m.stage == .held || m.stage == .waiting) && s.bankOf (n / 8) m.line == s.bankOf (n / 8) r.line)).length < 16))

/-- A read answered from a line that holds its bytes, with the reader added to the directory (R241). -/
def State.readHit (s : State) (n : Nat) (x : Line) (r : Req) : State :=
  let isL1 := match r.src with | .core _ | .vx _ _ => true | _ => false
  let x' := match r.src with | .core p | .vx p _ => x.addSharer p | _ => x
  let s := s.onSlc n (fun sl => (sl.putLine x').touch r.line x.way)
  s.answer r x.data (isL1 && decide (x.bvalid = BitVec.allOnes 128))

/-- Bytes written into a line (R236). -/
def Line.written (x : Line) (r : Req) (m : BitVec 128) (d : BitVec 1024) : Line :=
  { x with st := .dirty, data := mergeLine x.data d m, bvalid := x.bvalid ||| m, writer := r.ctx.orElse (fun _ => x.writer)
           sdirty := (maskSectors m).foldl (fun b i => b ||| (1#4 <<< i)) x.sdirty }

/-- The page that reports an error of a request without a context: the port of a host-window read, else the page given (R301). -/
def Req.reportPage (r : Req) (pg : Nat) : Nat := match r.src with | .host p => pageIdx .pcie p | _ => pg

/-- A poisoned line is met: zero is returned and the reader's context takes an uncorrectable error (R249).
A reduction, of which R249 does not speak, is met like a read. [DESIGN CHOICE, log entry 37] -/
def State.poisonHit (s : State) (n : Nat) (r : Req) : State :=
  let s := (s.slcUe n r.line)
  let s := match r.ctx with
    | some c => s.report ⟨0x0107, 0, pageIdx .slc n, some c, r.frame, r.line * 128, 0, none⟩
    | none => s.event 0x0107 (r.reportPage (pageIdx .slc n)) (r.line * 128)
  s.answer r 0 false

/-- A line becomes POISON (R249): its sharers lose their copies, and the entry names `writer`. [DEDUCED, log entry 37] -/
def State.poisonLine (s : State) (n : Nat) (x : Line) (writer : Option Nat) : State :=
  let s := (s.dropSharers n x).inc F.SLC_POISONED n 0
  let s := s.event 0x0106 (pageIdx .slc n) (x.line * 128) 0 writer
  s.onSlc n (fun sl => sl.putLine { x.noSharers with st := .poison, writer := writer })

/-- A REDUCE line that memory could not take becomes POISON (R264). -/
def State.resolveFailed (s : State) (n : Nat) (x : Line) : State :=
  ((s.dropSharers n x).inc F.SLC_POISONED n 0).onSlc n (fun sl => sl.putLine { x.noSharers with st := .poison })

/-- The error stored with a line is gone: its word is rewritten. -/
def State.errGone (s : State) (n l : Nat) : State := s.onSlc n (fun sl => { sl with errs := sl.errs.filter (fun e => e.1 != l) })

/-- An error stored with a line is found (R249): 1 and 2 one and two bits of its data, 3 and 4 of its tag, 5 and 6 of its directory
entry; one of the data only where the data is read. A single bit is corrected each time, and rewritten by the scrubber alone (R304, R306). Two bits
make a CLEAN line INVALID and a DIRTY or REDUCE line POISON in the data, the way POISON in the tag, without a WRITER where that word is struck (a
free choice among the seven), and drop every L1 copy in the directory. [DEDUCED, log entry 37] -/
def State.lineErr (s : State) (n : Nat) (x : Line) (reads scrub : Bool) : State :=
  match (s.slc n).errs.find? (fun e => e.1 == x.line) with
  | none => s
  | some (_, k) =>
    let v := s.freeVal
    match k with
    | 1 => if reads then (if scrub then s.errGone n x.line else s).inc F.SLC_CE n 0 |>.corrected 2 n (x.line * 128) else s
    | 3 => ((if scrub then s.errGone n x.line else s).inc F.SLC_CE n 0).used.corrected 3 n (setOf x.line + 2 ^ 16 * x.way + 2 ^ 20 * (v % 7))
    | 5 => ((if scrub then s.errGone n x.line else s).inc F.SLC_CE n 0).used.corrected 3 n (setOf x.line + 2 ^ 16 * x.way + 2 ^ 20 * (7 + v % 2))
    | 4 => ((s.errGone n x.line).used.slcUe n x.line).poisonLine n x (if v % 7 = 2 then none else x.writer)
    | 6 =>
      let s := ((s.errGone n x.line).slcUe n x.line).event 0x0106 (pageIdx .slc n) (x.line * 128)
      (s.dropSharers n { x with dmode := 2, bitmap := BitVec.allOnes 16 }).onSlc n (fun sl => sl.putLine x.noSharers)
    | _ =>
      if reads = false then s
      else
        let s := (s.errGone n x.line).slcUe n x.line
        match x.st with
        | .dirty | .reduce => s.poisonLine n x x.writer
        | _ => ((s.event 0x0106 (pageIdx .slc n) (x.line * 128)).dropSharers n x).onSlc n (fun sl => sl.dropLine x.line)

/-- Whether a sector of a line cannot be read from memory. -/
def State.memBad (s : State) (n l : Nat) : Bool := (List.range 4).any (fun i => s.sectorBad (n / 8) (4 * l + i))

/-- The victim choice of a set, with the errors of written lines found as they are read out: a line that becomes POISON, for its own error or
because memory cannot take its partial values, is no victim (R237, R249, R264). `fuel` bounds the choices, 16 of which reach every way. [DEDUCED, log entry 36] -/
def State.findVictim (s : State) (n set : Nat) : Nat → State × Victim
  | 0 => (s, (s.slc n).victim set)
  | fuel + 1 =>
    match (s.slc n).victim set with
    | .way w c =>
      match (s.slc n).lines.find? (fun x => x.way == w && setOf x.line == set) with
      | some x =>
        if (s.slc n).errs.any (fun e => e.1 == x.line && decide (e.2 % 2 = 0)) && (x.st == .dirty || x.st == .reduce) then (s.lineErr n x true false).findVictim n set fuel
        else if x.st == .reduce && s.memBad n x.line then ((s.resolveMem n x).1.resolveFailed n x).findVictim n set fuel
        else (s, .way w c)
      | none => (s, .way w c)
    | v => (s, v)

/-- A demand touches the prefetch record (R294). -/
def State.recordHit (s : State) (n l : Nat) : State :=
  match (s.slc n).record.find? (fun e => e.1 == l) with
  | none => s
  | some (_, stream) =>
    let s := s.inc (if stream then F.SLC_STREAM_USEFUL else F.SLC_RA_USEFUL) n 0
    s.onSlc n (fun sl => { sl with record := sl.record.filter (fun e => e.1 != l) })

/-- Run-ahead prefetches for lines `from` to `to` on behalf of a demand (R291, R292). -/
def State.runAhead (s : State) (n : Nat) (r : Req) (lo hi : Nat) : State :=
  (List.range (hi + 1 - lo)).foldl (fun s i =>
    let l := lo + i
    if r.raLimit * 512 ≤ l then s.inc F.SLC_RA_DROP_BOUNDARY n 0
    else
      let q : Req := { r with id := s.nextReq, src := .engine, op := .prefetch false, line := l, mask := 0, data := 0, lc := false,
                              expiry := 0, cls := s.rd F.SLC_RA_CFG_CLASS_EFF n, ctx := none, ra := false, refused := false }
      { s with nextReq := s.nextReq + 1, reqs := s.reqs ++ [q] }) s

/-- A request takes a miss register of slice n, if it may (R238, R282, R287, R296); `fresh` on its first lookup, which alone is counted. -/
def State.register (s : State) (n : Nat) (r : Req) (k : MKind) (alloc fresh : Bool) (f : Slice → Slice := fun sl => sl) : State × Take :=
  if s.missRoom n r then
    let s := if fresh then s.inc F.SLC_MISSES n 0 else s
    let s := if k = .victim then s.cycles F.SLC_VICTIM_WAIT n else s
    (s.onSlc n (fun sl => { f sl with miss := (f sl).miss ++ [newMiss r k alloc [r]] }), .taken)
  else (s, .refused)

/-- A REDUCE line is to be resolved before a request is served (R244): it is FILLING from now on. -/
def State.beginResolve (s : State) (n : Nat) (x : Line) (r : Req) (fresh : Bool) : State × Take :=
  match s.register n { r with keyh := x.keyh, owner := x.owner } .resolve true fresh (fun sl => sl.putLine { x with st := .filling }) with
  | (s, .taken) => (s.onMiss n r.line (fun m => { m with waiters := [r] }), .taken)
  | (s, .refused) => (s, .refused)

/-- A request hits line `x` of slice `n` (R236, R243). -/
def State.hit (s : State) (n : Nat) (x : Line) (r : Req) (fresh : Bool) : State × Take :=
  let h (s : State) : State := if fresh then s.inc F.SLC_HITS n 0 else s
  let touch (s : State) : State := (h s).onSlc n (fun sl => sl.touch r.line x.way)
  let whole : Bool := r.mask &&& x.bvalid == r.mask
  match r.op with
  | .prefetch _ => (s, .taken)
  | .read =>
    match x.st with
    | .poison => ((h s).poisonHit n r, .taken)
    | .reduce => s.beginResolve n x r fresh
    | _ => if whole then ((h s).readHit n x r, .taken) else s.register n r .fetch true fresh
  | .write =>
    match x.st with
    | .poison =>
      if r.mask = BitVec.allOnes 128 then ((touch s).ackWrite n { x.written r r.mask r.data with sdirty := 15 } r, .taken)
      else ((h s).answer r 0 false, .taken)
    | .reduce => s.beginResolve n x r fresh
    | _ => ((touch s).ackWrite n (x.written r r.mask r.data) r, .taken)
  | .reduce op =>
    match x.st with
    | .poison => ((h s).poisonHit n r, .taken)
    | .reduce =>
      if x.redop = op ∧ r.skew op = false then
        ((touch s).ackWrite n { x with data := r.combine op x.data, writer := r.ctx.orElse (fun _ => x.writer) } r, .taken)
      else s.beginResolve n x r fresh
    | _ =>
      if whole then ((touch s).ackWrite n (x.written r r.mask (r.combine op x.data)) r, .taken)
      else s.register n r .fetch true fresh

/-- A REDUCE line for a reduction (R243): identities everywhere, the request combined in. -/
def reduceLine (w : Nat) (r : Req) (op : Nat) (pin rl : Bool) : Line :=
  let z := redSize op
  let ident := (List.range (128 / z)).foldl (fun (d : BitVec 1024) i => d ||| lineOf (z * i) z (redIdent op)) 0
  { newLine w r .reduce pin with redop := op, bvalid := BitVec.allOnes 128, data := r.combine op ident, rl := rl, sdirty := 15 }

/-- Contexts that wait in a list of requests, each once. -/
def waiterCtxs (ws : List Req) : List (Nat × Nat) :=
  ws.foldl (fun acc r => match r.ctx with | some c => if acc.any (fun p => p.1 == c) then acc else acc ++ [(c, r.frame)] | none => acc) []

/-- Reports of a line fetch with an uncorrectable error (R264, R301): one entry, one report for each context that waited. -/
def State.fetchReports (s : State) (n : Nat) (q : Nat) (ws : List Req) : State :=
  let det := b2n (s.sectorErr q == 3)
  let pg := pageIdx .memc (n / 8)
  let code := s.ueCode q
  match waiterCtxs ws with
  | [] => match ws with | [] => s | r :: _ => s.event code (r.reportPage pg) (32 * q) det
  | (c, f) :: rest =>
    let s := s.report ⟨code, det, pg, some c, f, 32 * q, 0, none⟩
    rest.foldl (fun s (c, f) => s.record ⟨code, det, pg, some c, f, 32 * q, 0, none⟩) s

/-- A reduction goes to memory without a line, as a locked read–combine–write (R237); where memory cannot be read nothing is written, and the
reducing context takes the report. [DEDUCED, log entry 37] -/
def State.reduceMem (s : State) (n : Nat) (r : Req) (op : Nat) : State :=
  let g := n / 8
  let (s, d, ue) := (s.inc F.SLC_RESOLVES n 0).readLine g r.line r.keyh
  match ue with
  | some q => s.fetchReports n q [r]
  | none => s.writeLine g r.line r.keyh (BitVec.allOnes 128) (r.combine op d) r.ctx

/-- A request misses in slice `n` (R236, R237, R243, R293). -/
def State.missed (s : State) (n : Nat) (r : Req) (fresh : Bool) : State × Take :=
  let g := n / 8
  let (s, v) := s.findVictim n (setOf r.line) 16
  let cons (s : State) (c : Bool) : State :=
    if c then (s.inc F.SLC_CONSTRAINED n 0).onSlc n (fun sl => { sl with constrained := sl.constrained + 1 }) else s
  let clear (s : State) (w : Nat) : State :=
    match (s.slc n).lines.find? (fun x => x.way == w && setOf x.line == setOf r.line) with
    | some x => s.evict n x
    | none => s
  let place (s : State) (w : Nat) (c : Bool) : State × Bool := (clear (cons s c) w).pinLine n r.line r.owner
  let fetch (s : State) (w : Nat) (c : Bool) : State × Take :=
    if s.missRoom n r then
      let (s, pin) := place s w c
      s.register n r .fetch true fresh (fun sl => (sl.putLine (newLine w r .filling pin)).touch r.line w)
    else (s, .refused)
  match r.op with
  | .prefetch st =>
    match v with
    | .way w c =>
      if 96 - (s.slc n).miss.length < 24 then (s.inc F.SLC_RA_DROP_BUSY n 0, .taken)
      else if s.missRoom n r = false then (s, .refused)
      else
        let (s, pin) := place s w c
        let s := s.inc F.SLC_PF_ISSUED n 0
        (s.onSlc n (fun sl => { (sl.putLine (newLine w r .filling pin)).touch r.line w with miss := sl.miss ++ [newMiss r (.prefetch st) true []] }), .taken)
    | _ => (s.inc F.SLC_RA_DROP_BUSY n 0, .taken)
  | .read =>
    match v with
    | .wait => s.register n r .victim true fresh
    | .none => s.register n r .fetch false fresh
    | .way w c => fetch s w c
  | .write =>
    match v with
    | .wait => s.register n r .victim true fresh
    | .none => (((s.writeLine g r.line r.keyh r.mask r.data r.ctx)).answer r 0 false, .taken)
    | .way w c =>
      let (s, pin) := place s w c
      let s := s.onSlc n (fun sl => sl.touch r.line w)
      (s.ackWrite n ((newLine w r .dirty pin).written r r.mask r.data) r, .taken)
  | .reduce op =>
    match v with
    | .wait => s.register n r .victim true fresh
    | .none => ((s.reduceMem n r op).answer r 0 false, .taken)
    | .way w c =>
      if r.skew op then fetch s w c
      else if r.shadow ∧ 512 ≤ (s.slc n).rlist.length then fetch (if fresh then s.inc F.SLC_RLIST_FULL n 0 else s) w c
      else
        let (s, pin) := place s w c
        let s := (s.inc F.SLC_REDUCE_ALLOC n 0).onSlc n (fun sl =>
          { sl.touch r.line w with rlist := if r.shadow then sl.rlist ++ [r.line] else sl.rlist })
        (s.ackWrite n (reduceLine w r op pin r.shadow) r, .taken)

/-- Whether serving a request reads the data of a line that it finds (R249): not a write of the whole line. -/
def Req.readsData (r : Req) : Bool := r.op != .write || r.mask != BitVec.allOnes 128

/-- A demand with RA brings about run-ahead from a line on (R291). -/
def State.raFrom (s : State) (n : Nat) (r : Req) (next : Bool) : State :=
  let d := s.rd F.SLC_RA_CFG_DEPTH_EFF n
  if r.ra && r.op == .read && decide (0 < d) then s.runAhead n r (r.line + (if next then 1 else d)) (r.line + d) else s

/-- A slice takes one request (R236): it serves it, joins it to a waiter list, gives it a miss register, or does not take it; `fresh` unless
it is a waiter that is served (R238). -/
def State.take (s : State) (n : Nat) (r : Req) (fresh : Bool) : State × Take :=
  match (s.slc n).parity with
  | some _ =>
    let s := s.onSlc n (fun sl => { sl with parity := none })
    (match r.op with | .prefetch _ => s | _ => s.answer r 0 false, .taken)
  | none =>
    match (s.slc n).miss.find? (fun m => m.line == r.line) with
    | some m =>
      match r.op with
      | .prefetch _ => (s, .taken)
      | _ =>
        if 32 ≤ m.waiters.length then (s, .refused)
        else
          let s := if fresh then s.inc F.SLC_MERGED n 0 else s
          let s := match m.kind with
            | .prefetch st => s.inc (if st then F.SLC_STREAM_LATE else F.SLC_RA_LATE) n 0
            | _ => s
          (s.onMiss n r.line (fun y => { y with waiters := y.waiters ++ [r] }), .taken)
    | none =>
      let pf := match r.op with | .prefetch _ => true | _ => false
      let s := match (s.slc n).at r.line with | some x => if pf then s else s.lineErr n x r.readsData false | none => s
      let s := match (s.slc n).at r.line with
        | some x => if x.owner = r.owner ∧ x.keyh = r.keyh then s else s.settleForeign n x
        | none => s
      match (s.slc n).at r.line with
      | some x =>
        let wasRec := !pf && (s.slc n).record.any (fun e => e.1 == r.line)
        let s := if pf then s else s.recordHit n r.line
        (if wasRec && fresh then s.raFrom n r false else s).hit n x r fresh
      | none =>
        match s.missed n r fresh with
        | (s, .taken) => (if fresh then s.raFrom n r true else s, .taken)
        | (s, .refused) => (s, .refused)

/-- A request that was not taken goes back to its requester and waits to be offered again (R288). -/
def State.refuse (s : State) (n : Nat) (r : Req) : State :=
  let s := s.inc F.SLC_REFUSED n 0
  let s := match r.src with | .gath d => s.inc F.GATH_G_REFUSED d 0 | _ => s
  { s with reqs := s.reqs ++ [{ r with refused := true }] }

/-- A slice is offered a request. -/
def State.offer (s : State) (n : Nat) (r : Req) : State :=
  match s.take n r true with
  | (s, .taken) => s
  | (s, .refused) => s.refuse n r

/-- A waiter is served: its lookup has been counted. -/
def State.reoffer (s : State) (n : Nat) (r : Req) : State :=
  match s.take n r false with
  | (s, .taken) => s
  | (s, .refused) => s.refuse n r

/-! ### Fills (R238, R264) -/

/-- The waiters of a line are served in arrival order (R238). An L1 keeps no line that a later waiter of its Block writes. -/
def State.serve (s : State) (n : Nat) : List Req → State
  | [] => s
  | r :: rs =>
    let s := s.reoffer n r
    let s := match r.op, r.src.l1Of with
      | .read, some p => if rs.any (fun q => q.storeOf p r.line) then s.l1Drop p r.line else s
      | _, _ => s
    s.serve n rs

/-- Requests that waited for a way are tried again (R237). -/
def State.retryVictims (s : State) (n : Nat) : State :=
  let ws := ((s.slc n).miss.filter (fun m => m.kind == .victim)).map (fun m => m.waiters) |>.flatten
  (s.onSlc n (fun sl => { sl with miss := sl.miss.filter (fun m => m.kind != .victim) })).serve n ws

/-- The register of a line is free again. -/
def State.freeMiss (s : State) (n l : Nat) : State := s.onSlc n (fun sl => { sl with miss := sl.miss.filter (fun y => y.line != l) })

/-- The waiters of a line that has no way are served in arrival order (R237, R238): a read takes the fetched data where the line was fetched
under its key and nothing has been written since, else reads memory anew under its own key (R235). -/
def State.serveBare (s : State) (n keyh : Nat) (data : BitVec 1024) : List Req → Bool → State
  | [], _ => s
  | r :: rs, written =>
    match r.op with
    | .prefetch _ => s.serveBare n keyh data rs written
    | .read =>
      if written = false ∧ r.keyh = keyh then (s.answer r data false).serveBare n keyh data rs written
      else
        let (s, d, ue) := s.readLine (n / 8) r.line r.keyh
        match ue with
        | none => (s.answer r d false).serveBare n keyh data rs written
        | some q => ((s.fetchReports n q [r]).answer r 0 false).serveBare n keyh data rs written
    | .write => ((s.writeLine (n / 8) r.line r.keyh r.mask r.data r.ctx).answer r 0 false).serveBare n keyh data rs true
    | .reduce op => ((s.reduceMem n r op).answer r 0 false).serveBare n keyh data rs true

/-- A fetched line returns to its miss register `m` (R238): `data` as the controller read it, `ue` the sector that could not be read. -/
def State.fillMiss (s : State) (n : Nat) (m : Miss) (data : BitVec 1024) (ue : Option Nat) : State :=
  let s : State := s.freeMiss n m.line
  let old : Option Line := (s.slc n).at m.line
  match ue with
  | some q =>
    let s : State := if m.waiters = [] then s else s.fetchReports n q m.waiters
    let s : State := match old with
      | some x => if x.st = LState.filling then s.onSlc n (fun sl => sl.dropLine m.line) else s
      | none => s
    let (wr, rest) := m.waiters.partition (fun r => r.op == .write)
    (State.serve (rest.foldl (fun (s : State) r => s.answer r 0 false) s) n wr).retryVictims n
  | none =>
    let s := match m.kind with
      | .prefetch st => if m.waiters = [] then s.onSlc n (fun sl => { sl with record := ((sl.record ++ [(m.line, st)])).drop ((sl.record.length + 1) - 1024) }) else s
      | _ => s
    match old with
    | some x =>
      let st := if x.st = .filling then LState.clean else x.st
      let x' := { x with st := st, data := mergeLine data x.data x.bvalid, bvalid := BitVec.allOnes 128 }
      (((s.onSlc n (fun sl => sl.putLine x')).slcWrote n m.line).serve n m.waiters).retryVictims n
    | none => (s.serveBare n m.keyh data m.waiters false).retryVictims n

/-- A REDUCE line's resolve ends (R244, R264), and the requests that waited for it are served. -/
def State.resolveMiss (s : State) (n : Nat) (m : Miss) : State :=
  let s := (s.countServed (n / 8) m false).freeMiss n m.line
  match (s.slc n).at m.line with
  | none => s.serve n m.waiters
  | some x =>
    let s := match s.resolveMem n x with
      | (s, some d) => (s.dropSharers n x).onSlc n (fun sl => sl.putLine { x.noSharers with st := .clean, data := d, bvalid := BitVec.allOnes 128, sdirty := 0 })
      | (s, none) => s.resolveFailed n x
    ((s.dropIdle (n / 8)).serve n m.waiters).retryVictims n

/-- Whatever a line waits for, but for a way, is finished at once (for accesses of units whose work is one indivisible step). -/
def State.settleOne (s : State) (n l : Nat) : State :=
  match (s.slc n).miss.find? (fun m => m.line == l && m.kind != .victim) with
  | none => s
  | some m =>
    match m.kind with
    | .resolve => (s.slotReady (n / 8) n m).resolveMiss n m
    | _ =>
      let s := s.fetchNow (n / 8) n l
      match (s.slc n).miss.find? (fun m => m.line == l) with
      | none => s
      | some m => match m.stage with
        | .done d ue => s.fillMiss n m d ue
        | _ => s

/-- Every fetch and resolve that a slice waits for is finished. -/
def State.settleSlice (s : State) (n : Nat) : State := ((s.slc n).miss.map (fun m => m.line)).foldl (fun s l => s.settleOne n l) s

/-- Whatever a line waits for is finished at once, with the rest of its slice where it waits for a way. -/
def State.settleLine (s : State) (n l : Nat) : State :=
  if (s.slc n).miss.any (fun m => m.line == l && m.kind == .victim) then (s.settleSlice n).settleOne n l else s.settleOne n l

/-- Room is made in a slice for a request of a unit whose work is one step: what it waits for is finished first. A request to a line that is
being fetched joins its waiters, if it may (R238). -/
def State.makeRoom (s : State) (n : Nat) (r : Req) : State :=
  match (s.slc n).miss.find? (fun m => m.line == r.line) with
  | some m => if m.waiters.length < 32 then s else s.settleLine n r.line
  | none => if s.missRoom n r && (s.slc n).victim (setOf r.line) != .wait then s else s.settleSlice n

/-- Invalidations of a write are carried out at once. -/
def State.settleInv (s : State) (n id : Nat) : State :=
  let ms := s.invs.filter (fun m => m.slice == n && m.req == id)
  let s := ms.foldl (fun s m => s.l1Drop m.blk m.line) s
  let s := { s with invs := s.invs.filter (fun m => !(m.slice == n && m.req == id)) }
  match (s.slc n).invWait.find? (fun w => w.req.id == id) with
  | none => s
  | some w => (s.onSlc n (fun sl => { sl with invWait := sl.invWait.filter (fun w => w.req.id != id) })).answer w.req 0 false

/-! ### Lines that a drain moves (R251) -/

/-- A line that the drain of slice n cannot read is reported; the WRITER of written data is named, and its context is to be
killed (R251). -/
def State.loseLine (s : State) (n : Nat) (x : Line) : State :=
  let s := s.dropSharers n x
  let writer := match x.st with | .dirty | .reduce | .poison => x.writer | _ => none
  let s := s.event 0x0505 (pageIdx .slc n) (x.line * 128) 0 writer
  let s := match writer with | some c => s.onCtx c (fun k => { k with killDue := some 6 }) | none => s
  s.onSlc n (fun sl => sl.dropLine x.line)

/-- The drain of slice n takes a line (R251): one that it cannot read, or that is POISON, is lost. [DEDUCED, log entry 37] -/
def State.drainLine (s : State) (n : Nat) (unreadable : List Nat) (x : Line) : State :=
  if unreadable.contains x.line then s.loseLine n x
  else
    let s := s.lineErr n x true false
    match (s.slc n).at x.line with
    | none => s
    | some y => if y.st = .poison then s.loseLine n y else s.evict n y

/-- The slice that drains the bucket of a line, if one does (R251). -/
def State.drainer (s : State) (l : Nat) : Option Nat :=
  match s.homeOf l with
  | none => none
  | some n => ((List.range 8).map (fun i => 8 * (n / 8) + i)).find? (fun m => (s.slc m).moved.contains (bucketOf l))

/-- A line of a bucket that is being drained leaves the retiring slice before a device engine reaches it (R231, R251). [DEDUCED, log entry 39] -/
def State.drained1 (s : State) (l : Nat) : State :=
  match s.drainer l with
  | none => s
  | some m =>
    let s := s.settleLine m l
    match (s.slc m).at l with
    | some x => s.drainLine m [] x
    | none => s

/-- One whole access of a unit to a line, coherent with every cache (R157, R231): the bytes that a read returns. [DEDUCED, log entry 36] -/
def State.access (s : State) (r : Req) : State × BitVec 1024 :=
  match s.homeOf r.line with
  | none => (s, 0)
  | some n =>
    let r := { r with id := s.nextReq }
    let s := { s with nextReq := s.nextReq + 1 }
    let s := ((s.drained1 r.line).makeRoom n r).offer n r
    let s := (s.settleLine n r.line).settleLine n r.line
    let s := s.settleInv n r.id
    match s.resps.find? (fun p => p.req.id == r.id) with
    | some p => ({ s with resps := s.resps.filter (fun p => p.req.id != r.id) }, p.data)
    | none => ({ s with reqs := s.reqs.filter (fun q => q.id != r.id) }, 0)

/-- Class of a device engine's request to a line: the background class of its home slice (R280, R291). -/
def State.engineClass (s : State) (l : Nat) : Nat :=
  match s.homeOf l with
  | some n => s.rd F.SLC_RA_CFG_CLASS_EFF n
  | none => 15

/-- A request of a unit with no regulation fields of its own: a device engine's carries the background class (R291), and one of the host or of
the management cores counts against no class (R282). -/
def plainReq (s : State) (src : Src) (op : ROp) (l : Nat) (mask : BitVec 128) (d : BitVec 1024) (owner h : Nat) (ctx : Option Nat) (part : Nat) : Req :=
  ⟨0, src, op, l, mask, d, [], owner, h, ctx, s.frame, false, match src with | .engine => s.engineClass l | _ => 15, false, 0, s.now % 2 ^ 32, part, false,
    l / 512 + 1, 0, 128, false⟩

/-- Whether a read of a line under an owner and key cannot be served: its data lost in its way, or needed from memory and unreadable
there (R249, R264, R300). [DEDUCED, log entry 37] -/
def State.lineBad (s : State) (l owner h : Nat) : Bool :=
  match s.homeOf l with
  | none => false
  | some n =>
    let mem := (List.range 4).any (fun i => s.sectorBad (n / 8) (4 * l + i))
    match (s.slc n).at l with
    | none => mem
    | some x =>
      let e := match (s.slc n).errs.find? (fun e => e.1 == l) with | some e => e.2 | none => 0
      if e = 4 ∨ x.st = .poison ∨ (e = 2 ∧ (x.st = .dirty ∨ x.st = .reduce)) then x.owner == owner && x.keyh == h || mem
      else if x.owner ≠ owner ∨ x.keyh ≠ h ∨ e = 2 ∨ x.st = .reduce ∨ x.st = .filling ∨ x.bvalid ≠ BitVec.allOnes 128 then mem
      else false

/-- Pieces of a byte range by line: (line, first byte, length, place in the range). -/
def pieces (a n : Nat) : List (Nat × Nat × Nat × Nat) :=
  (List.range ((a % 128 + n + 127) / 128)).map (fun i =>
    let l := a / 128 + i
    let lo := if i = 0 then a % 128 else 0
    let hi := min 128 (a + n - l * 128)
    (l, lo, hi - lo, l * 128 + lo - a))

/-- Bytes read at a device address under an owner and key. -/
def State.readBytes (s : State) (src : Src) (owner h : Nat) (ctx : Option Nat) (a n : Nat) (part : Nat := 3) : State × List Byte :=
  (pieces a n).foldl (fun (acc : State × List Byte) (l, lo, k, _) =>
    let (s, d) := acc.1.access (plainReq acc.1 src .read l (rangeMask lo k) 0 owner h ctx part)
    (s, acc.2 ++ lineBytes d lo k)) (s, [])

/-- Bytes written at a device address under an owner and key. -/
def State.writeBytes (s : State) (src : Src) (op : ROp) (owner h : Nat) (ctx : Option Nat) (shadow : Bool) (a : Nat) (bs : List Byte) (part : Nat := 3) : State :=
  (pieces a bs.length).foldl (fun s (l, lo, k, o) =>
    let r := plainReq s src op l (rangeMask lo k) (BitVec.ofNat 1024 (leNat ((bs.drop o).take k) * 2 ^ (8 * lo))) owner h ctx part
    (s.access { r with shadow := shadow }).1) s

end Sys2Proof.Machine
end

