-- ==== Sys2Proof/Machine/Scratchpad.lean ====
section
/-! DEFINITION. The scratchpad of a Block: mapping, ownership, valid bits, errors, retention, Clove, and their commands. -/

namespace Sys2Proof.Machine
open Sys2Proof

/-- Whether a register write from a source reaches the registers (R455): the host only once READY is reported, a VF never (R360). -/
def State.mayWrite (s : State) : Source → Bool
  | .mgmt => true
  | .pf _ => s.rd F.TOP_STATUS_READY != 0
  | .vf _ _ => false

/-- Bank and row of a scratchpad address (R211). -/
def spPlace (interleave : Bool) (a : Nat) : Nat × Nat :=
  let h := bitsOf a 19 1
  if interleave then (8 * h + bitsOf a 5 3, bitsOf a 8 11) else (8 * h + bitsOf a 16 3, bitsOf a 5 11)

/-- Bank and row of an address of Block p, by the modes in effect; addresses wrap at 1 MiB. [DEDUCED, log entry 34] -/
def State.spPlaceOf (s : State) (p a : Nat) : Nat × Nat :=
  let a := a % 2 ^ 20
  let m := if bitOf a 19 then s.rd F.BLK_SP_MAP_MODE1_EFF p else s.rd F.BLK_SP_MAP_MODE0_EFF p
  spPlace (m != 0) a

/-- Index of the 64-bit word that holds a byte: 8192 × bank + 4 × row + word. -/
def State.spWord (s : State) (p a : Nat) : Nat :=
  let (b, r) := s.spPlaceOf p a
  8192 * b + 4 * r + bitsOf a 3 2

/-- A unit that accesses scratchpad: its owner code of R213, the gather engine for code 5, and for the units of DXQ the order number of
the command (R170). -/
structure SpUnit where
  code : Nat
  gath : Nat
  cmd : Option Nat
  deriving DecidableEq, Repr

/-- The control core, the vector engine and the array feeders as accessors of scratchpad (R213). -/
def spCore : SpUnit := ⟨1, 0, none⟩
def spVec : SpUnit := ⟨2, 0, none⟩
def feeder : SpUnit := ⟨3, 0, none⟩
/-- The Block DMA, and the gather engine d, for the command of order number `ord` (R213). -/
def spDma (ord : Nat) : SpUnit := ⟨4, 0, some ord⟩
def spGath (d ord : Nat) : SpUnit := ⟨5, d, some ord⟩

/-- Whether a bank serves an access of a unit in the running frame (R213 to R215). -/
def State.spServes (s : State) (p bank : Nat) (u : SpUnit) : Bool :=
  let own := match s.plaza.run with
    | some run => (s.blk p).sp.own == some run.ctx
    | none => false
  own && (decide (u.code = 4) || (s.rd F.BLK_SP_OWN_UNIT p bank == u.code && (decide (u.code ≠ 5) || s.rd F.BLK_SP_OWN_GATH p bank == u.gath)))

/-- Banks that a range of bytes touches, each once. -/
def State.spBanks (s : State) (p a n : Nat) : List Nat := ((List.range n).map (fun i => (s.spPlaceOf p (a + i)).1)).eraseDups

/-- Words that a range of bytes touches, each once. -/
def State.spWords (s : State) (p a n : Nat) : List Nat := ((List.range n).map (fun i => s.spWord p (a + i))).eraseDups

/-- Banks of a range that are RETAINED or WAKING: an access waits until they are awake (R224). -/
def State.spAsleep (s : State) (p a n : Nat) : List Nat :=
  (s.spBanks p a n).filter (fun b => bitOf (s.rd F.BLK_SP_STATUS_RETAINED p) b || bitOf (s.rd F.BLK_SP_STATUS_WAKING p) b)

/-- RETAINED banks of a list start to wake (R224). -/
def State.spWake (s : State) (p : Nat) (banks : List Nat) : State :=
  banks.foldl (fun s b =>
    if bitOf (s.rd F.BLK_SP_STATUS_RETAINED p) b then
      ((s.wr F.BLK_SP_STATUS_RETAINED p 0 (clrBit (s.rd F.BLK_SP_STATUS_RETAINED p) b)).wr F.BLK_SP_STATUS_WAKING p 0
        (setBit (s.rd F.BLK_SP_STATUS_WAKING p) b)).inc F.BLK_SP_WAKE p 0
    else s) s

/-- A foreign access is counted and reported (R214); a command of DXQ reports its first only (R170). -/
def State.spForeign (s : State) (p a : Nat) (u : SpUnit) : State :=
  let s := (s.inc F.BLK_SP_FOREIGN p 0).setEvt .blk p 9
  match u.cmd with
  | none => s.fault 0x0306 (pageIdx .blk p) (a % 2 ^ 20)
  | some ord => s.faultOnce p ord 0x0306 (pageIdx .blk p) (a % 2 ^ 20)

/-- Owner context of the banks of a Block, if they have one. -/
def State.spCtx (s : State) (p : Nat) : Option Nat := (s.blk p).sp.own

/-- The errors of a word are met by a read, or by a write of a part of it (R223): a single bit is corrected and counted, a double bit
reported with the word's address. -/
def State.spCheck (s : State) (p a w : Nat) : State :=
  match (s.blk p).sp.errs.get w 0 with
  | 0 => s
  | 1 => (s.inc F.BLK_SP_CE p 0).corrected 0 p (a % 2 ^ 20 / 8 * 8)
  | _ =>
    let x := a % 2 ^ 20 / 8 * 8
    let s := s.setEvt .blk p 10
    let s := if s.rd F.BLK_SP_UE_ADDR_VALID p = 1 then s else (s.wr F.BLK_SP_UE_ADDR_VALID p 0 1).wr F.BLK_SP_UE_ADDR_ADDR p 0 x
    match s.spCtx p with
    | some c => s.report ⟨0x0101, 0, pageIdx .blk p, some c, s.frame, x, 0, none⟩
    | none => s.event 0x0101 (pageIdx .blk p) x

/-- A byte as stored: zero where the word's valid bit is clear or the word cannot be corrected (R219, R223). [DEDUCED, log entry 34] -/
def State.spByte (s : State) (p a : Nat) : Byte :=
  let w := s.spWord p a
  if 2 ≤ (s.blk p).sp.errs.get w 0 then 0
  else match SMap.find w (s.blk p).sp.words with
    | some v => v.extractLsb' (8 * (a % 8)) 8
    | none => 0

/-- An access of the Block DMA to a bank of another owner is a guest access, whose wait for the owner counts (R215). -/
def State.spGuest (s : State) (p : Nat) (u : SpUnit) (addrs : List Nat) : State :=
  if u.code = 4 ∧ addrs.any (fun x => s.rd F.BLK_SP_OWN_UNIT p (s.spPlaceOf p x).1 != 4) then s.cycles F.BLK_SP_GUEST_WAIT p else s

/-- Bytes read at scratchpad addresses of one access by a unit (R211, R214, R215, R219, R222, R223). -/
def State.spReadL (s : State) (p : Nat) (u : SpUnit) (addrs : List Nat) : State × List Byte :=
  let s := s.spGuest p u addrs
  let ok (x : Nat) : Bool := s.spServes p (s.spPlaceOf p x).1 u
  let bs := addrs.map (fun x => if ok x then s.spByte p x else 0)
  let s' := ((addrs.filter ok).map (fun x => (s.spWord p x, x))).foldl
    (fun (acc : State × List Nat) (w, x) => if acc.2.contains w then acc else (acc.1.spCheck p x w, w :: acc.2)) (s, []) |>.1
  (if addrs.all ok then s' else s'.spForeign p ((addrs.filter (fun x => !ok x)).headD 0) u, bs)

/-- `n` bytes read at a scratchpad address by a unit. -/
def State.spRead (s : State) (p : Nat) (u : SpUnit) (a n : Nat) : State × List Byte := s.spReadL p u ((List.range n).map (fun i => a + i))

/-- One byte written into the words of a Block, its valid bit set and the rest of an invalid word zero (R219). -/
def spPutByte (sp : Spad) (w b : Nat) (v : Byte) : Spad :=
  let old : Nat := if 2 ≤ sp.errs.get w 0 then 0 else (sp.words.get w 0).toNat
  { sp with words := SMap.put w (BitVec.ofNat 64 (putBits old (8 * b) 8 v.toNat)) sp.words, errs := SMap.del w sp.errs }

/-- Bytes written at scratchpad addresses of one access by a unit (R212, R214, R215, R219, R223). [DEDUCED, log entry 34] -/
def State.spWriteL (s : State) (p : Nat) (u : SpUnit) (xs : List (Nat × Byte)) : State :=
  let s := s.spGuest p u (xs.map (fun e => e.1))
  let ok (x : Nat) : Bool := s.spServes p (s.spPlaceOf p x).1 u
  let addrs := xs.map (fun e => e.1)
  let part := ((addrs.filter ok).map (fun x => s.spWord p x)).eraseDups.filter (fun w => (addrs.eraseDups.filter (fun x => s.spWord p x == w)).length < 8)
  let s1 := part.foldl (fun s w => s.spCheck p ((addrs.find? (fun x => s.spWord p x == w)).getD 0) w) s
  let rows := (part.map (fun w => w / 4)).eraseDups.length
  let s1 := if rows = 0 then s1 else s1.inc F.BLK_SP_RMW p 0 rows
  let s2 := xs.foldl (fun s (x, v) => if ok x then s.onBlk p (fun b => { b with sp := spPutByte b.sp (s.spWord p x) (x % 8) v }) else s) s1
  let inj := (s2.blk p).sp.inject
  let s3 := if inj = 0 then s2 else
    match (addrs.filter ok).head? with
    | some x => s2.onBlk p (fun b => { b with sp := { b.sp with inject := 0, errs := SMap.put (s.spWord p x) inj b.sp.errs } })
    | none => s2
  if addrs.all ok then s3 else s3.spForeign p ((addrs.filter (fun x => !ok x)).headD 0) u

/-- Bytes written at a scratchpad address by a unit. -/
def State.spWrite (s : State) (p : Nat) (u : SpUnit) (a : Nat) (bs : List Byte) : State :=
  s.spWriteL p u (((List.range bs.length).map (fun i => a + i)).zip bs)

/-- The valid bits of a bank are cleared (R220). -/
def State.spClear (s : State) (p bank : Nat) : State :=
  s.onBlk p (fun b => { b with sp := { b.sp with words := b.sp.words.filter (fun e => e.1 / 8192 != bank), errs := b.sp.errs.filter (fun e => e.1 / 8192 != bank) } })

/-- An owner-unit request takes effect (R217). -/
def State.spOwnApply (s : State) (p b : Nat) : State :=
  ((s.wr F.BLK_SP_OWN_UNIT p b (s.rd F.BLK_SP_OWN_UNIT_REQ p b)).wr F.BLK_SP_OWN_GATH p b (s.rd F.BLK_SP_OWN_GATH_REQ p b)).wr F.BLK_SP_OWN_PENDING p b 0

/-- BANK_WAKE (R224): bank b of Block p finishes its wake and stays ACTIVE for the rest of the frame. -/
def execBankWake (p b : Nat) (s : State) : Host.Outcome State Fault Refusal :=
  onUnit nBlks p s fun s =>
    if b < 16 ∧ bitOf (s.rd F.BLK_SP_STATUS_WAKING p) b then
      s.wr F.BLK_SP_STATUS_WAKING p 0 (clrBit (s.rd F.BLK_SP_STATUS_WAKING p) b)
    else s

/-- Whether a bank is idle between two commands: it does not wake, and no Clove run works on the banks (R217, R224). [DEDUCED, log entry 34] -/
def State.spIdle (s : State) (p b : Nat) : Bool := !bitOf (s.rd F.BLK_SP_STATUS_WAKING p) b && (s.blk p).sp.clove.isNone

/-- A write of SP_OWN[b] (R217, R227, R509): the request takes effect at once where the bank is idle, and waits for step 5 otherwise. [DEDUCED, log entry 34] -/
def State.spOwnWrite (s : State) (src : Source) (p b v : Nat) : State :=
  if s.mayWrite src = false ∨ 16 ≤ b then s
  else if 5 < bitsOf v 0 3 then s.cfgReject .blk p
  else
    let s := (s.wr F.BLK_SP_OWN_UNIT_REQ p b (bitsOf v 0 3)).wr F.BLK_SP_OWN_GATH_REQ p b (bitsOf v 3 4)
    if s.spIdle p b then s.spOwnApply p b else s.wr F.BLK_SP_OWN_PENDING p b 1

/-- SP_OWN_WRITE (R217, R227, R509): a request for owner unit of bank b; codes 6 and 7 are reserved and drop the write. It takes
effect at once when the bank is idle, and in step 5 otherwise. -/
def execSpOwnWrite (src : Source) (p b : Nat) (v : Word) (s : State) : Host.Outcome State Fault Refusal := onSrc src <|
  onUnit nBlks p s fun s => s.spOwnWrite src p b v.toNat

/-- A Clove run starts (R225): retained banks wake, and the run is under way. -/
def State.cloveGo (s : State) (p : Nat) (preserving : Bool) : State :=
  let s := s.spWake p (List.range 16)
  let s := s.wr F.BLK_SP_STATUS_WAKING p 0 0
  (s.wr F.BLK_CLOVE_RESULT_BUSY p 0 1).onBlk p (fun b => { b with sp := { b.sp with clove := some preserving } })

/-- A write of CLOVE_CTRL (R225, R227); its fields are class S, so the write is dropped while ENABLE is 1. -/
def State.cloveWrite (s : State) (src : Source) (p v : Nat) : State :=
  if s.mayWrite src = false then s
  else if s.enabled .blk p then
    if bitOf v 0 ∨ bitsOf v 1 1 ≠ s.rd F.BLK_CLOVE_CTRL_MODE p then s.cfgReject .blk p else s
  else
    let s := s.wr F.BLK_CLOVE_CTRL_MODE p 0 (bitsOf v 1 1)
    if bitOf v 0 ∧ (s.blk p).sp.clove = none then s.cloveGo p (bitOf v 1) else s

/-- CLOVE_START (R225, R227). -/
def execCloveStart (src : Source) (p : Nat) (v : Word) (s : State) : Host.Outcome State Fault Refusal := onSrc src <|
  onUnit nBlks p s fun s => s.cloveWrite src p v.toNat

/-- The end of a Clove run (R225, R226): a destructive run clears every valid bit; a preserving one leaves the contents. [DEDUCED, log entry 34] -/
def State.cloveEnd (s : State) (p : Nat) (fail : BitVec 16) (row : BitVec 11) : State :=
  match (s.blk p).sp.clove with
  | none => s
  | some preserving =>
    let s := if preserving then s else (List.range 16).foldl (fun s b => s.spClear p b) s
    let s := s.onBlk p (fun b => { b with sp := { b.sp with clove := none } })
    (((s.wr F.BLK_CLOVE_RESULT_FAIL p 0 fail.toNat).wr F.BLK_CLOVE_RESULT_ROW p 0 (if fail = 0 then 0 else row.toNat)).wr F.BLK_CLOVE_RESULT_BUSY p 0 0).setEvt .blk p 11

end Sys2Proof.Machine
end

