-- ==== Sys2Proof/Machine/Slices.lean ====
section
/-! DEFINITION. Steps of the cache die: requests, fills, resolves, invalidations, pinning, drains and the scrub walkers
(R235 to R253, R284, R287, R288, R305 to R307). -/

namespace Sys2Proof.Machine
open Sys2Proof

/-! ### Requests offered (R251, R284, R288) -/

/-- Whether a request reaches a slice that may take it: its bucket is not being drained (R251), it is not waiting after a
refusal, and no earlier request to its line is offered, nor one of its own requester left (R284, R288). -/
def State.offered (s : State) (n : Nat) (r : Req) : Bool :=
  s.homeOf r.line == some n && !r.refused
    && !((List.range 8).any (fun i => (s.slc (8 * (n / 8) + i)).moved.contains (bucketOf r.line)))
    && !(s.reqs.any (fun q => q.line == r.line && q.older s r && (!q.refused || q.src == r.src)))

/-- The request that slice n takes next (R284): one older than 4,096 cycles, the oldest; else a latency-critical read by
EXPIRY; else the oldest. 4,096 cycles of 940 MHz end before 436 units of device time. [DEDUCED, log entry 36] -/
def State.pick (s : State) (n : Nat) : Option Req :=
  let rs := s.reqs.filter (s.offered n)
  let old := rs.filter (fun r => decide (436 ≤ s.age r.issued))
  let lc := rs.filter (fun r => r.lc && r.op == .read)
  if old ≠ [] then bestBy (Req.older s) old
  else if lc ≠ [] then bestBy (fun x y => sooner x.expiry y.expiry || (x.expiry == y.expiry && x.older s y)) lc
  else bestBy (Req.older s) rs

/-- Whether a request is a prefetch. -/
def Req.isPf (r : Req) : Bool := match r.op with | .prefetch _ => true | _ => false

/-- Slice n takes its next request, if it is of the kind wanted. [DEDUCED, log entry 36] -/
def State.takeNext (s : State) (n : Nat) (pf : Bool) : State :=
  match s.pick n with
  | none => s
  | some r => if r.isPf == pf then { s with reqs := s.reqs.filter (fun q => q.id != r.id) }.offer n r else s

/-! ### Wires of bond fields (R318 to R321) -/

/-- A wire of a field is failing (R318, R319): it waits for step 3. -/
def State.wireFails (s : State) (field wire : Nat) : State :=
  if s.later.wires.contains (field, wire) then s
  else (s.onLater (fun l => { l with wires := l.wires ++ [(field, wire)] })).wr F.BOND_PENDING field 0 1

/-- A correction on a data wire of a field (R318): its tracker entry counts it; an untracked wire takes a free entry, or that of
the lowest count, the choice among equal counts being free. [DEDUCED, log entry 44] -/
def State.wireCe (s : State) (field wire : Nat) : State :=
  let s := s.inc F.BOND_CE field 0
  let used (i : Nat) : Bool := s.rd F.BOND_TRACK_VALID field i == 1
  let set (s : State) (i n : Nat) : State :=
    let s := ((s.wr F.BOND_TRACK_WIRE field i wire).wr F.BOND_TRACK_COUNT field i (min 255 n)).wr F.BOND_TRACK_VALID field i 1
    if s.rd F.BOND_THRESH field ≤ n then s.wireFails field wire else s
  match (List.range 16).find? (fun i => used i && s.rd F.BOND_TRACK_WIRE field i == wire) with
  | some i => set s i (s.rd F.BOND_TRACK_COUNT field i + 1)
  | none =>
    match (List.range 16).find? (fun i => !used i) with
    | some i => set s i 1
    | none =>
      let low := ((List.range 16).map (fun i => s.rd F.BOND_TRACK_COUNT field i)).foldl min 255
      match s.pickFree ((List.range 16).filter (fun i => s.rd F.BOND_TRACK_COUNT field i == low)) with
      | (s, some i) => set s i 1
      | (s, none) => s

/-- SLICE_REQUEST (R236): slice n takes its next read, write or reduction; `wires` are the wires of its bond field on which the
transfer is corrected (R318). -/
def execSliceRequest (n : Nat) (wires : List Nat) (s : State) : Host.Outcome State Fault Refusal :=
  onUnit nSlices n s fun s => wires.foldl (fun s w => s.wireCe n w) (s.takeNext n false)

/-- PREFETCH (R293): slice n takes its next prefetch. -/
def execPrefetch (n : Nat) (s : State) : Host.Outcome State Fault Refusal :=
  onUnit nSlices n s fun s => s.takeNext n true

/-- LINE_FILL (R238): the line of the k-th answered miss register of slice n returns. -/
def execLineFill (n k : Nat) (s : State) : Host.Outcome State Fault Refusal :=
  onUnit nSlices n s fun s =>
    let done (m : Miss) : Bool := match m.stage with | .done _ _ => true | _ => false
    match ((s.slc n).miss.filter done)[k]? with
    | some m => match m.stage with
      | .done d ue => s.fillMiss n m d ue
      | _ => s
    | none => s

/-- RESOLVE (R244, R267): the controller resolves the line of the k-th waiting resolve of slice n and returns it. -/
def execResolve (n k : Nat) (s : State) : Host.Outcome State Fault Refusal :=
  onUnit nSlices n s fun s =>
    match ((s.slc n).miss.filter (fun m => m.kind == .resolve && m.stage == .slot && !m.keyWait && !m.checkWait && s.reachable (n / 8) m.line))[k]? with
    | some m => s.resolveMiss n m
    | none => s

/-- INV (R241): the L1 of Block p receives its oldest invalidation, drops the line if it holds it, and acknowledges. -/
def execInv (p : Nat) (s : State) : Host.Outcome State Fault Refusal :=
  onUnit nBlks p s fun s =>
    match s.invs.findIdx? (fun m => m.blk == p && !m.acked) with
    | none => s
    | some i =>
      match s.invs[i]? with
      | none => s
      | some m => { s.l1Drop p m.line with invs := s.invs.set i { m with acked := true } }

/-- INV_ACK (R241): slice n receives its oldest acknowledgement; the write is acknowledged once none is left. -/
def execInvAck (n : Nat) (s : State) : Host.Outcome State Fault Refusal :=
  onUnit nSlices n s fun s =>
    match s.invs.findIdx? (fun m => m.slice == n && m.acked) with
    | none => s
    | some i =>
      match s.invs[i]? with
      | none => s
      | some m =>
        let s := { s with invs := s.invs.eraseIdx i }
        match (s.slc n).invWait.find? (fun w => w.req.id == m.req) with
        | none => s
        | some w =>
          let left := w.left.filter (fun p => p != m.blk)
          if left = [] then (s.onSlc n (fun sl => { sl with invWait := sl.invWait.filter (fun w => w.req.id != m.req) })).answer w.req 0 false
          else s.onSlc n (fun sl => { sl with invWait := sl.invWait.map (fun w => if w.req.id = m.req then { w with left := left } else w) })

/-- Whether a request is the oldest of its requester's that were refused. -/
def State.firstRefused (s : State) (r : Req) : Bool := r.refused && !(s.reqs.any (fun q => q.refused && q.src == r.src && q.older s r))

/-- REQUEST_RETRY (R288): a refused request to slice n is offered again, the oldest of those that are the oldest of their requester's. [DEDUCED, log entry 43] -/
def execRequestRetry (n : Nat) (s : State) : Host.Outcome State Fault Refusal :=
  onUnit nSlices n s fun s =>
    match bestBy (Req.older s) (s.reqs.filter (fun r => s.firstRefused r && s.homeOf r.line == some n)) with
    | none => s
    | some r => { s with reqs := s.reqs.map (fun q => if q.id = r.id then { q with refused := false } else q) }

/-! ### Pinning (R246, R247) -/

/-- Whether a number is an owner number of R234. [DESIGN CHOICE, log entry 38] -/
def ownerOk (o : Nat) : Bool := decide (o < 0x400) || (decide (0x2000 ≤ o) && decide (o ≤ 0x3401))

/-- PIN_RESULT records the outcome of a request. -/
def State.pinResult (s : State) (g e code : Nat) : State :=
  ((s.wr F.SLC_PIN_RESULT_CODE (8 * g) 0 code).wr F.SLC_PIN_RESULT_ENTRY (8 * g) 0 e).wr F.SLC_PIN_RESULT_VALID (8 * g) 0 1

/-- Sum of WAYS over the valid entries of a group. -/
def State.pinReserved (s : State) (g : Nat) : Nat :=
  ((List.range 16).map (fun e => match SMap.find (16 * g + e) s.pins with | some p => p.ways | none => 0)).sum

/-- The registers of a pin entry follow the entry. -/
def State.pinEntryRegs (s : State) (g e valid filled ways owner : Nat) : State :=
  let s := (s.wr F.SLC_PIN_ENTRY_VALID (8 * g) e valid).wr F.SLC_PIN_ENTRY_FILLED (8 * g) e filled
  (((s.wr F.SLC_PIN_ENTRY_WAYS (8 * g) e ways).wr F.SLC_PIN_ENTRY_OWNER (8 * g) e owner).wr F.SLC_PIN_CFG_RESERVED (8 * g) 0 (s.pinReserved g))

/-- Reasons for which a pin request is refused (R246, R253), as PIN_RESULT codes. [DESIGN CHOICE, log entry 38] -/
def State.pinRefusals (s : State) (g v : Nat) : List Nat :=
  let op := bitsOf v 0 2
  let e := bitsOf v 2 4
  let ways := bitsOf v 6 4
  let owner := bitsOf v 16 14
  let base := s.rd F.SLC_PIN_BASE_BASE (8 * g)
  let size := s.rd F.SLC_PIN_SIZE_SIZE (8 * g)
  let lo := s.rd F.MEMC_RANGE_BASE_BASE g
  let hi := lo + s.rd F.MEMC_RANGE_SIZE_SIZE g
  let used := (SMap.find (16 * g + e) s.pins).isSome
  if op = 1 then
    (if ways = 0 ∨ 14 < ways ∨ ownerOk owner = false then [5] else [])
      ++ (if used then [3] else [])
      ++ (if base % 0x1_0000 = 0 ∧ size % 0x1_0000 = 0 ∧ size ≠ 0 ∧ lo ≤ base ∧ base + size ≤ hi then [] else [4])
      ++ (if s.rd F.SLC_PIN_CFG_CEIL (8 * g) < s.pinReserved g + ways then [2] else [])
  else if op = 2 then (if used then [] else [3])
  else [5]

/-- A PIN request that is accepted (R246): the entry is taken. -/
def State.pinTake (s : State) (g v : Nat) : State :=
  let e := bitsOf v 2 4
  let p : PinEntry := ⟨s.rd F.SLC_PIN_BASE_BASE (8 * g), s.rd F.SLC_PIN_SIZE_SIZE (8 * g), bitsOf v 16 14, bitsOf v 6 4, bitOf v 10⟩
  ({ s with pins := SMap.put (16 * g + e) p s.pins }.pinEntryRegs g e 1 0 p.ways p.owner).pinResult g e 1

/-- An UNPIN request that is accepted (R247): PIN is cleared on the entry's lines, and its ways are free. -/
def State.pinFree (s : State) (g e : Nat) (p : PinEntry) : State :=
  let mine (x : Line) : Bool := decide (p.base ≤ x.line * 128) && decide (x.line * 128 < p.base + p.size) && x.owner == p.owner
  let s := (List.range 8).foldl (fun s i => s.onSlc (8 * g + i) (fun sl =>
    { sl with lines := sl.lines.map (fun x => if mine x then { x with pin := false } else x) })) s
  ({ s with pins := SMap.del (16 * g + e) s.pins }.pinEntryRegs g e 0 0 0 0).pinResult g e 1

/-- A write of PIN_REQ (R246, R247, R253). Where several reasons for refusal hold, which one is recorded is a free choice. [DESIGN CHOICE, log entry 38] -/
def State.pinReq (s : State) (src : Source) (g v : Nat) : State :=
  if s.mayWrite src = false then s
  else
    let e := bitsOf v 2 4
    match s.pinRefusals g v with
    | [] =>
      if bitsOf v 0 2 = 1 then s.pinTake g v
      else match SMap.find (16 * g + e) s.pins with
        | some p => s.pinFree g e p
        | none => s
    | [c] => s.pinResult g e c
    | c :: cs => (s.pinResult g e ((c :: cs).getD (s.freeVal % (c :: cs).length) c)).used

/-- PIN (R246): a write of PIN_REQ of group d. -/
def execPin (src : Source) (d : Nat) (v : Word) (s : State) : Host.Outcome State Fault Refusal := onSrc src <|
  onUnit nDist d s fun s => s.pinReq src d v.toNat

/-- UNPIN (R247): a write of PIN_REQ of group d. -/
def execUnpin (src : Source) (d : Nat) (v : Word) (s : State) : Host.Outcome State Fault Refusal := onSrc src <|
  onUnit nDist d s fun s => s.pinReq src d v.toNat

/-- Key handle of a pin fill's fetches: the handle that the owner number holds (R234), or the context's own storage key. [DESIGN CHOICE, log entry 38] -/
def fillKey (owner : Nat) : Nat := if owner < 0x400 then 0x1000 + owner else owner - 0x2000

/-- A line of a pin fill is fetched by the device engine unless its slice holds it (R247, R291). -/
def State.pinFetch (s : State) (p : PinEntry) (l : Nat) : State :=
  match s.homeOf l with
  | none => s
  | some n =>
    match (s.slc n).at l with
    | some x => if x.owner = p.owner ∧ x.st ≠ .filling then s
      else (s.access (plainReq s .engine .read l (BitVec.allOnes 128) 0 p.owner (fillKey p.owner) none 2)).1
    | none => (s.access (plainReq s .engine .read l (BitVec.allOnes 128) 0 p.owner (fillKey p.owner) none 2)).1

/-- PIN_DONE (R247): the fill of entry e of group d reaches its last line. [DESIGN CHOICE, log entry 38] -/
def execPinDone (d e : Nat) (s : State) : Host.Outcome State Fault Refusal :=
  onUnit nDist d s fun s =>
    match SMap.find (16 * d + e) s.pins with
    | some p =>
      if e < 16 ∧ p.fill = true ∧ s.rd F.SLC_PIN_ENTRY_FILLED (8 * d) e = 0 then
        (((List.range (p.size / 128)).foldl (fun s i => s.pinFetch p (p.base / 128 + i)) s).wr F.SLC_PIN_ENTRY_FILLED (8 * d) e 1).setEvt .slc (8 * d) 8
      else s
    | none => s

/-! ### Sweeps (R252) -/

/-- One line leaves a slice in a sweep or a switch to OFF: written back or resolved where it must be and its data can be read. -/
def State.flushLine (s : State) (n : Nat) (x : Line) : State :=
  let s := s.lineErr n x true false
  match (s.slc n).at x.line with
  | some y => s.evict n y
  | none => s

/-- A sweep of slice n: every line of the owner, or with the handle as KEYH or named by OWNER (R252). -/
def State.sweepSlice (s : State) (n : Nat) (w : Sweep) : State :=
  let hit (x : Line) : Bool :=
    (match w.owner with | some o => x.owner == o | none => false)
      || (match w.handle with | some h => x.keyh == h || x.owner == 0x2000 + h | none => false)
  let s := s.settleSlice n
  ((s.slc n).lines.filter hit).foldl (fun s x => s.flushLine n x) s

/-! ### Scrub walkers (R305 to R307) -/

/-- Sectors that the walker of a controller covers: the data area of the channels in service. -/
def State.scrubSectors (s : State) (g : Nat) : Nat := s.rd F.MEMC_RANGE_SIZE_SIZE g / 32

/-- A slice walker acts on the line of a way (R306). [DESIGN CHOICE, log entry 41] -/
def State.scrubLine (s : State) (n : Nat) (x : Line) : State :=
  if x.st = .filling then s
  else
    let s := s.lineErr n x true true
    match (s.slc n).at x.line with
    | some y => if y.pin = true ∧ y.st = .dirty then (s.writeBack n y).onSlc n (fun sl => sl.putLine { y with st := .clean, sdirty := 0 }) else s
    | none => s

/-- The slice walker visits its next way. -/
def State.scrubSlice (s : State) (n : Nat) : State :=
  let w := (s.slc n).scrub % 196608
  let s := s.onSlc n (fun sl => { sl with scrub := sl.scrub + 1 })
  match (s.slc n).lines.find? (fun x => setOf x.line == w / 16 && x.way == w % 16) with
  | some x => s.scrubLine n x
  | none => s

/-- A walker's request, as the controller's regulators see it (R305): the background class, partition 2. -/
def State.walkMiss (s : State) (g l : Nat) : Miss :=
  newMiss { plainReq s .engine .read l 0 0 0x3400 0x1400 none 2 with cls := s.rd F.SLC_RA_CFG_CLASS_EFF (8 * g) } .fetch false []

/-- A walker's request is admitted and picked (R283, R286, R305): requests that fill its class's or its partition's slots go first, and in
PARTITION mode it takes the next turn of partition 2. [DEDUCED, log entry 43] -/
def State.walkTurn (s : State) (g l : Nat) : State :=
  let s := s.clearSlots g (s.walkMiss g l)
  if s.partition g then
    match (List.range 16).find? (fun i => s.rd F.MEMC_ROT_ENTRY g (((s.mem g).rot + i) % 16) == 2) with
    | some i => s.onMem g (fun m => { m with rot := ((s.mem g).rot + i + 1) % 16 })
    | none => s
  else s

/-- Whether the controller walker can make a visit: the ranges are fixed, the channel of its next sector can be reached, and in PARTITION mode
partition 2 has a turn. -/
def State.canWalk (s : State) (g q : Nat) : Bool :=
  s.locked && decide (0 < s.scrubSectors g) && s.reachable g (q / 4) && (!s.partition g || decide (0 < s.rotEntries g 2))

/-- The controller walker visits its next sector (R307): a single bit is corrected in place, by a locked read and write of its burst; an
uncorrectable error is reported. -/
def State.scrubMem (s : State) (g : Nat) : State :=
  let q := s.rd F.MEMC_RANGE_BASE_BASE g / 32 + (s.mem g).scrub % s.scrubSectors g
  if s.canWalk g q = false then s
  else
    let s := (s.walkTurn g (q / 4)).onMem g (fun m => { m with scrub := m.scrub + 1 })
    let s := ((s.checkTouch g (q / 4) false).columns g (s.rowOf g (q / 4)) 1).inc F.MEMC_READ_BURSTS g 0
    if s.sectorBad g q then (s.memUe g q).event (s.ueCode q) (pageIdx .memc g) (32 * q) (b2n (s.sectorErr q == 3))
    else if s.sectorErr q = 1 then
      let s := (((s.inc F.MEMC_CE g 0).corrected 4 g (32 * q)).columns g (s.rowOf g (q / 4)) 1).inc F.MEMC_WRITE_BURSTS g 0
      { s with sectors := SMap.put q { (s.sectors.get q ⟨0, 0⟩) with err := 0 } s.sectors }
    else s

/-- SCRUB_VISIT (R305 to R307): the walker of slice n, or of controller n, makes its next visit. A quadrant that is not ON is
skipped (R420). -/
def execScrubVisit (memc : Bool) (n : Nat) (s : State) : Host.Outcome State Fault Refusal :=
  onUnit (if memc then nDist else nSlices) n s fun s =>
    if s.rd F.ERRQ_ENABLE_EFF = 0 then s
    else if memc then s.scrubMem n
    else if s.rd F.DOM_STATE (24 + n / 32) = 2 ∧ s.rd F.SLC_SLICE_STATE_MODE n < 2 then s.scrubSlice n
    else s

end Sys2Proof.Machine
end

