-- ==== Sys2Proof/Machine/Retire.lean ====
section
/-! DEFINITION. Units that leave service: site and slice retirement, half width, spare wires, dark districts, self-tests (R12 to R18,
R250, R251, R309, R319 to R321, R415, R493). -/

namespace Sys2Proof.Machine
open Sys2Proof

/-- Page kind and unit of a page index (R482, R487). -/
def pageOf (i : Nat) : Option (Page × Nat) :=
  match i with
  | 0 => some (.top, 0) | 1 => some (.tick, 0) | 2 => some (.ctx, 0) | 3 => some (.pwr, 0) | 4 => some (.thm, 0) | 5 => some (.hk, 0)
  | 6 => some (.sec, 0) | 7 => some (.intc, 0) | 8 => some (.errq, 0) | 9 => some (.fuse, 0) | 10 => some (.mb, 0) | 11 => some (.boot, 0)
  | _ =>
    if 0x10 ≤ i ∧ i < 0x2E then some (.dom, i - 0x10)
    else if 0x30 ≤ i ∧ i < 0x40 then some (.dist, i - 0x30)
    else if 0x40 ≤ i ∧ i < 0x42 then some (.pcie, i - 0x40)
    else if 0x50 ≤ i ∧ i < 0x58 then some (.fab, i - 0x50)
    else if 0x60 ≤ i ∧ i < 0x70 then some (.memc, i - 0x60)
    else if 0x70 ≤ i ∧ i < 0x80 then some (.gath, i - 0x70)
    else if 0x80 ≤ i ∧ i < 0x100 then some (.slc, i - 0x80)
    else if 0x100 ≤ i ∧ i < 0x190 then some (.bond, i - 0x100)
    else if 0x200 ≤ i ∧ i < 0x420 then some (.blk, i - 0x200)
    else none

/-- A change is to be recorded in the bond-wear log (R320, R448). -/
def State.logLater (s : State) (r : LogRec) : State := s.onLater (fun l => { l with log := l.log ++ [r] })

/-- A CAPS value changed (R489). [DEDUCED, log entry 39] -/
def State.capsChanged (s : State) : State := s.wr F.TOP_CAPS_GEN 0 0 (s.rd F.TOP_CAPS_GEN + 1)

/-! ### Sites (R12 to R15, R493) -/

/-- A site's CAPS SITE code. -/
def State.setSite (s : State) (p v : Nat) : State := s.onBlk p (fun b => { b with site := v })

/-- Index i of district d names site `st`. -/
def State.setMap (s : State) (d i st valid : Nat) : State := (s.wr F.DIST_MAP_SITE d i st).wr F.DIST_MAP_VALID d i valid

/-- The spare `q` takes the place of the retired site `p` at index i (R15, R218): scratchpad with valid bits clear, I-memory of HALT
words, owner requests and mapping modes of the retired site. -/
def State.takeSpare (s : State) (d i p q : Nat) : State :=
  let s := (s.setMap d i (siteOf q) 1).onBlk q (fun b => { b with site := 0, sp := { Spad.reset with inject := b.sp.inject, clove := b.sp.clove }, im := IMem.reset, l1 := [] })
  let s := (List.range 16).foldl (fun s b => ((s.wr F.BLK_SP_OWN_UNIT_REQ q b (s.rd F.BLK_SP_OWN_UNIT_REQ p b)).wr F.BLK_SP_OWN_GATH_REQ q b
    (s.rd F.BLK_SP_OWN_GATH_REQ p b)).wr F.BLK_SP_OWN_PENDING q b 1) s
  let s := (s.wr F.BLK_SP_MAP_MODE0 q 0 (s.rd F.BLK_SP_MAP_MODE0 p)).wr F.BLK_SP_MAP_MODE1 q 0 (s.rd F.BLK_SP_MAP_MODE1 p)
  let s := (s.wr F.BLK_SP_MAP_MODE0_EFF q 0 (s.rd F.BLK_SP_MAP_MODE0 p)).wr F.BLK_SP_MAP_MODE1_EFF q 0 (s.rd F.BLK_SP_MAP_MODE1 p)
  if (s.blk q).sp.clove.isSome then s else s.wrAt .blk q F.HDR_CTRL_ENABLE 0 1

/-- The sites that remain take the indices from 0 in ascending order (R493). -/
def State.repack (s : State) (d : Nat) : State :=
  let sites := (List.range 34).filter (fun st => (s.blk (34 * d + st)).site == 0)
  forN 32 s (fun s i => if i < sites.length then s.setMap d i (sites.getD i 0) 1 else s.setMap d i 0 0)

/-- A site is retired (R15, R493): its index passes to the lowest cold spare, or the district's count drops by one. [DEDUCED, log entry 44] -/
def State.retireSite (s : State) (p page : Nat) : State :=
  let d := distOf p
  let old := (s.blk p).site
  if 2 ≤ old then s
  else
    let i := (List.range 32).find? (fun i => s.phys (32 * d + i) == some p)
    let s := (s.setSite p 3).wr F.DIST_SITE_BAD d 0 (setBit (s.rd F.DIST_SITE_BAD d) (siteOf p))
    let s := s.wr F.BOND_SITE_MODE (128 + d) (siteOf p) 2
    let s := match i with
      | none => s
      | some i =>
        match (List.range 34).find? (fun st => (s.blk (34 * d + st)).site == 1) with
        | some st => s.takeSpare d i p (34 * d + st)
        | none => s.repack d
    (((s.wrAt .blk p F.HDR_CTRL_ENABLE 0 0).capsChanged).logLater (.site p)).event 0x0504 page p

/-- A site is to be retired: in step 3, or at once before the first tick (R459). -/
def State.retireSiteSoon (s : State) (p : Nat) : State :=
  if s.plaza.ticked then s.onLater (fun l => { l with sites := l.sites ++ [p] }) else s.retireSite p (pageIdx .blk p)

/-! ### Slices (R250, R251) -/

/-- Slices of a group that are neither RETIRING nor RETIRED. -/
def State.groupSlices (s : State) (g : Nat) : List Nat := (List.range 8).filter (fun i => decide (s.rd F.SLC_SLICE_STATE_MODE (8 * g + i) < 2))

/-- Buckets of a package group that a slice serves (R230). -/
def State.bucketsOf (s : State) (n : Nat) : List Nat := (List.range 64).filter (fun b => s.rd F.SLC_BUCKET_MAP_SLICE (8 * (n / 8)) b == n % 8)

/-- A slice takes mode `m`, 2 RETIRING or 3 RETIRED, and its buckets pass to the surviving slices in ascending order, round robin
(R251). [DEDUCED, log entry 39] -/
def State.sliceOut (s : State) (n m : Nat) : State :=
  let g := n / 8
  let mine := s.bucketsOf n
  let s := (s.wr F.SLC_SLICE_STATE_MODE n 0 m).wr F.BOND_MODE n 0 2
  let alive := s.groupSlices g
  let s := if alive = [] then s else
    (mine.zip (List.range mine.length)).foldl (fun s (b, k) => s.wr F.SLC_BUCKET_MAP_SLICE (8 * g) b (alive.getD (k % alive.length) 0)) s
  s.capsChanged

/-- A slice enters RETIRING (R251): its buckets pass to the surviving slices. [DEDUCED, log entry 39] -/
def State.retireSlice (s : State) (n page : Nat) : State :=
  if 2 ≤ s.rd F.SLC_SLICE_STATE_MODE n then s
  else
    let mine := s.bucketsOf n
    (((s.sliceOut n 2).onSlc n (fun sl => { sl with moved := mine })).logLater (.slice n)).event 0x0503 page n

/-- A slice is to be retired: in step 3, or at once before the first tick (R459). -/
def State.retireSliceSoon (s : State) (n : Nat) : State :=
  if s.plaza.ticked then s.onLater (fun l => { l with slices := l.slices ++ [n] }) else s.retireSlice n (pageIdx .slc n)

/-- A slice enters HALF (R250, R321). -/
def State.halfSlice (s : State) (n wire : Nat) : State :=
  ((((s.wr F.SLC_SLICE_STATE_MODE n 0 1).wr F.BOND_MODE n 0 1).setEvt .slc n 6).logLater (.half n 0)).event 0x0502 (pageIdx .bond n) wire

/-- A site enters HALF (R321). -/
def State.halfSite (s : State) (p field wire : Nat) : State :=
  (((s.onBlk p (fun b => { b with half := true })).wr F.BOND_SITE_MODE field (siteOf p) 1).logLater (.half field (siteOf p))).event 0x0502 (pageIdx .bond field) wire

/-! ### Wires (R319 to R321) -/

/-- Site of a district field that a wire serves: 1,600 signal wires each (R321). [DESIGN CHOICE, log entry 45] -/
def wireSite (field wire : Nat) : Nat := 34 * (field - 128) + min 33 (wire / 1600)

/-- What a failing wire with no spare left brings (R321). [DESIGN CHOICE, log entry 45] -/
def State.noSpare (s : State) (field wire : Nat) : State :=
  if field < 128 then
    if Config.ctrlWire field wire || s.rd F.SLC_SLICE_STATE_MODE field != 0 then s.retireSlice field (pageIdx .bond field)
    else s.halfSlice field wire
  else
    let p := wireSite field wire
    if Config.ctrlWire field wire || (s.blk p).half then s.retireSite p (pageIdx .bond field) else s.halfSite p field wire

/-- Step 3 for a failing wire (R320, R321): a spare is steered into its place, or the field loses width. -/
def State.applyWire (s : State) (field wire : Nat) : State :=
  let s := s.wr F.BOND_PENDING field 0 0
  let s := forN 16 s (fun s i =>
    if s.rd F.BOND_TRACK_VALID field i = 1 ∧ s.rd F.BOND_TRACK_WIRE field i = wire then
      ((s.wr F.BOND_TRACK_VALID field i 0).wr F.BOND_TRACK_COUNT field i 0).wr F.BOND_TRACK_WIRE field i 0 else s)
  if s.rd F.BOND_SPARES_USED field < s.rd F.BOND_SPARES_TOTAL field then
    (((s.wr F.BOND_SPARES_USED field 0 (s.rd F.BOND_SPARES_USED field + 1)).inc F.BOND_SUBST field 0).logLater (.subst field wire)).event 0x0501 (pageIdx .bond field) wire
  else s.noSpare field wire

/-- Wire-group tests of step 3 (R319): the wires of `bad` fail their patterns. -/
def State.groupTests (s : State) (bad : List (Nat × Nat)) : State :=
  let ts := s.later.tests
  let s := ts.foldl (fun s t => s.inc F.BOND_GROUP_TESTS t.1 0) (s.onLater (fun l => { l with tests := [] }))
  (bad.filter (fun b => ts.contains (b.1, b.2 / 16))).foldl (fun s b => s.wireFails b.1 b.2) s

/-- A parity error on a wire group of a field is reported (R319): the second of the same group in a window calls for a test. -/
def State.parityError (s : State) (field group : Nat) : State :=
  let k := 4096 * field + group
  let n := s.parity.get k 0 + 1
  let s := { s.inc F.BOND_PARITY field 0 with parity := SMap.put k n s.parity }
  if n = 2 ∧ s.later.tests.contains (field, group) = false then
    s.onLater (fun l => { l with tests := l.tests ++ [(field, group)] })
  else s

/-! ### Dark districts (R415) -/

/-- A district goes dark in step 3 (R415): AD[d] enters OFF, its sites are retired and its logical count is 0. [DESIGN CHOICE, log entry 56] -/
def State.darken (s : State) (d : Nat) : State :=
  let s := forN 34 s (fun s st => if (s.blk (34 * d + st)).site < 2 then (s.setSite (34 * d + st) 3).wrAt .blk (34 * d + st) F.HDR_CTRL_ENABLE 0 0 else s)
  let s := forN 32 s (fun s i => s.setMap d i 0 0)
  let s := ((s.wr F.DOM_STATE d 0 0).wr F.DOM_FORCED d 0 1).setEvt .dom d 7
  (((s.wr F.PWR_LDO_DARK 0 d 1).setEvt .pwr 0 6).onDom d (fun _ => ⟨0, false, false, 0⟩)).capsChanged

/-! ### Self-tests (R308, R309) -/

/-- A checker of the unit on a page failed its self-test (R309). -/
def State.selfTestFail (s : State) (page : Nat) : State :=
  let s := if s.rd F.ERRQ_ST_FAILS = 0 then s.wr F.ERRQ_ST_PAGE 0 0 page else s
  let s := (s.inc F.ERRQ_ST_FAILS 0 0).event 0x0508 page 0
  match pageOf page with
  | some (.blk, p) => s.retireSiteSoon p
  | some (.slc, n) => s.retireSliceSoon n
  | some (.memc, g) =>
    if s.locked then s.onMem g (fun m => { m with failed := true })
    else forN 4 s (fun s c => s.wr F.MEMC_CHAN_EXCLUDED g c 1)
  | some (.fab, p) => s.onFport p (fun f => { f with bad := true })
  | some (.errq, _) | some (.tick, _) | some (.ctx, _) => s.fatal 3
  | _ => s

end Sys2Proof.Machine
end

