-- ==== Sys2Proof/Machine/Crc.lean ====
section
/-! DEFINITION. The checks of R298: CRC-16/CCITT-FALSE, CRC-32C, CRC-32 and CRC-8. -/

namespace Sys2Proof.Machine
open Sys2Proof

/-- One bit of a CRC that shifts left: width `w`, polynomial `p`. -/
def crcLeftBit (w p x : Nat) : Nat := if x.testBit (w - 1) then (2 * x % 2 ^ w) ^^^ p else 2 * x

/-- A CRC that takes bytes most significant bit first. -/
def crcLeft (w p : Nat) (x : Nat) (bs : List Byte) : Nat :=
  bs.foldl (fun x b => (List.range 8).foldl (fun x _ => crcLeftBit w p x) (x ^^^ (b.toNat * 2 ^ (w - 8)))) x

/-- One bit of a reflected CRC, with the polynomial reflected. -/
def crcRightBit (p x : Nat) : Nat := if x % 2 = 1 then x / 2 ^^^ p else x / 2

/-- A reflected CRC of bytes. -/
def crcRight (p : Nat) (x : Nat) (bs : List Byte) : Nat :=
  bs.foldl (fun x b => (List.range 8).foldl (fun x _ => crcRightBit p x) (x ^^^ b.toNat)) x

/-- CRC-16/CCITT-FALSE (R143). -/
def crc16 (bs : List Byte) : Nat := crcLeft 16 0x1021 0xFFFF bs
/-- CRC-32C (R148 and the structures of R298): reflected polynomial 0x82F6_3B78, initial value and final XOR all ones. -/
def crc32c (bs : List Byte) : Nat := crcRight 0x82F6_3B78 0xFFFF_FFFF bs ^^^ 0xFFFF_FFFF
/-- CRC-32 of fabric packets (R298, R308). -/
def crc32 (bs : List Byte) : Nat := crcRight 0xEDB8_8320 0xFFFF_FFFF bs ^^^ 0xFFFF_FFFF
/-- CRC-8 with polynomial 0x07 and initial value 0 (sideband PEC). -/
def crc8 (bs : List Byte) : Nat := crcLeft 8 0x07 0 bs

end Sys2Proof.Machine
end

