-- ==== Sys2Proof/Machine/CoreOps.lean ====
section
/-! DEFINITION. Shared operations of the control core: registers, fetch, issue, control transfer, loads, stores and commands. -/

namespace Sys2Proof.Machine
open Sys2Proof

/-! ### Context entry (R45) -/

/-- `n` host-written bytes of a context-table entry from an offset on, as a number. -/
def Ctx.num (c : Ctx) (off n : Nat) : Nat := leNat ((List.range n).map (fun i => c.host.get (off + i) 0))

/-- CLASS_MASK of the running frame's context. -/
def State.classMask (s : State) : Nat :=
  match s.plaza.run with
  | some run => (s.ctx run.ctx).num 0x00E 2
  | none => 0

/-- Lowest label set in a class mask, or 0 (R125, R162). -/
def lowestClass (m : Nat) : Nat := ((List.range 16).find? (fun k => m.testBit k)).getD 0

/-! ### Registers (R124) -/

/-- s[r]; s0 reads zero. -/
def State.sreg (s : State) (p r : Nat) : Nat := if r = 0 then 0 else ((s.blk p).core.sreg.get r 0).toNat

/-- The state with s[r] written; s0 is not written. A later write takes the place of a load's result still in flight. [DEDUCED, log entry 25] -/
def State.setSreg (s : State) (p r v : Nat) : State :=
  if r = 0 then s
  else s.onBlk p (fun b => { b with core := { b.core with
    sreg := SMap.put r (BitVec.ofNat 64 v) b.core.sreg
    loads := b.core.loads.map (fun l => if l.rd = r then { l with rd := 0 } else l) } })

/-- p[r]; p0 reads true. -/
def State.preg (s : State) (p r : Nat) : Bool := if r = 0 then true else (s.blk p).core.preg.get r false

/-- The state with p[r] written; p0 is not written. -/
def State.setPreg (s : State) (p r : Nat) (v : Bool) : State :=
  if r = 0 then s else s.onBlk p (fun b => { b with core := { b.core with preg := SMap.put r v b.core.preg } })

/-- cb[i]. -/
def State.cbw (s : State) (p i : Nat) : Nat := ((s.blk p).core.cb.get i 0).toNat

/-- The state with cb[i] written. -/
def State.setCb (s : State) (p i v : Nat) : State :=
  s.onBlk p (fun b => { b with core := { b.core with cb := SMap.put i (BitVec.ofNat 32 v) b.core.cb } })

/-- The state with the core of Block p changed. -/
def State.onCore (s : State) (p : Nat) (f : Core → Core) : State := s.onBlk p (fun b => { b with core := f b.core })

/-- The state with the core stalled for a cause, whose cycles count (R151). [DESIGN CHOICE, log entry 27] -/
def State.stall (s : State) (p k : Nat) : State :=
  let s := if k = 1 then s.cycles F.BLK_CC_QFULL p else if k = 2 then s.cycles F.BLK_CC_MEMWAIT p else s
  s.onCore p (fun c => { c with stall := k })

/-! ### I-memory (R147) -/

/-- Words of a physical half. -/
def IMem.half (m : IMem) (h : Nat) : SMap Word := if h = 0 then m.half0 else m.half1

/-- A word of a physical half; a word not listed is HALT, or a free value where the half's power was off. -/
def IMem.word (m : IMem) (h w : Nat) : Word :=
  (m.half h).get w (match (if h = 0 then m.lost0 else m.lost1) with
    | some b => BitVec.ofNat 32 (Config.freeNat (b + w))
    | none => 0x61)

/-- The I-memory with a word of a half written. -/
def IMem.putWord (m : IMem) (h w : Nat) (v : Word) : IMem :=
  let m := { m with bad := m.bad.filter (fun x => x != 16384 * h + w), soft := m.soft.filter (fun x => x != 16384 * h + w) }
  if h = 0 then { m with half0 := SMap.put w v m.half0 } else { m with half1 := SMap.put w v m.half1 }

/-- An external write reaches a half: no context's code is known to stand in it (R150). -/
def IMem.foul (m : IMem) (h : Nat) : IMem := if h = 0 then { m with code0 := none } else { m with code1 := none }

/-- The I-memory with an injected error of a kind in a word (R298, R323). -/
def IMem.strike (m : IMem) (x k : Nat) : IMem :=
  match k with
  | 0 => m
  | 1 => { m with soft := x :: m.soft }
  | _ => { m with bad := x :: m.bad }

/-- A Block's I-memory is written, from word w of half h on: an injection that waits strikes that word (R323). -/
def State.imWrite (s : State) (p h w : Nat) (f : IMem → IMem) : State :=
  s.onBlk p (fun b => { b with im := (f b.im).strike (16384 * h + w) b.sp.inject, sp := if b.sp.inject = 0 then b.sp else { b.sp with inject := 0 } })

/-- Whether a word of the live half lies in a pair that cannot be corrected (R298). -/
def IMem.badAt (m : IMem) (w : Nat) : Bool := m.bad.any (fun x => x / 2 == (16384 * m.live + w) / 2)

/-- The instruction word at a byte offset of the live half, as a core receives it: zero where it cannot be corrected. -/
def IMem.fetch (m : IMem) (pc : Nat) : Nat := if m.badAt (pc / 4) then 0 else (m.word m.live (pc / 4)).toNat

/-- The instruction word at the PC of Block p. -/
def State.coreWord (s : State) (p : Nat) : Nat := (s.blk p).im.fetch (s.blk p).core.pc.toNat

/-- A fetch of a word that cannot be corrected is reported, and the half is to be loaded again; one of a word that can is counted (R298, R302). -/
def State.fetchErr (s : State) (p pc : Nat) : State :=
  let m := (s.blk p).im
  if m.badAt (pc / 4) then
    let s := s.fault 0x0102 (pageIdx .blk p) (0x1_0000 * m.live + pc)
    s.onBlk p (fun b => { b with im := b.im.foul m.live })
  else if m.soft.any (fun x => x / 2 == (16384 * m.live + pc / 4) / 2) then s.corrected 1 p (0x1_0000 * m.live + pc)
  else s

/-! ### Queues (R143 to R145, R156) -/

/-- Queue by its code (R126). -/
def qOf : Nat → Q
  | 0 => .mxq
  | 1 => .vxq
  | 2 => .dxq
  | _ => .sxq

/-- Entries of a queue. -/
def Queues.entries (q : Queues) : Q → List QEntry
  | .mxq => q.mxq
  | .vxq => q.vxq
  | .dxq => q.dxq
  | .sxq => q.sxq

/-- The queues with one of them replaced. -/
def Queues.put (q : Queues) (k : Q) (es : List QEntry) : Queues :=
  match k with
  | .mxq => { q with mxq := es }
  | .vxq => { q with vxq := es }
  | .dxq => { q with dxq := es }
  | .sxq => { q with sxq := es }

/-- A command appended to a queue of Block p; issue ends once it is a frame end in SXQ (R145). -/
def State.send (s : State) (p : Nat) (k : Q) (c : Cmd) : State :=
  s.onBlk p (fun b => { b with
    q := { b.q.put k (b.q.entries k ++ [⟨b.q.nextOrd, c⟩]) with nextOrd := b.q.nextOrd + 1 }
    core := if k = .sxq ∧ c.toNat % 256 = 0x42 then { b.core with halted := true } else b.core })

/-- Whether a queue of Block p holds 64 entries (R145). -/
def State.full (s : State) (p : Nat) (k : Q) : Bool := decide (64 ≤ ((s.blk p).q.entries k).length)

/-- Bytes of a command. -/
def Cmd.bytes (c : Cmd) : List Byte := leBytes 32 c.toNat

/-- The command of cb0 to cb7 with its check (R143). -/
def State.cbCmd (s : State) (p : Nat) : Cmd :=
  let raw := (List.range 8).foldl (fun x i => x + s.cbw p i * 2 ^ (32 * i)) 0 % 2 ^ 240
  BitVec.ofNat 256 (raw + crc16 (leBytes 30 raw) * 2 ^ 240)

/-! ### Requests -/

/-- A request leaves its requester. An address that no slice holds is answered at once with zero, and reported for a context. -/
def State.issue (s : State) (r : Req) : State :=
  let r := { r with id := s.nextReq }
  let s := { s with nextReq := s.nextReq + 1 }
  match s.homeOf r.line with
  | some _ => { s with reqs := s.reqs ++ [r] }
  | none =>
    let s := match r.ctx with
      | some c => s.report ⟨0x0108, 0, pageIdx .memc 0, some c, r.frame, r.line * 128, 0, none⟩
      | none => s
    { s with resps := s.resps ++ [⟨r, 0⟩] }

/-- Answers that can reach Block p next: of those of one slice for one context, the first on its way, as the mesh never reorders two flits of one
source, one destination and one context (R22). -/
def State.arrived (s : State) (p : Nat) : List Resp :=
  (s.resps.filter (fun r => r.req.src.l1Of == some p)).foldl (fun acc r =>
    if acc.any (fun q => s.homeOf q.req.line == s.homeOf r.req.line && q.req.ctx == r.req.ctx) then acc else acc ++ [r]) []

/-- A value of `n` bytes extended to 64 bits as SZ says (R131). -/
def extend (sz n raw : Nat) : Nat :=
  if sz < 3 then (sext (8 * n) raw % (2 ^ 64 : Int)).toNat else raw % 2 ^ (8 * n)

/-- Bytes of an access size (R131). -/
def szBytes (sz : Nat) : Nat := 2 ^ (sz % 4)

/-- `n` bytes written at a context address through a translation, as a store of a requester of Block p: marks, L1 copy, request. -/
def State.storeReq (s : State) (p : Nat) (src : Src) (c : Nat) (x : Xlat) (n v cls : Nat) (lc : Bool) (expiry : Nat) : State :=
  let l := x.addr / 128
  let o := x.addr % 128
  let s := s.noteWrite c x
  let s := s.l1Store p l (rangeMask o n) (lineOf o n v)
  s.issue { plainReq s src .write l (rangeMask o n) (lineOf o n v) x.owner x.keyh (some c) 3 with
            shadow := decide (x.kind = 0), cls := cls, lc := lc, expiry := expiry, off := o, size := n, raLimit := x.limit }

/-! ### Illegal instructions (R152 to R155) -/

/-- The next `n` free values. -/
def State.frees (s : State) (n : Nat) : State × List Nat :=
  ({ s with free := s.free + n }, (List.range n).map (fun i => Config.freeNat (s.free + i)))

/-- A map that gives each number from `lo` its element of a list. -/
def mapFrom {α : Type} (lo : Nat) (xs : List α) : SMap α := (List.range xs.length).zip xs |>.map (fun e => (lo + e.1, e.2))

/-- The stores that an undefined result makes: ordinary translated stores of the issuing context (R155). [DESIGN CHOICE, log entry 26] -/
def State.freeStoresOf (s : State) (p : Nat) : State :=
  match s.plaza.run with
  | none => s
  | some run => (Config.freeStores s.free).foldl (fun s (a, n, v) =>
      let n := szBytes n
      match s.xlat run.ctx (a % 2 ^ 64 / n * n) false true with
      | none => s.fault 0x0303 (pageIdx .blk p) (a % 2 ^ 64 / n * n)
      | some x =>
        if x.forbidden then s.fault 0x0304 (pageIdx .blk p) (a % 2 ^ 64 / n * n)
        else s.storeReq p (.core p) run.ctx x n v (s.blk p).core.cls.toNat false 0) s

/-- The commands that an undefined result appends, as far as the queues have room (R155). [DESIGN CHOICE, log entry 26] -/
def State.freeCmdsOf (s : State) (p : Nat) : State :=
  (Config.freeCmds s.free).foldl (fun s (k, c) => if s.full p (qOf k) then s else s.send p (qOf k) c) s

/-- The undefined result of an illegal instruction, confined to the core's registers, the context's regions and the queues (R155). [DESIGN CHOICE, log entry 26] -/
def State.coreUndefined (s : State) (p : Nat) : State :=
  let s := s.inc F.BLK_CC_RETIRED p 0
  let s := (s.freeStoresOf p).freeCmdsOf p
  let (s, v) := s.frees 64
  let depth := v.getD 60 0 % 5
  s.onCore p (fun c => { c with
    sreg := mapFrom 1 ((v.take 31).map (BitVec.ofNat 64))
    preg := mapFrom 1 (((v.drop 31).take 7).map (fun x => x % 2 == 1))
    lc := mapFrom 0 (((v.drop 38).take 4).map (BitVec.ofNat 32))
    cb := mapFrom 0 (((v.drop 42).take 8).map (BitVec.ofNat 32))
    pc := BitVec.ofNat 16 (v.getD 61 0 * 4)
    loops := ((List.range depth).map (fun i => (v.getD (50 + 2 * i) 0 % 2 ^ 14 * 4, v.getD (51 + 2 * i) 0 % 2 ^ 14 * 4)))
    cls := BitVec.ofNat 4 (v.getD 62 0)
    halted := c.halted || v.getD 63 0 % 2 == 1
    stall := 0
    loads := c.loads.map (fun l => { l with rd := 0 }) })

/-! ### Issue (R123, R127, R136 to R141) -/

/-- The loop test at the instruction at `pc` (R140): active loops, loop counters, and where the core goes on. -/
def loopTest (pc : Nat) : List (Nat × Nat) → SMap Word → List (Nat × Nat) × SMap Word × Nat
  | [], lc => ([], lc, pc + 4)
  | (a, e) :: ls, lc =>
    if e ≠ pc then ((a, e) :: ls, lc, pc + 4)
    else
      let n := (lc.get ls.length 0).toNat
      if 1 < n then ((a, e) :: ls, SMap.put ls.length (BitVec.ofNat 32 (n - 1)) lc, a)
      else loopTest pc ls (SMap.put ls.length 0 lc)

/-- The core has completed the instruction at PC: it counts it and goes on. Running past the last word is an illegal use (R154), unless
issue has stopped. [DEDUCED, log entry 25] -/
def State.retire (s : State) (p : Nat) : State :=
  let c := (s.blk p).core
  let (ls, lc, pc) := loopTest c.pc.toNat c.loops c.lc
  if pc < 0x1_0000 ∨ c.halted = true then
    (s.inc F.BLK_CC_RETIRED p 0).onCore p (fun c => { c with pc := BitVec.ofNat 16 pc, loops := ls, lc := lc, stall := 0 })
  else s.coreUndefined p

/-- Whether an active body holds an instruction offset. -/
def inBody (l : Nat × Nat) (pc : Nat) : Bool := decide (l.1 ≤ pc) && decide (pc ≤ l.2)

/-- Whether a target is legal (R136), and for BR, JR and CSKIP inside every active body that holds the instruction (R138, R141). [DEDUCED, log entry 25] -/
def Core.mayGo (c : Core) (t : Int) (call : Bool) : Bool :=
  decide (0 ≤ t) && decide (t < 0x1_0000) && decide (t % 4 = 0)
    && (call || c.loops.all (fun l => !inBody l c.pc.toNat || inBody l t.toNat))

/-- The core goes on at a target. -/
def State.transfer (s : State) (p : Nat) (t : Int) (call : Bool) : State :=
  if (s.blk p).core.mayGo t call then
    (s.inc F.BLK_CC_RETIRED p 0).onCore p (fun c => { c with pc := BitVec.ofInt 16 t, stall := 0 })
  else s.coreUndefined p

/-- Operations that R141 excludes at the end of a body. -/
def endExcluded : CoreOp → Bool
  | .br | .brl | .jr | .jrl | .cskip | .loop | .loopi | .halt => true
  | _ => false

/-- Whether the core of Block p issues its instruction: in a frame and not stopped. -/
def State.coreLive (s : State) (p : Nat) : Bool := (s.blk p).core.running && !(s.blk p).core.halted

/-- Whether a register of a list waits for a load in flight (R135). -/
def State.waitsLoad (s : State) (p : Nat) (rs : List Nat) : Bool :=
  (s.blk p).core.loads.any (fun l => l.rd != 0 && rs.contains l.rd)

/-- One control-core step of a row: nothing where the core does not issue or its word is of another row; a guarded-false
instruction only retires (R127); an instruction that reads a load in flight stalls; else the body acts. [DEDUCED, log entry 25; DESIGN CHOICE, log entry 27] -/
def coreStep (p : Nat) (op : CoreOp) (reads : Nat → List Nat) (body : State → Nat → State) (s : State) : Host.Outcome State Fault Refusal :=
  onUnit nBlks p s fun s =>
    let w := s.coreWord p
    if s.coreLive p = false ∨ CC.decode w ≠ some op then s
    else
      let c := (s.blk p).core
      let s := s.fetchErr p c.pc.toNat
      if endExcluded op ∧ c.loops.any (fun l => l.2 == c.pc.toNat) = true then s.coreUndefined p
      else if op ≠ .br ∧ op ≠ .cskip ∧ s.preg p (CC.guard w) = false then s.retire p
      else if s.waitsLoad p (reads w) then s.stall p 2
      else body s w

/-- An operation on s registers: the value goes to s[RD]. -/
def coreAlu (p : Nat) (op : CoreOp) (reads : Nat → List Nat) (f : State → Nat → Nat) (s : State) : Host.Outcome State Fault Refusal :=
  coreStep p op reads (fun s w => (s.setSreg p (CC.rd w) (f s w)).retire p) s

/-- A format A operation on s[RS1] and s[RS2]. -/
def coreRR (p : Nat) (op : CoreOp) (f : Nat → Nat → Nat) (s : State) : Host.Outcome State Fault Refusal :=
  coreAlu p op (fun w => [CC.rs1 w, CC.rs2 w]) (fun s w => f (s.sreg p (CC.rs1 w)) (s.sreg p (CC.rs2 w))) s

/-- A format I operation on s[RS1] and the immediate as an integer. -/
def coreRI (p : Nat) (op : CoreOp) (f : Nat → Nat → Nat) (s : State) : Host.Outcome State Fault Refusal :=
  coreAlu p op (fun w => [CC.rs1 w]) (fun s w => f (s.sreg p (CC.rs1 w)) w) s

/-- An operation that writes a predicate. -/
def corePred (p : Nat) (op : CoreOp) (reads : Nat → List Nat) (d : Nat → Nat) (f : State → Nat → Bool) (s : State) : Host.Outcome State Fault Refusal :=
  coreStep p op reads (fun s w => (s.setPreg p (d w) (f s w)).retire p) s

/-- An integer cut to 64 bits. -/
def to64 (x : Int) : Nat := (x % (2 ^ 64 : Int)).toNat

/-- A 64-bit value as a signed number. -/
def s64 (x : Nat) : Int := sext 64 x

/-- A comparison by its condition: 0 EQ, 1 NE, 2 LT, 3 GE, 4 LTU, 5 GEU (R129, R130). -/
def compare (cond a b : Nat) : Bool :=
  match cond with
  | 0 => a == b
  | 1 => a != b
  | 2 => decide (s64 a < s64 b)
  | 3 => !decide (s64 a < s64 b)
  | 4 => decide (a < b)
  | _ => !decide (a < b)

/-- A shift or rotate of a 64-bit value by KIND: 0 SLL, 1 SRL, 2 SRA, 3 ROR (R128). -/
def shift64 (kind a n : Nat) : Nat :=
  let n := n % 64
  match kind with
  | 0 => a * 2 ^ n % 2 ^ 64
  | 1 => a / 2 ^ n
  | 2 => to64 (s64 a / (2 ^ n : Int))
  | _ => (a / 2 ^ n) + (a * 2 ^ (64 - n)) % 2 ^ 64

end Sys2Proof.Machine
end

