-- ==== Sys2Proof/Machine/ControlCore.lean ====
section
/-! DEFINITION. The instructions of the control core (R123 to R155). -/

namespace Sys2Proof.Machine
open Sys2Proof

/-- ADD (R129): the sum, modulo 2⁶⁴. -/
def execAdd (p : Nat) (s : State) : Host.Outcome State Fault Refusal :=
  coreRR p .add (fun a b => (a + b) % 2 ^ 64) s

/-- SUB (R129): the difference, modulo 2⁶⁴. -/
def execSub (p : Nat) (s : State) : Host.Outcome State Fault Refusal :=
  coreRR p .sub (fun a b => (a + 2 ^ 64 - b) % 2 ^ 64) s

/-- AND (R129): AND. -/
def execAnd (p : Nat) (s : State) : Host.Outcome State Fault Refusal :=
  coreRR p .and (fun a b => a &&& b) s

/-- OR (R129): OR. -/
def execOr (p : Nat) (s : State) : Host.Outcome State Fault Refusal :=
  coreRR p .or (fun a b => a ||| b) s

/-- XOR (R129): XOR. -/
def execXor (p : Nat) (s : State) : Host.Outcome State Fault Refusal :=
  coreRR p .xor (fun a b => a ^^^ b) s

/-- ANDN (R129): s[RS1] AND NOT s[RS2]. -/
def execAndn (p : Nat) (s : State) : Host.Outcome State Fault Refusal :=
  coreRR p .andn (fun a b => a &&& (2 ^ 64 - 1 - b)) s

/-- SLL (R129): left shift by s[RS2][5:0]. -/
def execSll (p : Nat) (s : State) : Host.Outcome State Fault Refusal :=
  coreRR p .sll (fun a b => shift64 0 a b) s

/-- SRL (R129): logical right shift by s[RS2][5:0]. -/
def execSrl (p : Nat) (s : State) : Host.Outcome State Fault Refusal :=
  coreRR p .srl (fun a b => shift64 1 a b) s

/-- SRA (R129): arithmetic right shift by s[RS2][5:0]. -/
def execSra (p : Nat) (s : State) : Host.Outcome State Fault Refusal :=
  coreRR p .sra (fun a b => shift64 2 a b) s

/-- MUL (R129): low 64 bits of the product. -/
def execMul (p : Nat) (s : State) : Host.Outcome State Fault Refusal :=
  coreRR p .mul (fun a b => a * b % 2 ^ 64) s

/-- MULHU (R129): high 64 bits of the unsigned product. -/
def execMulhu (p : Nat) (s : State) : Host.Outcome State Fault Refusal :=
  coreRR p .mulhu (fun a b => a * b / 2 ^ 64) s

/-- DIVU (R129): unsigned quotient; all ones when s[RS2] = 0. -/
def execDivu (p : Nat) (s : State) : Host.Outcome State Fault Refusal :=
  coreRR p .divu (fun a b => if b = 0 then 2 ^ 64 - 1 else a / b) s

/-- REMU (R129): unsigned remainder; s[RS1] when s[RS2] = 0. -/
def execRemu (p : Nat) (s : State) : Host.Outcome State Fault Refusal :=
  coreRR p .remu (fun a b => if b = 0 then a else a % b) s

/-- MIN (R129): signed minimum. -/
def execMin (p : Nat) (s : State) : Host.Outcome State Fault Refusal :=
  coreRR p .min (fun a b => if s64 a < s64 b then a else b) s

/-- MAX (R129): signed maximum. -/
def execMax (p : Nat) (s : State) : Host.Outcome State Fault Refusal :=
  coreRR p .max (fun a b => if s64 a < s64 b then b else a) s

/-- MINU (R129): unsigned minimum. -/
def execMinu (p : Nat) (s : State) : Host.Outcome State Fault Refusal :=
  coreRR p .minu (fun a b => Nat.min a b) s

/-- MAXU (R129): unsigned maximum. -/
def execMaxu (p : Nat) (s : State) : Host.Outcome State Fault Refusal :=
  coreRR p .maxu (fun a b => Nat.max a b) s

/-- CMP (R129, R130): FUNC[2:0] names the condition. -/
def execCmp (p : Nat) (s : State) : Host.Outcome State Fault Refusal :=
  corePred p .cmp (fun w => [CC.rs1 w, CC.rs2 w]) (fun w => CC.rd w % 8)
    (fun s w => compare (CC.func w % 8) (s.sreg p (CC.rs1 w)) (s.sreg p (CC.rs2 w))) s

/-- PAND (R129): AND of two predicates. -/
def execPand (p : Nat) (s : State) : Host.Outcome State Fault Refusal :=
  corePred p .pand (fun _ => []) (fun w => CC.rd w % 8) (fun s w => s.preg p (CC.rs1 w % 8) && s.preg p (CC.rs2 w % 8)) s

/-- POR (R129): OR of two predicates. -/
def execPor (p : Nat) (s : State) : Host.Outcome State Fault Refusal :=
  corePred p .por (fun _ => []) (fun w => CC.rd w % 8) (fun s w => s.preg p (CC.rs1 w % 8) || s.preg p (CC.rs2 w % 8)) s

/-- PXOR (R129): exclusive OR of two predicates. -/
def execPxor (p : Nat) (s : State) : Host.Outcome State Fault Refusal :=
  corePred p .pxor (fun _ => []) (fun w => CC.rd w % 8) (fun s w => s.preg p (CC.rs1 w % 8) != s.preg p (CC.rs2 w % 8)) s

/-- PANDN (R129): first AND NOT second. -/
def execPandn (p : Nat) (s : State) : Host.Outcome State Fault Refusal :=
  corePred p .pandn (fun _ => []) (fun w => CC.rd w % 8) (fun s w => s.preg p (CC.rs1 w % 8) && !s.preg p (CC.rs2 w % 8)) s

/-- PNOT (R129). -/
def execPnot (p : Nat) (s : State) : Host.Outcome State Fault Refusal :=
  corePred p .pnot (fun _ => []) (fun w => CC.rd w % 8) (fun s w => !s.preg p (CC.rs1 w % 8)) s

/-- PTOS (R129): 1 if the predicate is true, else 0. -/
def execPtos (p : Nat) (s : State) : Host.Outcome State Fault Refusal :=
  coreAlu p .ptos (fun _ => []) (fun s w => b2n (s.preg p (CC.rs1 w % 8))) s

/-- STOP of OP 0x00 (R129): the predicate tells whether s[RS1] is not zero. -/
def execAluStop (p : Nat) (s : State) : Host.Outcome State Fault Refusal :=
  corePred p .stop (fun w => [CC.rs1 w]) (fun w => CC.rd w % 8) (fun s w => s.sreg p (CC.rs1 w) != 0) s

/-- MFLC (R129): a loop counter, zero-extended. -/
def execMflc (p : Nat) (s : State) : Host.Outcome State Fault Refusal :=
  coreAlu p .mflc (fun _ => []) (fun s w => ((s.blk p).core.lc.get (CC.rs1 w % 4) 0).toNat) s

/-- MFCB (R129): a command-build word, zero-extended. -/
def execMfcb (p : Nat) (s : State) : Host.Outcome State Fault Refusal :=
  coreAlu p .mfcb (fun _ => []) (fun s w => s.cbw p (CC.rs1 w % 8)) s

/-- Value that RDID selects (R129). [DEDUCED, log entry 25] -/
def State.rdid (s : State) (p k : Nat) : Nat :=
  match s.plaza.run with
  | none => 0
  | some run =>
    match k with
    | 0 => (s.logOf p).getD 0
    | 1 => s.logicalAll
    | 2 => run.ctx
    | 3 => match run.intake with | some i => i.subs.length | none => 0
    | _ => match run.intake with | some i => i.half | none => run.half

/-- RDID (R129). -/
def execRdid (p : Nat) (s : State) : Host.Outcome State Fault Refusal :=
  coreAlu p .rdid (fun _ => []) (fun s w => s.rdid p (CC.rs1 w)) s

/-- RDTIME (R129): device time in 10 ns units. -/
def execRdtime (p : Nat) (s : State) : Host.Outcome State Fault Refusal :=
  coreAlu p .rdtime (fun _ => []) (fun s _ => s.now) s

/-- RDFRAME (R129): TICK.FRAME_NUM. -/
def execRdframe (p : Nat) (s : State) : Host.Outcome State Fault Refusal :=
  coreAlu p .rdframe (fun _ => []) (fun s _ => s.frame) s

/-- SETCLS (R129, R133): CLS takes a label set in CLASS_MASK; another label leaves it. -/
def execSetcls (p : Nat) (s : State) : Host.Outcome State Fault Refusal :=
  coreStep p .setcls (fun _ => []) (fun s w =>
    (if s.classMask.testBit (CC.rs1 w) then s.onCore p (fun c => { c with cls := BitVec.ofNat 4 (CC.rs1 w) }) else s).retire p) s

/-- JR (R129, R136). -/
def execJr (p : Nat) (s : State) : Host.Outcome State Fault Refusal :=
  coreStep p .jr (fun w => [CC.rs1 w]) (fun s w => s.transfer p (s.sreg p (CC.rs1 w)) false) s

/-- JRL (R129, R136): the return offset goes to s[RD]. -/
def execJrl (p : Nat) (s : State) : Host.Outcome State Fault Refusal :=
  coreStep p .jrl (fun w => [CC.rs1 w]) (fun s w =>
    let t := s.sreg p (CC.rs1 w)
    (s.setSreg p (CC.rd w) ((s.blk p).core.pc.toNat + 4)).transfer p t true) s

/-- FENCE (R129): waits until every earlier load and store of the core has completed. -/
def execFence (p : Nat) (s : State) : Host.Outcome State Fault Refusal :=
  coreStep p .fence (fun _ => []) (fun s _ =>
    if (s.blk p).core.loads = [] ∧ (s.blk p).core.stores = [] then s.retire p else s.stall p 2) s

/-- HALT (R129, R145): issue stops for the rest of the frame. -/
def execHalt (p : Nat) (s : State) : Host.Outcome State Fault Refusal :=
  coreStep p .halt (fun _ => []) (fun s _ => (s.onCore p (fun c => { c with halted := true })).retire p) s

/-- ADDI (R128). -/
def execAddi (p : Nat) (s : State) : Host.Outcome State Fault Refusal :=
  coreRI p .addi (fun a w => (a + to64 (CC.imm14 w)) % 2 ^ 64) s

/-- ANDI (R128): the immediate is zero-extended. -/
def execAndi (p : Nat) (s : State) : Host.Outcome State Fault Refusal :=
  coreRI p .andi (fun a w => a &&& bitsOf w 0 14) s

/-- ORI (R128): the immediate is zero-extended. -/
def execOri (p : Nat) (s : State) : Host.Outcome State Fault Refusal :=
  coreRI p .ori (fun a w => a ||| bitsOf w 0 14) s

/-- XORI (R128): the immediate is zero-extended. -/
def execXori (p : Nat) (s : State) : Host.Outcome State Fault Refusal :=
  coreRI p .xori (fun a w => a ^^^ bitsOf w 0 14) s

/-- SHI (R128): shift or rotate by an immediate count. -/
def execShi (p : Nat) (s : State) : Host.Outcome State Fault Refusal :=
  coreRI p .shi (fun a w => shift64 (bitsOf w 12 2) a (bitsOf w 0 6)) s

/-- CMPI (R128, R130): comparison with the sign-extended immediate; RD[1:0] is EQ, NE, LT or GE. -/
def execCmpi (p : Nat) (s : State) : Host.Outcome State Fault Refusal :=
  corePred p .cmpi (fun w => [CC.rs1 w]) (fun w => CC.rd w / 4)
    (fun s w => compare (CC.rd w % 4) (s.sreg p (CC.rs1 w)) (to64 (CC.imm14 w))) s

/-- CMPIU (R128, R130): as CMPI, with LTU and GEU for the conditions 2 and 3. -/
def execCmpiu (p : Nat) (s : State) : Host.Outcome State Fault Refusal :=
  corePred p .cmpiu (fun w => [CC.rs1 w]) (fun w => CC.rd w / 4)
    (fun s w => compare (if CC.rd w % 4 < 2 then CC.rd w % 4 else CC.rd w % 4 + 2) (s.sreg p (CC.rs1 w)) (to64 (CC.imm14 w))) s

/-- MOVI (R128). -/
def execMovi (p : Nat) (s : State) : Host.Outcome State Fault Refusal :=
  coreAlu p .movi (fun _ => []) (fun _ w => to64 (CC.imm19 w)) s

/-- INSI (R128): s[RD] shifted left by 16, with 16 immediate bits put in. -/
def execInsi (p : Nat) (s : State) : Host.Outcome State Fault Refusal :=
  coreAlu p .insi (fun w => [CC.rd w]) (fun s w => s.sreg p (CC.rd w) * 2 ^ 16 % 2 ^ 64 + bitsOf w 0 16) s

/-- Address of a load or store (R131), before alignment. -/
def State.coreAddr (s : State) (p w : Nat) : Nat :=
  to64 ((s.sreg p (CC.rs1 w) : Int) + CC.off11 w * (szBytes (CC.sz w) : Int))

/-- The address with its low bits cleared, and the misalignment counted (R134). -/
def State.aligned (s : State) (p a n : Nat) : State × Nat :=
  (if a % n = 0 then s else s.inc F.BLK_CC_MISALIGNED p 0, a / n * n)

/-- LD (R131, R133 to R135, R239, R291): a hit in the L1 gives its bytes; a miss is a load in flight. -/
def execLd (p : Nat) (s : State) : Host.Outcome State Fault Refusal :=
  coreStep p .ld (fun w => [CC.rs1 w]) (fun s w =>
    match s.plaza.run with
    | none => s
    | some run =>
      let n := szBytes (CC.sz w)
      if 8 ≤ (s.blk p).core.loads.length then s.stall p 2
      else
        let (s, a) := s.aligned p (s.coreAddr p w) n
        match s.xlat run.ctx a false false with
        | none => ((s.fault 0x0303 (pageIdx .blk p) a).setSreg p (CC.rd w) 0).retire p
        | some x =>
          let l := x.addr / 128
          let o := x.addr % 128
          let s := s.l1Clean p l
          match s.l1Find p l x.owner x.keyh with
          | some y => (s.setSreg p (CC.rd w) (extend (CC.sz w) n (lineNat y.data o n))).retire p
          | none =>
            let ra := (s.blk p).core.lastMiss == some (l - 1) && decide (0 < l)
            let id := s.nextReq
            let s := s.issue { plainReq s (.core p) .read l (BitVec.allOnes 128) 0 x.owner x.keyh (some run.ctx) 3 with
              cls := (s.blk p).core.cls.toNat, ra := ra, raLimit := x.limit, off := o, size := n }
            let s := s.setSreg p (CC.rd w) (s.sreg p (CC.rd w))
            (s.onCore p (fun c => { c with loads := c.loads ++ [⟨id, CC.rd w, CC.sz w, a⟩], lastMiss := some l })).retire p) s

/-- ST (R131, R133 to R135): the low bytes of s[RD] are stored at a context address. -/
def execSt (p : Nat) (s : State) : Host.Outcome State Fault Refusal :=
  coreStep p .st (fun w => [CC.rs1 w, CC.rd w]) (fun s w =>
    match s.plaza.run with
    | none => s
    | some run =>
      let n := szBytes (CC.sz w)
      if 8 ≤ (s.blk p).core.stores.length then s.stall p 2
      else
        let (s, a) := s.aligned p (s.coreAddr p w) n
        match s.xlat run.ctx a false true with
        | none => (s.fault 0x0303 (pageIdx .blk p) a).retire p
        | some x =>
          if x.forbidden then (s.fault 0x0304 (pageIdx .blk p) a).retire p
          else
            let id := s.nextReq
            let s := s.storeReq p (.core p) run.ctx x n (s.sreg p (CC.rd w)) (s.blk p).core.cls.toNat false 0
            (s.onCore p (fun c => { c with stores := c.stores ++ [id] })).retire p) s

/-- LDS (R132, R134, R224): a load from the Block's scratchpad; a bank that is not awake wakes first. -/
def execLds (p : Nat) (s : State) : Host.Outcome State Fault Refusal :=
  coreStep p .lds (fun w => [CC.rs1 w]) (fun s w =>
    let n := szBytes (CC.sz w)
    let a := s.coreAddr p w % 2 ^ 20 / n * n
    let z := s.spAsleep p a n
    if z ≠ [] then (s.spWake p z).stall p 2
    else
      let (s, _) := s.aligned p (s.coreAddr p w % 2 ^ 20) n
      let (s, bs) := s.spRead p spCore a n
      (s.setSreg p (CC.rd w) (extend (CC.sz w) n (leNat bs))).retire p) s

/-- STS (R132, R134, R224): a store to the Block's scratchpad. -/
def execSts (p : Nat) (s : State) : Host.Outcome State Fault Refusal :=
  coreStep p .sts (fun w => [CC.rs1 w, CC.rd w]) (fun s w =>
    let n := szBytes (CC.sz w)
    let a := s.coreAddr p w % 2 ^ 20 / n * n
    let z := s.spAsleep p a n
    if z ≠ [] then (s.spWake p z).stall p 2
    else
      let (s, _) := s.aligned p (s.coreAddr p w % 2 ^ 20) n
      (s.spWrite p spCore a (leBytes n (s.sreg p (CC.rd w)))).retire p) s

/-- LOAD_RETURN (R22, R131, R135): the k-th load in flight whose answer can arrive next writes its register. -/
def execLoadReturn (p k : Nat) (s : State) : Host.Outcome State Fault Refusal :=
  onUnit nBlks p s fun s =>
    match ((s.blk p).core.loads.filter (fun l => (s.arrived p).any (fun r => r.req.id == l.req)))[k]? with
    | none => s
    | some l =>
      match (s.arrived p).find? (fun r => r.req.id == l.req) with
      | none => s
      | some r =>
        let s := { s with resps := s.resps.filter (fun r => r.req.id != l.req) }
        let s := s.onCore p (fun c => { c with loads := c.loads.filter (fun y => y.req != l.req), stall := 0 })
        s.setSreg p l.rd (extend l.sz r.req.size (lineNat r.data r.req.off r.req.size))

/-- STORE_ACK (R22, R135, R157): the k-th acknowledgement that can arrive next of a store or reduction of Block p's core or thread groups completes it. -/
def execStoreAck (p k : Nat) (s : State) : Host.Outcome State Fault Refusal :=
  onUnit nBlks p s fun s =>
    match ((s.arrived p).filter (fun r => r.req.op != .read))[k]? with
    | none => s
    | some r =>
      let id := r.req.id
      { s with resps := s.resps.filter (fun r => r.req.id != id) }.onBlk p (fun b => { b with
        core := { b.core with stores := b.core.stores.filter (fun x => x != id), stall := if b.core.stores.contains id then 0 else b.core.stall }
        vx := b.vx.map (fun (g : Nat × Group) => (g.1, { g.2 with stores := (g.2.stores.map (fun (l : List Nat) => l.filter (fun x => x != id))).filter (fun l => l != []) })) })

/-- BR (R137): branches when the guard differs from NEG. -/
def execBr (p : Nat) (s : State) : Host.Outcome State Fault Refusal :=
  coreStep p .br (fun _ => []) (fun s w =>
    if s.preg p (CC.guard w) != CC.neg w then s.transfer p ((s.blk p).core.pc.toNat + 4 * CC.imm19 w) false else s.retire p) s

/-- BRL (R128, R136). -/
def execBrl (p : Nat) (s : State) : Host.Outcome State Fault Refusal :=
  coreStep p .brl (fun _ => []) (fun s w =>
    let pc := (s.blk p).core.pc.toNat
    (s.setSreg p (CC.rd w) (pc + 4)).transfer p (pc + 4 * CC.imm19 w) true) s

/-- CSKIP (R138): skips when the guard differs from NEG, and counts the outcome. -/
def execCskip (p : Nat) (s : State) : Host.Outcome State Fault Refusal :=
  coreStep p .cskip (fun _ => []) (fun s w =>
    if s.preg p (CC.guard w) != CC.neg w then
      (s.inc F.BLK_CSKIP_TAKEN p 0).transfer p ((s.blk p).core.pc.toNat + 4 * CC.imm19 w) false
    else (s.inc F.BLK_CSKIP_FALLTHRU p 0).retire p) s

/-- Whether a loop instruction is legally placed (R139, R141, R154): its LC is DEPTH, DEPTH is below 4, and its body lies in the
live half and in every active body that holds the instruction. [DEDUCED, log entry 25] -/
def Core.mayLoop (c : Core) (k e : Nat) : Bool :=
  k == c.loops.length && decide (c.loops.length < 4) && decide (e < 0x1_0000)
    && c.loops.all (fun l => !inBody l c.pc.toNat || decide (e ≤ l.2))

/-- LOOP and LOOPI with a latched count (R139). [DEDUCED, log entry 25] -/
def State.loopGo (s : State) (p w n : Nat) : State :=
  let c := (s.blk p).core
  let pc := c.pc.toNat
  let e := pc + 4 * CC.len w
  if c.mayLoop (CC.lcf w) e = false then s.coreUndefined p
  else if n = 0 then s.transfer p (e + 4) true
  else
    (s.inc F.BLK_CC_RETIRED p 0).onCore p (fun c => { c with
      pc := BitVec.ofNat 16 (pc + 4), stall := 0, loops := (pc + 4, e) :: c.loops
      lc := SMap.put c.loops.length (BitVec.ofNat 32 n) c.lc })

/-- LOOP (R139): the count is s[RS][31:0]. -/
def execLoop (p : Nat) (s : State) : Host.Outcome State Fault Refusal :=
  coreStep p .loop (fun w => [CC.loopRs w]) (fun s w => s.loopGo p w (s.sreg p (CC.loopRs w) % 2 ^ 32)) s

/-- LOOPI (R139): the count is CNT. -/
def execLoopi (p : Nat) (s : State) : Host.Outcome State Fault Refusal :=
  coreStep p .loopi (fun _ => []) (fun s w => s.loopGo p w (CC.cnt w)) s

/-- s[RS] plus the signed immediate (R128). -/
def State.cbSum (s : State) (p w : Nat) : Nat := (s.sreg p (CC.qrs w) + to64 (CC.imm14 w)) % 2 ^ 64

/-- CBW (R142): low word of the sum into cb[CB]. -/
def execCbw (p : Nat) (s : State) : Host.Outcome State Fault Refusal :=
  coreStep p .cbw (fun w => [CC.qrs w]) (fun s w => (s.setCb p (CC.cb w) (s.cbSum p w % 2 ^ 32)).retire p) s

/-- CBWH (R142): high word of the sum into cb[CB]. -/
def execCbwh (p : Nat) (s : State) : Host.Outcome State Fault Refusal :=
  coreStep p .cbwh (fun w => [CC.qrs w]) (fun s w => (s.setCb p (CC.cb w) (s.cbSum p w / 2 ^ 32)).retire p) s

/-- CBINS (R142): a field of s[RS] into cb[CB]. -/
def execCbins (p : Nat) (s : State) : Host.Outcome State Fault Refusal :=
  coreStep p .cbins (fun w => [CC.qrs w]) (fun s w =>
    (s.setCb p (CC.cb w) (putBits (s.cbw p (CC.cb w)) (CC.pos w) (CC.widthM1 w + 1) (s.sreg p (CC.qrs w)))).retire p) s

/-- QSEND (R143, R145): cb0 to cb7 with their check go to a queue; a full queue stalls the core. -/
def execQsend (p : Nat) (s : State) : Host.Outcome State Fault Refusal :=
  coreStep p .qsend (fun _ => []) (fun s w =>
    if s.full p (qOf (CC.q w)) then s.stall p 1
    else (s.send p (qOf (CC.q w)) (s.cbCmd p)).retire p) s

/-- QSENDM (R144, R145): 32 bytes of scratchpad go to a queue as they stand; a misplaced address is an illegal use (R154). -/
def execQsendm (p : Nat) (s : State) : Host.Outcome State Fault Refusal :=
  coreStep p .qsendm (fun w => [CC.qrs w]) (fun s w =>
    let a := to64 ((s.sreg p (CC.qrs w) : Int) + 32 * CC.imm14 w) % 2 ^ 20
    if a % 32 ≠ 0 then s.coreUndefined p
    else if s.full p (qOf (CC.q w)) then s.stall p 1
    else
      let z := s.spAsleep p a 32
      if z ≠ [] then (s.spWake p z).stall p 2
      else
        let (s, bs) := s.spRead p spCore a 32
        (s.send p (qOf (CC.q w)) (BitVec.ofNat 256 (leNat bs))).retire p) s

/-- QFREE (R128): free entries of a queue. -/
def execQfree (p : Nat) (s : State) : Host.Outcome State Fault Refusal :=
  coreStep p .qfree (fun _ => []) (fun s w =>
    (s.setSreg p (CC.qrs w) (64 - ((s.blk p).q.entries (qOf (CC.q w))).length)).retire p) s

/-- ILLEGAL_INSTRUCTION (R152, R153, R155): the core decodes an illegal encoding, counts it, and its result is undefined. -/
def execIllegalInstruction (p : Nat) (s : State) : Host.Outcome State Fault Refusal :=
  onUnit nBlks p s fun s =>
    if s.coreLive p = false ∨ CC.decode (s.coreWord p) ≠ none then s
    else (s.inc F.BLK_CC_ILLEGAL p 0).coreUndefined p

end Sys2Proof.Machine
end

