-- ==== Sys2Proof/Machine/Queues.lean ====
section
/-! DEFINITION. The command queues of a Block: the command word, the head of a queue, events, completion, and context accesses of
engines (R156 to R166, R170). -/

namespace Sys2Proof.Machine
open Sys2Proof

/-! ### The command word (R159) -/

namespace EC

/-- A field of a command: `w` bits from bit `lo` of byte `b`. -/
def fld (c : Cmd) (b lo w : Nat) : Nat := bitsOf c.toNat (8 * b + lo) w
def opcode (c : Cmd) : Nat := fld c 0 0 8
def cls (c : Cmd) : Nat := fld c 0 8 4
def lc (c : Cmd) : Bool := fld c 0 12 1 != 0
def sr (c : Cmd) : Bool := fld c 0 13 1 != 0
def deadline (c : Cmd) : Nat := fld c 0 16 16
def postEc (c : Cmd) : Nat := fld c 28 0 4
def post (c : Cmd) : Bool := fld c 28 4 1 != 0
def waitEc (c : Cmd) : Nat := fld c 28 8 4
def wait (c : Cmd) : Bool := fld c 28 12 1 != 0
def check (c : Cmd) : Nat := fld c 30 0 16
/-- Whether CHECK is the CRC of bytes 0 to 29 (R159). -/
def checkOk (c : Cmd) : Bool := check c == crc16 (leBytes 30 c.toNat)
/-- Queue to which an opcode belongs (R156); every other opcode is reserved. -/
def queueOf (op : Nat) : Option Q :=
  match op with
  | 0x10 => some .mxq | 0x11 => some .mxq | 0x12 => some .mxq
  | 0x20 => some .vxq
  | 0x30 => some .dxq | 0x31 => some .dxq | 0x32 => some .dxq | 0x38 => some .dxq | 0x39 => some .dxq
  | 0x40 => some .sxq | 0x41 => some .sxq | 0x42 => some .sxq
  | _ => none

end EC

/-- The 16-bit event counter n of a Block (R165). -/
def State.ec (s : State) (p n : Nat) : Nat := (s.blk p).q.ec.get n 0

/-- The state with queues of Block p changed. -/
def State.onQ (s : State) (p : Nat) (f : Queues → Queues) : State := s.onBlk p (fun b => { b with q := f b.q })

/-- The state with the matrix arrays of Block p changed. -/
def State.onMx (s : State) (p : Nat) (f : Matrix → Matrix) : State := s.onBlk p (fun b => { b with mx := f b.mx })

/-- Slots of thread groups in use (R182). -/
def Block.usedSlots (b : Block) : Nat := b.vx.length

/-- Commands of an opcode in flight. -/
def Block.held (b : Block) (op : Nat) : List InFlight := b.q.inflight.filter (fun f => EC.opcode f.cmd == op)

/-- Whether the unit of a command can take it now (R77, R156, R158, R169). -/
def State.unitTakes (s : State) (p : Nat) (c : Cmd) : Bool :=
  let b := s.blk p
  match EC.opcode c with
  | 0x10 => decide ((b.held 0x10).length < 2)
  | 0x11 => (b.held 0x11).all (fun f => f.started)
  | 0x12 => decide ((b.held 0x12).length < 2)
  | 0x20 => decide (16 < EC.fld c 6 0 5) || decide (b.usedSlots + EC.fld c 6 0 5 ≤ 16)
  | 0x30 => decide ((b.held 0x30).length + (b.held 0x32).length < 4)
  | 0x32 => decide ((b.held 0x30).length + (b.held 0x32).length < 4)
  | 0x31 => decide ((s.gath (distOf p)).inbound.length < 64)
  | 0x38 => decide ((s.gath (distOf p)).inbound.length < 64)
  | 0x39 => decide ((s.gath (distOf p)).inbound.length < 64)
  | _ => b.q.inflight.all (fun f => f.q != .sxq)

/-- Whether the head of a queue waits for a count of event counter n and can otherwise leave (R165, R166). -/
def State.contends (s : State) (p n : Nat) (k : Q) : Bool :=
  match (s.blk p).q.entries k with
  | [] => false
  | e :: _ => EC.checkOk e.cmd && EC.queueOf (EC.opcode e.cmd) == some k && EC.wait e.cmd && EC.waitEc e.cmd == n && s.unitTakes p e.cmd

/-- Queues before a queue in the order of R166. -/
def Q.before : Q → List Q
  | .mxq => []
  | .vxq => [.mxq]
  | .dxq => [.mxq, .vxq]
  | .sxq => [.mxq, .vxq, .dxq]

/-- Whether the WAIT of a head of queue k is met, heads of earlier queues being served first (R165, R166). [DEDUCED, log entry 29] -/
def State.waitMet (s : State) (p : Nat) (k : Q) (c : Cmd) : Bool :=
  !EC.wait c || decide ((k.before.filter (fun j => s.contends p (EC.waitEc c) j)).length < s.ec p (EC.waitEc c))

/-- CLASS of a command after R162. -/
def State.cmdClass (s : State) (c : Cmd) : Nat :=
  if s.classMask.testBit (EC.cls c) then EC.cls c else lowestClass s.classMask

/-- EXPIRY of a latency-critical read issued now with a deadline (R281). -/
def State.expiryOf (s : State) (deadline : Nat) : Nat := (s.now * 10 / 64 + deadline) % 2 ^ 20

/-- The head of queue k leaves it: its WAIT is performed, its class replaced where R162 says so, and it is in flight. A sync
command keeps its entry until it completes (R156). -/
def State.leave (s : State) (p : Nat) (k : Q) (e : QEntry) : State :=
  let s := if k ≠ .sxq ∧ s.classMask.testBit (EC.cls e.cmd) = false then s.inc F.BLK_CMD_CLASS_SUBST p 0 else s
  s.onQ p (fun q =>
    let q := if EC.wait e.cmd then { q with ec := SMap.put (EC.waitEc e.cmd) (q.ec.get (EC.waitEc e.cmd) 0 - 1) q.ec } else q
    let q := if k = .sxq then q else q.put k (q.entries k).tail
    { q with inflight := q.inflight ++ [⟨e.ord, k, e.cmd, false, false⟩] })

/-- A head with a failed check is discarded, reported, and stops the queues of the Block (R160). -/
def State.checkFail (s : State) (p : Nat) (k : Q) : State :=
  (s.fault 0x0301 (pageIdx .blk p) 0).onQ p (fun q => { q.put k (q.entries k).tail with stopped := true })

/-- A malformed head is discarded, counted and reported (R161). -/
def State.malformed (s : State) (p : Nat) (k : Q) : State :=
  ((s.inc F.BLK_CMD_MALFORMED p 0).fault 0x0302 (pageIdx .blk p) 0).onQ p (fun q => q.put k (q.entries k).tail)

/-- The unit behind queue k looks at its head for a command of one opcode (R160, R161, R165): a head whose check fails or whose
opcode is malformed is discarded; a head of that opcode leaves when its unit can take it and its WAIT is met, and then acts. [DEDUCED, log entry 29] -/
def State.takeHead (s : State) (p : Nat) (k : Q) (op : Nat) (act : State → QEntry → State) : State :=
  if (s.blk p).q.stopped = true ∨ (s.blk p).core.running = false then s
  else
    match (s.blk p).q.entries k with
    | [] => s
    | e :: _ =>
      if (s.blk p).q.inflight.any (fun f => f.ord == e.ord) then s
      else if EC.checkOk e.cmd = false then s.checkFail p k
      else if EC.queueOf (EC.opcode e.cmd) ≠ some k then s.malformed p k
      else if EC.opcode e.cmd ≠ op ∨ s.unitTakes p e.cmd = false ∨ s.waitMet p k e.cmd = false then s
      else act (s.leave p k e) e

/-- The state with a command in flight changed. -/
def State.onInFlight (s : State) (p ord : Nat) (f : InFlight → InFlight) : State :=
  s.onQ p (fun q => { q with inflight := q.inflight.map (fun x => if x.ord = ord then f x else x) })

/-- A command's unit has done its work: the commands whose work is done stand last, in the order in which it was done (R164). -/
def State.cmdDone (s : State) (p ord : Nat) : State :=
  s.onQ p (fun q => { q with inflight := q.inflight.filter (fun x => x.ord != ord)
    ++ (q.inflight.filter (fun x => x.ord == ord)).map (fun f => { f with started := true, done := true }) })

/-- A command is discarded by its unit: it counts as completed and its POST is not performed (R173, R176). -/
def State.cmdDrop (s : State) (p ord : Nat) : State :=
  s.onQ p (fun q => { q with inflight := q.inflight.filter (fun x => x.ord != ord) })

/-- The drain condition of a sync command (R175, R176, R179): no command of a masked queue that was appended before it is left. -/
def State.drained (s : State) (p ord mask : Nat) : Bool :=
  let q := (s.blk p).q
  let left (k : Q) : Bool := (q.entries k).any (fun e => decide (e.ord < ord)) || q.inflight.any (fun f => f.q == k && decide (f.ord < ord))
  !(mask.testBit 0 && left .mxq) && !(mask.testBit 1 && left .vxq) && !(mask.testBit 2 && left .dxq)

/-- An event counter takes an increment (R165). -/
def State.postEc (s : State) (p n : Nat) : State :=
  if s.ec p n = 65535 then s.inc F.BLK_EC_SATURATED p 0
  else s.onQ p (fun q => { q with ec := SMap.put n (q.ec.get n 0 + 1) q.ec })

/-! ### Context accesses of engines (R48, R49, R52, R170) -/

/-- Faults of one command: each code once, with the first faulting address (R170). -/
abbrev CmdFaults := List (Nat × Nat)

/-- A fault of a command is noted. -/
def CmdFaults.note (fs : CmdFaults) (code a : Nat) : CmdFaults := if fs.any (fun f => f.1 == code) then fs else fs ++ [(code, a)]

/-- The faults of the command of order number `ord` of Block p are reported, by the unit of a page. -/
def State.cmdFaults (s : State) (p ord page : Nat) (fs : CmdFaults) : State := fs.foldl (fun s f => s.faultOnce p ord f.1 page f.2) s

/-- Who accesses context space: source, context, shadow reads, class, and the deadline of its reads where they are latency-critical (R162). -/
structure Accessor where
  src : Src
  ctx : Nat
  sr : Bool
  cls : Nat
  due : Option Nat
  deriving DecidableEq, Repr

/-- One line piece of a context range is read: its bytes; a piece outside every region gives zeros, to which the spec states no value. [DESIGN CHOICE, log entry 30] -/
def State.pieceRead (s : State) (u : Accessor) (a n : Nat) (fs : CmdFaults) : State × List Byte × CmdFaults :=
  match s.xlat u.ctx a u.sr false with
  | none => (s, List.replicate n 0, fs.note 0x0303 a)
  | some x =>
    let r := plainReq s u.src .read (x.addr / 128) (rangeMask (x.addr % 128) n) 0 x.owner x.keyh (some u.ctx) 3
    let (s, d) := s.access { r with cls := u.cls, raLimit := x.limit, lc := u.due.isSome, expiry := (u.due.map s.expiryOf).getD 0 }
    (s, lineBytes d (x.addr % 128) n, fs)

/-- Bytes read at a context address. -/
def State.ctxRead (s : State) (u : Accessor) (a n : Nat) (fs : CmdFaults) : State × List Byte × CmdFaults :=
  (pieces a n).foldl (fun (acc : State × List Byte × CmdFaults) (l, lo, k, _) =>
    let (s, bs, fs) := acc.1.pieceRead u (l * 128 + lo) k acc.2.2
    (s, acc.2.1 ++ bs, fs)) (s, [], fs)

/-- Bytes written, or combined, at a context address: the parts that regions hold and R52 allows. -/
def State.ctxWrite (s : State) (u : Accessor) (op : ROp) (a : Nat) (bs : List Byte) (fs : CmdFaults) : State × CmdFaults :=
  (pieces a bs.length).foldl (fun (acc : State × CmdFaults) (l, lo, k, o) =>
    let (s, fs) := acc
    let ca := l * 128 + lo
    match s.xlat u.ctx ca u.sr true with
    | none => (s, fs.note 0x0303 ca)
    | some x =>
      if x.forbidden then (s, fs.note 0x0304 ca)
      else
        let s := s.noteWrite u.ctx x
        let r := plainReq s u.src op (x.addr / 128) (rangeMask (x.addr % 128) k)
          (BitVec.ofNat 1024 (leNat ((bs.drop o).take k) * 2 ^ (8 * (x.addr % 128)))) x.owner x.keyh (some u.ctx) 3
        ((s.access { r with cls := u.cls, shadow := decide (x.kind = 0), raLimit := x.limit }).1, fs)) (s, fs)

/-- Banks of a range are awake: a unit whose work is one step waits for RETAINED and WAKING banks within it (R224). -/
def State.spRouse (s : State) (p a n : Nat) : State :=
  let z := s.spAsleep p a n
  if z = [] then s
  else
    let s := s.spWake p z
    z.foldl (fun s b => s.wr F.BLK_SP_STATUS_WAKING p 0 (clrBit (s.rd F.BLK_SP_STATUS_WAKING p) b)) s

/-- Pieces of a scratchpad range by 32-byte row: address, bytes, place in the range (R222). [DEDUCED, log entry 30] -/
def spPieces (a n : Nat) : List (Nat × Nat × Nat) :=
  (List.range ((a % 32 + n + 31) / 32)).map (fun i =>
    let r := a / 32 + i
    let lo := if i = 0 then a else 32 * r
    (lo, min (32 * (r + 1)) (a + n) - lo, lo - a))

/-- Scratchpad bytes read by a unit whose work is one step, an access for each row. -/
def State.spGet (s : State) (p : Nat) (u : SpUnit) (a n : Nat) : State × List Byte :=
  (spPieces a n).foldl (fun (acc : State × List Byte) (x, k, _) =>
    let (s, bs) := (acc.1.spRouse p x k).spRead p u x k
    (s, acc.2 ++ bs)) (s, [])

/-- Scratchpad bytes written by a unit whose work is one step, an access for each row. -/
def State.spPut (s : State) (p : Nat) (u : SpUnit) (a : Nat) (bs : List Byte) : State :=
  (spPieces a bs.length).foldl (fun s (x, k, o) => (s.spRouse p x k).spWrite p u x ((bs.drop o).take k)) s

/-- The undefined result of a command, confined to its context (R4, R161): free stores to the context's regions, and free bytes
in the scratchpad banks that the unit may write. [DESIGN CHOICE, log entry 28] -/
def State.undefinedCmd (s : State) (p : Nat) (u : Accessor) (unit : SpUnit) : State :=
  let sp := Config.freeSp s.free
  let st := Config.freeStores s.free
  let s := s.used
  let s := st.foldl (fun s (a, n, v) => (s.ctxWrite u .write (a % 2 ^ 48) (leBytes (n % 256) v) []).1) s
  sp.foldl (fun s (a, v) => if s.spServes p (s.spPlaceOf p a).1 unit then s.spPut p unit a [v] else s) s

/-- Whether a command in flight can complete (R156): a launch once its groups have exited, an SFENCE once its drain condition holds, a
FRAME_END never within the frame, any other once its unit has done its work. -/
def State.cmdReady (s : State) (p : Nat) (f : InFlight) : Bool :=
  match EC.opcode f.cmd with
  | 0x20 => f.started && (s.blk p).vx.all (fun (g : Nat × Group) => g.2.ord != f.ord)
  | 0x40 => s.drained p f.ord (EC.fld f.cmd 4 0 3)
  | 0x42 => false
  | _ => f.done

/-- Units that complete their commands in the order in which they do them (R77, R164): load unit, arrays, drain unit, gather engine; 0 for
the Block DMA, the vector engine and the sync unit. -/
def orderedUnit (op : Nat) : Nat :=
  match op with
  | 0x10 => 1 | 0x11 => 2 | 0x12 => 3 | 0x31 => 4 | 0x38 => 4 | 0x39 => 4
  | _ => 0

/-- The commands of a list that no earlier one of their unit precedes. -/
def firstOfUnit (fs : List InFlight) : List InFlight :=
  fs.filter (fun f => let k := orderedUnit (EC.opcode f.cmd)
    k == 0 || (fs.find? (fun g => orderedUnit (EC.opcode g.cmd) == k)).map (fun g => g.ord) == some f.ord)

/-- Completion of the k-th command that can complete (R156, R164, R165, R176, R177): it leaves flight, a sync command frees its
entry, and a POST increments its counter. The barrier counts of R181 stop at 65,535, of which the spec says nothing. [DEDUCED, log entry 29] -/
def execCommandComplete (p k : Nat) (s : State) : Host.Outcome State Fault Refusal :=
  onUnit nBlks p s fun s =>
    if (s.blk p).core.running = false then s
    else
      match (firstOfUnit ((s.blk p).q.inflight.filter (s.cmdReady p)))[k]? with
      | none => s
      | some f =>
        let s := s.onQ p (fun q =>
          let q := { q with inflight := q.inflight.filter (fun x => x.ord != f.ord) }
          let q := if f.q = .sxq then { q with sxq := q.sxq.tail, atBarrier := none } else q
          if EC.opcode f.cmd = 0x41 then
            if EC.fld f.cmd 5 0 1 = 0 then { q with barChip := satAdd 65535 q.barChip 1 } else { q with barDist := satAdd 65535 q.barDist 1 }
          else q)
        if EC.post f.cmd then s.postEc p (EC.postEc f.cmd) else s

/-! ### Sync commands (R175 to R179) -/

/-- SFENCE (R176): the sync unit takes it and waits for its drain condition. -/
def execSfence (p : Nat) (s : State) : Host.Outcome State Fault Refusal :=
  onUnit nBlks p s fun s => s.takeHead p .sxq 0x40 (fun s e => s.onInFlight p e.ord (fun f => { f with started := true }))

/-- The Block arrives at its barrier once its drain condition holds (R177). [DEDUCED, log entry 29] -/
def State.arrive (s : State) (p : Nat) : State :=
  match ((s.blk p).held 0x41).find? (fun f => !f.started) with
  | none => s
  | some f =>
    if s.drained p f.ord (EC.fld f.cmd 4 0 3) then
      ((s.onInFlight p f.ord (fun f => { f with started := true })).onQ p (fun q => { q with atBarrier := some (EC.fld f.cmd 5 0 1 == 0) })).cycles F.BLK_BAR_WAIT p
    else s

/-- BARRIER (R177): the sync unit takes it; after its drain condition the Block arrives at the next barrier of its scope. -/
def execBarrier (p : Nat) (s : State) : Host.Outcome State Fault Refusal :=
  onUnit nBlks p s fun s =>
    let s := s.takeHead p .sxq 0x41 (fun s _ => s)
    if (s.blk p).core.running then s.arrive p else s

/-- BARRIER_RELEASE (R177, R178): once every enabled Block of the scope waits at the barrier of one number, all are released. -/
def execBarrierRelease (chip : Bool) (d : Nat) (s : State) : Host.Outcome State Fault Refusal :=
  onUnit nDist d s fun s =>
    let ps := if chip then s.enabledBlks else s.blksOf d
    let cnt (p : Nat) : Nat := if chip then (s.blk p).q.barChip else (s.blk p).q.barDist
    let n := cnt (ps.headD 0)
    if ps ≠ [] ∧ ps.all (fun p => (s.blk p).q.atBarrier == some chip && cnt p == n) = true then
      let go (f : InFlight) : InFlight := if EC.opcode f.cmd = 0x41 ∧ f.started = true then { f with done := true } else f
      ps.foldl (fun s p => s.onQ p (fun q => { q with atBarrier := none, inflight := q.inflight.map go })) s
    else s

/-- Whether a request is one of Block p that is to be answered: a prefetch is answered to nobody (R293). -/
def Req.ofBlk (r : Req) (p : Nat) : Bool :=
  match r.op, r.src with
  | .prefetch _, _ => false
  | _, .core q => q == p
  | _, .vx q _ => q == p
  | _, .dma q => q == p
  | _, _ => false

/-- Whether every request that the Block has issued has completed and been acknowledged (R37): none waits to be taken, at a miss register
or for invalidations, no answer is on its way, and the core waits for no load or store. -/
def State.blkQuiet (s : State) (p : Nat) : Bool :=
  (s.blk p).core.loads.isEmpty && (s.blk p).core.stores.isEmpty
    && s.reqs.all (fun r => !r.ofBlk p) && s.resps.all (fun r => !r.req.ofBlk p)
    && s.slices.all (fun (e : Nat × Slice) => e.2.miss.all (fun m => m.waiters.all (fun r => !r.ofBlk p)) && e.2.invWait.all (fun w => !w.req.ofBlk p))

/-- FRAME_END (R37, R179): the sync unit takes it, and the Block completes frame end when every earlier command and every request of the
Block has completed. [DEDUCED, log entry 29] -/
def execFrameEnd (p : Nat) (s : State) : Host.Outcome State Fault Refusal :=
  onUnit nBlks p s fun s =>
    let s := s.takeHead p .sxq 0x42 (fun s e => (s.onInFlight p e.ord (fun f => { f with started := true })).onQ p (fun q => { q with frameEnd := true }))
    match ((s.blk p).held 0x42).head? with
    | none => s
    | some f => if (s.blk p).core.running ∧ s.drained p f.ord 7 ∧ s.blkQuiet p then s.onQ p (fun q => { q with ended := true }) else s

end Sys2Proof.Machine
end

