-- ==== Sys2Proof/Machine/Matrix.lean ====
section
/-! DEFINITION. The matrix arrays: operand formats, tile images, passes, drains, the ramp, and the commands of MXQ (R67 to R111). -/

namespace Sys2Proof.Machine
open Sys2Proof

/-! ### Operand formats (R69 to R71, R167) -/

/-- An operand format: its element format (none for integers), element width, own rate d, and whether it has block scales. -/
structure OpFmt where
  fmt : Option Fmt
  w : Nat
  d : Nat
  mx : Bool
  deriving DecidableEq, Repr

/-- Operand format by its code (R167); other codes are reserved. -/
def opFmt : Nat → Option OpFmt
  | 0 => some ⟨some Fmt.bf16, 16, 1, false⟩
  | 1 => some ⟨some Fmt.fp16, 16, 1, false⟩
  | 2 => some ⟨some Fmt.e4m3, 8, 2, false⟩
  | 3 => some ⟨some Fmt.e5m2, 8, 2, false⟩
  | 4 => some ⟨some Fmt.e4m3, 8, 2, true⟩
  | 5 => some ⟨some Fmt.e5m2, 8, 2, true⟩
  | 6 => some ⟨some Fmt.e3m2, 6, 2, true⟩
  | 7 => some ⟨some Fmt.e2m3, 6, 2, true⟩
  | 8 => some ⟨some Fmt.e2m1, 4, 4, true⟩
  | 9 => some ⟨none, 8, 2, false⟩
  | 10 => some ⟨none, 4, 4, false⟩
  | _ => none

/-- Pairs of activation and weight codes that the device supports (R71). -/
def pairOk (a w : Nat) : Bool :=
  (a == w && decide (a < 2)) || (decide (2 ≤ a) && decide (a ≤ 8) && decide (2 ≤ w) && decide (w ≤ 8))
    || (decide (9 ≤ a) && decide (a ≤ 10) && decide (9 ≤ w) && decide (w ≤ 10))

/-- Window width and index width of a mode (R102): 0 dense, 1 2:4, 2 2:8. -/
def modeW : Nat → Nat × Nat
  | 1 => (4, 2)
  | 2 => (8, 3)
  | _ => (2, 0)

/-- Sparsity factor of a mode (R102). -/
def modeS : Nat → Nat
  | 1 => 2
  | 2 => 4
  | _ => 1

/-- Bytes of a tile image of a weight format and mode at the format's own rate (R74, R104). [DEDUCED, log entry 23] -/
def imageBytes (f : OpFmt) (mode : Nat) : Nat := 128 * f.d * (f.w + (modeW mode).2) + if f.mx then 32 * f.d else 0

/-- One stored weight: its K position, element code, and scale byte. -/
structure WVal where
  pos : Nat
  code : Nat
  scale : Nat
  deriving DecidableEq, Repr

/-- Stored value j of column c of an image held as a number (R74, R103, R104), at the pass's rate d. [DEDUCED, log entry 23] -/
def weightAt (f : OpFmt) (mode d img c j : Nat) : WVal :=
  let (wd, b) := modeW mode
  let code := bitsOf img ((32 * d * c + j) * f.w) f.w
  let idx := bitsOf img (8 * (128 * d * f.w) + (32 * d * c + j) * b) b
  let scale := if f.mx then bitsOf img (8 * (128 * d * (f.w + b) + d * c + j / 32)) 8 else 127
  ⟨if b = 0 then j else wd * (j / 2) + idx, code, scale⟩

/-- A value times a power of two. -/
def scaleF (v : FVal) (k : Int) : FVal := match v with | .fin n m e => .fin n m (e + k) | v => v

/-- A floating operand of an element code and a scale byte (R70); formats without a scale have the byte 127. -/
def operand (f : Fmt) (code scale : Nat) : FVal := if scale = 0xFF then .nan else scaleF (decodeF f code) ((scale : Int) - 127)

/-- Whether a value is a zero. -/
def zeroF : FVal → Bool
  | .fin _ m _ => m == 0
  | _ => false

/-- Whether a value is finite. -/
def finiteF : FVal → Bool
  | .fin _ _ _ => true
  | _ => false

/-- The row-slot of a token as numbers: elements and scales (R73, R106). -/
structure RowSlot where
  elems : Nat
  scales : Nat
  deriving DecidableEq, Repr

/-- Activation at K position k: element code and scale byte. -/
def RowSlot.at (x : RowSlot) (f : OpFmt) (k : Nat) : Nat × Nat :=
  (bitsOf x.elems (k * f.w) f.w, if f.mx then bitsOf x.scales (8 * (k / 32)) 8 else 127)

/-- What a pass multiplies in one array: stored weights of column c by j. -/
abbrev Column := Nat → WVal

/-- Sum of one column for one floating row-slot: one rounding per cell, from row 0 to row 31 (R89 to R91). -/
def colSumF (fa fw : Fmt) (act : OpFmt) (x : RowSlot) (d : Nat) (col : Column) : Nat :=
  (List.range 32).foldl (fun (acc : Nat) r =>
    let ps := (List.range d).map (fun i =>
      let v := col (d * r + i)
      let (a, sa) := x.at act v.pos
      mulF (operand fa a sa) (operand fw v.code v.scale))
    let inc := if r = 0 then [] else [decodeF Fmt.f32 acc]
    encodeF Fmt.f32 false (sumF (ps ++ inc))) 0

/-- Sum of one column for one integer row-slot, modulo 2³² (R91). -/
def colSumI (act wt : OpFmt) (x : RowSlot) (d : Nat) (col : Column) : Nat :=
  ((List.range (32 * d)).foldl (fun (acc : Int) j =>
    let v := col j
    acc + sext act.w (x.at act v.pos).1 * sext wt.w v.code) 0 % (2 ^ 32 : Int)).toNat

/-- Products of one column that R109 skips for a row-slot. -/
def skipped (fa : Option Fmt) (fw : Option Fmt) (act : OpFmt) (x : RowSlot) (d : Nat) (col : Column) : Nat :=
  ((List.range (32 * d)).filter (fun j =>
    let v := col j
    let (a, sa) := x.at act v.pos
    match fa, fw with
    | some f, some g => zeroF (decodeF f a) && decide (sa ≠ 0xFF) && finiteF (operand g v.code v.scale)
    | _, _ => a == 0)).length

/-! ### Commands of MXQ -/

namespace MX
def buf (c : Cmd) : Nat := EC.fld c 4 0 1
def loadMask (c : Cmd) : Nat := EC.fld c 4 1 4
def mode (c : Cmd) : Nat := EC.fld c 4 5 2
def wfmt (c : Cmd) : Nat := EC.fld c 4 7 4
def img (c : Cmd) (a : Nat) : Nat := EC.fld c 8 (15 * a) 15
def set (c : Cmd) : Nat := EC.fld c 4 1 1
def add (c : Cmd) : Bool := EC.fld c 4 2 1 != 0
def passMask (c : Cmd) : Nat := EC.fld c 4 3 4
def maskEn (c : Cmd) : Bool := EC.fld c 4 7 1 != 0
def afmt (c : Cmd) : Nat := EC.fld c 4 8 4
def tokens (c : Cmd) : Nat := EC.fld c 4 12 9 + 1
def first (c : Cmd) : Nat := EC.fld c 4 21 9
def abase (c : Cmd) : Nat := EC.fld c 8 0 15
def astride (c : Cmd) : Nat := EC.fld c 8 15 15
def sbase (c : Cmd) : Nat := EC.fld c 12 0 20
def sstride (c : Cmd) : Nat := EC.fld c 16 0 16
def tmask (c : Cmd) : Nat := EC.fld c 16 17 15
def dset (c : Cmd) : Nat := EC.fld c 4 0 1
def drainMask (c : Cmd) : Nat := EC.fld c 4 1 4
def ofmt (c : Cmd) : Nat := EC.fld c 4 5 3
def sat (c : Cmd) : Bool := EC.fld c 4 8 1 != 0
def dfirst (c : Cmd) : Nat := EC.fld c 4 9 9
def rows (c : Cmd) : Nat := EC.fld c 4 18 9 + 1
def obase (c : Cmd) : Nat := EC.fld c 8 0 15
def ostride (c : Cmd) : Nat := EC.fld c 8 15 15
/-- Arrays of a mask, in array order. -/
def arrays (m : Nat) : List Nat := (List.range 4).filter (fun a => m.testBit a)
end MX

/-- The ramp when the front end accepts a matrix command (R94, R96). -/
def Ramp.accept : Ramp → Ramp
  | .off => .up 1
  | .down 4 => .hold
  | .down n => .up (n + 1)
  | r => r

/-- The ramp after one 16-cycle step (R94, R96). -/
def Ramp.step : Ramp → Ramp
  | .up 4 => .hold
  | .up n => .up (n + 1)
  | .down 0 => .off
  | .down 1 => .off
  | .down (n + 1) => .down n
  | r => r

/-- Whether the ramps are in force: MX_TEST.BALLAST_OFF removes them (R98). -/
def State.ballast (s : State) (p : Nat) : Bool := s.rd F.BLK_MX_TEST_BALLAST_OFF p == 0

/-- The front end has accepted a matrix command (R94, R96). -/
def State.mxAccept (s : State) (p : Nat) : State :=
  if s.ballast p then
    (if (s.blk p).mx.ramp = .off then s.cycles F.BLK_MX_BALLAST_CYCLES p else s).onMx p (fun m => { m with ramp := m.ramp.accept })
  else s

/-- MLOAD (R76, R77): the front end passes it to the load unit. -/
def execMload (p : Nat) (s : State) : Host.Outcome State Fault Refusal :=
  onUnit nBlks p s fun s => s.takeHead p .mxq 0x10 (fun s _ => s.mxAccept p)

/-- MDRAIN (R76, R77): the front end passes it to the drain unit. -/
def execMdrain (p : Nat) (s : State) : Host.Outcome State Fault Refusal :=
  onUnit nBlks p s fun s => s.takeHead p .mxq 0x12 (fun s _ => s.mxAccept p)

/-- The oldest accepted command of an opcode that its unit has not started, once every earlier one of the opcode is done (R77). -/
def Block.nextOf (b : Block) (op : Nat) : Option InFlight :=
  match (b.held op).find? (fun f => !f.started) with
  | some f => if (b.held op).all (fun g => g.ord == f.ord || f.ord ≤ g.ord || g.done) then some f else none
  | none => none

/-- Whether every accepted command of an opcode before `ord` that meets a test is done. -/
def Block.allDone (b : Block) (op ord : Nat) (t : Cmd → Bool) : Bool :=
  (b.held op).all (fun g => decide (ord ≤ g.ord) || !t g.cmd || g.done)

/-- The images of an MLOAD are copied into the named buffers (R74, R104, R105). Reserved codes leave the buffers undefined. [DEDUCED, log entry 20] -/
def State.doLoad (s : State) (p : Nat) (c : Cmd) : State :=
  (MX.arrays (MX.loadMask c)).foldl (fun s a =>
    match opFmt (MX.wfmt c) with
    | some f =>
      if MX.mode c = 3 then s.onMx p (fun m => { m with bufs := SMap.put (2 * a + MX.buf c) ⟨31, 0, []⟩ m.bufs })
      else
        let (s, bs) := s.spGet p feeder (32 * MX.img c a) (imageBytes f (MX.mode c))
        s.onMx p (fun m => { m with bufs := SMap.put (2 * a + MX.buf c) ⟨MX.wfmt c, MX.mode c, bs⟩ m.bufs })
    | none => s.onMx p (fun m => { m with bufs := SMap.put (2 * a + MX.buf c) ⟨31, 0, []⟩ m.bufs })) s

/-- MLOAD_START (R77): the load unit starts its next MLOAD once every earlier pass on the buffer is past. [DEDUCED, log entry 21] -/
def execMloadStart (p : Nat) (s : State) : Host.Outcome State Fault Refusal :=
  onUnit nBlks p s fun s =>
    match (s.blk p).nextOf 0x10 with
    | some f =>
      if (s.blk p).core.running ∧ (s.blk p).allDone 0x11 f.ord (fun c => MX.buf c == MX.buf f.cmd) then (s.doLoad p f.cmd).cmdDone p f.ord else s
    | none => s

/-- Contents of buffer `buf` of array a for the pass of order number `ord`: an accepted MLOAD before it that has not completed names the
format and mode to come. -/
def Block.bufFor (b : Block) (ord a buf : Nat) : WBuf :=
  match ((b.held 0x10).filter (fun g => decide (g.ord < ord) && !g.done && MX.buf g.cmd == buf && (MX.loadMask g.cmd).testBit a)).getLast? with
  | some g => if MX.mode g.cmd = 3 ∨ (opFmt (MX.wfmt g.cmd)).isNone then ⟨31, 0, []⟩ else ⟨MX.wfmt g.cmd, MX.mode g.cmd, []⟩
  | none => b.mx.bufs.get (2 * a + buf) ⟨30, 0, []⟩

/-- How a pass sees its weights: the format, mode and rate, or `none` where its results are undefined (R71, R72, R105). -/
structure PassPlan where
  act : OpFmt
  wt : OpFmt
  mode : Nat
  d : Nat
  deriving DecidableEq, Repr

/-- The plan of an MPASS with the given buffers of the arrays; none where a token row would lie beyond row 511 (R76). An empty buffer is
dense, with the activation's own format, and supplies zero weights (R80, R105). [DESIGN CHOICE, log entry 22] -/
def planOf (get : Nat → WBuf) (c : Cmd) : Option PassPlan :=
  if 512 < MX.first c + MX.tokens c then none
  else match opFmt (MX.afmt c), MX.arrays (MX.passMask c) with
  | none, _ => none
  | some act, [] => some ⟨act, act, 0, act.d⟩
  | some act, a :: as =>
    let full := ((a :: as).map get).filter (fun b => b.wfmt != 30)
    match full with
    | [] => some ⟨act, act, 0, act.d⟩
    | b :: bs =>
      match opFmt b.wfmt with
      | none => none
      | some wt =>
        if pairOk (MX.afmt c) b.wfmt && bs.all (fun x => x.wfmt == b.wfmt && x.mode == b.mode)
            && (full.length == (a :: as).length || b.mode == 0)
        then some ⟨act, wt, b.mode, min act.d wt.d⟩ else none

/-- The plan of an accepted MPASS of Block p (R77, R105). -/
def Block.plan (b : Block) (ord : Nat) (c : Cmd) : Option PassPlan := planOf (fun a => b.bufFor ord a (MX.buf c)) c

/-- Row-slot of token m of a pass, as the feeders read it (R73, R106); the words go to every array. -/
def State.fetchSlot (s : State) (p : Nat) (c : Cmd) (pl : PassPlan) (m : Nat) : State × RowSlot :=
  let n := 32 * pl.d * modeS pl.mode * pl.act.w / 8
  let (s, bs) := s.spGet p feeder (32 * MX.abase c + 32 * m * MX.astride c) n
  if pl.act.mx then
    let (s, sc) := s.spGet p feeder (MX.sbase c + m * MX.sstride c) (pl.d * modeS pl.mode)
    (s, ⟨leNat bs, leNat sc⟩)
  else (s, ⟨leNat bs, 0⟩)

/-- The feeder fetch unit puts the row-slot of token m into the queues (R83, R110): for a masked token zeros, and no read. -/
def State.feedSlot (s : State) (p ord : Nat) (c : Cmd) (pl : PassPlan) (m : Nat) : State :=
  if (s.blk p).mx.tmask.getLsbD m then
    let (s, x) := s.fetchSlot p c pl m
    s.onMx p (fun y => { y with feed := y.feed ++ [⟨ord, m, false, x.elems, x.scales⟩] })
  else s.onMx p (fun y => { y with feed := y.feed ++ [⟨ord, m, true, 0, 0⟩] })

/-- The fetch unit begins with the row-slots of an accepted MPASS (R83, R110): it reads the token mask with the first of them, and runs up to
16 ahead. How far it has come before a later event is timing, so their number is a free choice from 1 to 16. [DESIGN CHOICE, log entry 21] -/
def State.feedStart (s : State) (p ord : Nat) (c : Cmd) : State :=
  match (s.blk p).plan ord c with
  | none => s
  | some pl =>
    let (s, mask) := if MX.maskEn c then
        let (s, bs) := s.spGet p feeder (32 * MX.tmask c) 64
        (s, leNat bs)
      else (s, 2 ^ 512 - 1)
    let n := if MX.tokens c = 1 then 1 else min (MX.tokens c) (1 + s.freeVal % 16)
    forN n (s.used.onMx p (fun y => { y with feed := [], tmask := BitVec.ofNat 512 mask })) (fun s m => s.feedSlot p ord c pl m)

/-- Whether a pass that the front end holds waits for a load into its buffer, or for a drain of its set (R77). -/
def Block.passWaits (b : Block) (load : Bool) : Bool :=
  (b.held 0x11).any (fun f => !f.started && (if load
    then (b.held 0x10).any (fun g => decide (g.ord < f.ord) && !g.done && EC.fld g.cmd 4 0 1 == EC.fld f.cmd 4 0 1 && (EC.fld g.cmd 4 1 4 &&& EC.fld f.cmd 4 3 4) != 0)
    else (b.held 0x12).any (fun g => decide (g.ord < f.ord) && !g.done && EC.fld g.cmd 4 0 1 == EC.fld f.cmd 4 1 1)))

/-- MPASS (R76, R77, R83): the front end accepts it, and its row-slots begin to be fetched. -/
def execMpass (p : Nat) (s : State) : Host.Outcome State Fault Refusal :=
  onUnit nBlks p s fun s => s.takeHead p .mxq 0x11 (fun s e =>
    let s := s.mxAccept p
    let s := if (s.blk p).passWaits true then s.cycles F.BLK_MX_LOAD_WAITS p else s
    let s := if (s.blk p).passWaits false then s.cycles F.BLK_MX_DRAIN_WAITS p else s
    s.feedStart p e.ord e.cmd)

/-- The column sums of one array for a row-slot, and the products skipped (R89, R109). -/
def passRow (pl : PassPlan) (img : Nat) (x : RowSlot) : List Nat × Nat :=
  let cols := (List.range 32).map (fun c => weightAt pl.wt pl.mode pl.d img c)
  match pl.act.fmt, pl.wt.fmt with
  | some fa, some fw => (cols.map (fun col => colSumF fa fw pl.act x pl.d col), (cols.map (fun col => skipped (some fa) (some fw) pl.act x pl.d col)).sum)
  | _, _ => (cols.map (fun col => colSumI pl.act pl.wt x pl.d col), (cols.map (fun col => skipped none none pl.act x pl.d col)).sum)

/-- A token row after a pass (R79, R89, R91). -/
def accRow (isInt add : Bool) (old : List Word) (sums : List Nat) : List Word :=
  if add then
    (List.range 32).map (fun c =>
      let o := (old.getD c 0).toNat
      let v := sums.getD c 0
      BitVec.ofNat 32 (if isInt then o + v else encodeF Fmt.f32 false (addF (decodeF Fmt.f32 o) (decodeF Fmt.f32 v))))
  else (List.range 32).map (fun c => BitVec.ofNat 32 (sums.getD c 0))

/-- One array's token row receives its sums. A row of an undefined set that ADD reads stays undefined. -/
def State.updateRow (s : State) (p a : Nat) (c : Cmd) (isInt : Bool) (row : Nat) (f : List Word → List Word) : State :=
  s.onMx p (fun m =>
    let k := 2 * a + MX.set c
    let x := m.accs.get k ⟨none, false, []⟩
    if MX.add c && x.bad && (SMap.find row x.rows).isNone then m
    else { m with accs := SMap.put k { x with isInt := some isInt, rows := SMap.put row (f (x.rows.get row [])) x.rows } m.accs })

/-- One token of a pass in every array of the mask (R81, R109, R110): its row-slot is fetched if it is not yet queued, and popped. The
products of a masked token's zeros are gated and not counted as skipped, of which R110 and R111 say nothing. [DESIGN CHOICE, log entry 22] -/
def State.passToken (s : State) (p ord : Nat) (c : Cmd) (pl : PassPlan) (m : Nat) : State :=
  let isInt := pl.act.fmt.isNone
  let row := MX.first c + m
  let s := if (s.blk p).mx.feed.isEmpty then s.feedSlot p ord c pl m else s
  let slot := (s.blk p).mx.feed.headD ⟨0, 0, false, 0, 0⟩
  let s := (s.onMx p (fun y => { y with feed := y.feed.tail })).inc F.BLK_MX_SLOTS p 0
  if slot.masked then
    let s := s.inc F.BLK_MX_MASKED_SLOTS p 0
    if MX.add c then s
    else (MX.arrays (MX.passMask c)).foldl (fun s a => s.updateRow p a c isInt row (fun _ => List.replicate 32 0)) s
  else
    let x : RowSlot := ⟨slot.elems, slot.scales⟩
    (MX.arrays (MX.passMask c)).foldl (fun s a =>
      let img := leNat ((s.blk p).mx.bufs.get (2 * a + MX.buf c) ⟨30, 0, []⟩).image
      let (sums, sk) := passRow pl img x
      let s := s.updateRow p a c isInt row (fun old => accRow isInt (MX.add c) old sums)
      let z := (s.blk p).mx.zeroGated + sk
      (s.inc F.BLK_MX_ZERO_GATED p 0 (z / 65536)).onMx p (fun m => { m with zeroGated := z % 65536 })) s

/-- A set whose contents are undefined: every row that no later INIT writes. [DESIGN CHOICE, log entry 22] -/
def AccSet.spoil (x : AccSet) : AccSet := { x with bad := true, rows := [] }

/-- A set's kind before a pass: a pass of the other kind with ADD leaves it undefined; INIT gives it the new kind (R72). [DESIGN CHOICE, log entry 22] -/
def accKind (x : AccSet) (isInt add : Bool) : AccSet :=
  if add && x.isInt == some (!isInt) then x.spoil else { x with isInt := some isInt }

/-- The effect of a pass (R76, R79, R89, R110): M row-slots stream through the arrays of the mask. [DEDUCED, log entry 20] -/
def State.doPass (s : State) (p ord : Nat) (c : Cmd) : State :=
  let setKind (s : State) (f : AccSet → AccSet) : State :=
    (MX.arrays (MX.passMask c)).foldl (fun s a => s.onMx p (fun m =>
      { m with accs := SMap.put (2 * a + MX.set c) (f (m.accs.get (2 * a + MX.set c) ⟨none, false, []⟩)) m.accs })) s
  match (s.blk p).plan ord c with
  | none => setKind (s.inc F.BLK_MX_SLOTS p 0 (MX.tokens c)) AccSet.spoil
  | some pl =>
    let s := if (s.blk p).mx.feed.length < MX.tokens c then s.cycles F.BLK_MX_FEED_BUBBLES p else s
    let s := setKind s (fun x => accKind x pl.act.fmt.isNone (MX.add c))
    forN (MX.tokens c) s (fun s m => s.passToken p ord c pl m)

/-- Whether the first row-slot of a pass is in the queues (R77); a pass whose results are undefined has none. -/
def Block.fed (b : Block) (f : InFlight) : Bool :=
  (b.mx.feed.head?.map (fun x => x.ord) == some f.ord && b.mx.feed.all (fun x => x.ord == f.ord)) || (b.plan f.ord f.cmd).isNone

/-- MPASS_START (R77, R95): a waiting pass starts when the arrays are in hold, its first row-slot is queued, and its previous pass, loads
and drains are done. [DEDUCED, log entry 21] -/
def execMpassStart (p : Nat) (s : State) : Host.Outcome State Fault Refusal :=
  onUnit nBlks p s fun s =>
    match (s.blk p).nextOf 0x11 with
    | some f =>
      let b := s.blk p
      if b.core.running ∧ (s.ballast p = false ∨ b.mx.ramp = .hold)
          ∧ b.allDone 0x10 f.ord (fun c => MX.buf c == MX.buf f.cmd && (MX.loadMask c &&& MX.passMask f.cmd) != 0)
          ∧ b.allDone 0x12 f.ord (fun c => MX.dset c == MX.set f.cmd) ∧ b.fed f
      then (s.doPass p f.ord f.cmd).cmdDone p f.ord else s
    | none => s

/-- Output format by its code (R167) with its element size; INT32 is 5; other codes are reserved. -/
def outFmt : Nat → Option (Option Fmt × Nat)
  | 0 => some (some Fmt.f32, 4)
  | 1 => some (some Fmt.bf16, 2)
  | 2 => some (some Fmt.fp16, 2)
  | 3 => some (some Fmt.e4m3, 1)
  | 4 => some (some Fmt.e5m2, 1)
  | 5 => some (none, 4)
  | _ => none

/-- Conversion of an F32 word to an output format (R88). -/
def convertF (f : Fmt) (sat : Bool) (x : Nat) : Nat :=
  match decodeF Fmt.f32 x with
  | .inf n => if f = Fmt.f32 then encodeF f false (.inf n) else encodeF f sat (.inf n)
  | v => if f = Fmt.f32 then encodeF f false v else encodeF f sat v

/-- One token row of one array is drained (R87, R88); an undefined set, or one of another kind than the format, gives free values. [DESIGN CHOICE, log entry 22] -/
def State.drainRow (s : State) (p a : Nat) (c : Cmd) (f : Option Fmt) (es m : Nat) : State :=
  let x := (s.blk p).mx.accs.get (2 * a + MX.dset c) ⟨none, false, []⟩
  let words := x.rows.get (MX.dfirst c + m) []
  let word (i : Nat) : Nat := (words.getD i 0).toNat
  let free := (x.bad && (SMap.find (MX.dfirst c + m) x.rows).isNone) || (match x.isInt with | some b => b == f.isSome | none => false)
  let (s, vals) := if free then s.frees 32
    else (s, (List.range 32).map (fun i => match f with | some g => convertF g (MX.sat c) (word i) | none => word i))
  s.spPut p feeder (32 * MX.obase c + 32 * m * MX.ostride c + 32 * a * es) ((vals.map (fun v => leBytes es v)).flatten)

/-- Element size of an MDRAIN whose fields lie in their ranges (R76, R87, R161, R168), with its format. -/
def MX.drainFmt (c : Cmd) : Option (Option Fmt × Nat) :=
  match outFmt (MX.ofmt c) with
  | some (f, es) => if MX.dfirst c + MX.rows c ≤ 512 ∧ 4 * es ≤ MX.ostride c then some (f, es) else none
  | none => none

/-- The effect of a drain (R87, R88): arrays in order, row by row; with a field out of its range the result is undefined (R76, R161). [DEDUCED, log entry 20; DESIGN CHOICE, log entry 22] -/
def State.doDrain (s : State) (p : Nat) (c : Cmd) : State :=
  match MX.drainFmt c with
  | some (f, es) => forN (MX.rows c) s (fun s m => (MX.arrays (MX.drainMask c)).foldl (fun s a => s.drainRow p a c f es m) s)
  | none =>
    match s.plaza.run with
    | some run => s.undefinedCmd p ⟨.dma p, run.ctx, false, 0, none⟩ feeder
    | none => s

/-- MDRAIN_START (R77): a drain starts once every earlier pass into its set has made its last update. [DEDUCED, log entry 21] -/
def execMdrainStart (p : Nat) (s : State) : Host.Outcome State Fault Refusal :=
  onUnit nBlks p s fun s =>
    match (s.blk p).nextOf 0x12 with
    | some f =>
      if (s.blk p).core.running ∧ (s.blk p).allDone 0x11 f.ord (fun c => MX.set c == MX.dset f.cmd) then (s.doDrain p f.cmd).cmdDone p f.ord else s
    | none => s

/-- The ramp after one step while warm-up ballast runs at a level (R429). -/
def Ramp.warm (l : Nat) : Ramp → Ramp
  | .up n => if n < l then .up (n + 1) else .up l
  | .off => .up 1
  | r => r.step

/-- RAMP_STEP (R94, R96, R97, R429): one 16-cycle step of a ramp. [DEDUCED, log entry 20] -/
def execRampStep (p : Nat) (s : State) : Host.Outcome State Fault Refusal :=
  onUnit nBlks p s fun s =>
    if s.ballast p then
      s.onMx p (fun m => { m with
        ramp := if s.pwr.warming && s.domOn (distOf p) && !(s.blk p).core.running then m.ramp.warm (s.rd F.PWR_WARMUP_LEVEL) else m.ramp.step
        lfsr := if m.ramp = .off then m.lfsr else m.lfsr.map Config.lfsrNext })
    else s

/-- HOLD_EXPIRY (R95, R96): hold ends while the front end holds no pass that has not started. [DEDUCED, log entry 20] -/
def execHoldExpiry (p : Nat) (s : State) : Host.Outcome State Fault Refusal :=
  onUnit nBlks p s fun s =>
    if s.ballast p ∧ (s.blk p).mx.ramp = .hold ∧ ((s.blk p).held 0x11).all (fun f => f.started) then
      s.onMx p (fun m => { m with ramp := .down 4 })
    else s

end Sys2Proof.Machine
end

