-- ==== Sys2Proof/Machine/Special.lean ====
section
/-! DEFINITION. The special functions of the vector engine (R189): which F32 results lie within 2 units in the last place of the exact
one. Magnitudes are counted in units of 2^-149, of which every finite F32 value is a multiple. -/

namespace Sys2Proof.Machine
open Sys2Proof

/-- The special functions: reciprocal, reciprocal square root, power of two, logarithm to base two. -/
inductive SpecialFn where
  | rcp | rsq | exp2 | log2
  deriving DecidableEq, Repr

/-- 2^149, the value 1 in units of 2^-149. -/
def unitOne : Nat := 2 ^ 149

/-- Magnitude of an F32 code without its sign, in units of 2^-149; the code of infinity counts as 2^128. -/
def codeMag (c : Nat) : Nat := if c < 2 ^ 23 then c else (2 ^ 23 + c % 2 ^ 23) * 2 ^ (c / 2 ^ 23 - 1)

/-- −1, 0 or 1 as a is less than, equal to or greater than b. -/
def natCmp (a b : Nat) : Int := if a < b then -1 else if a = b then 0 else 1

/-- Whether 2^(f / 2^n) is at most z / 2^512, for 0 < f < 2^n and z / 2^512 from 1 to 2: the binary digits of the logarithm of z against
those of f, each by one squaring. 512 bits hold the 149 squarings exactly enough for any F32 operand. -/
def expDigits : Nat → Nat → Nat → Bool
  | 0, _, _ => true
  | n + 1, f, z =>
    let y := (z * z) >>> 512
    let d := y >>> 513 != 0
    let b := f.testBit n
    if d = b then expDigits n f (if d then y >>> 1 else y) else d

/-- 2^t against y, both in units of 2^-149. -/
def powCmp (t : Int) (y : Nat) : Int :=
  let i := t / (unitOne : Int)
  let f := (t % (unitOne : Int)).toNat
  if y = 0 ∨ 300 < i then 1
  else if i < -300 then -1
  else
    let z := y * 2 ^ (363 - i).toNat
    if z < 2 ^ 512 then 1
    else if 2 ^ 513 ≤ z then -1
    else if f = 0 then natCmp (2 ^ 512) z
    else if expDigits 149 f z then -1 else 1

/-- The sign of the exact result on a finite operand, and its magnitude against a number: `none` where R189 states no result (the
reciprocal of zero, the root of zero or a negative number, the logarithm of those). [DESIGN CHOICE, log entry 31] -/
def SpecialFn.exact (fn : SpecialFn) (neg : Bool) (x : Nat) : Option (Bool × (Nat → Int)) :=
  let v : Int := if neg then -(x : Int) else x
  match fn with
  | .rcp => if x = 0 then none else some (neg, fun q => natCmp (2 ^ 298) (q * x))
  | .rsq => if x = 0 ∨ neg then none else some (false, fun q => natCmp (2 ^ 447) (q * q * x))
  | .exp2 => some (false, fun q => powCmp v q)
  | .log2 =>
    if x = 0 ∨ neg then none
    else if unitOne ≤ x then some (false, fun q => -powCmp q x)
    else some (true, fun q => powCmp (-(q : Int)) x)

/-- The exact result on an infinite operand, as the limit of the function, in the form of `exact`: 0, or above every number for infinity; `none` where
the function has none there. [DEDUCED, log entry 31] -/
def SpecialFn.limit (fn : SpecialFn) (neg : Bool) : Option (Bool × (Nat → Int)) :=
  match fn with
  | .rcp => some (neg, natCmp 0)
  | .rsq => if neg then none else some (false, natCmp 0)
  | .exp2 => some (false, if neg then natCmp 0 else fun _ => 1)
  | .log2 => if neg then none else some (false, fun _ => 1)

/-- The greatest finite F32 magnitude code that is not above a number, given by how it compares. [DESIGN CHOICE, log entry 31] -/
def floorCode (cmp : Nat → Int) : Nat :=
  (List.range 31).foldl (fun c k =>
    let d := c + 2 ^ (30 - k)
    if d < 0x7F80_0000 ∧ 0 ≤ cmp (codeMag d) then d else c) 0

/-- One unit in the last place at a magnitude code. -/
def ulpAt (c : Nat) : Nat := 2 ^ (c / 2 ^ 23 - 1)

/-- Whether an F32 code lies within 2 units in the last place of a number, given by its sign and how its magnitude compares. [DESIGN CHOICE, log entry 31] -/
def withinTwo (neg : Bool) (cmp : Nat → Int) (r : Nat) : Bool :=
  let a := codeMag (r % 2 ^ 31)
  let w := 2 * ulpAt (floorCode cmp)
  decide (r < 2 ^ 32) && decide (r % 2 ^ 31 ≤ 0x7F80_0000) &&
    (if bitOf r 31 = neg then decide (cmp (a + w) ≤ 0) && (decide (a ≤ w) || decide (0 ≤ cmp (a - w)))
     else decide (a ≤ w) && decide (cmp (w - a) ≤ 0))

/-- F32 bits with the one NaN that the engine produces (R189). -/
def oneNan (r : Word) : Nat := if bitsOf r.toNat 23 8 = 255 ∧ bitsOf r.toNat 0 23 ≠ 0 then nanCode Fmt.f32 else r.toNat

/-- Result of a special function on F32 operand bits (R189), with the bits `r` that the device returns: they stand where they lie within
2 units in the last place of the exact result, or where R189 states none. A result beyond the largest finite value is an infinity. [DESIGN CHOICE, log entry 31] -/
def specialF (fn : SpecialFn) (x : Nat) (r : Word) : Nat :=
  let exact := match decodeF Fmt.f32 x with
    | .nan => none
    | .inf neg => fn.limit neg
    | .fin neg _ _ => fn.exact neg (codeMag (x % 2 ^ 31))
  match exact with
  | none => if decodeF Fmt.f32 x = .nan then nanCode Fmt.f32 else oneNan r
  | some (n, cmp) =>
    if 0 ≤ cmp ((2 ^ 25 - 1) * 2 ^ 252) then b2n n * 2 ^ 31 + 0x7F80_0000
    else if withinTwo n cmp r.toNat then r.toNat else b2n n * 2 ^ 31 + floorCode cmp

end Sys2Proof.Machine
end

