-- ==== Sys2Proof/Machine/VecOps.lean ====
section
/-! DEFINITION. Shared operations of the vector engine: lanes, registers, issue, divergence, barriers and memory (R182 to R209). -/

namespace Sys2Proof.Machine
open Sys2Proof

/-! ### Lanes and registers (R183) -/

/-- Lanes set in a mask, ascending. -/
def lanesOf (m : BitVec 32) : List Nat := (List.range 32).filter (fun l => m.getLsbD l)

/-- The mask of a list of lanes. -/
def laneMask (ls : List Nat) : BitVec 32 := ls.foldl (fun m l => m ||| (1#32 <<< l)) 0

/-- t[r] of a lane. -/
def Group.t (g : Group) (l r : Nat) : Nat := (g.treg.get (64 * l + r % 64) 0).toNat

/-- The group with t[r] of a lane written. -/
def Group.setT (g : Group) (l r v : Nat) : Group := { g with treg := SMap.put (64 * l + r % 64) (BitVec.ofNat 32 v) g.treg }

/-- q[r] of a lane; q0 reads true. -/
def Group.q (g : Group) (l r : Nat) : Bool := if r = 0 then true else g.qreg.get (8 * l + r) false

/-- The group with q[r] of a lane written; q0 is not written. -/
def Group.setQ (g : Group) (l r : Nat) (v : Bool) : Group := if r = 0 then g else { g with qreg := SMap.put (8 * l + r) v g.qreg }

/-- Active lanes whose guard is true (R187). -/
def Group.guarded (g : Group) (w : Nat) : BitVec 32 := laneMask ((lanesOf g.active).filter (fun l => g.q l (VX.guard w) != VX.neg w))

/-- The group in a slot of Block p. -/
def State.grp (s : State) (p g : Nat) : Option Group := SMap.find g (s.blk p).vx

/-- The state with a slot's group replaced. -/
def State.setGrp (s : State) (p g : Nat) (x : Group) : State := s.onBlk p (fun b => { b with vx := SMap.put g x b.vx })

/-- The 64-bit word at an offset of the live half; zero where it cannot be corrected (R186, R298). [DEDUCED, log entry 33] -/
def IMem.fetch64 (m : IMem) (pc : Nat) : Nat :=
  if m.badAt (pc / 4) then 0 else (m.word m.live (pc / 4)).toNat + (m.word m.live (pc / 4 + 1)).toNat * 2 ^ 32

/-! ### Addresses and faults (R193, R196, R206, R207) -/

/-- A fault of the vector engine: nothing is performed; it is recorded and reported, and issue stops (R207). -/
def State.vecFault (s : State) (p g kind lane a : Nat) : State :=
  let pc := match s.grp p g with | some x => x.pc | none => 0
  let s := if s.rd F.BLK_VX_FAULT_KIND p = 0 then
      ((((s.wr F.BLK_VX_FAULT_KIND p 0 kind).wr F.BLK_VX_FAULT_SLOT p 0 g).wr F.BLK_VX_FAULT_LANE p 0 lane).wr F.BLK_VX_FAULT_PC_WORD p 0 (pc / 8)).wr
        F.BLK_VX_FAULT_ADDR_ADDR p 0 a
    else s
  (s.fault 0x0305 (pageIdx .blk p) a kind).onBlk p (fun b => { b with vxStopped := true })

/-- Context address of a lane's access (R193). -/
def Group.addr (x : Group) (w l : Nat) : Nat :=
  to64 (((x.t l (VX.a w) + x.t l (VX.a w + 1) * 2 ^ 32 : Nat) : Int) + VX.off w)

/-- Scratchpad address of a lane's access (R193). -/
def Group.spAddr (x : Group) (w l : Nat) : Nat := to64 ((x.t l (VX.a w) : Int) + VX.off w) % 2 ^ 20

/-- Kind of fault of a lane's context access, if any (R196, R206, R207): the lowest kind that holds. -/
def State.laneFault (s : State) (c a n : Nat) (sr write : Bool) : Option Nat :=
  match s.xlat c a sr write, s.xlat c (to64 (a + n - 1)) sr write with
  | some x, some y => if x.forbidden || y.forbidden then some 2 else if a / 32 ≠ (a + n - 1) / 32 then some 3 else none
  | _, _ => some 1

/-! ### Illegal encodings and uses (R208) -/

/-- An entry of a reconvergence stack whose fields are free values, of lanes that have not exited. -/
def freeEnt (v : List Nat) (i : Nat) (live : BitVec 32) : StackEnt :=
  ⟨v.getD i 0 % 2 ^ 13 * 8, BitVec.ofNat 32 (v.getD (i + 1) 0) &&& live, v.getD (i + 2) 0 % 2 ^ 13 * 8, BitVec.ofNat 32 (v.getD (i + 3) 0) &&& live⟩

/-- The undefined result for a group: its registers and predicates, which of its threads exit, run or wait at a barrier, its path, its stack, and free
stores to the context's regions, each with the checks and faults of any store. [DESIGN CHOICE, log entry 32] -/
def State.vecUndefined (s : State) (p g : Nat) : State :=
  match s.grp p g, s.plaza.run with
  | some x, some run =>
    let st := Config.freeStores s.free
    let s := st.foldl (fun s (a, n, v) =>
      match s.laneFault run.ctx (a % 2 ^ 64) (szBytes n) x.sr true with
      | some k => s.vecFault p g k (s.freeVal % 32) (a % 2 ^ 64)
      | none => (s.ctxWrite ⟨.vx p g, run.ctx, x.sr, x.cls, none⟩ .write (a % 2 ^ 64) (leBytes (szBytes n) v) []).1) s
    let (s, v) := s.frees (2048 + 224 + 5 + 64 + 64)
    let ex := x.exited ||| BitVec.ofNat 32 (v.getD 2272 0)
    let run := ~~~ex &&& BitVec.ofNat 32 (v.getD 2274 0)
    let wait := lanesOf (~~~ex &&& ~~~run &&& BitVec.ofNat 32 (v.getD 2275 0))
    s.setGrp p g { x with
      treg := mapFrom 0 ((v.take 2048).map (BitVec.ofNat 32))
      qreg := ((List.range 224).map (fun i => (8 * (i / 7) + i % 7 + 1, v.getD (2048 + i) 0 % 2 == 1)))
      pc := v.getD 2273 0 % 2 ^ 13 * 8, exited := ex, active := run
      stack := (List.range (v.getD 2276 0 % 17)).map (fun i => freeEnt v (2277 + 4 * i) (~~~ex))
      waits := wait.map (fun l => (l, v.getD (2341 + l) 0 % 2 ^ 13 * 8))
      waitBlk := wait.map (fun l => (l, v.getD (2373 + l) 0 % 2 == 1)) }
  | _, _ => s

/-- The group goes on at the next instruction. Running past the last word is an illegal use (R208). [DESIGN CHOICE, log entry 32] -/
def State.vecNext (s : State) (p g : Nat) : State :=
  match s.grp p g with
  | some x => if x.pc + 8 < 0x1_0000 then s.setGrp p g { x with pc := x.pc + 8 } else s.vecUndefined p g
  | none => s

/-- One vector instruction of a row (R187, R190): nothing where the group does not issue, its word is of another row, or a
register that it uses waits for a load; where `hold` answers, the group does not issue yet and that is the state; else the body acts on
the guard-true lanes. [DEDUCED, log entry 33] -/
def vecStepIf (p g : Nat) (op : VecOp) (hold : State → Group → Nat → BitVec 32 → Option State)
    (body : State → Group → Nat → BitVec 32 → State) (s : State) : Host.Outcome State Fault Refusal :=
  onUnit nBlks p s fun s =>
    match s.grp p g with
    | none => s
    | some x =>
      let w := (s.blk p).im.fetch64 x.pc
      if (s.blk p).core.running = false ∨ (s.blk p).vxStopped = true ∨ x.active = 0 ∨ VX.decode w ≠ some op then s
      else if x.loads.any (fun l => (List.range (VX.szRegs l.sz)).any (fun i => (VX.uses op w).contains (l.d + i))) then s
      else
        match hold s x w (x.guarded w) with
        | some t => t
        | none => body ((s.fetchErr p x.pc).inc F.BLK_VX_ISSUED p 0) x w (x.guarded w)

/-- One vector instruction of a row that nothing but its registers holds back. -/
def vecStep (p g : Nat) (op : VecOp) (body : State → Group → Nat → BitVec 32 → State) (s : State) : Host.Outcome State Fault Refusal :=
  vecStepIf p g op (fun _ _ _ _ => none) body s

/-- An instruction that gives each guard-true lane a value in t[D]. -/
def vecAlu (p g : Nat) (op : VecOp) (f : State → Group → Nat → Nat → Nat) (s : State) : Host.Outcome State Fault Refusal :=
  vecStep p g op (fun s x w gm =>
    (s.setGrp p g ((lanesOf gm).foldl (fun y l => y.setT l (VX.d w) (f s x w l)) x)).vecNext p g) s

/-- An instruction that gives each guard-true lane a predicate q[D[2:0]]. -/
def vecPred (p g : Nat) (op : VecOp) (f : Group → Nat → Nat → Bool) (s : State) : Host.Outcome State Fault Refusal :=
  vecStep p g op (fun s x w gm =>
    (s.setGrp p g ((lanesOf gm).foldl (fun y l => y.setQ l (VX.d w % 8) (f x w l)) x)).vecNext p g) s

/-- A format R integer operation on t[A] and t[B]. -/
def vecRR (p g : Nat) (op : VecOp) (f : Nat → Nat → Nat → Nat) (s : State) : Host.Outcome State Fault Refusal :=
  vecAlu p g op (fun _ x w l => f (VX.t w) (x.t l (VX.a w)) (x.t l (VX.b w))) s

/-! ### Floating operations (R188, R189) -/

/-- Element format of a type code: F32, BF16 or FP16. -/
def vecFmt (t : Nat) : Fmt := if t = 2 then Fmt.f32 else if t = 3 then Fmt.bf16 else Fmt.fp16

/-- An operation on one or two packed elements, rounded once. -/
def vecF (t : Nat) (f : FVal → FVal → FVal → FVal) (a b c : Nat) : Nat :=
  let m := vecFmt t
  let el (x h : Nat) : FVal := decodeF m (bitsOf x (16 * h) m.width)
  if t = 2 then encodeF m false (f (el a 0) (el b 0) (el c 0))
  else encodeF m false (f (el a 0) (el b 0) (el c 0)) + encodeF m false (f (el a 1) (el b 1) (el c 1)) * 2 ^ 16

/-- A floating operation on t[A], t[B] and t[C]. -/
def vecFF (p g : Nat) (op : VecOp) (f : FVal → FVal → FVal → FVal) (s : State) : Host.Outcome State Fault Refusal :=
  vecAlu p g op (fun _ x w l => vecF (VX.t w) f (x.t l (VX.a w)) (x.t l (VX.b w)) (x.t l (VX.c w))) s

/-- A special function of t[A] (R189): `f` gives the bits that the device returns, which R189 leaves open within 2 units in the last
place. [DESIGN CHOICE, log entry 31] -/
def vecSpecial (p g : Nat) (op : VecOp) (fn : SpecialFn) (f : Word → Word) (s : State) : Host.Outcome State Fault Refusal :=
  vecAlu p g op (fun _ x w l => specialF fn (x.t l (VX.a w)) (f (BitVec.ofNat 32 (x.t l (VX.a w))))) s

/-- A source of CVT: an integer or a floating value. -/
inductive CvtVal where
  | int (x : Int)
  | flt (v : FVal)
  deriving DecidableEq, Repr

/-- The source of half `h` of CVT by type. -/
def cvtSrc (t x h : Nat) : CvtVal :=
  match t with
  | 0 => .int x
  | 1 => .int (sext 32 x)
  | _ => .flt (decodeF (vecFmt t) (bitsOf x (16 * h) (vecFmt t).width))

/-- A CVT value in a destination type, one half. -/
def cvtDst (t : Nat) (sat : Bool) (v : CvtVal) : Nat :=
  match t, v with
  | 0, .int x => (max 0 (min (2 ^ 32 - 1) x)).toNat
  | 0, .flt v => (toIntSat 0 (2 ^ 32 - 1) v).toNat
  | 1, .int x => ((max (-2 ^ 31) (min (2 ^ 31 - 1) x)) % (2 ^ 32 : Int)).toNat
  | 1, .flt v => (toIntSat (-2 ^ 31) (2 ^ 31 - 1) v % (2 ^ 32 : Int)).toNat
  | 2, .int x => encodeF Fmt.f32 false (intF x)
  | 2, .flt v => encodeF Fmt.f32 false v
  | t, .int x => encodeF (vecFmt t) sat (intF x)
  | t, .flt v => encodeF (vecFmt t) sat v

/-- CVT from type `t` to type `u` (R189). -/
def cvt (t u : Nat) (sat : Bool) (x : Nat) : Nat :=
  if 3 ≤ t ∧ 3 ≤ u then cvtDst u sat (cvtSrc t x 0) + cvtDst u sat (cvtSrc t x 1) * 2 ^ 16
  else cvtDst u sat (cvtSrc t x 0)

/-- SETP comparison by condition: 0 EQ, 1 NE, 2 LT, 3 LE, 4 GT, 5 GE (R189). -/
def setp (t cond a b : Nat) : Bool :=
  let c : Option Int := match t with
    | 0 => some (if a < b then -1 else if a = b then 0 else 1)
    | 1 => some (if sext 32 a < sext 32 b then -1 else if a = b then 0 else 1)
    | _ => cmpF (decodeF Fmt.f32 a) (decodeF Fmt.f32 b)
  match c with
  | none => cond == 1
  | some c =>
    match cond with
    | 0 => c == 0
    | 1 => c != 0
    | 2 => decide (c < 0)
    | 3 => decide (c ≤ 0)
    | 4 => decide (0 < c)
    | _ => decide (0 ≤ c)

/-! ### Divergence and barriers (R197 to R202) -/

/-- Lanes that have not exited. -/
def Group.alive (x : Group) : List Nat := lanesOf (~~~x.exited)

/-- Offset at which every thread that has not exited waits, and whether at the Block barrier (R201, R202). -/
def Group.arrived (x : Group) : Option (Nat × Bool) :=
  match x.alive with
  | [] => none
  | l :: ls =>
    match SMap.find l x.waits with
    | none => none
    | some o => if ls.all (fun k => SMap.find k x.waits == some o) then some (o, x.waitBlk.get l false) else none

/-- A barrier's release: the waiting threads become active behind it. -/
def Group.release (x : Group) (o : Nat) : Group := { x with active := ~~~x.exited, pc := o + 8, waits := [], waitBlk := [] }

/-- The stack's part of settle (R198): a pending path runs, or entries are popped until threads are active; the threads active, the
offset and the stack after it, from an offset that stands where nothing is popped. -/
def settleStack (exited waiting : BitVec 32) : Nat → List StackEnt → BitVec 32 × Nat × List StackEnt
  | pc, [] => (0, pc, [])
  | _, e :: es =>
    if e.pendMask ≠ 0 then (e.pendMask, e.pendPc, { e with pendMask := 0 } :: es)
    else
      let a := e.mask &&& ~~~exited &&& ~~~waiting
      if a ≠ 0 then (a, e.rpc + 8, es) else settleStack exited waiting (e.rpc + 8) es

/-- A group with no active thread after the stack's part of settle. -/
def Group.unstack (x : Group) : Group :=
  let (a, pc, st) := settleStack x.exited (laneMask (x.waits.map (fun e => e.1))) x.pc x.stack
  { x with active := a, pc := pc, stack := st }

/-- Offset at which a group that has arrived at the Block barrier waits (R202). -/
def Group.atBlk (x : Group) : Option Nat := match x.arrived with | some (o, true) => some o | _ => none

/-- Slots of Block p whose group has not exited. -/
def State.liveGrps (s : State) (p : Nat) : SMap Group := (s.blk p).vx.filter (fun (e : Nat × Group) => e.2.alive != [])

/-- The release condition of the Block barrier (R202): every resident group that has not exited has arrived. -/
def State.blkReady (s : State) (p : Nat) : Bool := s.liveGrps p != [] && (s.liveGrps p).all (fun e => e.2.atBlk.isSome)

/-- The release of the Block barrier: each group continues behind its own BAR.B. -/
def State.blkRelease (s : State) (p : Nat) : State :=
  (s.liveGrps p).foldl (fun s e => match e.2.atBlk with | some o => s.setGrp p e.1 (e.2.release o) | none => s) s

/-- The Block barrier is released where its condition holds (R202). -/
def State.blkBarrier (s : State) (p : Nat) : State := if s.blkReady p then s.blkRelease p else s

/-- settle (R198) of group x, with no active thread, in a slot of Block p: the barrier at which its threads wait is released where its
condition holds, with the stack as it stands; else the stack settles. A group that has exited may leave the Block barrier to release (R202). -/
def State.settle (s : State) (p g : Nat) (x : Group) : State :=
  let w := s.setGrp p g x
  match x.arrived with
  | some (o, false) => s.setGrp p g (x.release o)
  | some (_, true) => if w.blkReady p then w.blkRelease p else s.setGrp p g x.unstack
  | none => (s.setGrp p g x.unstack).blkBarrier p

/-- An instruction at which the active threads wait (R201, R202); they wait only once the group's stores are complete. [DEDUCED, log entry 33] -/
def vecBar (p g : Nat) (op : VecOp) (blk : Bool) (s : State) : Host.Outcome State Fault Refusal :=
  vecStepIf p g op (fun s x _ _ => if x.stores ≠ [] then some s else none) (fun s x _ _ =>
    let ls := lanesOf x.active
    let x := { x with active := 0, waits := ls.foldl (fun m l => SMap.put l x.pc m) x.waits
                      waitBlk := ls.foldl (fun m l => SMap.put l blk m) x.waitBlk }
    (s.cycles F.BLK_VX_BAR_WAIT p).settle p g x) s

/-! ### Loads and stores (R192 to R196) -/

/-- Value that a load of SZ puts in its registers, from the bytes as a number (R193). -/
def vecExtend (z raw : Nat) : Nat :=
  match z with
  | 5 => (sext 8 raw % (2 ^ 32 : Int)).toNat
  | 6 => (sext 16 raw % (2 ^ 32 : Int)).toNat
  | _ => raw

/-- A loaded value in the registers of a lane. -/
def Group.putLoad (x : Group) (l d z raw : Nat) : Group :=
  let v := vecExtend z raw
  (List.range (VX.szRegs z)).foldl (fun x i => x.setT l (d + i) (bitsOf v (32 * i) 32)) x

/-- Bytes that a lane stores from its registers. -/
def Group.stored (x : Group) (l b z : Nat) : Nat :=
  (List.range (VX.szRegs z)).foldl (fun v i => v + x.t l (b + i) * 2 ^ (32 * i)) 0 % 2 ^ (8 * VX.szBytes z)

/-- Sectors, by number, that accesses at addresses touch. -/
def sectorsOf (as : List Nat) (n : Nat) : List Nat := ((as.map (fun a => (List.range n).map (fun i => (a + i) / 32))).flatten).eraseDups

/-- Sectors, by number, that scratchpad accesses at addresses touch; addresses wrap at 1 MiB (R211). -/
def spSectorsOf (as : List Nat) (n : Nat) : List Nat :=
  ((as.map (fun a => (List.range n).map (fun i => (a + i) % 2 ^ 20 / 32))).flatten).eraseDups

/-- Memory instructions of a group in flight (R190). -/
def Group.inFlight (x : Group) : Nat := x.loads.length + x.stores.length

/-- What holds back a memory instruction (R190, R214): eight memory instructions in flight, or a scratchpad bank asleep, which wakes. [DEDUCED, log entry 33] -/
def State.vecMemHold (s : State) (p : Nat) (x : Group) (w : Nat) (gm : BitVec 32) : Option State :=
  if 8 ≤ x.inFlight then some s
  else if VX.sp w = 0 then
    let secs := spSectorsOf ((lanesOf gm).map (fun l => x.spAddr w l)) (VX.szBytes (VX.sz w))
    match (secs.map (fun k => s.spAsleep p (32 * k) 32)).flatten.eraseDups with
    | [] => none
    | z => some (s.spWake p z)
  else none

/-- EXPIRY and latency mark of a group's reads (R192, R281). -/
def State.vecReq (s : State) (x : Group) (r : Req) : Req :=
  if x.lc then { r with cls := x.cls, lc := true, expiry := s.expiryOf x.deadline } else { r with cls := x.cls }

end Sys2Proof.Machine
end

