-- ==== Sys2Proof/Machine/Vector.lean ====
section
/-! DEFINITION. The instructions of the vector engine and the commands of VXQ (R169, R182 to R209). -/

namespace Sys2Proof.Machine
open Sys2Proof

/-- IADD (R189): sum modulo 2³². -/
def execIadd (p g : Nat) (s : State) : Host.Outcome State Fault Refusal :=
  vecRR p g .iadd (fun _ a b => a + b) s

/-- ISUB (R189): difference modulo 2³². -/
def execIsub (p g : Nat) (s : State) : Host.Outcome State Fault Refusal :=
  vecRR p g .isub (fun _ a b => a + 2 ^ 32 - b) s

/-- IMUL (R189): low 32 bits of the product. -/
def execImul (p g : Nat) (s : State) : Host.Outcome State Fault Refusal :=
  vecRR p g .imul (fun _ a b => a * b) s

/-- IMAD (R189): low 32 bits of t[A] × t[B] + t[C]. -/
def execImad (p g : Nat) (s : State) : Host.Outcome State Fault Refusal :=
  vecAlu p g .imad (fun _ x w l => x.t l (VX.a w) * x.t l (VX.b w) + x.t l (VX.c w)) s

/-- AND of the vector engine (R189). -/
def execVxAnd (p g : Nat) (s : State) : Host.Outcome State Fault Refusal :=
  vecRR p g .and (fun _ a b => a &&& b) s

/-- OR of the vector engine (R189). -/
def execVxOr (p g : Nat) (s : State) : Host.Outcome State Fault Refusal :=
  vecRR p g .or (fun _ a b => a ||| b) s

/-- XOR of the vector engine (R189). -/
def execVxXor (p g : Nat) (s : State) : Host.Outcome State Fault Refusal :=
  vecRR p g .xor (fun _ a b => a ^^^ b) s

/-- SHL (R189): left shift by t[B][4:0]. -/
def execShl (p g : Nat) (s : State) : Host.Outcome State Fault Refusal :=
  vecRR p g .shl (fun _ a b => a * 2 ^ (b % 32)) s

/-- SHR (R189): right shift by t[B][4:0], arithmetic for S32. -/
def execShr (p g : Nat) (s : State) : Host.Outcome State Fault Refusal :=
  vecRR p g .shr (fun t a b => if t = 1 then (sext 32 a / (2 ^ (b % 32) : Int) % (2 ^ 32 : Int)).toNat else a / 2 ^ (b % 32)) s

/-- MIN of the vector engine (R189), signed or unsigned by T. -/
def execVxMin (p g : Nat) (s : State) : Host.Outcome State Fault Refusal :=
  vecRR p g .min (fun t a b => if t = 1 then (if sext 32 a < sext 32 b then a else b) else Nat.min a b) s

/-- MAX of the vector engine (R189), signed or unsigned by T. -/
def execVxMax (p g : Nat) (s : State) : Host.Outcome State Fault Refusal :=
  vecRR p g .max (fun t a b => if t = 1 then (if sext 32 a < sext 32 b then b else a) else Nat.max a b) s

/-- SEL (R189): t[A] if q[C[2:0]] is true, else t[B]. -/
def execSel (p g : Nat) (s : State) : Host.Outcome State Fault Refusal :=
  vecAlu p g .sel (fun _ x w l => if x.q l (VX.c w % 8) then x.t l (VX.a w) else x.t l (VX.b w)) s

/-- MOVI of the vector engine (R189). -/
def execVxMovi (p g : Nat) (s : State) : Host.Outcome State Fault Refusal :=
  vecAlu p g .movi (fun _ _ w _ => VX.imm w) s

/-- IADDI (R189): t[A] + IMM32. -/
def execIaddi (p g : Nat) (s : State) : Host.Outcome State Fault Refusal :=
  vecAlu p g .iaddi (fun _ x w l => x.t l (VX.a w) + VX.imm w) s

/-- FADD (R189): the sum, rounded once. -/
def execFadd (p g : Nat) (s : State) : Host.Outcome State Fault Refusal :=
  vecFF p g .fadd (fun a b _ => addF a b) s

/-- FMUL (R189): the product, rounded once. -/
def execFmul (p g : Nat) (s : State) : Host.Outcome State Fault Refusal :=
  vecFF p g .fmul (fun a b _ => mulF a b) s

/-- FFMA (R189): t[A] × t[B] + t[C] with one rounding. -/
def execFfma (p g : Nat) (s : State) : Host.Outcome State Fault Refusal :=
  vecFF p g .ffma (fun a b c => addF (mulF a b) c) s

/-- FMIN (R189). -/
def execFmin (p g : Nat) (s : State) : Host.Outcome State Fault Refusal :=
  vecFF p g .fmin (fun a b _ => minF a b) s

/-- FMAX (R189). -/
def execFmax (p g : Nat) (s : State) : Host.Outcome State Fault Refusal :=
  vecFF p g .fmax (fun a b _ => maxF a b) s

/-- FRCP (R189): reciprocal. -/
def execFrcp (p g : Nat) (s : State) : Host.Outcome State Fault Refusal :=
  vecSpecial p g .frcp .rcp Config.frcp s

/-- FRSQ (R189): reciprocal square root. -/
def execFrsq (p g : Nat) (s : State) : Host.Outcome State Fault Refusal :=
  vecSpecial p g .frsq .rsq Config.frsq s

/-- FEXP2 (R189): power of two. -/
def execFexp2 (p g : Nat) (s : State) : Host.Outcome State Fault Refusal :=
  vecSpecial p g .fexp2 .exp2 Config.fexp2 s

/-- FLOG2 (R189): logarithm to base two. -/
def execFlog2 (p g : Nat) (s : State) : Host.Outcome State Fault Refusal :=
  vecSpecial p g .flog2 .log2 Config.flog2 s

/-- CVT (R189): from type T to type B[3:0], saturating with B[4]. -/
def execCvt (p g : Nat) (s : State) : Host.Outcome State Fault Refusal :=
  vecAlu p g .cvt (fun _ x w l => cvt (VX.t w) (VX.b w % 16) (bitOf (VX.b w) 4) (x.t l (VX.a w))) s

/-- SETP (R189). -/
def execSetp (p g : Nat) (s : State) : Host.Outcome State Fault Refusal :=
  vecPred p g .setp (fun x w l => setp (VX.t w) (VX.c w % 8) (x.t l (VX.a w)) (x.t l (VX.b w))) s

/-- PLOP (R189): AND, OR, XOR or ANDN of two predicates by C[1:0]. -/
def execPlop (p g : Nat) (s : State) : Host.Outcome State Fault Refusal :=
  vecPred p g .plop (fun x w l =>
    let a := x.q l (VX.a w % 8)
    let b := x.q l (VX.b w % 8)
    match VX.c w % 4 with
    | 0 => a && b
    | 1 => a || b
    | 2 => a != b
    | _ => a && !b) s

/-- VOTE (R187, R189): the mask of the guard-true active threads for which q[A[2:0]] is true. -/
def execVote (p g : Nat) (s : State) : Host.Outcome State Fault Refusal :=
  vecAlu p g .vote (fun _ x w _ => (laneMask ((lanesOf (x.guarded w)).filter (fun l => x.q l (VX.a w % 8)))).toNat) s

/-- SHFL (R189): t[A] of lane t[B][4:0], whatever that lane's guard. [DEDUCED, log entry 33] -/
def execShfl (p g : Nat) (s : State) : Host.Outcome State Fault Refusal :=
  vecAlu p g .shfl (fun _ x w l => x.t (x.t l (VX.b w) % 32) (VX.a w)) s

/-- A vector load from scratchpad (R193, R194, R214, R224): one access for each sector touched. -/
def State.vecLoadSp (s : State) (p g : Nat) (x : Group) (w : Nat) (gm : BitVec 32) : State :=
  let n := VX.szBytes (VX.sz w)
  let as := (lanesOf gm).map (fun l => x.spAddr w l)
  let secs := spSectorsOf as n
  let touched (k : Nat) : List Nat := ((as.map (fun a => (List.range n).map (fun i => (a + i) % 2 ^ 20))).flatten.filter (fun b => b / 32 == k)).eraseDups
  let s1 := secs.foldl (fun s k => (s.spReadL p spVec (touched k)).1) (s.inc F.BLK_VX_SECTORS p 0 secs.length)
  let byte (b : Nat) : Nat := if s.spServes p (s.spPlaceOf p b).1 spVec then (s.spByte p b).toNat else 0
  let y := (lanesOf gm).foldl (fun y l =>
    let a := x.spAddr w l
    y.putLoad l (VX.d w) (VX.sz w) ((List.range n).foldl (fun v i => v + byte (a + i) * 2 ^ (8 * i)) 0)) x
  (s1.setGrp p g y).vecNext p g

/-- First faulting lane of a context access, with its kind and address (R207). -/
def State.vecFaultOf (s : State) (c : Nat) (x : Group) (w : Nat) (gm : BitVec 32) (write : Bool) : Option (Nat × Nat × Nat) :=
  (lanesOf gm).findSome? (fun l =>
    (s.laneFault c (x.addr w l) (VX.szBytes (VX.sz w)) x.sr write).map (fun k => (k, l, x.addr w l)))

/-- A vector load from context space (R192 to R196, R239): lines of the L1 at once, the others as requests. -/
def State.vecLoadCtx (s : State) (p g c : Nat) (x : Group) (w : Nat) (gm : BitVec 32) : State :=
  let n := VX.szBytes (VX.sz w)
  match s.vecFaultOf c x w gm false with
  | some (k, l, a) => s.vecFault p g k l a
  | none =>
    let s := s.inc F.BLK_VX_SECTORS p 0 (sectorsOf ((lanesOf gm).map (fun l => x.addr w l)) n).length
    let parts := (lanesOf gm).filterMap (fun l => (s.xlat c (x.addr w l) x.sr false).map (fun t => (l, t)))
    let items : List VItem := parts.map (fun e => ⟨e.1, e.2.addr / 128, e.2.addr % 128, n⟩)
    let lines := (parts.map (fun e => (e.2.addr / 128, e.2.owner, e.2.keyh, e.2.limit))).eraseDups
    let s := lines.foldl (fun s e => s.l1Clean p e.1) s
    let got : SMap (BitVec 1024) := lines.foldl (fun m e => match s.l1Find p e.1 e.2.1 e.2.2.1 with | some y => SMap.put e.1 y.data m | none => m) []
    let (s, need, last) := lines.foldl (fun (acc : State × List Nat × Option Nat) e =>
      let (s, need, last) := acc
      let (l, o, h, lim) := e
      if (SMap.find l got).isSome then acc
      else
        let r := plainReq s (.vx p g) .read l (BitVec.allOnes 128) 0 o h (some c) 3
        let ra := last == some (l - 1) && decide (0 < l)
        (s.issue (s.vecReq x { r with ra := ra, raLimit := lim }), need ++ [s.nextReq], some l)) (s, [], x.lastMiss)
    let put (y : Group) (i : VItem) : Group := y.putLoad i.lane (VX.d w) (VX.sz w) (lineNat (got.get i.line 0) i.off i.size)
    let y := if need = [] then items.foldl put x
      else { x with loads := x.loads ++ [⟨VX.d w, VX.sz w, items, need, got⟩], lastMiss := last }
    (s.setGrp p g y).vecNext p g

/-- LD of the vector engine (R193). -/
def execVxLd (p g : Nat) (s : State) : Host.Outcome State Fault Refusal :=
  vecStepIf p g .ld (fun s x w gm => s.vecMemHold p x w gm) (fun s x w gm =>
    match s.plaza.run with
    | none => s
    | some run => if VX.sp w = 0 then s.vecLoadSp p g x w gm else s.vecLoadCtx p g run.ctx x w gm) s

/-- A vector store to scratchpad (R193, R194): the highest lane's value remains. -/
def State.vecStoreSp (s : State) (p g : Nat) (x : Group) (w : Nat) (gm : BitVec 32) : State :=
  let n := VX.szBytes (VX.sz w)
  let as := (lanesOf gm).map (fun l => x.spAddr w l)
  let secs := spSectorsOf as n
  let bytes : List (Nat × Byte) := ((lanesOf gm).map (fun l =>
    let a := x.spAddr w l
    (List.range n).map (fun i => ((a + i) % 2 ^ 20, BitVec.ofNat 8 (x.stored l (VX.b w) (VX.sz w) / 2 ^ (8 * i)))))).flatten
  let s := secs.foldl (fun s k => s.spWriteL p spVec (bytes.filter (fun e => e.1 / 32 == k))) (s.inc F.BLK_VX_SECTORS p 0 secs.length)
  (s.setGrp p g x).vecNext p g

/-- A vector store or reduction to context space (R192 to R196): one request for each sector; of stores to one byte that of the highest lane remains,
and a reduction carries the element of each thread. -/
def State.vecStoreCtx (s : State) (p g c : Nat) (x : Group) (w : Nat) (gm : BitVec 32) (op : ROp) : State :=
  let n := VX.szBytes (VX.sz w)
  match s.vecFaultOf c x w gm true with
  | some (k, l, a) => s.vecFault p g k l a
  | none =>
    let secs := sectorsOf ((lanesOf gm).map (fun l => x.addr w l)) n
    let s := s.inc F.BLK_VX_SECTORS p 0 secs.length
    let parts := (lanesOf gm).filterMap (fun l => (s.xlat c (x.addr w l) x.sr true).map (fun t => (l, x.addr w l, t)))
    let s := parts.foldl (fun (s : State) (e : Nat × Nat × Xlat) => s.noteWrite c e.2.2) s
    let data (e : Nat × Nat × Xlat) : BitVec 1024 := lineOf (e.2.2.addr % 128) n (x.stored e.1 (VX.b w) (VX.sz w))
    let mask (e : Nat × Nat × Xlat) : BitVec 128 := rangeMask (e.2.2.addr % 128) n
    let (s, ids) := secs.foldl (fun (acc : State × List Nat) k =>
      let (s, ids) := acc
      let es := parts.filter (fun (e : Nat × Nat × Xlat) => e.2.1 / 32 == k)
      match es with
      | [] => acc
      | e :: _ =>
        let t := e.2.2
        let l := t.addr / 128
        let (m, d) := es.foldl (fun (md : BitVec 128 × BitVec 1024) e => (md.1 ||| mask e, mergeLine md.2 (data e) (mask e))) (0, 0)
        let s := match op with | .write => s.l1Store p l m d | _ => s
        let r := plainReq s (.vx p g) op l m d t.owner t.keyh (some c) 3
        let parts := match op with | .write => [] | _ => es.map (fun e => (mask e, data e))
        (s.issue { r with parts := parts, cls := x.cls, shadow := decide (t.kind = 0), raLimit := t.limit }, ids ++ [s.nextReq])) (s, [])
    (s.setGrp p g (if ids = [] then x else { x with stores := x.stores ++ [ids] })).vecNext p g

/-- ST of the vector engine (R193). -/
def execVxSt (p g : Nat) (s : State) : Host.Outcome State Fault Refusal :=
  vecStepIf p g .st (fun s x w gm => s.vecMemHold p x w gm) (fun s x w gm =>
    match s.plaza.run with
    | none => s
    | some run => if VX.sp w = 0 then s.vecStoreSp p g x w gm else s.vecStoreCtx p g run.ctx x w gm .write) s

/-- RED (R195): each thread's value is combined at its context address. -/
def execRed (p g : Nat) (s : State) : Host.Outcome State Fault Refusal :=
  vecStepIf p g .red (fun s x w gm => s.vecMemHold p x w gm) (fun s x w gm =>
    match s.plaza.run with
    | none => s
    | some run => s.vecStoreCtx p g run.ctx x w gm (.reduce (VX.t w))) s

/-- BRA (R198, R200, R206): uniform, divergent under the top entry's point, or divergent with a new entry. One that finds the stack full counts as
divergent, and the lowest active lane is recorded. [DEDUCED, log entry 33] -/
def execBra (p g : Nat) (s : State) : Host.Outcome State Fault Refusal :=
  vecStep p g .bra (fun s x w gm =>
    let t := bitsOf (VX.imm w) 0 16
    let rpc := bitsOf (VX.imm w) 16 16
    let n := x.active &&& ~~~gm
    if n = 0 then s.setGrp p g { x with pc := t }
    else if gm = 0 then s.vecNext p g
    else
      let top := match x.stack with | e :: _ => some e.rpc | [] => none
      if top = some t ∧ top = some rpc then (s.inc F.BLK_VX_DIVERGE p 0).setGrp p g { x with active := n } |>.vecNext p g
      else if 16 ≤ x.stack.length then (s.inc F.BLK_VX_DIVERGE p 0).vecFault p g 4 ((lanesOf x.active).headD 0) 0
      else (s.inc F.BLK_VX_DIVERGE p 0).setGrp p g { x with active := gm, pc := t, stack := ⟨rpc, x.active, x.pc + 8, n⟩ :: x.stack }) s

/-- JOIN (R198): active threads at the top entry's point park, and the stack settles. -/
def execJoin (p g : Nat) (s : State) : Host.Outcome State Fault Refusal :=
  vecStep p g .join (fun s x _ _ =>
    match x.stack with
    | e :: _ => if e.rpc = x.pc then s.settle p g { x with active := 0 } else s.vecNext p g
    | [] => s.vecNext p g) s

/-- BAR.G (R201): the active threads wait at the group barrier. -/
def execBarG (p g : Nat) (s : State) : Host.Outcome State Fault Refusal := vecBar p g .barG false s

/-- BAR.B (R202): the active threads wait at the Block barrier. -/
def execBarB (p g : Nat) (s : State) : Host.Outcome State Fault Refusal := vecBar p g .barB true s

/-- EXIT (R198, R199, R202): the guard-true threads exit; a barrier that waited for them is released. -/
def execExit (p g : Nat) (s : State) : Host.Outcome State Fault Refusal :=
  vecStep p g .exit (fun s x _ gm =>
    let x := { x with exited := x.exited ||| gm, active := x.active &&& ~~~gm
                      stack := x.stack.map (fun e => { e with mask := e.mask &&& ~~~gm, pendMask := e.pendMask &&& ~~~gm }) }
    if x.active = 0 then s.settle p g x
    else (s.setGrp p g x).vecNext p g) s

/-- RDSR (R185). -/
def execRdsr (p g : Nat) (s : State) : Host.Outcome State Fault Refusal :=
  vecAlu p g .rdsr (fun s x w l =>
    match bitsOf w 0 4 with
    | 0 => l
    | 1 => x.num
    | 2 => x.groups
    | 3 => s.rdid p 0
    | 4 => s.logicalAll
    | 5 => s.rdid p 2
    | 6 => s.frame
    | _ => s.now) s

/-- Element of a GMMA operand: +0.0 in a lane that does not take part (R204, R205). -/
def gmmaElem (x : Group) (gm : BitVec 32) (t r i k : Nat) : FVal :=
  let l := 4 * i + k / 2
  let f := if t = 0 then Fmt.bf16 else if t = 1 then Fmt.e4m3 else Fmt.e5m2
  let sh := if t = 0 then 16 else 8
  if gm.getLsbD l then decodeF f (bitsOf (x.t l r) (sh * (k % 2)) sh) else .fin false 0 0

/-- GMMA (R204, R205): D = C + A × B, each element rounded once. -/
def execGmma (p g : Nat) (s : State) : Host.Outcome State Fault Refusal :=
  vecStep p g .gmma (fun s x w gm =>
    let y := (lanesOf gm).foldl (fun y l => (List.range 2).foldl (fun y h =>
      let i := l / 4
      let j := 2 * (l % 4) + h
      let ps := (List.range 8).map (fun k => mulF (gmmaElem x gm (VX.t w) (VX.a w) i k) (gmmaElem x gm (VX.t w) (VX.b w) j k))
      y.setT l (VX.d w + h) (encodeF Fmt.f32 false (sumF (ps ++ [decodeF Fmt.f32 (x.t l (VX.c w + h))])))) y) x
    ((s.inc F.BLK_VX_GMMA p 0).setGrp p g y).vecNext p g) s

/-- VX_LOAD_RETURN (R22, R190, R239): the k-th answer that can arrive next for a load of the group; a load with every line writes its registers. -/
def execVxLoadReturn (p g k : Nat) (s : State) : Host.Outcome State Fault Refusal :=
  onUnit nBlks p s fun s =>
    match s.grp p g with
    | none => s
    | some x =>
      match ((s.arrived p).filter (fun r => x.loads.any (fun l => l.need.contains r.req.id)))[k]? with
      | none => s
      | some r =>
        let s := { s with resps := s.resps.filter (fun q => q.req.id != r.req.id) }
        let loads := x.loads.map (fun l =>
          if l.need.contains r.req.id then { l with need := l.need.filter (fun i => i != r.req.id), got := SMap.put r.req.line r.data l.got } else l)
        let y := (loads.filter (fun l => l.need == [])).foldl (fun y l =>
          l.items.foldl (fun (y : Group) i => y.putLoad i.lane l.d l.sz (lineNat (l.got.get i.line 0) i.off i.size)) y) x
        s.setGrp p g { y with loads := loads.filter (fun l => l.need != []) }

/-- GROUP_RETIRE (R182): a group that has exited and whose stores are complete frees its slot. -/
def execGroupRetire (p g : Nat) (s : State) : Host.Outcome State Fault Refusal :=
  onUnit nBlks p s fun s =>
    match s.grp p g with
    | none => s
    | some x => if x.alive = [] ∧ x.stores = [] then (s.onBlk p (fun b => { b with vx := SMap.del g b.vx })).blkBarrier p else s

/-- A new group (R183). -/
def newGroup (s : State) (e : QEntry) (num : Nat) : Group :=
  let c := e.cmd
  { ord := e.ord, num := num, groups := EC.fld c 6 0 5, cls := s.cmdClass c, lc := EC.lc c, sr := EC.sr c, deadline := EC.deadline c
    pc := EC.fld c 4 0 16, active := BitVec.allOnes 32, exited := 0, waits := [], waitBlk := [], stack := []
    treg := ((List.range 32).map (fun l => (List.range 4).map (fun i => (64 * l + i, BitVec.ofNat 32 (EC.fld c (8 + 4 * i) 0 32))))).flatten
    qreg := [], loads := [], stores := [], lastMiss := none }

/-- VLAUNCH (R169, R182, R183): GROUPS free slots, lowest first, receive the groups of the launch. A reserved GROUPS, or an ENTRY
that is no place of vector code, gives an undefined result. -/
def execVlaunch (p : Nat) (s : State) : Host.Outcome State Fault Refusal :=
  onUnit nBlks p s fun s => s.takeHead p .vxq 0x20 (fun s e =>
    let n := EC.fld e.cmd 6 0 5
    let s := s.onInFlight p e.ord (fun f => { f with started := true })
    if n = 0 ∨ 16 < n ∨ EC.fld e.cmd 4 0 16 % 8 ≠ 0 then
      match s.plaza.run with
      | some run => s.undefinedCmd p ⟨.vx p 0, run.ctx, EC.sr e.cmd, s.cmdClass e.cmd, none⟩ spVec
      | none => s
    else
      let free := (List.range 16).filter (fun g => (s.grp p g).isNone)
      ((List.range n).foldl (fun s i => s.setGrp p (free.getD i 0) (newGroup s e i)) s).cycles F.BLK_VX_IDLE p)

/-- ILLEGAL_VECTOR_ENCODING (R208): a group meets an illegal encoding; its result is undefined. [DESIGN CHOICE, log entry 32] -/
def execIllegalVectorEncoding (p g : Nat) (s : State) : Host.Outcome State Fault Refusal :=
  onUnit nBlks p s fun s =>
    match s.grp p g with
    | none => s
    | some x =>
      if (s.blk p).core.running = false ∨ (s.blk p).vxStopped = true ∨ x.active = 0 ∨ VX.decode ((s.blk p).im.fetch64 x.pc) ≠ none then s
      else ((s.fetchErr p x.pc).inc F.BLK_VX_ISSUED p 0).vecUndefined p g

end Sys2Proof.Machine
end

