-- ==== Sys2Proof/Machine/Errors.lean ====
section
/-! DEFINITION. Error reports, correctable-error tables, the error queue, injection, and bond-field windows (R299 to R323). -/

namespace Sys2Proof.Machine
open Sys2Proof

/-- Codes of R312. -/
def errCodes : List Nat :=
  [0x0101, 0x0102, 0x0103, 0x0104, 0x0105, 0x0106, 0x0107, 0x0108, 0x0109, 0x0201, 0x0202, 0x0203, 0x0301, 0x0302, 0x0303, 0x0304,
   0x0305, 0x0306, 0x0307, 0x0401, 0x0402, 0x0501, 0x0502, 0x0503, 0x0504, 0x0505, 0x0506, 0x0507, 0x0508, 0x0601, 0x0602]

/-- A bond-field parity report is counted by its field, and the slice discards the request that met it (R249, R319). [DEDUCED, log entry 44] -/
def State.parityReport (s : State) (r : Report) : State :=
  match pageOf r.page with
  | some (.bond, f) =>
    let s := s.parityError f (r.addr / 16)
    if f < 128 then s.onSlc f (fun sl => { sl with parity := some (r.addr / 16) }) else s
  | some (.slc, n) => (s.parityError n (r.addr / 16)).onSlc n (fun sl => { sl with parity := some (r.addr / 16) })
  | _ => s

/-- A 32-bit register of Block p takes the zero that is delivered in its place (R300): one of the core, an event counter, or one of a
resident group, by a free choice, since the spec does not say what ADDR of a register error holds. [DESIGN CHOICE, log entry 37] -/
def State.zeroReg (s : State) (p : Nat) : State :=
  let v := s.freeVal
  let s := s.used
  match v % 3 with
  | 0 => s.onCore p (fun c =>
      let r := v / 3 % 31 + 1
      let w := (c.sreg.get r 0).toNat
      { c with sreg := SMap.put r (BitVec.ofNat 64 (if v / 93 % 2 = 0 then w / 2 ^ 32 * 2 ^ 32 else w % 2 ^ 32)) c.sreg })
  | 1 => s.onBlk p (fun b => { b with q := { b.q with ec := SMap.put (v / 3 % 16) 0 b.q.ec } })
  | _ =>
    match s.pickFree (s.blk p).vx with
    | (s, some (g, x)) => s.onBlk p (fun b => { b with vx := SMap.put g (x.setT (v / 3 % 32) (v / 96 % 64) 0) b.vx })
    | (s, none) => s

/-- A 32-bit word of the arrays of Block p takes the zero that is delivered in its place (R300): of a weight buffer, an accumulator set or
the oldest row-slot of the feeder queues, by a free choice. [DESIGN CHOICE, log entry 37] -/
def State.zeroArray (s : State) (p : Nat) : State :=
  let v := s.freeVal
  let s := s.used
  let i := v / 3 % 8
  s.onMx p (fun m => match v % 3 with
    | 0 => match SMap.find i m.bufs with
      | some b => { m with bufs := SMap.put i { b with image := (b.image.zip (List.range b.image.length)).map (fun e => if e.2 / 4 = v / 24 % 512 then 0 else e.1) } m.bufs }
      | none => m
    | 1 => match SMap.find i m.accs with
      | some a =>
        let row := v / 24 % 512
        match SMap.find row a.rows with
        | some ws => { m with accs := SMap.put i { a with rows := SMap.put row (ws.set (v / 12288 % 32) 0) a.rows } m.accs }
        | none => m
      | none => m
    | _ => match m.feed with
      | f :: fs => { m with feed := { f with elems := putBits f.elems (32 * (v / 24 % 16)) 32 0 } :: fs }
      | [] => m)

/-- `n` bytes of an answer on its way to a requester of a context take the zero that is delivered in their place (R300), by a free choice. [DESIGN CHOICE, log entry 37] -/
def State.zeroResp (s : State) (c : Option Nat) (n : Nat) : State :=
  let v := s.freeVal
  match s.used.pickFree ((s.resps.filter (fun r => c.isSome && r.req.ctx == c)).map (fun r => r.req.id)) with
  | (s, some id) => { s with resps := s.resps.map (fun r => if r.req.id = id then { r with data := r.data &&& ~~~(lineOf (n * (v % (128 / n))) n (2 ^ (8 * n) - 1)) } else r) }
  | (s, none) => s

/-- The zero that a unit delivers in place of bytes that it cannot correct (R300), for an error reported from outside the model. [DESIGN CHOICE, log entry 37] -/
def State.zeroStruck (s : State) (r : Report) : State :=
  match r.code, pageOf r.page with
  | 0x0103, some (.blk, p) => s.zeroReg p
  | 0x0104, some (.blk, p) => s.zeroArray p
  | 0x0105, _ => s.zeroResp r.ctx 16
  | 0x0109, _ => s.zeroResp r.ctx 32
  | _, _ => s

/-- ERROR_REPORT (R300, R310): a unit's report with a code of R312 enters the fault record and the queue, and zero stands for the bytes that
were struck. The error queue's page reports an uncorrectable error of its own storage, which is FATAL (R298, R315). [DEDUCED, log entry 37; DEDUCED, log entry 44] -/
def execErrorReport (r : Report) (s : State) : Host.Outcome State Fault Refusal :=
  .next (if errCodes.contains r.code then
      if r.page = pageIdx .errq 0 ∧ 0x0101 ≤ r.code ∧ r.code ≤ 0x0109 then s.fatal 2
      else if r.code = 0x0201 then (s.parityReport r).report r
      else (s.zeroStruck r).report r
    else s)

/-- A correction is counted in the unit's own CE counter, where its page has one (R299). -/
def State.countCe (s : State) (c unit : Nat) : State :=
  match c with
  | 0 => if unit < nBlks then s.inc F.BLK_SP_CE unit 0 else s
  | 2 => if unit < nSlices then s.inc F.SLC_CE unit 0 else s
  | 3 => if unit < nSlices then s.inc F.SLC_CE unit 0 else s
  | 4 => if unit < 16 then s.inc F.MEMC_CE unit 0 else s
  | _ => s

/-- CE_TABLE_UPDATE (R299, R303): a correction of one of the six memory classes is counted and enters its table. -/
def execCeTableUpdate (c unit addr syndrome : Nat) (s : State) : Host.Outcome State Fault Refusal :=
  onUnit 6 c s fun s => (s.countCe c unit).ceTable c unit addr syndrome

/-- ERRQ.POP is written 1: the head entry is removed. -/
def State.popHead (s : State) (src : Source) : State :=
  if s.mayWrite src then { s with errq := { s.errq with entries := s.errq.entries.tail } } else s

/-- POP (R313). -/
def execPop (src : Source) (s : State) : Host.Outcome State Fault Refusal := onSrc src <| .next (s.popHead src)

/-- ERRQ.FATAL_SET is written 1. [DEDUCED, log entry 44] -/
def State.fatalWrite (s : State) (src : Source) : State := if s.mayWrite src then s.fatal 4 else s

/-- FATAL_SET (R315). -/
def execFatalSet (src : Source) (s : State) : Host.Outcome State Fault Refusal := onSrc src <| .next (s.fatalWrite src)

/-- A write of INJ_PAGE and INJ_KIND: other pages than BLK, SLC and MEMC ignore it, other kinds drop it. -/
def State.injectWrite (s : State) (src : Source) (v : Nat) : State :=
  let k := bitsOf v 16 2
  if s.mayWrite src = false then s
  else if k ≠ 1 ∧ k ≠ 2 then s.cfgReject .errq 0
  else match pageOf (bitsOf v 0 16) with
    | some (.blk, p) => s.onBlk p (fun b => { b with sp := { b.sp with inject := k } })
    | some (.slc, n) => s.onSlc n (fun sl => { sl with inject := k })
    | some (.memc, g) => s.onMem g (fun m => { m with inject := k })
    | _ => s

/-- ERROR_INJECT (R323). -/
def execErrorInject (src : Source) (v : Word) (s : State) : Host.Outcome State Fault Refusal := onSrc src <| .next (s.injectWrite src v.toNat)

/-- Whether the window of a bond field has run out: WINDOW ticks have come since it began (R318). -/
def State.windowOver (s : State) (n : Nat) : Bool := decide (s.windows.get n 0 + s.rd F.BOND_WINDOW n ≤ s.plaza.ticks)

/-- BOND_WINDOW (R318): field n has corrected `wires`; where its window has run out, every count is cleared and the next window begins. [DEDUCED, log entry 45] -/
def execBondWindow (n : Nat) (wires : List Nat) (s : State) : Host.Outcome State Fault Refusal :=
  onUnit 144 n s fun s =>
    let s := wires.foldl (fun s w => s.wireCe n w) s
    if s.windowOver n then
      let s := forN 16 s (fun s i => s.wr F.BOND_TRACK_COUNT n i 0)
      { s with parity := s.parity.filter (fun (e : Nat × Nat) => e.1 / 4096 != n), windows := SMap.put n s.plaza.ticks s.windows }
    else s

end Sys2Proof.Machine
end

