-- ==== Sys2Proof/Machine/ExtMem.lean ====
section
/-! DEFINITION. Steps of the memory controllers: line requests, keys, check bursts, refresh, training, the layout lock and the
host window (R254 to R278, R283, R285 to R287). -/

namespace Sys2Proof.Machine
open Sys2Proof

/-- HELD_ADMIT (R287): bank b of controller d frees a slot, and the oldest HELD request for it is admitted. -/
def execHeldAdmit (d bank : Nat) (s : State) : Host.Outcome State Fault Refusal :=
  onUnit nDist d s fun s =>
    match bestBy (GMiss.older s) ((s.groupMiss d).filter (fun x => x.2.stage == .held && s.bankOf d x.2.line == bank)) with
    | none => s
    | some x => if s.bankSlots d bank < 64 ∧ s.slotRoom d x.2 then s.toSlot d x.1 x.2 else s

/-! ### Service (R268, R284, R286) -/

/-- LINE_REQUEST (R268): controller d takes the requests that its slots and caps admit, and issues the next column command: of a write while
it writes, else for the read that its rules pick. [DEDUCED, log entry 40] -/
def execLineRequest (d : Nat) (s : State) : Host.Outcome State Fault Refusal :=
  onUnit nDist d s fun s =>
    let s := s.offerSlots d
    if s.writeMode d then s.serveWrite d
    else
      match s.pickMode d with
      | (s, none) => s
      | (s, some (x, aged)) => s.serveColumn d x.1 x.2 aged

/-- KEY_FETCH (R266): the key of handle h that a waiting request of controller d needs is fetched. -/
def execKeyFetch (d h : Nat) (s : State) : Host.Outcome State Fault Refusal :=
  onUnit nDist d s fun s =>
    match (s.groupMiss d).find? (fun x => x.2.keyWait && x.2.keyh == h) with
    | none => s
    | some _ =>
      (List.range 8).foldl (fun s i => s.onSlc (8 * d + i) (fun sl =>
        { sl with miss := sl.miss.map (fun m => if m.keyh = h then { m with keyWait := false } else m) })) (s.keyLoad d h)

/-- CHECK_MISS (R262): the check burst that the oldest waiting request of controller d needs is fetched. -/
def execCheckMiss (d : Nat) (s : State) : Host.Outcome State Fault Refusal :=
  onUnit nDist d s fun s =>
    match bestBy (GMiss.older s) ((s.groupMiss d).filter (fun x => x.2.checkWait)) with
    | none => s
    | some x =>
      let k := s.checkOf d x.2.line
      let t := s.checkLoad d k
      (List.range 8).foldl (fun t i => t.onSlc (8 * d + i) (fun sl =>
        { sl with miss := sl.miss.map (fun m => if s.checkOf d m.line = k then { m with checkWait := false } else m) })) t

/-- Whether a request in a slot, or a write, is for a bank of a controller. -/
def State.bankUsed (s : State) (g b : Nat) : Bool := decide (0 < s.bankSlots g b)

/-- ROW_IDLE_CLOSE (R268): a bank that has been idle for 64 cycles closes its row; one for which a request waits is not idle. [DEDUCED, log entry 40] -/
def execRowIdleClose (d bank : Nat) (s : State) : Host.Outcome State Fault Refusal :=
  onUnit nDist d s fun s => if s.bankUsed d bank then s else s.onMem d (fun m => { m with rows := SMap.del bank m.rows })

/-! ### Refresh, drift and training (R270 to R275) -/

/-- Banks of a channel. -/
def State.chanBanks (s : State) (g : Nat) : Nat := if (s.mem g).twoRanks then 32 else 16

/-- REFRESH (R270, R271): controller d refreshes the next bank of channel c, which is unavailable for 140 ns, under the multiplier that MR4
requested last, or the forced one, which is in use from then on. A channel in self-refresh takes none (R274, R275). [DEDUCED, log entry 40] -/
def execRefresh (d c : Nat) (s : State) : Host.Outcome State Fault Refusal :=
  onUnit nDist d s fun s =>
    if c < 4 ∧ s.rd F.MEMC_CHAN_EXCLUDED d c = 0 ∧ (s.mem d).selfRefresh = false ∧ (s.mem d).retrain.contains c = false then
      let m := if s.rd F.MEMC_REFRESH_FORCE d = 1 then s.rd F.MEMC_REFRESH_FORCE_MULT d else (s.mem d).mr4.get c 2
      let b := (s.mem d).refBank.get c 0
      let s := s.onMem d (fun x => { x with refBank := SMap.put c ((b + 1) % s.chanBanks d) x.refBank, busy := SMap.put (32 * c + b) (s.now + 14) x.busy })
      (s.wr F.MEMC_REFRESH_MULT d c m).emit "REFpb" [d, c, b, m]
    else s

/-- MR4 of the ranks of channel c: the highest multiplier code that a rank requests, and whether a rank is above the rated range. Rank r of the channel
has place 2c + r in both lists. [DEDUCED, log entry 40] -/
def State.mr4Of (s : State) (g : Nat) (mults : List Nat) (hot : List Bool) (c : Nat) : Nat × Bool :=
  let rs := if (s.mem g).twoRanks then [2 * c, 2 * c + 1] else [2 * c]
  ((rs.map (fun i => min 4 (mults.getD i 2))).foldl max 0, rs.any (fun i => hot.getD i false))

/-- MR4_READ (R270): controller d reads MR4 of every rank of its channels: the multiplier codes that they request, and which are above the
rated range, which are refreshed at 4×. [DEDUCED, log entry 40] -/
def execMr4Read (d : Nat) (mults : List Nat) (hot : List Bool) (s : State) : Host.Outcome State Fault Refusal :=
  onUnit nDist d s fun s =>
    let cs := s.chansOf d
    let s := cs.foldl (fun s c =>
      let (x, h) := s.mr4Of d mults hot c
      (s.wr F.MEMC_CHAN_HOT d c (b2n h)).onMem d (fun m => { m with mr4 := SMap.put c (if h then 4 else x) m.mr4 })) s
    if cs.any (fun c => (s.mr4Of d mults hot c).2) then (s.setEvt .memc d 4).event 0x0506 (pageIdx .memc d) 0 else s

/-- DRIFT_TRACK (R274): controller d corrects drift on channel c; a correction beyond the range puts the channel in self-refresh
and retrains it. -/
def execDriftTrack (d c : Nat) (exceeds : Bool) (s : State) : Host.Outcome State Fault Refusal :=
  onUnit nDist d s fun s =>
    if s.locked = true ∧ exceeds = true ∧ (s.chansOf d).contains c = true ∧ (s.mem d).retrain.contains c = false
    then s.onMem d (fun m => { m with retrain := c :: m.retrain }) else s

/-- CHANNEL_RETRAIN (R274): the retraining of channel c ends; its requests resume, and a failure is reported. -/
def execChannelRetrain (d c : Nat) (ok : Bool) (s : State) : Host.Outcome State Fault Refusal :=
  onUnit nDist d s fun s =>
    if (s.mem d).retrain.contains c then
      let s := (s.onMem d (fun m => { m with retrain := m.retrain.filter (fun x => x != c) })).setEvt .memc d 6
      if ok then s else s.event 0x0507 (pageIdx .memc d) 0
    else s

/-- CHANNEL_TRAINING (R272, R275): controller d trains its channels. One that fails is excluded before the lock, and only
reported after it. [DEDUCED, log entry 42] -/
def execChannelTraining (d : Nat) (pass : List Bool) (s : State) : Host.Outcome State Fault Refusal :=
  onUnit nDist d s fun s =>
    let s := if (s.mem d).retrain = [] then s else s.onMem d (fun m => { m with retrain := [] })
    (s.chansOf d).foldl (fun s c =>
      if pass.getD c false then s.wr F.MEMC_CHAN_TRAINED d c 1
      else
        let s := (s.wr F.MEMC_CHAN_TRAINED d c 0).setEvt .memc d 7
        if s.locked then s else s.wr F.MEMC_CHAN_EXCLUDED d c 1) s

/-! ### The layout lock (R256, R257) -/

/-- Length of a group's range: 15/16 of the capacity of its channels in service (R256). -/
def State.rangeSize (s : State) (g : Nat) : Nat := (s.mem g).chanGiB * 2 ^ 26 * 15 * (s.chansOf g).length

/-- Every range is computed and fixed (R256, R257). [DEDUCED, log entry 42] -/
def State.lockLayout (s : State) : State :=
  if s.locked then s
  else
    let t := (List.range nDist).foldl (fun (acc : State × Nat) g =>
      let z := s.rangeSize g
      let t := (acc.1.wr F.MEMC_RANGE_BASE_BASE g 0 acc.2).wr F.MEMC_RANGE_SIZE_SIZE g 0 z
      (if (s.chansOf g).length = 4 then t else t.inc F.TOP_CAPS_GEN 0 0, acc.2 + z)) (s, 0)
    t.1.wr F.MEMC_LAYOUT_LOCKED 0 0 1

/-- LOCK (R257): a write of 1 to LAYOUT.LOCK. -/
def execLock (src : Source) (s : State) : Host.Outcome State Fault Refusal := onSrc src <|
  .next (if s.mayWrite src then s.lockLayout else s)

/-! ### The host window (R276, R277) -/

/-- Whether window accesses complete with Unsupported Request status: before READY, before the lock, or while MEMIF is not ON. -/
def State.windowShut (s : State) : Bool := s.rd F.TOP_STATUS_READY == 0 || !s.locked || s.rd F.DOM_STATE 29 != 2

/-- Whether the quadrant of a line's home slice is ON (R420). -/
def State.quadOn (s : State) (l : Nat) : Bool :=
  match s.homeOf l with
  | some n => s.rd F.DOM_STATE (24 + n / 32) == 2
  | none => true

/-- A read of the window carries RA where its line is the line after that of the window's previous read; the window holds no line, so that each of
its reads is a read miss of its own (R291). [DEDUCED, log entry 43] -/
def State.windowRead (s : State) (port l lo k : Nat) : State × List Byte :=
  match s.homeOf l with
  | none => (s, List.replicate k 0)
  | some _ =>
    let ra := (s.port port).winMiss == some (l - 1) && decide (0 < l)
    let s := s.onPort port (fun k => { k with winMiss := some l })
    let (s, d) := s.access { plainReq s (.host port) .read l (rangeMask lo k) 0 0x3401 0x1401 none 1 with ra := ra }
    (s, lineBytes d lo k)

/-- A window access to memory: of `n` bytes at device address a (R276, R277, R301). -/
def State.windowServe (s : State) (port a n : Nat) (data : Option (List Byte)) : State :=
  let ps := pieces a n
  match data with
  | some bs => ps.foldl (fun s (l, lo, k, o) =>
      if (s.homeOf l).isNone then s else s.writeBytes (.host port) .write 0x3401 0x1401 none false (l * 128 + lo) ((bs.drop o).take k) 1) s
  | none =>
    let bad := ps.any (fun (l, _, _, _) => s.lineBad l 0x3401 0x1401)
    let (s, bs) := ps.foldl (fun (acc : State × List Byte) (l, lo, k, _) =>
      let (s, bs) := acc.1.windowRead port l lo k
      (s, acc.2 ++ bs)) (s, [])
    s.emit (if bad then "CplD poisoned" else "CplD") [port] bs

/-- HOST_WINDOW_ACCESS (R276, R277): a read of `len` bytes, or a write of `data`, at window offset w of a port. An access to a bucket that is being
drained waits until the drain ends (R251). [DEDUCED, log entry 42] -/
def execHostWindowAccess (port w : Nat) (data : Option (List Byte)) (len : Nat) (s : State) : Host.Outcome State Fault Refusal :=
  onUnit 2 port s fun s =>
    let n := match data with | some bs => bs.length | none => len
    let a := s.rd F.PCIE_BAR2_MAP_BASE port * 0x1_0000 + w
    let ps := pieces a n
    let s := s.wr F.PCIE_LINK_L1 port 0 0
    if 2 ^ (s.port port).bar2 < w + n then s
    else if s.windowShut || ps.any (fun (l, _, _, _) => !s.quadOn l) then (if data.isNone then s.emit "UR" [port] else s)
    else
      let s := if ps.any (fun (l, _, _, _) => (s.homeOf l).isNone) then s.inc F.PCIE_WIN_HOLE port 0 else s
      if ps.any (fun (l, _, _, _) => (s.drainer l).isSome) then { s with winWait := s.winWait ++ [(port, a, data, n)] }
      else s.windowServe port a n data

/-- Window accesses that waited for a drain are served, those of a bucket that another slice still drains excepted (R251). -/
def State.windowResume (s : State) : State :=
  let ready := s.winWait.filter (fun w => !((pieces w.2.1 w.2.2.2).any (fun (l, _, _, _) => (s.drainer l).isSome)))
  ready.foldl (fun s w => s.windowServe w.1 w.2.1 w.2.2.2 w.2.2.1) { s with winWait := s.winWait.filter (fun w => !(ready.contains w)) }

/-- RETIRED (R251): the drain of slice n ends; `unreadable` lists the lines that it could not read. [DEDUCED, log entry 39] -/
def execRetired (n : Nat) (unreadable : List Nat) (s : State) : Host.Outcome State Fault Refusal :=
  onUnit nSlices n s fun s =>
    if s.rd F.SLC_SLICE_STATE_MODE n = 2 then
      let s := s.settleSlice n
      let s := ((s.slc n).lines).foldl (fun s x => s.drainLine n unreadable x) s
      let s := s.onSlc n (fun sl => { sl with moved := [] })
      ((s.wr F.SLC_SLICE_STATE_MODE n 0 3).setEvt .slc n 7).windowResume
    else s

end Sys2Proof.Machine
end

