-- ==== Sys2Proof/Machine/DataMove.lean ====
section
/-! DEFINITION. The Block DMA's copies and the gather engines' gathers and scatters (R158, R170 to R172, R290, R295). -/

namespace Sys2Proof.Machine
open Sys2Proof

/-! ### The stream prefetcher (R290, R292) -/

/-- A prefetch of the line at a context address, on behalf of a demand at address `d`: dropped where the region ends. -/
def State.streamPrefetch (s : State) (p : Nat) (u : Accessor) (d a : Nat) : State :=
  match s.xlat u.ctx d u.sr false, s.xlat u.ctx a u.sr false with
  | some x, some y =>
    if x.idx = y.idx then
      match s.homeOf (y.addr / 128) with
      | some n =>
        let r := { plainReq s .engine (.prefetch true) (y.addr / 128) 0 0 y.owner y.keyh none 3 with id := s.nextReq, cls := u.cls }
        ({ s with nextReq := s.nextReq + 1 }.inc F.BLK_PF_STREAM_SENT p 0).offer n r
      | none => s
    else s.inc F.BLK_PF_DROP_BOUNDARY p 0
  | some _, none => s.inc F.BLK_PF_DROP_BOUNDARY p 0
  | none, _ => s

/-- Pieces of all rows of a copy at context addresses: context address and bytes. -/
def rowPieces (base stride rows n : Nat) : List (Nat × Nat) :=
  ((List.range rows).map (fun r => (pieces (base + 32 * r * stride) n).map (fun (l, lo, k, _) => (l * 128 + lo, k)))).flatten

/-- Demand reads of a copy in order, with prefetches at most `depth` lines ahead. -/
def State.dmaReads (p : Nat) (u : Accessor) (depth : Nat) : List (Nat × Nat) → State → CmdFaults → State × List Byte × CmdFaults
  | [], s, fs => (s, [], fs)
  | (a, k) :: es, s, fs =>
    let s := match es.drop (depth - 1) with
      | e :: _ => if depth = 0 then s else s.streamPrefetch p u a e.1
      | [] => s
    let (s, bs, fs) := s.pieceRead u a k fs
    let (s, rest, fs) := State.dmaReads p u depth es s fs
    (s, bs ++ rest, fs)

/-- The source of a copy at a context address, row after row (R170, R290). -/
def State.dmaSource (s : State) (p : Nat) (u : Accessor) (base stride rows n : Nat) : State × List Byte × CmdFaults :=
  let depth := s.rd F.BLK_PF_CFG_DEPTH_EFF p
  let ps := rowPieces base stride rows n
  let s := match ps with
    | e :: es => (es.take (depth - 1)).foldl (fun s x => s.streamPrefetch p u e.1 x.1) s
    | [] => s
  State.dmaReads p u depth ps s []

/-! ### DCOPY (R170, R171) -/

namespace DC
def srcKind (c : Cmd) : Nat := EC.fld c 4 0 2
def dstKind (c : Cmd) : Nat := EC.fld c 4 2 2
def redop (c : Cmd) : Nat := EC.fld c 4 4 4
def rows (c : Cmd) : Nat := EC.fld c 5 0 16
def rowBytes (c : Cmd) : Nat := EC.fld c 7 0 24
def src (c : Cmd) : Nat := EC.fld c 10 0 48
def dst (c : Cmd) : Nat := EC.fld c 16 0 48
def srcStride (c : Cmd) : Nat := EC.fld c 22 0 24
def dstStride (c : Cmd) : Nat := EC.fld c 25 0 24

/-- Whether source and destination bytes of one space overlap (R170). -/
def overlap (c : Cmd) : Bool :=
  srcKind c == dstKind c && (List.range (rows c)).any (fun n => (List.range (rows c)).any (fun m =>
    decide (src c + 32 * n * srcStride c < dst c + 32 * m * dstStride c + rowBytes c)
      && decide (dst c + 32 * m * dstStride c < src c + 32 * n * srcStride c + rowBytes c)))

/-- Whether a copy uses no reserved code and breaks no obligation of R170 and R171, whose breach leaves its result undefined. -/
def ok (c : Cmd) : Bool :=
  let z := redSize (redop c)
  decide (srcKind c < 2) && decide (dstKind c < 3) && decide (redop c < 7)
    && (redop c == 0 || (dstKind c == 1 && rowBytes c % z == 0 && src c % z == 0 && dst c % z == 0))
    && (srcKind c != 0 || decide (src c < 2 ^ 20)) && (dstKind c != 0 || decide (dst c < 2 ^ 20))
    && (dstKind c != 2 || (dst c % 4 == 0 && decide (dst c < 0x1_0000))) && !overlap c
end DC

/-- Write operation of a reduction code. -/
def redOp (redop : Nat) : ROp := if redop = 0 then .write else .reduce redop

/-- A byte of the idle half is written. -/
def IMem.putByte (m : IMem) (h a : Nat) (v : Byte) : IMem :=
  m.putWord h (a / 4) (BitVec.ofNat 32 (putBits (m.word h (a / 4)).toNat (8 * (a % 4)) 8 v.toNat))

/-- An external write of bytes to the idle half, or its refusal (R147). [DEDUCED, log entry 30] -/
def State.imemWrite (s : State) (p a : Nat) (bs : List Byte) : State :=
  let m := (s.blk p).im
  if m.idle = .open then
    let h := 1 - m.live
    s.imWrite p h (a / 4) (fun m => (((List.range bs.length).zip bs).foldl (fun (m : IMem) e =>
      if a + e.1 < 0x1_0000 then m.putByte h (a + e.1) e.2 else m) m).foul h)
  else s.setEvt .blk p 8

/-- The effect of a DCOPY in the frame of a context. [DEDUCED, log entry 30] -/
def State.doCopy (s : State) (p ord : Nat) (c : Cmd) (u : Accessor) : State :=
  let n := DC.rowBytes c
  let (s, data, fs) :=
    if DC.srcKind c = 1 then s.dmaSource p u (DC.src c) (DC.srcStride c) (DC.rows c) n
    else
      let (s, bs) := (List.range (DC.rows c)).foldl (fun (acc : State × List Byte) r =>
        let (s, bs) := acc.1.spGet p (spDma ord) (DC.src c + 32 * r * DC.srcStride c) n
        (s, acc.2 ++ bs)) (s, [])
      (s, bs, [])
  let row (r : Nat) : List Byte := (data.drop (r * n)).take n
  let (s, fs) := (List.range (DC.rows c)).foldl (fun (acc : State × CmdFaults) r =>
    let (s, fs) := acc
    let a := DC.dst c + 32 * r * DC.dstStride c
    match DC.dstKind c with
    | 0 => (s.spPut p (spDma ord) a (row r), fs)
    | 1 => s.ctxWrite u (redOp (DC.redop c)) a (row r) fs
    | _ => (s.imemWrite p a (row r), fs)) (s, fs)
  s.cmdFaults p ord (pageIdx .blk p) fs

/-- Who a command of Block p acts for. -/
def State.cmdUser (s : State) (src : Src) (c : Cmd) : Option Accessor :=
  s.plaza.run.map (fun run => ⟨src, run.ctx, EC.sr c, s.cmdClass c, if EC.lc c then some (EC.deadline c) else none⟩)

/-- DCOPY (R158, R170): the Block DMA takes it and moves its rows; the copy is one step. -/
def execDcopy (p : Nat) (s : State) : Host.Outcome State Fault Refusal :=
  onUnit nBlks p s fun s => s.takeHead p .dxq 0x30 (fun s e =>
    match s.cmdUser (.dma p) e.cmd with
    | none => s
    | some u =>
      let s := if DC.rows e.cmd = 0 ∨ DC.rowBytes e.cmd = 0 then s
        else if DC.ok e.cmd then s.doCopy p e.ord e.cmd u else s.undefinedCmd p u (spDma e.ord)
      s.cmdDone p e.ord)

/-! ### Gather engines (R158, R172, R295) -/

/-- Whether a part of a dispatch holds the count tables of all parts (R114). -/
def Part.ready (x : Part) : Bool := (List.range x.parts).all (fun k => x.tables.any (fun t => t.part == k))

/-- The gather engine may start its next queued command: no placement is ready (R114). -/
def Gather.free (g : Gather) : Bool := !(g.parts.any Part.ready)

/-- A command of an opcode moves to and through its engine (R158, R164): the one of Block p at the front of the buffer is
performed; else the engine takes the Block's DXQ head, and performs it if it stands at the front. [DEDUCED, log entry 29] -/
def State.engineStep (s : State) (p op : Nat) (act : State → GCmd → State) : State :=
  let d := distOf p
  let front (s : State) : Option GCmd :=
    match (s.gath d).inbound with
    | c :: _ => if c.blk = p ∧ EC.opcode c.cmd = op ∧ (s.gath d).free = true then some c else none
    | [] => none
  let run (s : State) : Option State := (front s).map (fun c => act (s.onGath d (fun g => { g with inbound := g.inbound.tail })) c)
  if (s.blk p).core.running = false then s
  else
    match run s with
    | some t => t
    | none =>
      let s := s.takeHead p .dxq op (fun s e => s.onGath d (fun g => { g with inbound := g.inbound ++ [⟨p, e.ord, e.cmd⟩] }))
      (run s).getD s

namespace DG
def idx (c : Cmd) : Nat := EC.fld c 4 0 15
def idxW (c : Cmd) : Nat := if EC.fld c 4 15 1 = 0 then 2 else 4
def scatter (c : Cmd) : Bool := EC.fld c 6 0 1 != 0
def localCtx (c : Cmd) : Bool := EC.fld c 6 1 1 != 0
def redop (c : Cmd) : Nat := EC.fld c 6 2 4
def count (c : Cmd) : Nat := EC.fld c 7 0 16
def rowBytes (c : Cmd) : Nat := EC.fld c 9 0 16
def table (c : Cmd) : Nat := EC.fld c 11 0 48
def tstride (c : Cmd) : Nat := EC.fld c 17 0 24
def localBase (c : Cmd) : Nat := EC.fld c 20 0 48
def lstride (c : Cmd) : Nat := EC.fld c 26 0 16
/-- Whether a DGATHER uses no reserved code and breaks no obligation. -/
def ok (c : Cmd) : Bool :=
  let z := redSize (redop c)
  decide (redop c < 7) && (redop c == 0 || (scatter c && rowBytes c % z == 0 && table c % z == 0 && localBase c % z == 0))
    && (localCtx c || decide (localBase c < 2 ^ 20))
end DG

/-- First byte of a context range outside every region of the context, if any. -/
def State.outside (s : State) (u : Accessor) (a n : Nat) (write : Bool) : Option Nat :=
  (pieces a n).findSome? (fun (l, lo, _, _) => if (s.xlat u.ctx (l * 128 + lo) u.sr write).isNone then some (l * 128 + lo) else none)

/-- The packed row n of a DGATHER is read. -/
def State.localRead (s : State) (p : Nat) (c : Cmd) (u : Accessor) (unit : SpUnit) (n : Nat) (fs : CmdFaults) : State × List Byte × CmdFaults :=
  let a := DG.localBase c + 32 * n * DG.lstride c
  if DG.localCtx c then s.ctxRead u a (DG.rowBytes c) fs
  else let (s, bs) := s.spGet p unit a (DG.rowBytes c); (s, bs, fs)

/-- Bytes of the packed row n of a DGATHER are written from byte o of the row on. -/
def State.localWrite (s : State) (p : Nat) (c : Cmd) (u : Accessor) (unit : SpUnit) (n o : Nat) (bs : List Byte) (fs : CmdFaults) : State × CmdFaults :=
  let a := DG.localBase c + 32 * n * DG.lstride c + o
  if DG.localCtx c then s.ctxWrite u .write a bs fs else (s.spPut p unit a bs, fs)

/-- The parts of a context range that regions hold, as place in the range and bytes (R48). -/
def State.inside (s : State) (u : Accessor) (a n : Nat) (write : Bool) : List (Nat × Nat) :=
  (pieces a n).filterMap (fun (l, lo, k, o) => if (s.xlat u.ctx (l * 128 + lo) u.sr write).isSome then some (o, k) else none)

/-- An entry of a gather engine's window (R295): the table row that it names, and the row's bytes if it has been fetched whole. -/
abbrev Window := List (Nat × Option (List Byte))

/-- One row of a gather (R48, R172, R295): a row named again within the window of 256 entries is copied without a fetch; of a row that lies
outside the regions in part, the parts that regions hold are copied; one that lies outside them whole is skipped. [DEDUCED, log entry 30] -/
def State.gatherRow (s : State) (p d ord : Nat) (c : Cmd) (u : Accessor) (n i : Nat) (win : Window) (fs : CmdFaults) :
    State × CmdFaults × Window :=
  let a := DG.table c + 32 * i * DG.tstride c
  match win.findSome? (fun e => if e.1 = i then e.2 else none) with
  | some bs =>
    let (s, fs) := ((s.inc F.GATH_G_MERGED d 0).inc F.GATH_G_ROWS d 0).localWrite p c u (spGath d ord) n 0 bs fs
    (s, fs, ((i, some bs) :: win).take 255)
  | none =>
    match s.outside u a (DG.rowBytes c) false with
    | none =>
      let (s, bs, fs) := (s.inc F.GATH_G_ROWS d 0).ctxRead u a (DG.rowBytes c) fs
      let (s, fs) := s.localWrite p c u (spGath d ord) n 0 bs fs
      (s, fs, ((i, some bs) :: win).take 255)
    | some x =>
      let ps := s.inside u a (DG.rowBytes c) false
      let s := if ps = [] then s else s.inc F.GATH_G_ROWS d 0
      let (s, fs) := ps.foldl (fun (acc : State × CmdFaults) (o, k) =>
        let (s, bs, fs) := acc.1.ctxRead u (a + o) k acc.2
        s.localWrite p c u (spGath d ord) n o bs fs) (s, fs.note 0x0303 x)
      (s, fs, ((i, none) :: win).take 255)

/-- One row of a scatter (R48, R172): a table row that lies outside the regions whole is skipped. -/
def State.scatterRow (s : State) (p d ord : Nat) (c : Cmd) (u : Accessor) (n i : Nat) (fs : CmdFaults) : State × CmdFaults :=
  let a := DG.table c + 32 * i * DG.tstride c
  match s.outside u a (DG.rowBytes c) true, s.inside u a (DG.rowBytes c) true with
  | some x, [] => (s, fs.note 0x0303 x)
  | _, _ =>
    let (s, row, fs) := (s.inc F.GATH_G_ROWS d 0).localRead p c u (spGath d ord) n fs
    s.ctxWrite u (redOp (DG.redop c)) a row fs

/-- The effect of a DGATHER (R172): rows in ascending n. [DEDUCED, log entry 30; DEDUCED, log entry 43] -/
def State.doGather (s : State) (p d ord : Nat) (c : Cmd) (u : Accessor) : State :=
  let w := DG.idxW c
  let (s, bs) := s.spGet p (spGath d ord) (32 * DG.idx c) (w * DG.count c)
  let idx (n : Nat) : Nat := leNat ((bs.drop (w * n)).take w)
  let (s, fs, _) := (List.range (DG.count c)).foldl (fun (acc : State × CmdFaults × Window) n =>
    let (s, fs, win) := acc
    if DG.scatter c then
      let (s, fs) := s.scatterRow p d ord c u n (idx n) fs
      (s, fs, win)
    else s.gatherRow p d ord c u n (idx n) win fs) (s, [], [])
  s.cmdFaults p ord (pageIdx .gath d) fs

/-- DGATHER (R158, R172): through the engine's inbound buffer, and in its turn performed. -/
def execDgather (p : Nat) (s : State) : Host.Outcome State Fault Refusal :=
  onUnit nBlks p s fun s => s.engineStep p 0x31 (fun s e =>
    let d := distOf p
    match s.cmdUser (.gath d) e.cmd with
    | none => s
    | some u =>
      let s := if DG.count e.cmd = 0 ∨ DG.rowBytes e.cmd = 0 then s
        else if DG.ok e.cmd then s.doGather p d e.ord e.cmd u else s.undefinedCmd p u (spGath d e.ord)
      s.cmdDone p e.ord)

end Sys2Proof.Machine
end

