-- ==== Sys2Proof/Machine/Fabric.lean ====
section
/-! DEFINITION. Fabric ports: packets, sending, landing, staging, lanes and training (R173, R349, R381 to R406). -/

namespace Sys2Proof.Machine
open Sys2Proof

/-! ### Ports -/

/-- Whether a port is ACTIVE. -/
def State.fabActive (s : State) (p : Nat) : Bool := s.rd F.FAB_STATE p == 3

/-- ACTIVE ports. -/
def State.activePorts (s : State) : List Nat := (List.range 8).filter s.fabActive

/-- Fabric mode: FABRIC is not OFF (R438). -/
def State.fabricMode (s : State) : Bool := s.domState 28 != 0

/-- Cold hold in force (R402, R440). -/
def State.coldHold (s : State) : Bool := s.rd F.THM_STATE_COLD == 2 && s.fabricMode

/-- Packet types (R383). -/
def PT.data : Nat := 1
def PT.landed : Nat := 2
def PT.commit : Nat := 3
def PT.abort : Nat := 4
def PT.slotFree : Nat := 5
def PT.time : Nat := 6
def PT.ctrl : Nat := 8
def PT.hello : Nat := 9
def PT.rekey : Nat := 10
def PT.lane : Nat := 11

/-- A control packet of length 0. -/
def ctlPkt (type add : Nat) (final : Bool) (dest src xtag frame : Nat) : TxPkt := ⟨type, add, final, 0, dest, src, xtag, frame % 2 ^ 32, 0, 0, []⟩

/-- Receive cells that a packet uses (R385). -/
def TxPkt.cells (k : TxPkt) : Nat := if k.type = PT.data then (k.len + 7) / 8 else 0

/-- The header fields of a packet in the order of R382. -/
def TxPkt.fields (k : TxPkt) (seq ack : Nat) (nak : Bool) (credit : Nat) (epoch : Bool) : List Nat :=
  [k.type, k.add, b2n k.final, k.len, k.dest, k.src, k.xtag, k.frame, k.off, k.pad, seq, ack, b2n nak, credit, b2n epoch]

/-- Places of those fields in the header: word and bit (R382). -/
def hdrPlaces : List (Nat × Nat) :=
  [(0, 0), (0, 4), (0, 6), (0, 8), (0, 16), (1, 0), (1, 16), (2, 0), (3, 0), (3, 27), (4, 0), (4, 12), (4, 24), (4, 25), (4, 31)]

/-- The 20 bytes of a header (R382). -/
def hdrBytes (fs : List Nat) : List Byte :=
  (List.range 5).flatMap (fun w => leBytes 4 (((fs.zip hdrPlaces).filter (fun e => e.2.1 == w)).map (fun e => e.1 * 2 ^ e.2.2)).sum)

/-- The bytes of a packet (R382, R384): header, payload sealed under the session's key (in clear with a zero tag for HELLO, and before there is a
session), tag, CRC-32. [DEDUCED, log entry 53] -/
def FabPort.sealed (f : FabPort) (k : TxPkt) (hdr : List Nat) : List Byte :=
  let body := hdrBytes hdr ++ (match f.link with
    | some l =>
      if k.type = PT.hello then k.payload ++ List.replicate 16 0
      else gcmBox (leBytes 32 l.tx.toNat) (leBytes 4 l.salt.toNat ++ leBytes 8 f.txCount) (hdrBytes hdr) k.payload
    | none => k.payload ++ List.replicate 16 0)
  body ++ leBytes 4 (crc32 body)

/-- A packet leaves a port: its port, its header fields in the order of R382, and its bytes before error correction. [DEDUCED, log entry 53] -/
def State.emitPkt (s : State) (p : Nat) (hdr : List Nat) (wire : List Byte) : State := s.emit "FAB" (p :: hdr) wire

/-- A port sends a packet (R384 to R386): it takes the next SEQ, acknowledges, returns credit, and enters the replay buffer. -/
def State.txOn (s : State) (p : Nat) (k : TxPkt) (nak : Bool := false) : State :=
  let f := s.fport p
  let c := min 63 f.owed
  let hdr := k.fields f.txSeq ((f.rxSeq + 4095) % 4096) nak c f.txEpoch
  let wire := f.sealed k hdr
  let s := s.inc F.FAB_TX_PKTS p 0
  let s := s.onFport p (fun f => { f with
    txSeq := (f.txSeq + 1) % 4096, replay := f.replay ++ [⟨f.txSeq, k, hdr, wire, 0⟩], owed := f.owed - c
    txCount := f.txCount + 1, credits := f.credits - k.cells })
  s.emitPkt p hdr wire

/-- Whether a port can send a packet now: ACTIVE, at most 2,048 unacknowledged, credits for its cells (R385, R386). -/
def State.canSend (s : State) (p : Nat) (k : TxPkt) : Bool :=
  s.fabActive p && decide ((s.fport p).replay.length < 2048) && decide (k.cells ≤ (s.fport p).credits)

/-- A control packet is sent on some ACTIVE port, or waits for one (R387). [DEDUCED, log entry 53] -/
def State.sendCtl (s : State) (k : TxPkt) : State :=
  match s.pickFree ((List.range 8).filter (fun p => s.canSend p k)) with
  | (s, some p) => s.txOn p k
  | (s, none) => s.onFab (fun f => { f with waiting := f.waiting ++ [k] })

/-- Waiting control packets are offered again. -/
def State.flushCtl (s : State) : State :=
  let ks := s.fab.waiting
  ks.foldl State.sendCtl (s.onFab (fun f => { f with waiting := [] }))

/-- Device number of this device (R406). -/
def State.node (s : State) : Nat := s.rd F.FAB0_NODE

/-- Destinations in effect (R395). -/
def State.dests (s : State) : List Nat := (List.range 16).filter (fun d => s.rd F.FAB0_DEST_VALID_EFF 0 d == 1)

/-- Device number of destination d. -/
def State.destNode (s : State) (d : Nat) : Nat := s.rd F.FAB0_DEST_NODE_EFF 0 d

/-- COMMIT for a frame goes to every destination (R395). -/
def State.sendCommit (s : State) (frame : Nat) : State :=
  s.dests.foldl (fun s d => s.sendCtl (ctlPkt PT.commit 0 false (s.destNode d) s.node 0 frame)) s

/-- An abort marker for a frame of a context goes to every destination, if the context uses the fabric (R53, R317). -/
def State.sendAbort (s : State) (c frame : Nat) (final : Bool) : State :=
  if (s.ctx c).num 0x008 4 % 2 = 1 then
    s.dests.foldl (fun s d => s.sendCtl (ctlPkt PT.abort 0 final (s.destNode d) s.node 0 frame)) s
  else s

/-- A port leaves ACTIVE (R387): unacknowledged control packets are to be sent again, DATA is lost; it trains, waits with COLD_HELD
under cold hold (R402), or stays as named. -/
def State.portLose (s : State) (p newState : Nat) : State :=
  let f := s.fport p
  let ctl := (f.replay.map (fun u => u.pkt)).filter (fun k => k.type == PT.commit || k.type == PT.abort || k.type == PT.slotFree)
  let s := if s.fabActive p then s.setEvt .fab p 5 else s
  let s := s.onFport p (fun f => { FabPort.reset with bad := f.bad, barred := f.barred })
  let wait := decide (newState = 1) && s.coldHold
  let s := (s.wr F.FAB_STATE p 0 (if wait then 0 else newState)).wr F.FAB_COLD_HELD p 0 (b2n wait)
  let s := (s.wr F.FAB_LANES_GOOD p 0 0).wr F.FAB_SPARE_GOOD p 0 0
  ctl.foldl State.sendCtl s

/-- Legacy mode (R400). -/
def State.legacy (s : State) : Bool := s.rd F.FAB0_LEGACY == 1

/-- The port resends from its oldest packet, the sealed bytes unchanged (R386); after eight resends of one SEQ it retrains, or in legacy mode goes DOWN. -/
def State.resend (s : State) (p : Nat) : State :=
  let f := s.fport p
  match f.replay with
  | [] => s
  | u :: _ =>
    if 8 ≤ u.resends then s.portLose p (if s.legacy then 0 else 1)
    else
      let s := s.inc F.FAB_RESENDS p 0 f.replay.length
      let s := s.onFport p (fun f => { f with replay := f.replay.map (fun u => { u with resends := u.resends + 1 }) })
      f.replay.foldl (fun s u => s.emitPkt p u.hdr u.wire) s

/-! ### Receiving (R384 to R386) -/

/-- What a received header says of this end's own packets: acknowledgement, resend request, credit. -/
def State.rxAck (s : State) (p : Nat) (k : Pkt) : State :=
  let s := s.onFport p (fun f =>
    let rest := match f.replay.findIdx? (fun u => u.seq == k.ack % 4096) with | some i => f.replay.drop (i + 1) | none => f.replay
    { f with replay := rest, credits := min 1024 (f.credits + k.credit) })
  if k.nak then s.resend p else s

/-- A packet is discarded; at the first of a gap the port answers with NAK (R386). -/
def State.nakPkt (s : State) (p : Nat) : State :=
  if (s.fport p).gap = false ∧ s.canSend p (ctlPkt PT.ctrl 0 false 0 0 0 0) = true then
    (s.onFport p (fun f => { f with gap := true })).txOn p (ctlPkt PT.ctrl 0 false 0 0 0 0) true
  else s

/-- A packet passes the link layer of port p and acts; out of order it is discarded. Cells that it used are owed to the peer, and
a CTRL returns 32 or more. [DEDUCED, log entry 53] -/
def State.accept (s : State) (p : Nat) (k : Pkt) (act : State → State) : State :=
  let f := s.fport p
  if s.fabActive p = false then s
  else if k.seq % 4096 ≠ f.rxSeq then (if (k.seq + 4096 - f.rxSeq) % 4096 < 2048 then s.nakPkt p else s)
  else if k.epoch ≠ f.rxEpoch ∧ k.epoch ≠ f.txEpoch then (s.inc F.FAB_AUTH_ERR p 0).nakPkt p
  else
    let s := s.onFport p (fun f => { f with
      rxSeq := (f.rxSeq + 1) % 4096, gap := false, rxCount := if k.epoch = f.rxEpoch then f.rxCount + 1 else 1
      oldLink := if k.epoch = f.rxEpoch then f.oldLink else none, rxEpoch := k.epoch, owed := f.owed + (if k.type = PT.data then (k.len + 7) / 8 else 0) })
    let s := (act ((s.inc F.FAB_RX_PKTS p 0).rxAck p k)).flushCtl
    let ctl := ctlPkt PT.ctrl 0 false 0 0 0 0
    if 32 ≤ (s.fport p).owed ∧ s.canSend p ctl = true then s.txOn p ctl else s

/-- CTRL (R385): acknowledgement and credit only. -/
def execCtrl (p : Nat) (k : Pkt) (s : State) : Host.Outcome State Fault Refusal :=
  onUnit 8 p s fun s => s.accept p k (fun s => s)

/-- BAD_PACKET (R383, R386): why 0 CRC, 1 SEQ order, 2 tag, 4 CRC in a codeword that FEC
cannot correct (R381): discarded with NAK; 3 reserved TYPE: acknowledged and counted. [DEDUCED, log entry 53] -/
def execBadPacket (p why : Nat) (k : Pkt) (s : State) : Host.Outcome State Fault Refusal :=
  onUnit 8 p s fun s =>
    if s.fabActive p = false then s
    else match why with
      | 0 => (s.inc F.FAB_CRC_ERR p 0).nakPkt p
      | 1 => s.nakPkt p
      | 2 => (s.inc F.FAB_AUTH_ERR p 0).nakPkt p
      | 4 => ((s.inc F.FAB_FEC_UNCORR p 0).inc F.FAB_CRC_ERR p 0).nakPkt p
      | _ => s.accept p k (fun s => s.inc F.FAB_RX_BAD p 0)

/-- RETRY_TIMEOUT (R386): no acknowledgement for 2 µs. -/
def execRetryTimeout (p : Nat) (s : State) : Host.Outcome State Fault Refusal :=
  onUnit 8 p s fun s => if s.fabActive p then s.resend p else s

/-! ### Sending (R173, R388 to R390) -/

namespace FS
def srcKind (c : Cmd) : Nat := EC.fld c 4 0 2
def add (c : Cmd) : Nat := EC.fld c 4 2 2
def dest (c : Cmd) : Nat := EC.fld c 5 0 15
def src (c : Cmd) : Nat := EC.fld c 8 0 48
def len (c : Cmd) : Nat := EC.fld c 14 0 32
def off (c : Cmd) : Nat := EC.fld c 18 0 32
/-- No reserved code, and STAGE_OFF a multiple of 32 (R173). -/
def ok (c : Cmd) : Bool := decide (srcKind c < 2) && decide (add c < 3) && decide (off c % 32 = 0) && (srcKind c != 0 || decide (src c < 2 ^ 20))
end FS

/-- Flights on a port. -/
def State.flightsOn (s : State) (p : Nat) : List Flight := (s.fab.sends.map (fun d => d.flights)).flatten.filter (fun x => x.port == p)

/-- Free transmit tags of a port (R279). -/
def State.freeTags (s : State) (p : Nat) : Nat := 2048 - ((s.flightsOn p).map (fun x => x.tags)).sum

/-- First tags of runs of n free tags: at 0 or right after a run in use. -/
def State.tagRuns (s : State) (p n : Nat) : List Nat :=
  let fs := s.flightsOn p
  (0 :: fs.map (fun x => x.tag + x.tags)).filter (fun t => decide (t + n ≤ 2048) && fs.all (fun x => decide (t + n ≤ x.tag) || decide (x.tag + x.tags ≤ t)))

/-- A send in progress is changed. -/
def State.onSend (s : State) (blk ord : Nat) (f : Send → Send) : State :=
  s.onFab (fun b => { b with sends := b.sends.map (fun d => if d.blk = blk ∧ d.ord = ord then f d else d) })

/-- The port that takes a packet of n cells: of those that can, one with the most free tags (R388). -/
def State.pickPort (s : State) (n : Nat) : State × Option Nat :=
  let k : TxPkt := ⟨PT.data, 0, false, 8 * n, 0, 0, 0, 0, 0, 0, []⟩
  let ps := (List.range 8).filter (fun p => s.canSend p k && !(s.tagRuns p n).isEmpty)
  let top := (ps.map s.freeTags).foldl max 0
  s.pickFree (ps.filter (fun p => s.freeTags p == top))

/-- The prefetch that a send's source line at `x` brings about: of the line `k` ahead, if the source reaches it (R290). -/
def State.sendAhead (s : State) (d : Send) (u : Accessor) (x k : Nat) : State :=
  if k = 0 ∨ FS.src d.cmd + FS.len d.cmd ≤ 128 * (x / 128 + k) then s else s.streamPrefetch d.blk u x (128 * (x / 128 + k))

/-- Bytes of a send's source at a context address, `n` of them from `pos` on, with the faults met. The prefetches look ahead over the
whole source, past the packet's end (R290). -/
def State.sendSource (s : State) (d : Send) (u : Accessor) (n : Nat) : State × List Byte × CmdFaults :=
  let depth := s.rd F.BLK_PF_CFG_DEPTH_EFF d.blk
  let a := FS.src d.cmd + d.pos
  let s := if d.pos = 0 then (List.range (depth - 1)).foldl (fun s k => s.sendAhead d u a (k + 1)) s else s
  (pieces a n).foldl (fun (acc : State × List Byte × CmdFaults) (l, lo, k, _) =>
    let x := l * 128 + lo
    let s := if lo = 0 ∨ x = FS.src d.cmd then acc.1.sendAhead d u x depth else acc.1
    let (s, bs, fs) := s.pieceRead u x k acc.2.2
    (s, acc.2.1 ++ bs, fs)) (s, [], [])

/-- Who a command of the Block DMA acts for in the frame of a context. -/
def State.dmaUser (s : State) (p c : Nat) (cmd : Cmd) : Accessor :=
  ⟨.dma p, c, EC.sr cmd, s.cmdClass cmd, if EC.lc cmd then some (EC.deadline cmd) else none⟩

/-- Bytes of a send's source from `pos` on, `n` of them, with the faults met. -/
def State.sendBytes (s : State) (d : Send) (n : Nat) : State × List Byte × CmdFaults :=
  if FS.srcKind d.cmd = 0 then
    let (s, bs) := s.spGet d.blk (spDma d.ord) (FS.src d.cmd + d.pos) n
    (s, bs, [])
  else s.sendSource d (s.dmaUser d.blk d.ctx d.cmd) n

/-- One DATA packet of a send goes out, if a port can take it. -/
def State.sendOne (s : State) (d : Send) : Option State :=
  let n := min 1792 (FS.len d.cmd - d.pos)
  let len := (n + 31) / 32
  let cells := (len + 7) / 8
  match s.pickPort cells with
  | (_, none) => none
  | (s, some p) =>
    match s.pickFree (s.tagRuns p cells) with
    | (_, none) => none
    | (s, some t) =>
      let (s, bs, fs) := s.sendBytes d n
      let s := s.cmdFaults d.blk d.ord (pageIdx .blk d.blk) fs
      let pad := 32 * len - n
      let k : TxPkt := ⟨PT.data, FS.add d.cmd, false, len, FS.dest d.cmd, s.node, 2048 * p + t, d.frame % 2 ^ 32, (FS.off d.cmd + d.pos) / 32, pad, bs ++ List.replicate pad 0⟩
      some ((s.txOn p k).onSend d.blk d.ord (fun d => { d with pos := d.pos + n, flights := d.flights ++ [⟨p, t, cells, k, false⟩] }))

/-- Packets of the oldest unfinished send of a Block go out while ports can take them. -/
def State.sendLoop (p : Nat) : Nat → State → State
  | 0, s => s
  | fuel + 1, s =>
    match s.fab.sends.find? (fun d => d.blk == p && decide (d.pos < FS.len d.cmd)) with
    | none => s
    | some d => match s.sendOne d with
      | none => s
      | some t => State.sendLoop p fuel t

/-- The Block DMA takes an FSEND (R173, R388): one with LEN 0 completes whatever its DEST. [DEDUCED, log entry 29] -/
def State.fsendTake (s : State) (p : Nat) (e : QEntry) : State :=
  match s.plaza.run with
  | none => s
  | some run =>
    let c := e.cmd
    if (s.ctx run.ctx).num 0x008 4 % 2 = 0 then (s.fault 0x0307 (pageIdx .blk p) 0).cmdDrop p e.ord
    else if FS.ok c = false then (s.undefinedCmd p (s.dmaUser p run.ctx c) (spDma e.ord)).cmdDone p e.ord
    else if FS.len c = 0 then s.cmdDone p e.ord
    else if s.dests.all (fun d => s.destNode d != FS.dest c) then (s.fault 0x0303 (pageIdx .blk p) 0).cmdDrop p e.ord
    else (s.onInFlight p e.ord (fun f => { f with started := true })).onFab (fun f => { f with sends := f.sends ++ [⟨p, e.ord, c, run.ctx, s.frame, 0, []⟩] })

/-- FSEND (R173): the Block DMA takes it, and cuts its sends into packets as far as ports can take them: at most the 16,384 tags
of the device. -/
def execFsend (p : Nat) (s : State) : Host.Outcome State Fault Refusal :=
  onUnit nBlks p s fun s => State.sendLoop p 16384 (s.takeHead p .dxq 0x32 (fun s e => s.fsendTake p e))

/-- A DATA packet has its outcome: its tags are free, and a send with nothing left completes (R390). -/
def State.flightDone (s : State) (d : Send) (p t : Nat) : State :=
  let fl := d.flights.filter (fun x => !(x.port == p && x.tag == t))
  if fl = [] ∧ FS.len d.cmd ≤ d.pos then
    (s.onFab (fun f => { f with sends := f.sends.filter (fun e => !(e.blk == d.blk && e.ord == d.ord)) })).cmdDone d.blk d.ord
  else s.onSend d.blk d.ord (fun d => { d with flights := fl })

/-- The send with a packet in flight under a tag of a port. -/
def State.sendAt (s : State) (p t : Nat) : Option Send := s.fab.sends.find? (fun d => d.flights.any (fun x => x.port == p && x.tag == t))

/-- LANDED (R390): the answer to a DATA packet. -/
def execLanded (p : Nat) (k : Pkt) (s : State) : Host.Outcome State Fault Refusal :=
  onUnit 8 p s fun s => s.accept p k (fun s =>
    let (q, t) := (k.xtag / 2048 % 8, k.xtag % 2048)
    match s.sendAt q t with
    | none => s
    | some d =>
      if k.add = 1 then s.onSend d.blk d.ord (fun d => { d with flights := d.flights.map (fun x => if x.port = q ∧ x.tag = t then { x with busy := true } else x) })
      else
        let s := if k.add = 0 then s else s.once d.blk d.ord 0x0303 (fun s => s.report ⟨0x0303, 0, pageIdx .blk d.blk, some d.ctx, d.frame, 0, 0, none⟩)
        s.flightDone d q t)

/-- BUSY_RESEND (R390): 2 µs after a busy answer the packet under tag t of port p is sent again, as a new packet of the link. -/
def execBusyResend (p t : Nat) (s : State) : Host.Outcome State Fault Refusal :=
  onUnit 8 p s fun s =>
    match s.sendAt p t with
    | none => s
    | some d =>
      match d.flights.find? (fun x => x.port == p && x.tag == t && x.busy) with
      | none => s
      | some x =>
        if s.canSend p x.pkt then
          (s.txOn p x.pkt).onSend d.blk d.ord (fun d => { d with flights := d.flights.map (fun y => if y.port = p ∧ y.tag = t then { y with busy := false } else y) })
        else s

/-- LANDED_TIMEOUT (R390): the packet under tag t of port p counts as lost. -/
def execLandedTimeout (p t : Nat) (s : State) : Host.Outcome State Fault Refusal :=
  onUnit 8 p s fun s =>
    match s.sendAt p t with
    | none => s
    | some d => ((s.inc F.FAB0_LOST 0 0).report ⟨0x0202, p, pageIdx .fab p, some d.ctx, d.frame, 0, 0, none⟩).flightDone d p t

/-! ### Landing (R390 to R397) -/

/-- A frame number of a header extended by this device's own (R382). -/
def State.extend32 (s : State) (f : Nat) : Nat :=
  let d := (f + 2 ^ 32 - s.frame % 2 ^ 32) % 2 ^ 32
  if d < 2 ^ 31 then s.frame + d else s.frame - (2 ^ 32 - d)

/-- Listed sender with a device number. -/
def State.senderOf (s : State) (node : Nat) : Option Nat := (List.range (s.rd F.FAB0_SENDERS)).find? (fun i => s.rd F.FAB0_SENDER 0 i == node)

/-- Slots per sender. -/
def State.nSlots (s : State) : Nat := max 1 (s.rd F.FAB0_SLOTS)

def State.stage (s : State) (i j : Nat) : Stage := s.fab.stages.get (8 * i + j) ⟨0, 0, false, 0⟩
/-- A staging slot and its SLOT_STATE change. -/
def State.setStage (s : State) (i j : Nat) (x : Stage) : State :=
  (s.onFab (fun f => { f with stages := SMap.put (8 * i + j) x f.stages })).wr F.FAB0_SLOT_STATE 0 (8 * i + j) x.state
def State.sender (s : State) (i : Nat) : Sender := s.fab.senders.get i ⟨none, false, [], [], []⟩
def State.onSender (s : State) (i : Nat) (f : Sender → Sender) : State := s.onFab (fun b => { b with senders := SMap.put i (f (s.sender i)) b.senders })

/-- Context address of slot j of sender i (R391). -/
def State.slotBase (s : State) (i j : Nat) : Nat :=
  s.rd F.FAB0_STAGE_BASE + 0x1_0000 + (i * s.nSlots + j) * s.rd F.FAB0_SLOT_SIZE * 0x1_0000

/-- A slot returns to FREE, through ZEROING where ZERO is set (R392 to R394). -/
def State.freeSlot (s : State) (i j : Nat) : State :=
  let f := (s.stage i j).frame
  (s.setStage i j ⟨if s.rd F.FAB0_ZERO = 1 then 1 else 0, 0, false, 0⟩).onSender i (fun x =>
    { x with freed := some (match x.freed with | some g => max g f | none => f) })

/-- Whether the receiver is done with a sender's frame: its COMMIT has arrived, or its ABORT (R387, R392). -/
def State.frameDone (s : State) (i f : Nat) : Bool := (s.sender i).committed.contains f || (s.sender i).aborted.contains f

/-- The direct region of the landing context that holds a whole range, with its key handle (R391): none where its key slot binds no tenant, as an
access through it is a region fault (R341). [DEDUCED, log entry 54] -/
def State.directAt (s : State) (c a n : Nat) : Option (Region × Nat) :=
  match regionAt (s.ctx c).regions a with
  | some (_, r) => if r.kind = 1 ∧ a + n ≤ r.vbase + r.size then (s.keyhOf c r).map (fun h => (r, h)) else none
  | none => none

/-- An answer to a DATA packet. -/
def State.answerData (s : State) (dest xtag frame status : Nat) : State :=
  let s := match status with
    | 1 => s.inc F.FAB0_LAND_BUSY 0 0
    | 2 => s.inc F.FAB0_LAND_BOUNDS 0 0
    | 3 => s.inc F.FAB0_LAND_REFUSED 0 0
    | _ => s
  s.sendCtl (ctlPkt PT.landed status false dest s.node xtag frame)

/-- The landing write of a DATA packet (R391 to R393). -/
def State.landData (s : State) (k : Pkt) (i j f : Nat) (r : Region) (h a n : Nat) : State :=
  let c := s.rd F.FAB0_CTX
  let z := if k.add = 2 then 2 else 4
  let m := if k.add = 0 then n else n - n % z
  let s := s.writeBytes .engine (redOp k.add) c h (some c) false (r.baseA + (a - r.vbase)) (k.payload.take m) 2
  let st := s.stage i j
  let s := s.setStage i j { st with state := 2, frame := f, bytes := (if st.state = 0 then 0 else st.bytes) + n }
  (s.onSender i (fun x => { x with held := true })).onFab (fun b => { b with landings := b.landings ++ [⟨k.src, k.xtag, k.frame⟩] })

/-- A DATA packet reaches the landing unit (R390 to R393). [DEDUCED, log entry 54] -/
def State.landPkt (s : State) (k : Pkt) : State :=
  let c := s.rd F.FAB0_CTX
  let refuse (s : State) (st : Nat) : State := s.answerData k.src k.xtag k.frame st
  match s.senderOf k.src with
  | none => refuse s 3
  | some i =>
    let f := s.extend32 k.frame
    let j := f % s.nSlots
    let st := s.stage i j
    let n := 32 * k.len - k.pad
    let a := s.slotBase i j + 32 * k.off
    if s.rd F.FAB0_ENABLE = 0 ∨ s.ctxState c = 0 ∨ s.frameDone i f = true then refuse s 3
    else if s.rd F.FAB0_SLOT_SIZE * 0x1_0000 < 32 * k.off + n then refuse s 2
    else if ¬ (st.state = 0 ∨ (st.state = 2 ∧ st.frame = f)) then refuse s 1
    else match s.directAt c a n with
      | some (r, h) => s.landData k i j f r h a n
      | none =>
        let s := s.onCtx c (fun x => { x with killDue := some 5 })
        refuse ((s.record ⟨0x0402, 0, pageIdx .fab 0, some c, s.frame, a, 0, none⟩).enqueue ⟨0x0402, 0, pageIdx .fab 0, some c, s.frame, a, 0, none⟩ false) 3

/-- DATA (R390). -/
def execData (p : Nat) (k : Pkt) (s : State) : Host.Outcome State Fault Refusal :=
  onUnit 8 p s fun s => s.accept p k (fun s => s.landPkt k)

/-- LANDING_COMPLETE (R390): the k-th landing write completes and is answered with STATUS 0. -/
def execLandingComplete (k : Nat) (s : State) : Host.Outcome State Fault Refusal :=
  .next (match s.fab.landings[k]? with
    | none => s
    | some l => (s.onFab (fun f => { f with landings := f.landings.eraseIdx k })).answerData l.dest l.xtag l.frame 0)

/-- COMMIT_TOKEN (R392): the token of a sender frame allocates or marks its slot, or waits for it; a repeated one is ignored (R387). [DEDUCED, log entry 53] -/
def execCommitToken (p : Nat) (k : Pkt) (s : State) : Host.Outcome State Fault Refusal :=
  onUnit 8 p s fun s => s.accept p k (fun s =>
    match s.senderOf k.src with
    | none => s
    | some i =>
      let f := s.extend32 k.frame
      let j := f % s.nSlots
      let st := s.stage i j
      if s.rd F.FAB0_ENABLE = 0 ∨ s.frameDone i f = true then s
      else if st.state = 0 ∨ (st.state = 2 ∧ st.frame = f) then
        (s.setStage i j ⟨2, f, true, if st.state = 0 then 0 else st.bytes⟩).onSender i (fun x => { x with held := true, committed := f :: x.committed })
      else s.onSender i (fun x => { x with committed := f :: x.committed, late := x.late ++ [f] }))

/-- ABORT_MARKER (R317, R394): the slot of an uncommitted frame is freed; a FINAL marker writes entry 0x0203. -/
def execAbortMarker (p : Nat) (k : Pkt) (s : State) : Host.Outcome State Fault Refusal :=
  onUnit 8 p s fun s => s.accept p k (fun s =>
    match s.senderOf k.src with
    | none => s
    | some i =>
      let f := s.extend32 k.frame
      let j := f % s.nSlots
      let st := s.stage i j
      if (s.sender i).aborted.contains f then s
      else
        let s := if st.state = 2 ∧ st.frame = f ∧ st.committed = false then s.freeSlot i j else s
        let s := s.onSender i (fun x => { x with aborted := f :: x.aborted })
        if k.final then
          let c := s.rd F.FAB0_CTX
          s.enqueue ⟨0x0203, 0, pageIdx .fab 0, some c, s.frame, k.src, 0, none⟩ false
        else s)

/-- SLOT_FREE (R387, R397): the limit of a destination, the highest of those received. -/
def execSlotFree (p : Nat) (k : Pkt) (s : State) : Host.Outcome State Fault Refusal :=
  onUnit 8 p s fun s => s.accept p k (fun s =>
    (s.dests.filter (fun d => s.destNode d == k.src)).foldl (fun s d =>
      let old := s.rd F.FAB0_LIMIT 0 d
      if s.fab.limited.contains d ∧ 2 ^ 31 ≤ (k.frame + 2 ^ 32 - old) % 2 ^ 32 then s
      else (s.wr F.FAB0_LIMIT 0 d k.frame).onFab (fun f => { f with limited := d :: f.limited.filter (fun e => e != d) })) s)

/-- SLOT_ZEROED (R393): slot j of sender i has been written with zeros and returns to FREE. [DEDUCED, log entry 54] -/
def execSlotZeroed (i j : Nat) (s : State) : Host.Outcome State Fault Refusal :=
  onUnit 16 i s fun s =>
    if (s.stage i j).state = 1 ∧ j < 8 then
      let c := s.rd F.FAB0_CTX
      let n := s.rd F.FAB0_SLOT_SIZE * 0x1_0000
      let a := s.slotBase i j
      let s := match s.directAt c a n with
        | some (r, h) => s.writeBytes .engine .write c h (some c) false (r.baseA + (a - r.vbase)) (List.replicate n 0) 2
        | none => s
      s.setStage i j ⟨0, 0, false, 0⟩
    else s

/-- TIME (R405): a follower adopts the carried frame number, or reports a mismatch. -/
def execTime (p : Nat) (k : Pkt) (s : State) : Host.Outcome State Fault Refusal :=
  onUnit 8 p s fun s => s.accept p k (fun s =>
    if ¬ (s.rd F.FAB0_TIME_SRC_VALID = 1 ∧ s.rd F.FAB0_TIME_SRC_NODE = k.src) then s.inc F.FAB0_TIME_IGNORED 0 0
    else if s.rd F.TICK_SYNC_MODE ≠ 2 then s
    else
      let f := leNat (k.payload.take 8)
      let st := leNat ((k.payload.drop 8).take 4)
      let s := if f = s.frame then s
        else if s.anyBusy then s.setEvt .fab 0 7
        else s.onFab (fun b => { b with adopt := some (f + 1) })
      if st = s.rd F.TICK_PERIOD_STEPS_EFF then s else s.setEvt .fab 0 8)

/-! ### Sessions, lanes and training (R349, R398 to R403) -/

/-- This end's ephemeral scalar and nonce of the key exchange in progress, made from the random generator where there are none yet (R326, R349). -/
def State.ephemeral (s : State) (p : Nat) : State × Nat × List Byte :=
  match (s.fport p).eph with
  | some e => (s, e)
  | none =>
    let (s, d) := s.random 64
    let (s, n) := s.random 32
    (s.onFport p (fun f => { f with eph := some (scalarOf d, n) }), scalarOf d, n)

/-- What this end sends of a key exchange: point, nonce, and the signature of AK over the two (R349): 225 bytes. -/
def State.exchange (s : State) (p : Nat) : State × List Byte :=
  let (s, d, n) := s.ephemeral p
  let body := ecMul d ++ n
  let (s, sig) := s.sign body
  (s, body ++ sig)

/-- The keys that follow from this end's part of an exchange and the peer's point and nonce (R349). -/
def FabPort.agreed (f : FabPort) (x : List Byte) : Option Link :=
  f.eph.map (fun e =>
    let k := hkdf (ecdh e.1 (x.take 97)) (some (e.2 ++ (x.drop 97).take 32)) (ascii "DG3140 LINK") 68
    ⟨BitVec.ofNat 256 (leNat (k.take 32)), BitVec.ofNat 256 (leNat ((k.drop 32).take 32)), BitVec.ofNat 32 (leNat (k.drop 64))⟩)

/-- The HELLO message of this end (R382): total length, certificates, point, nonce, signature. [DEDUCED, log entry 53] -/
def State.helloMsg (s : State) (p : Nat) : State × List Byte :=
  let certs := [s.sec.akCert, Config.idCert]
  let (s, x) := s.exchange p
  let body := leBytes 4 certs.length ++ certs.flatMap (fun c => leBytes 4 c.length ++ c) ++ x
  (s, leBytes 4 (4 + body.length) ++ body)

/-- A fragment of a HELLO message (R382): its i-th 1,792 bytes. -/
def helloPkt (msg : List Byte) (i : Nat) : TxPkt :=
  let part := (msg.drop (1792 * i)).take 1792
  let len := (part.length + 31) / 32
  let pad := 32 * len - part.length
  ⟨PT.hello, 0, false, len, 0, 0, 0, 0, 56 * i, pad, part ++ List.replicate pad 0⟩

/-- This end sends its HELLO message, once in a training, while the entropy source passes (R343, R349). [DEDUCED, log entry 53] -/
def State.helloOut (s : State) (p : Nat) : State :=
  if (s.fport p).eph.isSome ∨ s.sec.entropyOk = false then s
  else
    let (s, msg) := s.helloMsg p
    (List.range ((msg.length + 1791) / 1792)).foldl (fun s i =>
      let k := helloPkt msg i
      let hdr := k.fields i 4095 false 0 false
      s.emitPkt p hdr ((s.fport p).sealed k hdr)) s

/-- A REKEY packet of this end (R382, R401). -/
def State.rekeyPkt (s : State) (p : Nat) : State × TxPkt :=
  let (s, x) := s.exchange p
  (s, ⟨PT.rekey, 0, false, 8, 0, 0, 0, 0, 0, 0, x ++ List.replicate 31 0⟩)

/-- This end sends REKEY (R401). -/
def State.rekeyOut (s : State) (p : Nat) : State :=
  let (s, k) := s.rekeyPkt p
  (s.txOn p k).onFport p (fun f => { f with rekeySent := true })

/-- The peer's REKEY payload takes effect (R401): this end answers if it has not sent its own, and seals with the new keys from then on; the old keys
stay until a packet of the new epoch arrives. [DEDUCED, log entry 53] -/
def State.rekeyIn (s : State) (p : Nat) (x : List Byte) : State :=
  let s := if (s.fport p).rekeySent then s else s.rekeyOut p
  s.onFport p (fun f => { f with
    rekeySent := false, txEpoch := !f.txEpoch, txCount := 0, oldLink := f.link, link := f.agreed x, eph := none, rekeyHeld := none })

/-- Whether a packet counter of a port has reached 2³¹ and its REKEY is not under way (R401). -/
def State.rekeyDue (s : State) (p : Nat) : Bool :=
  s.fabActive p && !(s.fport p).rekeySent && (decide (2 ^ 31 ≤ (s.fport p).txCount) || decide (2 ^ 31 ≤ (s.fport p).rxCount))

/-- The entropy source passes again (R343): the key exchanges that waited for it go on. -/
def State.rekeyResume (s : State) : State :=
  (List.range 8).foldl (fun s p =>
    match (s.fport p).rekeyHeld with
    | some x => if s.fabActive p then s.rekeyIn p x else s
    | none => if s.rekeyDue p then s.rekeyOut p else s) s

/-- REKEY_TRIGGER (R401): a packet counter of port p has reached 2³¹; while the entropy source fails, the exchange waits (R343). -/
def execRekeyTrigger (p : Nat) (s : State) : Host.Outcome State Fault Refusal :=
  onUnit 8 p s fun s =>
    if s.rekeyDue p ∧ s.sec.entropyOk = true then s.rekeyOut p else s

/-- REKEY (R401): the peer's packet arrives; its signature verifies (`ok`) or the port is held untrained (R349). An answer that needs a new key waits for
the entropy source (R343). [DEDUCED, log entry 53] -/
def execRekey (p : Nat) (k : Pkt) (ok : Bool) (s : State) : Host.Outcome State Fault Refusal :=
  onUnit 8 p s fun s => s.accept p k (fun s =>
    if ok = false then s.portLose p 4
    else if (s.fport p).rekeySent = false ∧ s.sec.entropyOk = false then s.onFport p (fun f => { f with rekeyHeld := some k.payload })
    else s.rekeyIn p k.payload)

/-- HELLO (R349, R382, R384): a fragment of the peer's message is assembled, and this end sends its own message if it has not; one that arrives after the session is up is discarded.
A message that fails verification (`ok` false on its last fragment) holds the port untrained. [DEDUCED, log entry 53] -/
def execHello (p : Nat) (k : Pkt) (ok : Bool) (s : State) : Host.Outcome State Fault Refusal :=
  onUnit 8 p s fun s =>
    let st := s.rd F.FAB_STATE p
    if st = 3 then s.accept p k (fun s => s)
    else if (st = 1 ∨ st = 2) ∧ 32 * k.off = (s.fport p).hello.length then
      let s := (s.wr F.FAB_STATE p 0 2).onFport p (fun f => { f with hello := f.hello ++ k.payload.take (32 * k.len - k.pad) })
      let h := (s.fport p).hello
      if leNat (h.take 4) ≤ h.length ∧ ok = false then s.portLose p 5 else s.helloOut p
    else s

/-- The failing lane's symbols move to the spare (R399). -/
def State.swapLane (s : State) (p lane : Nat) : State :=
  match (s.fport p).spare with
  | none => s
  | some sp =>
    let s := s.onFport p (fun f => { f with lanes := f.lanes.map (fun l => if l = lane then sp else l), spare := none, retrain := some lane, swap := none })
    ((s.wr F.FAB_SPARE_GOOD p 0 0).wr F.FAB_LANES_GOOD p 0 (clrBit (s.rd F.FAB_LANES_GOOD p) lane)).setEvt .fab p 6

/-- A LANE packet; the codeword count from which the swap applies is a free value. -/
def State.lanePkt (s : State) (lane ans : Nat) : State × TxPkt :=
  (s.used, ⟨PT.lane, 0, false, 1, 0, 0, 0, 0, 0, 0, leBytes 8 (lane + 256 * ans) ++ leBytes 8 s.freeVal ++ List.replicate 16 0⟩)

/-- LANE (R399): a request is answered and the swap made; an answer makes the swap that this end asked for. -/
def execLane (p : Nat) (k : Pkt) (s : State) : Host.Outcome State Fault Refusal :=
  onUnit 8 p s fun s => s.accept p k (fun s =>
    let lane := leNat (k.payload.take 1)
    if leNat ((k.payload.drop 1).take 1) = 0 then
      let (s, r) := s.lanePkt lane 1
      (s.txOn p r).swapLane p lane
    else if (s.fport p).swap = some lane then s.swapLane p lane else s)

/-- LANE_CHECK (R399): the corrected symbols of each lane over 1 ms, and the lanes that lost lock. A failing lane is swapped for the
spare, or the port retrains. -/
def execLaneCheck (p : Nat) (counts lost : List Nat) (s : State) : Host.Outcome State Fault Refusal :=
  onUnit 8 p s fun s =>
    if s.fabActive p = false then s
    else
      let s := s.inc F.FAB_FEC_CORR p 0 counts.sum
      let f := s.fport p
      match (f.lanes.zip (List.range f.lanes.length)).find? (fun e => lost.contains e.1 || decide (s.rd F.FAB_THRESH p < counts.getD e.2 0)) with
      | none => s
      | some (lane, _) =>
        if s.legacy ∨ f.swap ≠ none then s
        else if f.spare.isSome then
          let (s, r) := s.lanePkt lane 0
          (s.txOn p r).onFport p (fun f => { f with swap := some lane })
        else s.portLose p 1

/-- BACKGROUND_LANE_RETRAIN (R399, R402): the removed lane's retraining ends; a lane that passes becomes the spare. -/
def execBackgroundLaneRetrain (p : Nat) (ok : Bool) (s : State) : Host.Outcome State Fault Refusal :=
  onUnit 8 p s fun s =>
    match (s.fport p).retrain with
    | none => s
    | some lane =>
      if s.coldHold then s
      else if ok then
        ((s.onFport p (fun f => { f with retrain := none, spare := some lane })).wr F.FAB_SPARE_GOOD p 0 1).wr F.FAB_LANES_GOOD p 0 (setBit (s.rd F.FAB_LANES_GOOD p) lane)
      else s.onFport p (fun f => { f with retrain := none })

/-- A port starts training, or waits under cold hold (R398, R402, R403); without its reference clock it stays DOWN (R505). -/
def State.portTrain (s : State) (p : Nat) : State :=
  if s.domOn 28 = true ∧ s.clkLost.contains 2 = false then s.portLose p 1 else s

/-- The peer's part of the key exchange: the last 225 bytes of its HELLO message (R382). -/
def FabPort.peerPart (f : FabPort) : List Byte := (f.hello.take (leNat (f.hello.take 4))).drop (leNat (f.hello.take 4) - 225)

/-- PORT_TRAINING (R349, R398): training of port p ends: the lanes found good, of which those that the fuses list stay out (R460), the session's outcome,
and the credits exchanged. A port that could make no key for want of entropy fails the session (R343). [DEDUCED, log entry 54] -/
def execPortTraining (p : Nat) (good : List Nat) (session : Bool) (credits : Nat) (s : State) : Host.Outcome State Fault Refusal :=
  onUnit 8 p s fun s =>
    let st := s.rd F.FAB_STATE p
    let g := (List.range 9).filter (fun l => good.contains l && !(s.fport p).barred.contains l)
    if ¬ ((st = 1 ∨ st = 2) ∧ s.rd F.FAB_COLD_HELD p = 0 ∧ s.domOn 28 = true) then s
    else if g.length < 8 ∨ session = false ∨ (s.fport p).bad = true ∨ ((s.fport p).eph = none ∧ s.sec.entropyOk = false) then s.wr F.FAB_STATE p 0 5
    else
      let first := s.activePorts.isEmpty
      let s := s.helloOut p
      let s := s.onFport p (fun f => { FabPort.reset with
        bad := f.bad, barred := f.barred, credits := min 1024 credits, lanes := g.take 8, spare := g[8]?, link := f.agreed f.peerPart })
      let s := (s.wr F.FAB_STATE p 0 3).setEvt .fab p 4
      let s := (s.wr F.FAB_LANES_GOOD p 0 (g.foldl setBit 0)).wr F.FAB_SPARE_GOOD p 0 (b2n (decide (g.length = 9)))
      let s := if first then s.onFab (fun f => { f with limited := [] }) else s
      s.flushCtl

/-- Whether a source may change the host-commanded power state (R375, R416): the primary port, or the firmware. -/
def State.hasAuth (s : State) : Source → Bool
  | .pf n => s.rd F.PCIE_AUTH_HOLDER n == 1
  | .mgmt => s.rd F.TOP_STATUS_READY == 0
  | .vf _ _ => false

/-- A write without authority is dropped and raises AUTH_REJECT of the writing port (R375). -/
def State.authReject (s : State) : Source → State
  | .pf n => s.setEvt .pcie n 5
  | _ => s

/-- CTRL.ENABLE of FAB[p] is written 1 (R398, R416): in native mode the port trains; legacy ports train on RETRAIN_ALL only (R400). [DEDUCED, log entry 53] -/
def State.fabEnable (s : State) (src : Source) (p : Nat) : State :=
  if s.mayWrite src = false then s
  else if s.hasAuth src = false then s.authReject src
  else
    let s := s.wrAt .fab p F.HDR_CTRL_ENABLE 0 1
    if s.legacy ∨ [1, 2, 3].contains (s.rd F.FAB_STATE p) then s else s.portTrain p

/-- FAB_ENABLE (R398, R416). -/
def execFabEnable (src : Source) (p : Nat) (s : State) : Host.Outcome State Fault Refusal := onSrc src <|
  onUnit 8 p s fun s => s.fabEnable src p

/-- RETRAIN_ALL is written 1 (R400): all ports retrain, in legacy mode and while no context that uses the fabric is ACTIVE, RUNNING or
OVERRUN. -/
def State.retrainAll (s : State) (src : Source) : State :=
  if s.mayWrite src = false ∨ s.legacy = false then s
  else if s.ctxs.any (fun (e : Nat × Ctx) => [2, 3, 4].contains e.2.state && e.2.num 0x008 4 % 2 == 1) then s.cfgReject .fab 0
  else (List.range 8).foldl (fun s p => s.portTrain p) s

/-- RETRAIN_ALL (R400). -/
def execRetrainAll (src : Source) (s : State) : Host.Outcome State Fault Refusal := onSrc src <| .next (s.retrainAll src)

end Sys2Proof.Machine
end

