-- ==== Sys2Proof/Machine/Views.lean ====
section
/-! DEFINITION. What a read of a status field returns where the field shows the state of its unit: CAPS words, queue and engine
status, interrupt sources (R476, R482, R488 and the register tables). -/

namespace Sys2Proof.Machine
open Sys2Proof

/-! ### Domains (R28, R422) -/

/-- Kind of a switched domain: 0 AD, 1 BL, 2 CQ, 3 FABRIC, 4 MEMIF (R488). -/
def domKind (n : Nat) : Nat := if n < 16 then 0 else if n < 24 then 1 else if n < 28 then 2 else if n = 28 then 3 else 4

/-- Rated peak of a domain in A (R422). -/
def domPeak (n : Nat) : Nat := [72, 45, 60, 40, 30].getD (domKind n) 0

/-! ### CAPS words (R488) -/

/-- A number made of fields: (value, lowest bit). -/
def packed (fs : List (Nat × Nat)) : Nat := (fs.map (fun (e : Nat × Nat) => e.1 * 2 ^ e.2)).sum

/-- Sites of a district with a CAPS SITE code that a test accepts. -/
def State.sitesWith (s : State) (d : Nat) (f : Nat → Bool) : List Nat := (List.range 34).filter (fun st => f (s.blk (34 * d + st)).site)

/-- CAPS word i of a page. [DEDUCED, log entry 11; DEDUCED, log entry 54] -/
def State.caps (s : State) (pg : Page) (u i : Nat) : Nat :=
  match pg, i with
  | .top, 0 => packed [(s.logicalAll, 0), (544, 10), (16, 20)]
  | .top, 1 => packed [(((List.range nDist).map (fun g => (s.groupSlices g).length)).sum, 0), (24, 8), (8, 16), (2, 20)]
  | .top, 2 => packed [(1024, 0), (64, 11), (4096, 18)]
  | .dist, 0 => packed [(s.logical u, 0), (34, 6), ((s.sitesWith u (fun x => decide (x < 2))).length, 12),
      ((s.sitesWith u (fun x => x == 1)).length, 18), (s.rd F.PWR_LDO_DARK 0 u, 24)]
  | .blk, 0 => packed [(4, 0), (32, 3), (512, 10), ((s.blk u).site, 20), (b2n (s.blk u).half, 22)]
  | .blk, 1 => packed [(0x7FF, 0), (1, 11), (1, 12), (16, 13), (32, 18)]
  | .blk, 2 => packed [(16, 0), (64, 5), (3, 13), (64, 15), (64, 23)]
  | .slc, 0 => packed [(24, 0), (16, 8), (12288, 13), (7, 28)]
  | .slc, 1 => packed [(96, 0), (32, 8), (14, 14), (s.rd F.SLC_SLICE_STATE_MODE u, 18)]
  | .slc, 2 => (s.groupSlices (u / 8)).length
  | .memc, 0 => packed [((s.chansOf u).length, 0), (s.rd F.MEMC_CFG_RATE u, 3), (4 * (s.mem u).chanGiB, 4), (512, 11), (64, 21)]
  | .memc, 1 => packed [(256, 0), (1024, 9)]
  | .gath, 0 => packed [(512, 0), (64, 10), (256, 17)]
  | .fab, 0 => let n := 9 - (s.fport u).barred.length; packed [(n, 0), (min 8 n, 4), (2048, 8), (1024, 20)]
  | .fab, 1 => packed [(8, 0), (16, 4), (16, 9)]
  | .pcie, 0 => packed [(128, 0), (16, 8), (2048, 13)]
  | .sec, 0 => packed [(4096, 0), (16, 13), (2048, 18)]
  | .dom, 0 => packed [(domPeak u, 0), (domKind u, 8)]
  | .bond, 0 => packed [(if u < 128 then 2720 else 54400, 0), (s.rd F.BOND_SPARES_TOTAL u, 16)]
  | .thm, 0 => packed [(160, 0), (20, 8)]
  | _, _ => 0

/-- Pages of the BAR0 map in page order (R487). -/
def allPages : List (Page × Nat) := (List.range 0x420).filterMap pageOf

/-! ### Interrupt sources (R476) -/

/-- Whether a page has an enabled event. -/
def State.evPending (s : State) (pg : Page) (u : Nat) : Bool := (s.evts pg u &&& s.rdAt pg u F.HDR_EVT_ENABLE 0) != 0

/-- Whether a source is pending. -/
def State.sourcePending (s : State) (n : Nat) : Bool :=
  if n = 0 then s.rd F.TOP_STATUS_FATAL == 1
  else if n = 1 then s.rd F.TOP_STATUS_SHUTDOWN == 1
  else if n = 16 then !s.errq.entries.isEmpty
  else if n = 17 then decide (s.rd F.ERRQ_HIGH_WATER ≤ s.errq.entries.length)
  else if n = 18 then s.errq.supp
  else if n = 32 then s.evPending .pwr 0
  else if n = 33 then s.evPending .thm 0
  else if 34 ≤ n ∧ n < 64 then s.evPending .dom (n - 34)
  else if 64 ≤ n ∧ n < 128 then
    let d := (n - 64) / 4
    match n % 4 with
    | 0 => (List.range 34).any (fun i => s.evPending .blk (34 * d + i))
    | 1 => s.evPending .gath d
    | 2 => (List.range 8).any (fun i => s.evPending .slc (8 * d + i))
    | _ => (List.range 8).any (fun i => s.evPending .bond (8 * d + i)) || s.evPending .bond (128 + d) || s.evPending .dist d
  else if 128 ≤ n ∧ n < 144 then s.evPending .memc (n - 128)
  else if 144 ≤ n ∧ n < 152 then s.evPending .fab (n - 144)
  else if n = 152 ∨ n = 153 then s.evPending .pcie (n - 152)
  else if n = 154 then s.evPending .tick 0
  else if n = 155 then s.evPending .ctx 0
  else if n = 156 then s.evPending .sec 0
  else if 157 ≤ n ∧ n < 160 then s.rd F.MB_CTRL_BUSY (n - 157) == 1
  else if n = 160 then s.evPending .boot 0
  else if n = 161 then s.evPending .hk 0
  else if n = 162 then s.evPending .fuse 0
  else if n = 163 then s.evPending .top 0
  else false

/-- Whether a source is in service for some core (R477). -/
def State.inService (s : State) (n : Nat) : Bool :=
  (List.range 4).any (fun c => s.rd F.INTC_CUR_VALID 0 c == 1 && s.rd F.INTC_CUR_SOURCE 0 c == n)

/-! ### The head of the error queue (R311) -/

/-- The 32 bytes of an entry, as a number. -/
def ErrEntry.bits (e : ErrEntry) : Nat :=
  packed [(e.code % 2 ^ 16, 0), (e.detail % 256, 16), (b2n e.ctx.isSome, 24), (b2n e.kill, 25), (b2n e.replayable, 26), (b2n e.late, 27),
    ((e.ctx.getD 0) % 1024, 32), (e.page % 2 ^ 16, 48), (e.frame % 2 ^ 64, 64), (e.addr % 2 ^ 64, 128), (e.syndrome % 2 ^ 16, 192),
    ((e.writer.getD 0) % 1024, 208), (b2n e.writer.isSome, 218), (e.seq % 2 ^ 32, 224)]

/-! ### Blocks -/

/-- LEVEL of a ramp (R94). -/
def Ramp.level : Ramp → Nat
  | .off => 0
  | .up l => l
  | .hold => 4
  | .down l => l

/-- Head state of a queue (Q_WAIT): a sync command keeps its entry while it waits for its drain or release (R156, R181). -/
def State.qWait (s : State) (p : Nat) (k : Q) : Nat :=
  if (s.blk p).q.stopped then 3
  else match (s.blk p).q.entries k with
    | [] => 0
    | e :: _ => if (s.blk p).q.inflight.any (fun f => f.ord == e.ord) then 2 else if s.waitMet p k e.cmd = false then 1 else if s.unitTakes p e.cmd = false then 2 else 0

/-- VX_SLOT.STATE of a slot: a group some of whose threads wait at a barrier shows as waiting, although others of its threads may be
active, of which the spec says nothing. [DESIGN CHOICE, log entry 33] -/
def Group.code (g : Group) : Nat :=
  if (~~~g.exited) = 0 then 3 else if g.waits ≠ [] then 2 else 1

/-- Whether a Block is in service: its site logical, its domain ON. -/
def State.blkServes (s : State) (p : Nat) : Bool := (s.blk p).site == 0 && s.domOn (distOf p)

/-- Status fields of a BLK page that show the state of the Block. -/
def State.viewBlk (s : State) (p : Nat) (f : Fld) (i : Nat) : Nat :=
  let b := s.blk p
  let slot := SMap.find i b.vx
  if f = F.BLK_MX_STATUS_BUSY then
    (((b.held 0x11).filter (fun x => x.started)).foldl (fun n x => n ||| MX.passMask x.cmd) 0) % 16
  else if f = F.BLK_MX_STATUS_LEVEL then b.mx.ramp.level
  else if f = F.BLK_MX_STATUS_HOLD then b2n (b.mx.ramp == .hold)
  else if f = F.BLK_MX_STATUS_LOADS then (b.held 0x10).length
  else if f = F.BLK_MX_STATUS_DRAINS then (b.held 0x12).length
  else if f = F.BLK_CC_STATUS_PC_WORD then b.core.pc.toNat / 4
  else if f = F.BLK_CC_STATUS_HALTED then b2n b.core.halted
  else if f = F.BLK_CC_STATUS_RUNNING then b2n b.core.running
  else if f = F.BLK_CC_STATUS_DEPTH then b.core.loops.length
  else if f = F.BLK_CC_STATUS_STALL then b.core.stall
  else if f = F.BLK_CC_STATUS_LIVE_HALF then b.im.live
  else if f = F.BLK_CC_STATUS_IDLE_STATE then (match b.im.idle with | .open => 0 | .loading => 1 | .loaded => 2)
  else if f = F.BLK_Q_STATUS_MXQ_FILL then b.q.mxq.length
  else if f = F.BLK_Q_STATUS_VXQ_FILL then b.q.vxq.length
  else if f = F.BLK_Q_STATUS_DXQ_FILL then b.q.dxq.length
  else if f = F.BLK_Q_STATUS_SXQ_FILL then b.q.sxq.length
  else if f = F.BLK_Q_WAIT_MXQ then s.qWait p .mxq
  else if f = F.BLK_Q_WAIT_VXQ then s.qWait p .vxq
  else if f = F.BLK_Q_WAIT_DXQ then s.qWait p .dxq
  else if f = F.BLK_Q_WAIT_SXQ then s.qWait p .sxq
  else if f = F.BLK_BAR_COUNT_CHIP then b.q.barChip
  else if f = F.BLK_BAR_COUNT_DISTRICT then b.q.barDist
  else if f = F.BLK_EC_COUNT then s.ec p i
  else if f = F.BLK_VX_STATUS_RESIDENT then b.usedSlots
  else if f = F.BLK_VX_STATUS_WAITING then (b.vx.filter (fun (e : Nat × Group) => e.2.waits != [])).length
  else if f = F.BLK_VX_STATUS_STOPPED then b2n b.vxStopped
  else if f = F.BLK_VX_SLOT_STATE then (match slot with | some g => g.code | none => 0)
  else if f = F.BLK_VX_SLOT_DEPTH then (match slot with | some g => g.stack.length | none => 0)
  else if f = F.BLK_VX_SLOT_PC_WORD then (match slot with | some g => g.pc / 8 | none => 0)
  else if f = F.BLK_SP_STATUS_RETAINED then (if s.domState (16 + distOf p / 2) = 1 then 0xFFFF else s.rd f p i)
  else if f = F.BLK_SP_OWN_CTX then b.sp.own.getD 0
  else if f = F.BLK_SP_OWN_CTX_VALID then b2n b.sp.own.isSome
  else s.rd f p i

/-! ### The other pages -/

/-- Value of the FUSE_SVN field: blown bits from bit 0 up (R333). -/
def svnOf (fuse : BitVec 64) : Nat := ((List.range 64).takeWhile (fun i => fuse.getLsbD i)).length

/-- Distinct measurements that the tenants' policies name (R337). -/
def State.measTable (s : State) : List (BitVec 384) :=
  ((s.sec.tenants.map (fun (e : Nat × Tenant) => if e.2.state = 0 then [] else e.2.meas)).flatten).eraseDups

/-- Whether a context that is not EMPTY has a tenant in BOUND_TENANTS (R338). [DEDUCED, log entry 49] -/
def State.boundSomewhere (s : State) (t : Nat) : Bool :=
  s.ctxs.any (fun (e : Nat × Ctx) => e.2.state != 0 && e.2.bound.any (fun (b : Nat × Nat) => b.2 == t))

/-- Visits of every walker, and how many one pass of it takes (R305). -/
def State.walkers (s : State) : List (Nat × Nat) :=
  ((List.range nSlices).filter (fun n => s.rd F.SLC_SLICE_STATE_MODE n < 2)).map (fun n => ((s.slc n).scrub, 196608))
    ++ ((List.range nDist).filter (fun g => s.scrubSectors g != 0)).map (fun g => ((s.mem g).scrub, s.scrubSectors g))

/-- Full passes completed by every walker. -/
def State.passes (s : State) : Nat :=
  match s.walkers.map (fun (w : Nat × Nat) => w.1 / w.2) with
  | [] => 0
  | x :: xs => xs.foldl min x

/-- Whether a unit is in service, for STATUS.ACTIVE (R482). -/
def State.serves (s : State) (pg : Page) (u : Nat) : Bool :=
  match pg with
  | .blk => s.blkServes u
  | .slc => s.domOn (24 + u / 32) && decide (s.rd F.SLC_SLICE_STATE_MODE u < 3)
  | .memc => s.domOn 29 && !(s.chansOf u).isEmpty
  | .gath => s.domOn (16 + u / 2)
  | .fab => s.domOn 28
  | .fab0 => s.domOn 28
  | .dom => s.domOn u
  | _ => true

/-- Fields of the other pages that show the state of their unit. -/
def State.viewDev (s : State) (pg : Page) (u : Nat) (f : Fld) (i : Nat) : Nat :=
  if f = F.TOP_TIME then s.now
  else if f = F.DIST_SITE_BAD then (s.sitesWith u (fun x => decide (2 ≤ x))).foldl setBit 0
  else if f = F.SLC_SLICE_STATE_SWEEP then b2n (!(s.slc u).sweeps.isEmpty)
  else if f = F.SLC_SLICE_STATE_RLIST then (s.slc u).rlist.length
  else if f = F.MEMC_REG_MODE_EFF then b2n (s.partition u)
  else if f = F.MEMC_REG_AUTO then b2n ((List.range 8).any (fun k => s.rd F.SLC_SLICE_STATE_MODE (8 * u + k) == 2))
  else if f = F.ERRQ_HEAD then (match s.errq.entries with | [] => 0 | e :: _ => bitsOf e.bits (32 * i) 32)
  else if f = F.ERRQ_COUNT then s.errq.entries.length
  else if f = F.ERRQ_PASSES then min 65535 s.passes
  else if f = F.ERRQ_PROGRESS then (s.walkers.map (fun (w : Nat × Nat) => (w.1 - s.passes * w.2) * 100 / w.2)).foldl min 100
  else if f = F.INTC_PENDING then ((List.range 32).filter (fun k => s.sourcePending (32 * i + k))).foldl setBit 0
  else if f = F.INTC_INSERVICE then ((List.range 32).filter (fun k => s.inService (32 * i + k))).foldl setBit 0
  else if f = F.PCIE_PEER_DOWN_MS then
    (if (s.port (1 - u)).up then 0 else min (2 ^ 32 - 1) ((s.now - (s.port (1 - u)).downAt) / 100000))
  else if f = F.CH_OUT_BUSY then b2n (s.plaza.dlv.any (fun d => d.chan == u))
  else if f = F.SEC_STATUS_DRBG_OK then b2n (s.sec.entropyOk && s.sec.running)
  else if f = F.SEC_STATUS_FUSE_SVN then svnOf s.nvm.svnFuse
  else if f = F.SEC_SESSIONS_OPEN then s.sec.sessions.length
  else if f = F.SEC_SESSIONS_MEAS_USED then s.measTable.length
  else if f = F.SEC_TENANT_STATE then
    (let t := (s.tenant i).state
     if t = 1 ∧ s.boundSomewhere i = true then 2 else t)
  else if f = F.THM_STATE_FABRIC_MODE then b2n s.fabricMode
  else if f = F.THM_STATE_OUT then s.thm.out.length
  else s.rdAt pg u f i

/-- A field of the common header as a read returns it (R482, R485). -/
def State.viewHdr (s : State) (pg : Page) (u : Nat) (f : Fld) (i : Nat) : Nat :=
  if f = F.HDR_CAPS then s.caps pg u i
  else if f = F.HDR_CTRL_ENABLE then b2n (s.enabled pg u)
  else if f = F.HDR_STATUS_ACTIVE then b2n (s.enabled pg u && s.serves pg u)
  else if f = F.HDR_STATUS_STOPPING then b2n (pg == .tick && s.plaza.stopping)
  else s.rdAt pg u f i

/-- Whether unit u is now in the condition whose cycles a counter counts (R101, R119, R151, R181, R209, R253, R278). A read that clears such a
counter leaves a free value, which stands for the cycles still to come. [DESIGN CHOICE, log entry 9] -/
def State.counting (s : State) (u : Nat) (f : Fld) : Bool :=
  let b := s.blk u
  if f = F.BLK_CC_QFULL then b.core.stall == 1
  else if f = F.BLK_CC_MEMWAIT then b.core.stall == 2
  else if f = F.BLK_MX_BALLAST_CYCLES then b.mx.ramp != .off
  else if f = F.BLK_MX_LOAD_WAITS then b.passWaits true
  else if f = F.BLK_MX_DRAIN_WAITS then b.passWaits false
  else if f = F.BLK_MX_GATED then b.mx.gate != 0 || b.mx.dgate != 0
  else if f = F.BLK_BAR_WAIT then b.q.atBarrier.isSome
  else if f = F.BLK_VX_BAR_WAIT then b.vx.any (fun (e : Nat × Group) => e.2.waits != [])
  else if f = F.BLK_VX_IDLE then !b.vx.isEmpty
  else if f = F.SLC_VICTIM_WAIT then (s.slc u).miss.any (fun m => m.kind == .victim)
  else if f = F.BLK_SP_GUEST_WAIT then b.q.inflight.any (fun x => x.q == .dxq)
  else if f = F.GATH_XD_TABLE_WAIT then (s.gath u).parts.any (fun x => !x.ready)
  else if f = F.MEMC_BANK_FULL ∨ f = F.MEMC_CLASS_FULL then (List.range 8).any (fun k => (s.slc (8 * u + k)).miss.any (fun m => m.stage == .waiting || m.stage == .held))
  else false

/-- What a read of copy i of a field of a page returns. -/
def State.view (s : State) (pg : Page) (u : Nat) (f : Fld) (i : Nat) : Nat :=
  if f.page = .hdr then s.viewHdr pg u f i
  else match pg with
    | .blk => s.viewBlk u f i
    | _ => s.viewDev pg u f i

end Sys2Proof.Machine
end

