-- ==== Sys2Proof/Machine/Mailbox.lean ====
section
/-! DEFINITION. The mailboxes: who may send a command, when it is accepted, and how it completes (R472 to R475). -/

namespace Sys2Proof.Machine
open Sys2Proof

/-- Request bytes of mailbox m: the first LEN bytes of its window (R479). -/
def State.mbReq (s : State) (m : Nat) : List Byte := (List.range (s.rd F.MB_REQ_LEN m)).map (fun i => (s.mb m).window.get i 0)

/-- A response's first 2,048 bytes in the data window. -/
def putWindow (w : SMap Byte) (bs : List Byte) : SMap Byte :=
  (((bs.take 2048).zip (List.range 2048))).foldl (fun (w : SMap Byte) (e : Byte × Nat) => SMap.put e.2 e.1 w) w

/-- A command completes (R473): response and status are in place, BUSY clears, DONE is set, and vector 1 is raised. -/
def State.mbDone (s : State) (m st total : Nat) (resp : List Byte) : State :=
  let s := s.onMb m (fun b => { b with window := putWindow b.window resp })
  let s := (s.wr F.MB_RESP_STATUS m 0 st).wr F.MB_RESP_TOTAL m 0 total
  let s := (s.wr F.MB_CTRL_BUSY m 0 0).wr F.MB_CTRL_DONE m 0 1
  if m < 2 then s.msi m 0 1 else s

/-- A command completes with a response that is kept for RESP_READ (R473). -/
def State.mbKeep (s : State) (m st : Nat) (resp : List Byte := []) : State :=
  (s.onMb m (fun b => { b with kept := resp })).mbDone m st resp.length resp

/-- A command is refused with a reason in the response (R474). -/
def State.mbRefuse (s : State) (m reason : Nat) : State := s.mbKeep m 7 (Config.reasonBytes reason)

/-- Sources of a command (R474). -/
inductive MbFrom where
  | any | ports | primary | sideband
  deriving DecidableEq, Repr

/-- Stages in which a command is accepted (R474). -/
inductive MbStage where
  | any | ready | waiting | certs
  deriving DecidableEq, Repr

/-- Whether mailbox m may send a command. [DEDUCED, log entry 48] -/
def State.mbFromOk (s : State) (m : Nat) : MbFrom → Bool
  | .any => true
  | .ports => decide (m < 2)
  | .primary => decide (m < 2) && s.rd F.PCIE_AUTH_HOLDER m == 1
  | .sideband => m == 2

/-- Whether a command is accepted now. [DEDUCED, log entry 48] -/
def State.mbStageOk (s : State) : MbStage → Bool
  | .any => true
  | .ready => s.rd F.TOP_STATUS_READY == 1
  | .waiting => s.rd F.BOOT_STATUS_STAGE == 14
  | .certs => s.rd F.SEC_STATUS_AK_READY == 1

/-- The firmware, or the waiting boot ROM, performs the command of mailbox m if its OP is `op` (R473, R474). [DEDUCED, log entry 48] -/
def State.serveMb (s : State) (m op : Nat) (fr : MbFrom) (st : MbStage) (act : List Byte → State → State) : State :=
  if s.rd F.MB_CTRL_BUSY m = 0 ∨ s.rd F.MB_REQ_OP m ≠ op then s
  else if s.mbFromOk m fr = false then s.mbKeep m 3
  else if s.mbStageOk st = false then s.mbKeep m 4
  else act (s.mbReq m) s

/-- OP codes of R474. -/
def mbOps : List Nat :=
  [0x0001, 0x0010, 0x0011, 0x0012, 0x0020, 0x0021, 0x0022, 0x0030, 0x0031, 0x0032, 0x0033, 0x0034, 0x0035, 0x0040, 0x0041, 0x0050, 0x0051, 0x0060]

/-- MB_CTRL.GO is written 1 (R473): BUSY is set; while it is set the write is dropped with REJECT. An OP that R474 does not list
completes with STATUS 1. [DEDUCED, log entry 48] -/
def State.mbGo (s : State) (m : Nat) : State :=
  if s.rd F.MB_CTRL_BUSY m = 1 then s.wr F.MB_CTRL_REJECT m 0 1
  else
    let s := s.wr F.MB_CTRL_BUSY m 0 1
    if mbOps.contains (s.rd F.MB_REQ_OP m) then s else s.mbKeep m 1

/-- RESP_READ (R473): a segment of the kept response. [DESIGN CHOICE, log entry 47] -/
def execRespRead (m : Nat) (s : State) : Host.Outcome State Fault Refusal :=
  onUnit 3 m s fun s => s.serveMb m 0x0001 .any .any (fun req s =>
    if req.length ≠ 4 then s.mbDone m 2 0 []
    else s.mbDone m 0 (s.mb m).kept.length (((s.mb m).kept.drop (leNat req)).take 2048))

/-- GET_INFO (R474). -/
def execGetInfo (m : Nat) (s : State) : Host.Outcome State Fault Refusal :=
  onUnit 3 m s fun s => s.serveMb m 0x0010 .any .any (fun req s =>
    if req ≠ [] then s.mbKeep m 2
    else
      let st := packed [(s.rd F.BOOT_STATUS_STAGE, 0), (s.rd F.BOOT_STATUS_RESULT, 4), (s.rd F.BOOT_STATUS_FAIL_CAUSE, 8), (s.rd F.BOOT_STATUS_SOURCE, 12), (s.rd F.BOOT_STATUS_QUICK_DONE, 13)]
      s.mbKeep m 0 (Config.infoLayout [Config.part, Config.serial, Config.fwVersion s.sec.fwMeas, s.sec.fwSvn, svnOf s.nvm.svnFuse, st]))

/-- AUTH_HANDOVER (R376): accepted from the holder while the other port's link is up; it takes effect in step 3. -/
def execAuthHandover (m : Nat) (s : State) : Host.Outcome State Fault Refusal :=
  onUnit 3 m s fun s => s.serveMb m 0x0040 .ports .ready (fun _ s =>
    if s.later.auth.isSome then s
    else if s.rd F.PCIE_AUTH_HOLDER m = 1 ∧ (s.port (1 - m)).up = true then s.onLater (fun l => { l with auth := some (m, 1 - m) })
    else s.mbRefuse m 1)

/-- AUTH_CLAIM (R376): accepted from the other port when the holder's link has been down for more than CLAIM_MS. -/
def execAuthClaim (m : Nat) (s : State) : Host.Outcome State Fault Refusal :=
  onUnit 3 m s fun s => s.serveMb m 0x0041 .ports .ready (fun _ s =>
    if s.later.auth.isSome then s
    else if s.rd F.PCIE_AUTH_HOLDER m = 0 ∧ (s.port (1 - m)).up = false ∧ s.rd F.PCIE_AUTH_CLAIM_MS m * 100000 < s.now - (s.port (1 - m)).downAt then
      s.onLater (fun l => { l with auth := some (m, m) })
    else s.mbRefuse m 1)

/-- Step 3 for a change of authority (R376): the mailbox that asked, and the new holder. -/
def State.moveAuth (s : State) : State :=
  match s.later.auth with
  | none => s
  | some (m, h) =>
    let s := s.onLater (fun l => { l with auth := none })
    let s := (s.wr F.PCIE_AUTH_HOLDER h 0 1).wr F.PCIE_AUTH_HOLDER (1 - h) 0 0
    ((s.setEvt .pcie 0 6).setEvt .pcie 1 6).mbKeep m 0

end Sys2Proof.Machine
end

