-- ==== Sys2Proof/Machine/Security.lean ====
section
/-! DEFINITION. The security engine: provisioning, tenants, bindings, envelopes and attestation (R324 to R356). -/

namespace Sys2Proof.Machine
open Sys2Proof

/-! ### Keys (R327) -/

/-- Tenant key K_t as bytes. -/
def Tenant.kt (t : Tenant) : List Byte := leBytes 32 t.key.toNat

/-- XTS pair of a tenant key (R327). -/
def Tenant.xts (t : Tenant) : BitVec 512 := BitVec.ofNat 512 (leNat (hkdf t.kt none (ascii "DG3140 XTS") 64))

/-- Envelope keys (R327). -/
def Tenant.envKey (t : Tenant) (out : Bool) : List Byte :=
  hkdf t.kt none (ascii (if out then "DG3140 ENV OUT" else "DG3140 ENV IN")) 32

/-- A key is dropped by the engine, and by every controller once no request under it remains in its slots (R266, R355). -/
def State.dropKey (s : State) (h : Nat) : State :=
  let s := forN nDist s (fun s g => (s.onMem g (fun m => { m with drops := h :: m.drops })).dropIdle g)
  { s with keys := SMap.del h s.keys }

/-- A key handle has a new value: controllers that held the old one drop it (R265, R266). -/
def State.setKey (s : State) (h : Nat) (k : BitVec 512) : State := let s := s.dropKey h; { s with keys := SMap.put h k s.keys }

/-! ### Provisioning (R334 to R337) -/

/-- A release policy (R337): lowest SVN and approved measurements, if it is well formed; its reserved bytes are ignored (R6). -/
def policyOf (bs : List Byte) : Option (Nat × List (BitVec 384)) :=
  let n := leNat (bs.take 1)
  if 1 ≤ n ∧ n ≤ 8 ∧ bs.length = 16 + 48 * n then
    some (leNat ((bs.drop 8).take 8), (List.range n).map (fun i => BitVec.ofNat 384 (leNat ((bs.drop (16 + 48 * i)).take 48))))
  else none

/-- A session number that no open session has, from a free value. [DEDUCED, log entry 49] -/
def State.newSession (s : State) : Nat :=
  (((List.range 17).map (fun i => (s.freeVal + i) % 65536)).find? (fun n => s.sec.sessions.all (fun x => x.id != n))).getD 0

/-- PROV_OPEN (R335 steps 2 and 3, R336, R343): request t, N_T, Q_T in 2, 32 and 97 bytes; response S and N_D in 2 and 32. [DESIGN CHOICE, log entry 47] -/
def execProvOpen (m : Nat) (s : State) : Host.Outcome State Fault Refusal :=
  onUnit 3 m s fun s => s.serveMb m 0x0020 .ports .ready (fun req s =>
    let t := leNat (req.take 2)
    let nt := (req.drop 2).take 32
    let qt := req.drop 34
    if req.length ≠ 131 ∨ 4096 ≤ t then s.mbKeep m 2
    else if s.sec.entropyOk = false then s.mbRefuse m 2
    else if 16 ≤ s.sec.sessions.length then s.mbKeep m 5
    else if ecOnCurve qt = false then s.mbKeep m 6
    else
      let id := s.newSession
      let s := s.used
      let (s, nd) := s.random 32
      let kw := hkdf (ecdh s.ak qt) (some (nt ++ nd)) (ascii "DG3140 WRAP" ++ leBytes 2 t ++ qt) 32
      let s := s.onSec (fun e => { e with sessions := e.sessions ++ [⟨id, t, BitVec.ofNat 256 (leNat kw), s.now⟩] })
      s.mbKeep m 0 (leBytes 2 id ++ nd))

/-- A session closes (R336). -/
def State.closeSession (s : State) (id : Nat) : State := s.onSec (fun e => { e with sessions := e.sessions.filter (fun x => x.id != id) })

/-- An import fails (R336): nothing is stored, IMPORT_FAIL is set and the session closes. -/
def State.importFail (s : State) (m id st reason : Nat) : State :=
  ((s.closeSession id).setEvt .sec 0 2).mbKeep m st (if st = 7 then Config.reasonBytes reason else [])

/-- PROV_IMPORT (R335 steps 4 and 5, R336): request S, policy, C ‖ TAG; response the confirmation tag. [DESIGN CHOICE, log entry 47] -/
def execProvImport (m : Nat) (s : State) : Host.Outcome State Fault Refusal :=
  onUnit 3 m s fun s => s.serveMb m 0x0021 .ports .ready (fun req s =>
    let id := leNat (req.take 2)
    let pol := (req.drop 2).take (req.length - 50)
    let ct := req.drop (req.length - 48)
    match s.sec.sessions.find? (fun x => x.id == id) with
    | none => s.importFail m id 7 3
    | some x =>
      match policyOf pol with
      | none => s.importFail m id 2 0
      | some (minSvn, ms) =>
        if (s.tenant x.tenant).state ≠ 0 then s.importFail m id 7 4
        else if 2048 < (s.measTable ++ ms).eraseDups.length then s.importFail m id 5 0
        else match gcmUnbox (leBytes 32 x.kw.toNat) (List.replicate 12 0) (leBytes 2 id ++ leBytes 2 x.tenant ++ pol) ct with
          | none => s.importFail m id 6 0
          | some k =>
            let t : Tenant := { Tenant.reset with state := 1, key := BitVec.ofNat 256 (leNat k), minSvn := minSvn, meas := ms }
            let s := ((s.closeSession id).onTenant x.tenant (fun _ => t)).setKey x.tenant t.xts
            (s.inc F.SEC_IMPORTS 0 0).mbKeep m 0 (gcmBox (leBytes 32 x.kw.toNat) (List.replicate 11 0 ++ [1]) (ascii "DG3140 OK" ++ leBytes 2 x.tenant) []))

/-- Whether a session has been open for 60 s of device time (R336). -/
def State.sessionOld (s : State) (x : Session) : Bool := decide (x.opened + 6000000000 ≤ s.now)

/-- SESSION_TIMEOUT (R336): the k-th open session closes once 60 s have passed without its import. [DEDUCED, log entry 49] -/
def execSessionTimeout (k : Nat) (s : State) : Host.Outcome State Fault Refusal :=
  .next (match s.sec.sessions[k]? with
    | some x => if s.sessionOld x then s.onSec (fun e => { e with sessions := e.sessions.eraseIdx k }) else s
    | none => s)

/-! ### Revocation and sweeps (R252, R338) -/

/-- Slices that a sweep visits: those that are not RETIRED. -/
def State.sweepSlices (s : State) : List Nat := (List.range nSlices).filter (fun n => s.rd F.SLC_SLICE_STATE_MODE n != 3)

/-- A sweep starts in every slice (R252). -/
def State.startSweep (s : State) (w : Sweep) : State :=
  s.sweepSlices.foldl (fun s n => s.onSlc n (fun sl => { sl with sweeps := sl.sweeps ++ [w] })) s

/-- The sweeps of a revocation have ended (R338): keys, policy and counters are overwritten, and the slot is EMPTY. -/
def State.revokeDone (s : State) (t : Nat) : State :=
  let w := (s.tenant t).waiter
  let s := ((s.dropKey t).onTenant t (fun _ => Tenant.reset)).inc F.SEC_REVOKES 0 0
  match w with | some m => s.mbKeep m 0 | none => s

/-- REVOKE (R338): request the tenant number in 2 bytes. [DESIGN CHOICE, log entry 47] -/
def execRevoke (m : Nat) (s : State) : Host.Outcome State Fault Refusal :=
  onUnit 3 m s fun s => s.serveMb m 0x0022 .ports .ready (fun req s =>
    let t := leNat req
    if req.length ≠ 2 ∨ 4096 ≤ t then s.mbKeep m 2
    else if (s.tenant t).state = 3 then (if (s.tenant t).waiter = some m then s else s.mbRefuse m 5)
    else if s.boundSomewhere t then s.mbRefuse m 6
    else
      let left := s.sweepSlices
      let s := (s.startSweep ⟨none, some t⟩).onTenant t (fun x => { x with state := 3, sweeping := left, waiter := some m })
      if left = [] then s.revokeDone t else s)

/-- A context's release sweep leaves slice n; after the last one its storage key is dropped (R252, R327). -/
def State.releaseSwept (s : State) (c n : Nat) : State :=
  if (s.ctx c).sweeping.contains n then
    let left := (s.ctx c).sweeping.filter (fun k => k != n)
    let s := s.onCtx c (fun x => { x with sweeping := left })
    if left = [] then s.dropKey (0x1000 + c) else s
  else s

/-- A revocation's sweep leaves slice n. -/
def State.revokeSwept (s : State) (t n : Nat) : State :=
  if (s.tenant t).sweeping.contains n then
    let left := (s.tenant t).sweeping.filter (fun k => k != n)
    let s := s.onTenant t (fun x => { x with sweeping := left })
    if left = [] then s.revokeDone t else s
  else s

/-- SWEEP_END (R252): the oldest sweep of slice n ends. -/
def execSweepEnd (n : Nat) (s : State) : Host.Outcome State Fault Refusal :=
  onUnit nSlices n s fun s =>
    match (s.slc n).sweeps with
    | [] => s
    | w :: ws =>
      let s := (s.sweepSlice n w).onSlc n (fun sl => { sl with sweeps := ws })
      let s := match w.owner with | some c => s.releaseSwept c n | none => s
      match w.handle with | some t => s.revokeSwept t n | none => s

/-! ### Bindings (R339, R340, R342) -/

/-- A write of SEC.BIND_REQ (R339). -/
def State.bindReqOp (s : State) (src : Source) (v : Nat) : State :=
  let n := bitsOf v 0 10
  if s.mayWrite src = false then s
  else if (s.ctx n).state ≤ 1 then
    s.onCtx n (fun c => { c with bindReq := SMap.put (bitsOf v 10 6) (if bitOf v 28 then 0x1000 else bitsOf v 16 12) c.bindReq })
  else s.setEvt .sec 0 0

/-- BIND_REQ (R339). -/
def execBindReq (src : Source) (v : Word) (s : State) : Host.Outcome State Fault Refusal := onSrc src <| .next (s.bindReqOp src v.toNat)

/-- Why a grant is refused (R340, R356): 0 for none. -/
def State.grantReason (s : State) (t : Nat) (meas : BitVec 384) : Nat :=
  let x := s.tenant t
  if x.state ≠ 1 then 1 else if x.meas.contains meas = false then 2 else if s.sec.fwSvn < x.minSvn then 3 else 0

/-- The requests of a context as an ACTIVATE's preparation evaluates them: slot, request, reason. -/
def State.evalSlots (s : State) (n : Nat) (meas : BitVec 384) : List (Nat × Nat × Nat) :=
  (s.ctx n).bindReq.map (fun (e : Nat × Nat) => (e.1, e.2, if e.2 = 0x1000 then 0 else s.grantReason e.2 meas))

/-- One evaluated request takes effect when the ACTIVATE applies (R339, R340). -/
def State.applySlot (s : State) (n : Nat) (e : Nat × Nat × Nat) : State :=
  let (j, t, r) := e
  if SMap.find j (s.ctx n).bindReq ≠ some t then s
  else
    let s := s.onCtx n (fun c => { c with bindReq := SMap.del j c.bindReq, bound := SMap.del j c.bound })
    let r := if r = 0 ∧ t ≠ 0x1000 ∧ (s.tenant t).state ≠ 1 then 1 else r
    if t = 0x1000 then s
    else if r = 0 then (s.onCtx n (fun c => { c with bound := SMap.put j t c.bound })).inc F.SEC_BIND_GRANTED 0 0
    else
      let s := s.inc F.SEC_BIND_REFUSED 0 0
      if s.rd F.SEC_BIND_RESULT_VALID = 1 then s
      else (((s.wr F.SEC_BIND_RESULT_CTX 0 0 n).wr F.SEC_BIND_RESULT_SLOT 0 0 j).wr F.SEC_BIND_RESULT_REASON 0 0 r).wr F.SEC_BIND_RESULT_VALID 0 0 1

/-- BOUND_TENANTS as the entry holds it (R45): 64 slots of 2 bytes. -/
def Ctx.boundBytes (c : Ctx) : List Byte :=
  ((List.range 64).map (fun j => leBytes 2 (match SMap.find j c.bound with | some t => t + 2 ^ 15 | none => 0))).flatten

/-! ### Envelopes (R344 to R348) -/

/-- IV of an envelope: DIR, three zero bytes, SEQ (R344). -/
def envIv (dir seq : Nat) : List Byte := leBytes 4 dir ++ leBytes 8 seq

/-- A number of an envelope's header. -/
def envNum (bs : List Byte) (o n : Nat) : Nat := leNat ((bs.drop o).take n)

/-- Intakes that are held (R63, R347). -/
def State.heldIntakes (s : State) : List Intake :=
  s.plaza.held ++ (match s.plaza.run with | some r => r.intake.toList | none => [])
    ++ (match s.plaza.choice with | some c => c.intake.toList | none => [])

/-- HELD_SEQ of a tenant (R347). [DEDUCED, log entry 49] -/
def State.heldSeq (s : State) (t : Nat) : Nat :=
  ((s.heldIntakes.map (fun i => i.subs.filterMap (fun x => match x.seq with | some (u, q) => if u = t then some q else none | none => none))).flatten).foldl max 0

/-- Whether an envelope's fixed fields are as R344 lists them, and it names the context being fed and a tenant bound to it. -/
def State.envFormOk (s : State) (ctx : Nat) (bs : List Byte) : Bool :=
  let t := envNum bs 6 2
  decide (80 ≤ bs.length) && envNum bs 0 4 == 0x4B454E31 && envNum bs 4 1 == 1 && envNum bs 5 1 == 0 && decide (t < 4096)
    && envNum bs 0x16 2 == 0 && envNum bs 0x20 32 == 0 && bs.length == 80 + envNum bs 0x10 4 && decide (envNum bs 0x10 4 ≤ 16777216)
    && envNum bs 0x14 2 == ctx && (s.ctx ctx).bound.any (fun (e : Nat × Nat) => e.2 == t)

/-- The engine opens an inbound envelope (R345): status of R370, plaintext, and tenant and SEQ of an opened one. `last` is the
highest SEQ of the same tenant earlier in the intake. -/
def State.openEnv (s : State) (ctx : Nat) (last : Nat → Nat) (bs : List Byte) : State × Nat × List Byte × Option (Nat × Nat) :=
  let t := envNum bs 6 2
  let seq := envNum bs 8 8
  let x := s.tenant t
  let fail (s : State) (f : Fld) (st : Nat) : State × Nat × List Byte × Option (Nat × Nat) := ((s.inc f 0 0).setEvt .sec 0 3, st, [], none)
  if s.envFormOk ctx bs = false then fail s F.SEC_ENV_AUTH_FAIL 2
  else if seq ≤ x.inSeq ∨ seq ≤ s.heldSeq t ∨ seq ≤ last t then fail s F.SEC_ENV_SEQ_FAIL 3
  else match gcmUnbox (x.envKey false) (envIv 0 seq) (bs.take 64) (bs.drop 64) with
    | none => fail s F.SEC_ENV_AUTH_FAIL 2
    | some pt => (s.inc F.SEC_ENV_OPENED 0 0, 0, pt, some (t, seq))

/-- The engine seals an outbound envelope (R344, R348): SEQ = OUT_SEQ + 1. CLIENT_TAG of an outbound envelope is a free value. [DEDUCED, log entry 49] -/
def State.sealEnv (s : State) (ctx t : Nat) (data : List Byte) : State × List Byte :=
  let seq := (s.tenant t).outSeq + 1
  let hdr := leBytes 4 0x4B454E31 ++ leBytes 1 1 ++ leBytes 1 1 ++ leBytes 2 t ++ leBytes 8 seq ++ leBytes 4 data.length ++ leBytes 2 ctx
    ++ leBytes 2 0 ++ leBytes 8 s.freeVal ++ List.replicate 32 0
  let s := (s.used.onTenant t (fun x => { x with outSeq := seq })).inc F.SEC_ENV_SEALED 0 0
  (s, hdr ++ gcmBox ((s.tenant t).envKey true) (envIv 1 seq) hdr data)

/-- Step 2 of a COMPLETE frame raises IN_SEQ of each tenant to the highest SEQ that the frame consumed (R346). -/
def State.raiseInSeq (s : State) (i : Intake) : State :=
  i.subs.foldl (fun s x => match x.seq with | some (t, q) => s.onTenant t (fun y => { y with inSeq := max y.inSeq q }) | none => s) s

/-! ### Certificates and attestation (R330, R351 to R353) -/

/-- GET_CERTS (R330): both certificates. -/
def execGetCerts (m : Nat) (s : State) : Host.Outcome State Fault Refusal :=
  onUnit 3 m s fun s => s.serveMb m 0x0011 .any .certs (fun _ s => s.mbKeep m 0 (Config.certLayout Config.idCert s.sec.akCert))

/-- CONFIG_DIGEST (R353): the CAPS words of every page in page order, STEPS_EFF and TICK.SYNC. [DEDUCED, log entry 49] -/
def State.configDigest (s : State) : BitVec 384 :=
  let caps := (allPages.map (fun (e : Page × Nat) => leBytes 4 (s.caps e.1 e.2 0) ++ leBytes 4 (s.caps e.1 e.2 1) ++ leBytes 4 (s.caps e.1 e.2 2))).flatten
  sha384 (caps ++ leBytes 4 (s.rd F.TICK_PERIOD_STEPS_EFF) ++ leBytes 4 (packed [(s.rd F.TICK_SYNC_MODE, 0), (s.rd F.TICK_SYNC_TICK_OUT_EN, 2)]))

/-- A context record (R352). -/
def State.attestRecord (s : State) (n : Nat) : List Byte :=
  let c := s.ctx n
  leBytes 2 n ++ leBytes 1 (c.state + 8 * b2n c.resident) ++ List.replicate 5 0
    ++ (if c.state = 0 then List.replicate 48 0 else bytes48 c.measurement) ++ c.boundBytes ++ List.replicate 8 0

/-- An attestation report (R352), signed with AK. -/
def State.attestReport (s : State) (nonce : List Byte) (ns : List Nat) : State × List Byte :=
  let hdr := leBytes 4 0x4B415431 ++ leBytes 2 1 ++ leBytes 2 ns.length ++ nonce ++ leBytes 8 s.now ++ leBytes 8 s.frame ++ bytes48 s.sec.fwMeas
    ++ leBytes 8 s.sec.fwSvn ++ leBytes 8 (svnOf s.nvm.svnFuse) ++ bytes48 (sha384 (Config.fuseArray s.nvm.svnFuse)) ++ bytes48 s.configDigest
    ++ leBytes 4 (packed [(s.rd F.TOP_STATUS_FATAL, 0), (s.sec.opt % 2, 1)]) ++ List.replicate 20 0
  let body := hdr ++ (ns.map s.attestRecord).flatten
  let (s, sig) := s.sign body
  (s, body ++ sig)

/-- ATTEST (R351): the request waits for the end of step 3 of the next tick gap. Context numbers take 2 bytes each. [DESIGN CHOICE, log entry 47] -/
def execAttest (m : Nat) (s : State) : Host.Outcome State Fault Refusal :=
  onUnit 3 m s fun s => s.serveMb m 0x0012 .ports .ready (fun req s =>
    let k := (req.length - 48) / 2
    if req.length < 48 ∨ req.length % 2 = 1 ∨ 64 < k ∨ (List.range k).any (fun i => decide (1024 ≤ envNum req (48 + 2 * i) 2)) then s.mbKeep m 2
    else if s.later.attest.contains m then s
    else s.onLater (fun l => { l with attest := l.attest ++ [m] }))

/-- The reports that are due at the end of step 3 (R351). -/
def State.attestAll (s : State) : State :=
  let ms := s.later.attest
  ms.foldl (fun s m =>
    let req := s.mbReq m
    let ns := (List.range ((req.length - 48) / 2)).map (fun i => envNum req (48 + 2 * i) 2)
    let (s, r) := s.attestReport (req.take 48) ns
    s.mbKeep m 0 r) (s.onLater (fun l => { l with attest := [] }))

end Sys2Proof.Machine
end

