-- ==== Sys2Proof/Machine/Contexts.lean ====
section
/-! DEFINITION. The context table: entries, the CTX.CMD queue, the preparation of an ACTIVATE, the transitions of step 3, and residency
(R41 to R47, R148, R340, R363, R391). -/

namespace Sys2Proof.Machine
open Sys2Proof

/-! ### Channels: fetch positions and due times (R58, R59, R63, R364) -/

/-- Pending submissions of a channel: those between its fetch position and the latest tail value; none while it is DOWN or not
enabled (R58, R362, R377). -/
def State.chPending (s : State) (h : Nat) : Nat :=
  if s.rd F.CH_ENABLE h = 0 ∨ s.rd F.CH_DOWN h = 1 then 0
  else
    let n := (s.rd F.CH_TAIL_SEEN h + 2 ^ 32 - s.rd F.CH_FETCHED h) % 2 ^ 32
    if n < 2 ^ 31 then n else 0

/-- Host address of submission n of a channel (R364). -/
def State.subAddr (s : State) (h n : Nat) : Nat := s.rd F.CH_RING_BASE h + 64 * (n % 2 ^ s.rd F.CH_LOG2 h)

/-- The DUE field of a submission newly at the front of the pending ones is read (R59), unless the device reads no ring any more. -/
def State.dueAsk (s : State) (h : Nat) : State :=
  let f := s.rd F.CH_FETCHED h
  if s.halted = true ∨ s.chPending h = 0 ∨ (s.chan h).dueIdx = some f then s
  else (s.onChan h (fun c => { c with dueIdx := some f, due := none })).emit "HOST_READ" [h / 128, s.subAddr h f + 0x10, 8]

/-- The fetch position of a channel moves (R63). -/
def State.setFetched (s : State) (h v : Nat) : State := (s.wr F.CH_FETCHED h 0 v).dueAsk h

/-- Channels that feed a context (R45). -/
def Ctx.channels (c : Ctx) : List Nat := (List.range nChans).filter (fun h => (c.num 0x030 32).testBit h)

/-! ### Intakes (R63) -/

/-- An intake is discarded: its channels return to where it began, and H flips back. -/
def State.discardIntake (s : State) (i : Intake) : State :=
  (i.starts.foldl (fun s (e : Nat × Nat) => s.setFetched e.1 e.2) s).onCtx i.ctx (fun c => { c with intakeHalf := i.half })

/-- The intake fetched for the coming frame is discarded. -/
def State.discardChoice (s : State) : State :=
  match s.plaza.choice with
  | some ch => match ch.intake with
    | some i => (s.discardIntake i).onPlaza (fun p => { p with choice := some { ch with intake := none, fetched := false } })
    | none => s
  | none => s

/-- Every intake that a context holds is discarded (R63), newest first. -/
def State.discardAll (s : State) (n : Nat) : State :=
  let s := match s.plaza.choice with | some ch => if ch.ctx = n then s.discardChoice else s | none => s
  let mine := s.plaza.held.filter (fun i => i.ctx == n)
  mine.foldl State.discardIntake (s.onPlaza (fun p => { p with held := p.held.filter (fun i => i.ctx != n) }))

/-! ### Region descriptors (R48) -/

/-- `n` bytes of a structure from offset o, as a number. -/
def bytesNum (bs : List Byte) (o n : Nat) : Nat := leNat ((bs.drop o).take n)

/-- A region descriptor: the region, its CUR, and whether it passes the checks of R48. KEY values from 64 to 254, to which R48 gives no
meaning and states no check, fail the check here. [DESIGN CHOICE, log entry 18] -/
def regionOf (bs : List Byte) : Region × Bool × Bool :=
  let f := bytesNum bs
  let r : Region := ⟨f 0 8, f 8 8, f 16 8, f 24 8, f 32 1, f 34 1, bitsOf (f 36 2) 0 10, bitOf (f 36 2) 15⟩
  let al (x : Nat) : Bool := x % 0x1_0000 == 0
  let ok := crc32c (bs.take 60) == f 60 4 && al r.vbase && al r.size && al r.baseA && al r.baseB && r.size != 0 && decide (r.kind ≤ 2)
    && (r.kind == 0 || r.baseB == 0) && (decide (r.key ≤ 63) || r.key == 0xFF) && (r.kind == 2 || f 36 2 == 0)
  (r, bitOf (f 33 1) 0, ok)

/-- The device reads bytes of an operator's structure in external memory, under the host window's owner and key. -/
def State.hostMem (s : State) (a n : Nat) : State × List Byte := s.readBytes .engine 0x3401 0x1401 none a n 2

/-- First device address that belongs to no group (R256). -/
def State.memTop (s : State) : Nat := s.rd F.MEMC_RANGE_BASE_BASE 15 + s.rd F.MEMC_RANGE_SIZE_SIZE 15

/-- Whether a region names only addresses of groups (R256). -/
def State.regionInside (s : State) (r : Region) : Bool :=
  decide (r.baseA + r.size ≤ s.memTop) && (r.kind != 0 || decide (r.baseB + r.size ≤ s.memTop))

/-- The region table of a context: regions, CUR bits, and whether every descriptor passes. -/
def State.regionTable (s : State) (c : Ctx) : State × List Region × BitVec 1024 × Bool :=
  let k := c.num 0x028 2
  if k = 0 ∨ 1024 < k then (s, [], 0, false)
  else
    let (s, bs) := s.hostMem (c.num 0x020 8) (64 * k)
    let ds := (List.range k).map (fun i => regionOf ((bs.drop (64 * i)).take 64))
    let cur : BitVec 1024 := ((ds.zip (List.range k)).foldl (fun (m : BitVec 1024) (e : (Region × Bool × Bool) × Nat) => if e.1.2.1 then m ||| (1#1024 <<< e.2) else m) 0)
    (s, ds.map (fun d => d.1), cur, ds.all (fun d => d.2.2 && s.regionInside d.1))

/-! ### Preparation of an ACTIVATE (R46, R148, R340, R363, R391) -/

/-- ENTRY_CHECK (R45). -/
def Ctx.entryOk (c : Ctx) : Bool := crc32c ((List.range 0x1F8).map (fun i => c.host.get (8 + i) 0)) == c.num 0 4

/-- The program container at PROGRAM_BASE (R148): its code and measurement, if its checks pass. -/
def State.container (s : State) (c : Ctx) : State × Option (List Word × BitVec 384) :=
  let a := c.num 0x010 8
  let (s, h) := s.hostMem a 64
  let size := bytesNum h 8 4
  if bytesNum h 0 4 = 0x4B465031 ∧ bytesNum h 4 2 = 1 ∧ bytesNum h 6 2 = 0 ∧ bytesNum h 0x0C 48 = 0 ∧ size % 4 = 0 ∧ 4 ≤ size ∧ size ≤ 65536
      ∧ c.num 0x018 4 = 64 + size then
    let (s, code) := s.hostMem (a + 64) size
    if crc32c (h.take 60 ++ code) = bytesNum h 0x3C 4 then
      (s, some ((List.range (size / 4)).map (fun i => BitVec.ofNat 32 (bytesNum code (4 * i) 4)), sha384 (h ++ code)))
    else (s, none)
  else (s, none)

/-- Whether a range lies in one region of a kind. -/
def inRegion (rs : List Region) (kind a n : Nat) : Bool :=
  match regionAt rs a with
  | some (_, r) => r.kind == kind && decide (a + n ≤ r.vbase + r.size)
  | none => false

/-- The channel check of R363. -/
def State.channelsOk (s : State) (n : Nat) (rs : List Region) : Bool :=
  (s.ctx n).channels.all (fun h =>
    s.rd F.CH_ENABLE h == 1 && s.rd F.CH_DOWN h == 0 && inRegion rs 1 (s.rd F.CH_IN_AREA h) (2 * s.rd F.CH_IN_SIZE h)
      && inRegion rs 0 (s.rd F.CH_OUT_AREA h) 1
      && !(s.ctxs.any (fun (e : Nat × Ctx) => e.1 != n && e.2.state != 0 && (e.2.num 0x030 32).testBit h)))

/-- Bytes of the staging area (R391). -/
def State.stageBytes (s : State) : Nat := 0x1_0000 + s.rd F.FAB0_SENDERS * s.nSlots * s.rd F.FAB0_SLOT_SIZE * 0x1_0000

/-- The fabric staging check of R391. -/
def State.stagingOk (s : State) (n : Nat) (rs : List Region) : Bool :=
  !(bitOf ((s.ctx n).num 0x008 4) 1)
    || (s.rd F.FAB0_CTX == n && s.rd F.FAB0_ENABLE == 1 && inRegion rs 1 (s.rd F.FAB0_STAGE_BASE) s.stageBytes)

/-- What preparation finds for an ACTIVATE of context n, from EMPTY, or from STOPPED with the measurement that it will have. [DESIGN CHOICE, log entry 17] -/
def State.prepare (s : State) (n : Nat) (fromEmpty : Bool) (meas : BitVec 384) : State × Prep :=
  let c := s.ctx n
  let no (r : Nat) : Prep := ⟨true, r, 0, [], [], 0, 0, []⟩
  if fromEmpty = false then (s, ⟨false, 0, 0, [], [], 0, 0, s.evalSlots n meas⟩)
  else if c.entryOk = false then (s, no 2)
  else match s.container c with
    | (s, none) => (s, no 3)
    | (s, some (prog, meas)) =>
      let (s, rs, cur, ok) := s.regionTable c
      if ok = false then (s, no 4)
      else if s.channelsOk n rs = false then (s, no 6)
      else if s.stagingOk n rs = false then (s, no 7)
      else
        let (s, k) := s.newKey
        (s, ⟨true, 0, meas, prog, rs, cur, k, s.evalSlots n meas⟩)

/-- Whether an ACTIVATE queued after the commands `q` acts on an EMPTY entry. -/
def State.comesEmpty (s : State) (q : List CtxCmd) (n : Nat) : Bool := (s.ctx n).state == 0 && !(q.any (fun c => c.ctx == n && c.op == 1))

/-- The measurement of context n once the commands `q` before have applied (R340): that of an ACTIVATE from EMPTY among them. -/
def State.comingMeas (s : State) (q : List CtxCmd) (n : Nat) : BitVec 384 :=
  (q.foldl (fun m c => match c.prep with
    | some p => if c.ctx = n ∧ p.fromEmpty = true ∧ p.reason = 0 then p.meas else m
    | none => m) (s.ctx n).measurement)

/-- The queue after the engine has prepared the ACTIVATEs that it can prepare (R340, R343): while the entropy source fails, those from
EMPTY wait. -/
def State.prepareAll (s : State) : List CtxCmd → List CtxCmd → State × List CtxCmd
  | before, [] => (s, before)
  | before, c :: cs =>
    if c.op ≠ 1 ∨ c.prep.isSome then s.prepareAll (before ++ [c]) cs
    else
      let e := s.comesEmpty before c.ctx
      if e ∧ s.sec.entropyOk = false then s.prepareAll (before ++ [c]) cs
      else
        let (s, p) := s.prepare c.ctx e (s.comingMeas before c.ctx)
        s.prepareAll (before ++ [{ c with prep := some p }]) cs

/-- Preparation of the queued commands goes on. [DESIGN CHOICE, log entry 17] -/
def State.prepareQueue (s : State) : State :=
  let (s, q) := s.prepareAll [] s.plaza.cmds
  s.onPlaza (fun p => { p with cmds := q })

/-- A write of CTX.CMD (R43). -/
def State.ctxCmd (s : State) (src : Source) (op n : Nat) : State :=
  if s.mayWrite src = false then s
  else if 64 ≤ s.plaza.cmds.length then s.setEvt .ctx 0 4
  else (s.onPlaza (fun p => { p with cmds := p.cmds ++ [⟨op, n, none⟩] })).prepareQueue

/-- ACTIVATE (R43, R46, R340): the command is queued and prepared. -/
def execActivate (src : Source) (n : Nat) (s : State) : Host.Outcome State Fault Refusal := onSrc src <| onUnit nCtxs n s fun s => s.ctxCmd src 1 n
/-- STOP (R42, R43). -/
def execStop (src : Source) (n : Nat) (s : State) : Host.Outcome State Fault Refusal := onSrc src <| onUnit nCtxs n s fun s => s.ctxCmd src 2 n
/-- ABORT (R42, R43). -/
def execAbort (src : Source) (n : Nat) (s : State) : Host.Outcome State Fault Refusal := onSrc src <| onUnit nCtxs n s fun s => s.ctxCmd src 3 n
/-- RESUME (R42, R55). -/
def execResume (src : Source) (n : Nat) (s : State) : Host.Outcome State Fault Refusal := onSrc src <| onUnit nCtxs n s fun s => s.ctxCmd src 4 n
/-- RELEASE (R42, R252). -/
def execRelease (src : Source) (n : Nat) (s : State) : Host.Outcome State Fault Refusal := onSrc src <| onUnit nCtxs n s fun s => s.ctxCmd src 5 n

/-- ENTROPY_FAIL (R343): the entropy source fails its health tests, or (`ok`) passes them again and the engine resumes. -/
def execEntropyFail (ok : Bool) (s : State) : Host.Outcome State Fault Refusal :=
  .next (
    let s := s.onSec (fun e => { e with entropyOk := ok })
    if ok then s.rekeyResume.prepareQueue else s.setEvt .sec 0 1)

/-! ### Step 3: the queued commands (R42, R340) -/

/-- A refused command is recorded (R43). -/
def State.refuseCmd (s : State) (op n reason : Nat) : State :=
  (((s.wr F.CTX_CMD_RESULT_CTX 0 0 n).wr F.CTX_CMD_RESULT_OP 0 0 op).wr F.CTX_CMD_RESULT_REASON 0 0 reason).wr F.CTX_CMD_RESULT_VALID 0 0 1

/-- No half of any I-memory holds code of context n (R150): the entry has a new container. -/
def State.forgetCode (s : State) (n : Nat) : State :=
  { s with blks := s.blks.map (fun (e : Nat × Block) => (e.1, { e.2 with im := { e.2.im with
      code0 := if e.2.im.code0 = some n then none else e.2.im.code0, code1 := if e.2.im.code1 = some n then none else e.2.im.code1 } })) }

/-- ACTIVATE from EMPTY applies: the entry is loaded and STOPPED. -/
def State.activateEmpty (s : State) (n : Nat) (p : Prep) : State :=
  if (s.ctx n).sweeping ≠ [] then s.refuseCmd 1 n 1
  else if p.reason ≠ 0 then s.refuseCmd 1 n p.reason
  else
    let s := s.onCtx n (fun c => { Ctx.reset with
      host := c.host, state := 1, measurement := p.meas, energyMean := c.num 0x01C 4, curMap := p.curMap
      regions := p.regions, prog := p.prog, bindReq := c.bindReq })
    p.slots.foldl (fun s e => s.applySlot n e) ((s.forgetCode n).setKey (0x1000 + n) p.key)

/-- ACTIVATE from STOPPED applies: the context is ACTIVE. -/
def State.activateStopped (s : State) (n : Nat) (p : Prep) : State :=
  let s := p.slots.foldl (fun s e => s.applySlot n e) s
  let k := s.plaza.starts
  (s.onPlaza (fun p => { p with starts := k + 1 })).onCtx n (fun c =>
    { c with state := 2, activated := some (s.rd F.TICK_TICK_TIME_TIME), intakeHalf := 0, startOrder := if c.started then c.startOrder else k + 1 })

/-- Number of the frame that a tick starts (R31, R405): a follower may adopt one. -/
def State.nextFrame (s : State) : Nat := (s.fab.adopt.getD (s.frame + 1)) % 2 ^ 64

/-- A context leaves the contexts that may run (R63, R317): its intakes are discarded and a FINAL marker names the coming frame. -/
def State.stopCtx (s : State) (n state : Nat) : State :=
  ((s.discardAll n).onCtx n (fun c => { c with state := state, replayPending := false })).sendAbort n s.nextFrame true

/-- RELEASE applies (R42, R252): the entry is EMPTY, and every slice sweeps. -/
def State.releaseCtx (s : State) (n : Nat) : State :=
  let left := s.sweepSlices
  let s := (s.startSweep ⟨some n, none⟩).onCtx n (fun c => { Ctx.reset with host := c.host, bindReq := c.bindReq, sweeping := left })
  if left = [] then s.dropKey (0x1000 + n) else s

/-- One queued command applies, or is refused (R42, R43). [DESIGN CHOICE, log entry 17] -/
def State.applyCmd (s : State) (c : CtxCmd) : State :=
  let n := c.ctx
  let st := (s.ctx n).state
  match c.op with
  | 1 =>
    if st = 0 ∨ st = 1 then
      let (s, p) := match c.prep with
        | some p => if p.fromEmpty = (st == 0) then (s, p) else s.prepare n (st == 0) (s.ctx n).measurement
        | none => s.prepare n (st == 0) (s.ctx n).measurement
      if st = 0 then s.activateEmpty n p else s.activateStopped n p
    else s.refuseCmd 1 n 1
  | 2 => if st = 1 then s else if st = 2 ∨ st = 4 then s.stopCtx n 1 else s.refuseCmd 2 n 1
  | 3 => if st = 0 then s.refuseCmd 3 n 1 else (s.stopCtx n 6).onCtx n (fun x => { x with stopFrame := s.frame })
  | 4 =>
    if st = 4 then s.onCtx n (fun x => { x with state := 2, replays := 0, activated := some (s.rd F.TICK_TICK_TIME_TIME) })
    else s.refuseCmd 4 n 1
  | 5 => if st = 1 ∨ st = 4 ∨ st = 5 ∨ st = 6 then s.releaseCtx n else s.refuseCmd 5 n 1
  | op => s.refuseCmd op n 5

/-- Whether a command is an ACTIVATE whose preparation has still to make a storage key (R340, R343). -/
def State.needsKey (s : State) (c : CtxCmd) : Bool :=
  c.op == 1 && (s.ctx c.ctx).state == 0 && (match c.prep with | some p => !p.fromEmpty | none => true)

/-- Queued commands apply in order, up to the first whose preparation has not finished (R340), as it cannot while the entropy source fails (R343). -/
def State.applyCmds (s : State) : List CtxCmd → State
  | [] => s.onPlaza (fun p => { p with cmds := [] })
  | c :: cs =>
    if s.needsKey c ∧ s.sec.entropyOk = false then s.onPlaza (fun p => { p with cmds := c :: cs })
    else (s.applyCmd c).applyCmds cs

/-! ### The entry (R45) and residency (R46, R47) -/

/-- Bits of a byte of an entry that are not reserved (R6, R45). -/
def entryMask (i : Nat) : Byte := if i = 8 then 7 else if (9 ≤ i ∧ i < 0xC) ∨ (0x2C ≤ i ∧ i < 0x30) ∨ 0x50 ≤ i then 0 else 0xFF

/-- A host write to a context-table entry (R45, R483): aligned words or doublewords; STATUS and the device area are never written, and
reserved bits stay zero (R6). [DEDUCED, log entry 18] -/
def State.entryWrite (s : State) (src : Source) (n off : Nat) (bs : List Byte) : State :=
  let k := bs.length
  if s.mayWrite src = false ∨ ¬ (k = 4 ∨ k = 8) ∨ off % k ≠ 0 ∨ 1024 < off + k then s
  else
    let st := (s.ctx n).state
    if st = 2 ∨ st = 3 then s.setEvt .ctx 0 5
    else
      let devs (i : Nat) : Bool := (decide (4 ≤ i) && decide (i < 8)) || decide (0x200 ≤ i)
      let s := if (List.range k).any (fun i => devs (off + i)) then s.setEvt .ctx 0 5 else s
      s.onCtx n (fun c => { c with host := (bs.zip (List.range k)).foldl (fun (m : SMap Byte) (e : Byte × Nat) =>
        let v := e.1 &&& entryMask (off + e.2)
        if devs (off + e.2) then m else if v = 0 then SMap.del (off + e.2) m else SMap.put (off + e.2) v m) c.host })

/-- CONTEXT_ENTRY_WRITE (R45). -/
def execContextEntryWrite (src : Source) (n off : Nat) (bytes : List Byte) (s : State) : Host.Outcome State Fault Refusal := onSrc src <|
  onUnit nCtxs n s fun s => s.entryWrite src n off bytes

/-- A failed check at residency (R46): the context is killed in step 1 of the next gap. -/
def State.loadFails (s : State) (n code addr : Nat) : State :=
  (s.enqueue ⟨code, 0, pageIdx .ctx 0, some n, s.frame, addr, 0, none⟩ false).onCtx n (fun c => { c with loadFail := true })

/-- RESIDENT_LOAD (R46, R47): entry, region table and key bindings of a context made resident are loaded and checked. DEVICE_CHECK
always matches: only the device writes the device area, and State holds its fields. [DEDUCED, log entry 18] -/
def execResidentLoad (n : Nat) (s : State) : Host.Outcome State Fault Refusal :=
  onUnit nCtxs n s fun s =>
    let c := s.ctx n
    if c.resident = false ∨ c.loaded = true then s
    else if c.entryOk = false then s.loadFails n 0x0401 0
    else
      let (s, rs, _, ok) := s.regionTable c
      if ok then
        let s := s.onCtx n (fun c => { c with loaded := true, regions := rs })
        (c.bound.map (fun (e : Nat × Nat) => e.2)).foldl (fun s t => forN nDist s (fun s g => s.keyLoad g t)) s
      else s.loadFails n 0x0402 (c.num 0x020 8)

/-! ### Reading an entry (R45) -/

/-- The STATUS word (R45). -/
def Ctx.status (c : Ctx) : Nat :=
  packed [(c.state, 0), (b2n c.resident, 3), (c.replays, 4), (b2n c.faultAtOverrun, 6), (b2n c.directWritten, 7), (c.cause, 8), (c.intakeHalf, 16)]

/-- Bytes 0x200 to 0x3FB (R45). [DEDUCED, log entry 18] -/
def Ctx.devBytes (c : Ctx) : List Byte :=
  bytes48 c.measurement ++ leBytes 4 c.energyMean ++ leBytes 4 0 ++ leBytes 8 c.lastStart ++ c.boundBytes ++ leBytes 8 c.stopFrame
    ++ leBytes 128 c.curMap.toNat ++ List.replicate 180 0

/-- A byte of an entry as a read returns it; an EMPTY entry's device area reads zero. [DEDUCED, log entry 18] -/
def Ctx.byte (c : Ctx) (i : Nat) : Byte :=
  if 4 ≤ i ∧ i < 8 then (leBytes 4 c.status).getD (i - 4) 0
  else if i < 0x200 then c.host.get i 0
  else if c.state = 0 then 0
  else if i < 0x3FC then c.devBytes.getD (i - 0x200) 0
  else (leBytes 4 (crc32c c.devBytes)).getD (i - 0x3FC) 0

end Sys2Proof.Machine
end

