-- ==== Sys2Proof/Machine/HostPorts.lean ====
section
/-! DEFINITION. The host ports: links and resets, channels, intake, delivery, and the load of I-memory (R149, R150, R357 to R380). -/

namespace Sys2Proof.Machine
open Sys2Proof

/-! ### Channels -/

/-- Owner function of a channel: 0 the PF, k + 1 the VF k (R361). -/
def State.chOwner (s : State) (h : Nat) : Nat := s.rd F.PCIE_CHAN_OWNER_FUNC (h / 128) (h % 128)

/-- Whether a source may write a channel's block (R361, R455). -/
def State.mayChannel (s : State) (src : Source) (h : Nat) : Bool :=
  s.rd F.TOP_STATUS_READY == 1 && match src with
    | .pf p => p == h / 128 && s.chOwner h == 0
    | .vf p k => p == h / 128 && s.chOwner h == k + 1
    | .mgmt => false

/-- CH_CTRL.ENABLE is written (R362). -/
def State.chEnable (s : State) (src : Source) (h : Nat) (v : Bool) : State :=
  if s.mayChannel src h then (s.wr F.CH_ENABLE h 0 (b2n v)).dueAsk h else s

/-- CH_CTRL.RESET is written: performed only while ENABLE is 0 (R362, R379). -/
def State.chReset (s : State) (src : Source) (h : Nat) : State :=
  if s.mayChannel src h ∧ s.rd F.CH_ENABLE h = 0 then
    let s := (((s.wr F.CH_HEAD h 0 0).wr F.CH_FETCHED h 0 0).wr F.CH_TAIL_SEEN h 0 0).wr F.CH_DELIVERED h 0 0
    (s.wr F.CH_DOWN h 0 0).onChan h (fun _ => Chan.reset)
  else s

/-- CHANNEL_ENABLE (R362). -/
def execChannelEnable (src : Source) (h : Nat) (v : Bool) (s : State) : Host.Outcome State Fault Refusal := onSrc src <|
  onUnit nChans h s fun s => s.chEnable src h v

/-- CHANNEL_RESET (R379). -/
def execChannelReset (src : Source) (h : Nat) (s : State) : Host.Outcome State Fault Refusal := onSrc src <|
  onUnit nChans h s fun s => s.chReset src h

/-- One FUNC field of CHAN_OWNER is written (R361): a change for an enabled channel, or a VF's seventeenth channel, is dropped. -/
def State.chanOwnerField (s : State) (port c v : Nat) : State :=
  let others := ((List.range 128).filter (fun i => i != c && s.rd F.PCIE_CHAN_OWNER_FUNC port i == v)).length
  if s.rd F.PCIE_CHAN_OWNER_FUNC port c = v then s
  else if s.rd F.CH_ENABLE (128 * port + c) = 1 ∨ (v ≠ 0 ∧ 16 ≤ others) then s.cfgReject .pcie port
  else s.wr F.PCIE_CHAN_OWNER_FUNC port c v

/-- A write of CHAN_OWNER[j] (R361, R380, R509). -/
def State.chanOwnerWrite (s : State) (src : Source) (port j v : Nat) : State :=
  if s.mayWrite src = false then s
  else if (List.range 4).any (fun k => decide (16 < bitsOf v (8 * k) 5)) then s.cfgReject .pcie port
  else forN 4 s (fun s k => s.chanOwnerField port (4 * j + k) (bitsOf v (8 * k) 5))

/-- CHAN_OWNER (R361). -/
def execChanOwner (src : Source) (port j : Nat) (v : Word) (s : State) : Host.Outcome State Fault Refusal := onSrc src <|
  onUnit 2 port s fun s => if j < 32 then s.chanOwnerWrite src port j v.toNat else s

/-! ### Tail words and due times (R35, R59, R364) -/

/-- TAIL_VALUE (R35, R364): the tail read of channel h returns, or (none) ends in error, which the port reports through AER. [DEDUCED, log entry 50] -/
def execTailValue (h : Nat) (v : Option DWord) (s : State) : Host.Outcome State Fault Refusal :=
  onUnit nChans h s fun s =>
    if (s.chan h).tailAsked = false then s
    else
      let s := s.onChan h (fun c => { c with tailAsked := false })
      match v with
      | none => s.emit "AER" [h / 128]
      | some w =>
        let t := w.toNat % 2 ^ 32
        if s.rd F.CH_ENABLE h = 0 ∨ s.rd F.CH_DOWN h = 1 then s
        else if 2 ^ s.rd F.CH_LOG2 h < (t + 2 ^ 32 - s.rd F.CH_HEAD h) % 2 ^ 32 then s.wr F.CH_RING_ERR h 0 1
        else if t = s.rd F.CH_TAIL_SEEN h then s
        else ((s.wr F.CH_TAIL_SEEN h 0 t).onChan h (fun c => { c with marks := c.marks ++ [(t, c.tailTime)] })).dueAsk h

/-- DUE_READ (R59): the DUE field of the oldest pending submission returns. An error leaves the default due time in force, as DUE 0 does. -/
def execDueRead (h : Nat) (v : Option DWord) (s : State) : Host.Outcome State Fault Refusal :=
  onUnit nChans h s fun s =>
    if (s.chan h).dueIdx = none ∨ (s.chan h).due.isSome then s
    else s.onChan h (fun c => { c with due := some (match v with | some w => w.toNat | none => 0) })

/-! ### Intake (R366 to R368) -/

/-- A length filled up to a multiple of 32. -/
def pad32 (n : Nat) : Nat := (n + 31) / 32 * 32

/-- The parts of a submission descriptor that the intake uses (R364). -/
def subSealed (d : List Byte) : Bool := bitOf (bytesNum d 4 4) 0
def subInLen (d : List Byte) : Nat := bytesNum d 0x20 4
def subOutMax (d : List Byte) : Nat := bytesNum d 0x24 4
def subOutAddr (d : List Byte) : Nat := bytesNum d 0x28 8
def subDue (d : List Byte) : Nat := bytesNum d 0x10 8

/-- Payload bytes that a submission's record would take: of a sealed input, the plaintext. -/
def subPayload (d : List Byte) : Nat := if subSealed d then subInLen d - 80 else subInLen d

/-- A channel's intake as it grows: the submissions taken, the records' bytes, and the bytes used of the half. -/
structure Filling where
  subs : List Sub
  recs : List (Sub × List Byte)
  used : Nat
  ended : Bool

/-- Highest SEQ of the envelopes of a tenant among submissions, of those too whose tag failed (R345). [DEDUCED, log entry 49] -/
def lastSeq (subs : List Sub) (t : Nat) : Nat :=
  (subs.filterMap (fun x => match x.env with | some (u, q) => if u = t then some q else none | none => none)).foldl max 0

/-- One submission is taken into a channel's half, or ends the channel's intake (R367, R368). `earlier` are the submissions of the
frame's intake on channels before this one. [DEDUCED, log entry 49; DEDUCED, log entry 50] -/
def State.takeSub (s : State) (ctx h idx size : Nat) (earlier : List Sub) (r : Option HostRead) (f : Filling) : State × Filling :=
  let add (s : State) (d : List Byte) (st : Nat) (pt : List Byte) (seq : Option (Nat × Nat)) (env : Option (Nat × Nat) := none) : State × Filling :=
    let x : Sub := ⟨h, idx, d, st, f.used + 32, pt.length, seq, env⟩
    (s, ⟨f.subs ++ [x], f.recs ++ [(x, pt ++ List.replicate (pad32 pt.length - pt.length) 0)], f.used + 32 + pad32 pt.length, false⟩)
  let fits (n : Nat) : Bool := decide (f.used + 32 + pad32 n ≤ size)
  match r.bind (fun x => x.desc) with
  | none => if fits 0 then add s.used (List.replicate 8 0 ++ leBytes 56 s.freeVal) 5 [] none else (s, { f with ended := true })
  | some d0 =>
    let d := fitTo 64 d0
    if crc32c (d.drop 4) ≠ bytesNum d 0 4 then (if fits 0 then add s d 1 [] none else (s, { f with ended := true }))
    else if size < 64 + pad32 (subPayload d) then (if fits 0 then add s d 4 [] none else (s, { f with ended := true }))
    else if fits (subPayload d) = false then (s, { f with ended := true })
    else match r.bind (fun x => x.data) with
      | none => add s d 5 [] none
      | some bs =>
        let bs := fitTo (subInLen d) bs
        if subSealed d then
          match s.openEnv ctx (lastSeq (earlier ++ f.subs)) bs with
          | (s, st, pt, seq) => add s d st pt seq (if s.envFormOk ctx bs then some (envNum bs 6 2, envNum bs 8 8) else none)
        else add s d 0 bs none

/-- The submissions of a channel are taken in ring order: at most `n` of them. -/
def State.takeSubs (s : State) (ctx h size : Nat) (reads : List HostRead) (earlier : List Sub) : Nat → Nat → Filling → State × Filling
  | 0, _, f => (s, f)
  | n + 1, idx, f =>
    let i := idx % 2 ^ 32
    match s.takeSub ctx h i size earlier (reads.find? (fun r => r.chan == h && r.idx == i)) f with
    | (s, f) => if f.ended then (s, f) else s.takeSubs ctx h size reads earlier n (idx + 1) f

/-- The bytes of a channel's intake half (R366). -/
def halfBytes (frame : Nat) (rs : List (Sub × List Byte)) : List Byte :=
  let n := rs.length
  leBytes 4 n ++ leBytes 4 frame ++ List.replicate 24 (0 : Byte)
    ++ ((rs.zip (List.range n)).map (fun (e : (Sub × List Byte) × Nat) =>
      let x := e.1.1
      leBytes 8 (bytesNum x.desc 8 8) ++ leBytes 4 x.len ++ leBytes 2 x.status
        ++ leBytes 2 (match x.seq with | some (t, _) => t + 2 ^ 15 | none => 0)
        ++ leBytes 4 (if e.2 + 1 < n then x.off + pad32 x.len else 0) ++ List.replicate 12 (0 : Byte) ++ e.1.2)).flatten

/-- Bytes fetched are counted in units of 1,024 (R380). -/
def State.countIntake (s : State) (port n : Nat) : State :=
  let t := (s.port port).inRem + n
  (s.inc F.PCIE_INTAKE_BYTES port 0 (t / 1024)).onPort port (fun p => { p with inRem := t % 1024 })

/-- The intake of one channel (R366, R367): its submissions are taken and its half is written. -/
def State.fetchChannel (s : State) (ctx half : Nat) (reads : List HostRead) (limit h : Nat) (i : Intake) : State × Intake :=
  let pos := s.rd F.CH_FETCHED h
  let size := s.rd F.CH_IN_SIZE h
  let (s, f) := s.takeSubs ctx h size reads i.subs (min (limit - i.subs.length) (s.chPending h)) pos ⟨[], [], 0x20, false⟩
  let a := s.rd F.CH_IN_AREA h + size * half
  let s := match regionAt (s.ctx ctx).regions a with
    | some (_, r) => match s.keyhOf ctx r with
      | some k => s.writeBytes .engine .write ctx k (some ctx) false (r.baseA + (a - r.vbase)) (halfBytes ((s.frame + 1) % 2 ^ 32) f.recs) 2
      | none => s
    | none => s
  let s := s.countIntake (h / 128) ((f.subs.map (fun x => 64 + (if x.status = 0 ∨ x.status = 2 ∨ x.status = 3 then subInLen x.desc else 0))).sum)
  (s.setFetched h ((pos + f.subs.length) % 2 ^ 32), { i with subs := i.subs ++ f.subs, starts := SMap.put h pos i.starts })

/-- Whether the intake area of a channel still lies in one direct region under a key slot that is valid (R363, R341). [DEDUCED, log entry 50] -/
def State.areaOk (s : State) (ctx h : Nat) : Bool :=
  let a := s.rd F.CH_IN_AREA h
  inRegion (s.ctx ctx).regions 1 a (2 * s.rd F.CH_IN_SIZE h)
    && (match regionAt (s.ctx ctx).regions a with | some (_, r) => (s.keyhOf ctx r).isSome | none => false)

/-- The intake of the chosen context is fetched (R62, R366). [DEDUCED, log entry 50] -/
def State.fetchIntake (s : State) (ch : Choice) (reads : List HostRead) (whole : Bool) : State :=
  let c := s.ctx ch.ctx
  let hs := c.channels
  if hs.all (s.areaOk ch.ctx) = false then
    (s.enqueue ⟨0x0402, 0, pageIdx .ctx 0, some ch.ctx, s.frame, 0, 0, none⟩ false).onCtx ch.ctx (fun x => { x with killDue := some 5 })
  else
    let (s, i) := hs.foldl (fun (acc : State × Intake) h => acc.1.fetchChannel ch.ctx c.intakeHalf reads (min 4096 (c.num 0x00C 2)) h acc.2)
      (s, ⟨ch.ctx, c.intakeHalf, [], []⟩)
    let s := s.onCtx ch.ctx (fun x => { x with intakeHalf := 1 - c.intakeHalf })
    s.onPlaza (fun p => { p with choice := some { ch with intake := some i, fetched := whole } })

/-- INTAKE_FETCH (R366): the intake of the coming frame; `reads` are what host memory returned, and `whole` says that the fetch
finishes before the gap that starts the frame (R368). [DEDUCED, log entry 50] -/
def execIntakeFetch (reads : List HostRead) (whole : Bool) (s : State) : Host.Outcome State Fault Refusal :=
  .next (match s.plaza.choice with
    | some ch =>
      if s.halted = true ∨ ch.fetched ∨ ch.replay ∨ ch.intake.isSome ∨ (s.ctx ch.ctx).channels = [] ∨ (s.ctx ch.ctx).killDue.isSome then s
      else s.fetchIntake ch reads whole
    | none => s)

/-! ### I-memory (R149 to R151) -/

/-- The context whose code a half is known to hold. -/
def IMem.code (m : IMem) (h : Nat) : Option Nat := if h = 0 then m.code0 else m.code1

/-- A context's code is written to the idle half, HALT words behind it (R149). -/
def IMem.load (m : IMem) (c : Nat) (prog : List Word) : IMem :=
  let h := 1 - m.live
  let half : SMap Word := (List.range prog.length).zip prog
  let m := { m with idle := .loaded, bad := m.bad.filter (fun x => x / 16384 != h), soft := m.soft.filter (fun x => x / 16384 != h) }
  if h = 0 then { m with half0 := half, code0 := some c, lost0 := none } else { m with half1 := half, code1 := some c, lost1 := none }

/-- The load of the coming frame's code into the idle half of a Block begins, unless the half holds the code (R150), or ends: every word is
written (R149). -/
def State.imemLoad (s : State) (p : Nat) : State :=
  match s.plaza.choice with
  | none => s
  | some ch =>
    let m := (s.blk p).im
    if (s.blk p).site ≠ 0 then s
    else match m.idle with
      | .open =>
        if m.code (1 - m.live) = some ch.ctx then s.onBlk p (fun b => { b with im := { b.im with idle := .loaded } })
        else s.onBlk p (fun b => { b with im := { b.im.foul (1 - m.live) with idle := .loading } })
      | .loading => s.imWrite p (1 - m.live) 0 (fun m => m.load ch.ctx (s.ctx ch.ctx).prog)
      | .loaded => s

/-- IMEM_LOAD (R149): the load of the coming frame's code into Block p begins, or, once begun, ends. The program store, which the spec gives no
address, is held with the context. [DESIGN CHOICE, log entry 18] -/
def execImemLoad (p : Nat) (s : State) : Host.Outcome State Fault Refusal := onUnit nBlks p s fun s => s.imemLoad p

/-- An access to IMEM_DATA (R147, R151). -/
def State.imemData (s : State) (p : Nat) (v : Option Nat) : State × Nat :=
  let w := s.rd F.BLK_IMEM_ADDR_WORD p
  let live := s.rd F.BLK_IMEM_ADDR_HALF p = 1
  let m := (s.blk p).im
  let out := (m.word (if live then m.live else 1 - m.live) w).toNat
  let s := match v with
    | none => s
    | some x =>
      if ¬ live ∧ m.idle = .open then s.imWrite p (1 - m.live) w (fun m => (m.putWord (1 - m.live) w (BitVec.ofNat 32 x)).foul (1 - m.live))
      else s.setEvt .blk p 8
  (if s.rd F.BLK_IMEM_ADDR_AUTOINC p = 1 then s.wr F.BLK_IMEM_ADDR_WORD p 0 ((w + 1) % 16384) else s, out)

/-- IMEM_DATA (R151): a write of v, or a read. -/
def execImemData (src : Source) (p : Nat) (v : Option Word) (s : State) : Host.Outcome State Fault Refusal := onSrc src <|
  onUnit nBlks p s fun s =>
    match src, v with
    | .vf _ _, _ => s
    | _, some w => if s.mayWrite src then (s.imemData p (some w.toNat)).1 else s
    | _, none => let (s, x) := s.imemData p none; s.emit "READ" [x]

/-! ### Delivery (R369 to R374) -/

/-- Phase of entry n of a completion ring (R369). -/
def State.phase (s : State) (h n : Nat) : Nat := (n / 2 ^ s.rd F.CH_LOG2 h + 1) % 2

/-- Address of half k of completion entry n. -/
def State.cqAddr (s : State) (h n k : Nat) : Nat := s.rd F.CH_CQ_BASE h + 32 * (n % 2 ^ s.rd F.CH_LOG2 h) + 16 * k

/-- Parts of a range by 64 KiB granule (R48): address and length. -/
def granules (a n : Nat) : List (Nat × Nat) :=
  (List.range ((a % 65536 + n + 65535) / 65536)).map (fun i =>
    let lo := if i = 0 then a else (a / 65536 + i) * 65536
    (lo, min ((a / 65536 + i + 1) * 65536) (a + n) - lo))

/-- Bytes of a context range from the committed copy; whether it lies in regions, and whether it can be read. [DEDUCED, log entry 51] -/
def State.committedBytes (s : State) (c a n : Nat) : State × List Byte × Bool × Bool :=
  (granules a n).foldl (fun (acc : State × List Byte × Bool × Bool) (g : Nat × Nat) =>
    let (s, bs, inside, good) := acc
    match s.xlat c g.1 false false with
    | none => (s, bs, false, good)
    | some x =>
      let bad := (pieces x.addr g.2).any (fun (e : Nat × Nat × Nat × Nat) => s.lineBad e.1 x.owner x.keyh)
      let (s, b) := s.readBytes .engine x.owner x.keyh none x.addr g.2 2
      (s, bs ++ b, inside, good && !bad)) (s, [], true, true)

/-- One submission's output goes to the host (R371, R372): OUT_LEN and OUT_STATUS. [DEDUCED, log entry 51] -/
def State.deliverOne (s : State) (d : Deliv) (pos : Nat) (x : Sub) : State × Nat × Nat :=
  let port := d.chan / 128
  let area := s.rd F.CH_OUT_AREA d.chan
  if x.status ≠ 0 then (s, 0, 7)
  else
    let (s, e, inside, good) := s.committedBytes d.ctx (area + 8 * pos) 8
    let n := bytesNum e 4 4
    if inside = false then (s, 0, 6)
    else if good = false then (s, 0, 5)
    else
      let need := if x.seq.isSome then 80 + n else n
      let room := decide (need ≤ subOutMax x.desc)
      if room = false ∧ (granules (area + bytesNum e 0 4) n).all (fun g => (s.xlat d.ctx g.1 false false).isSome) = true then (s, 0, 4)
      else
        let (s, bs, inside, good) := s.committedBytes d.ctx (area + bytesNum e 0 4) n
        if inside = false then (s, 0, 6)
        else if good = false then (s, 0, 5)
        else
          let (s, out) := match x.seq with | some (t, _) => s.sealEnv d.ctx t bs | none => (s, bs)
          (s.emit "HOST_WRITE" [port, subOutAddr x.desc] out, out.length, 0)

/-- The second half of a completion entry (R369). [DEDUCED, log entry 51] -/
def State.secondHalf (s : State) (h n len st : Nat) : State :=
  s.emit "HOST_WRITE" [h / 128, s.cqAddr h n 1] (leBytes 4 len ++ leBytes 2 st ++ List.replicate 9 0 ++ leBytes 1 (s.phase h n))

/-- OUTPUT_DELIVERY (R315, R372, R439): the next submission of the oldest delivery on channel h, in a device that still writes completions; after the
last one DLV_VEC is raised. [DEDUCED, log entry 51] -/
def execOutputDelivery (h : Nat) (s : State) : Host.Outcome State Fault Refusal :=
  onUnit nChans h s fun s =>
    if s.halted then s
    else match s.plaza.dlv.findIdx? (fun d => d.chan == h) with
    | none => s
    | some i =>
      match s.plaza.dlv[i]? with
      | none => s
      | some d =>
        match d.subs with
        | [] => s.onPlaza (fun p => { p with dlv := p.dlv.eraseIdx i })
        | (pos, x) :: rest =>
          let (s, len, st) := s.deliverOne d pos x
          let s := (s.secondHalf h x.idx len st).wr F.CH_DELIVERED h 0 ((x.idx + 1) % 2 ^ 32)
          if rest = [] then
            (s.onPlaza (fun p => { p with dlv := p.dlv.eraseIdx i })).msi (h / 128) (s.chOwner h) (s.rd F.CH_DLV_VEC h)
          else s.onPlaza (fun p => { p with dlv := p.dlv.set i { d with subs := rest } })

/-! ### Links and resets (R357, R358, R377 to R379) -/

/-- A channel of the coming frame's intake goes DOWN before the intake is there (R368): nothing more is fetched, and the frame starts idle. [DEDUCED, log entry 50] -/
def State.spoilFetch (s : State) (h : Nat) : State :=
  match s.plaza.choice with
  | none => s
  | some ch =>
    if ch.fetched = false ∧ ch.replay = false ∧ ch.intake = none ∧ (s.ctx ch.ctx).channels.contains h then
      s.onPlaza (fun p => { p with choice := some { ch with intake := some ⟨ch.ctx, (s.ctx ch.ctx).intakeHalf, [], []⟩ } })
    else s

/-- A channel enters DOWN (R377, R378): what is still to be delivered on it is lost. [DEDUCED, log entry 52] -/
def State.chDown (s : State) (h : Nat) : State :=
  let lost := ((s.plaza.dlv.filter (fun d => d.chan == h)).map (fun d => d.subs.length)).sum
  let s := (s.onPlaza (fun p => { p with dlv := p.dlv.filter (fun d => d.chan != h) })).inc F.PCIE_LOST_DLV (h / 128) 0 lost
  if s.rd F.CH_DOWN h = 1 then s else (s.wr F.CH_DOWN h 0 1).spoilFetch h

/-- Every enabled channel of a port enters DOWN. -/
def State.portChannelsDown (s : State) (port : Nat) : State :=
  forN 128 s (fun s i => if s.rd F.CH_ENABLE (128 * port + i) = 1 then s.chDown (128 * port + i) else s)

/-- A port's link goes down (R377, R380). -/
def State.linkDown (s : State) (port : Nat) : State :=
  let s := (s.setEvt .pcie port 4).onPort port (fun p => { p with up := false, downAt := if p.up then s.now else p.downAt, winMiss := none })
  let s := (((s.wr F.PCIE_LINK_RATE port 0 0).wr F.PCIE_LINK_WIDTH port 0 0).wr F.PCIE_LINK_FLIT port 0 0).wr F.PCIE_LINK_L1 port 0 0
  s.portChannelsDown port

/-- LINK_DOWN (R377). -/
def execLinkDown (port : Nat) (s : State) : Host.Outcome State Fault Refusal := onUnit 2 port s fun s => s.linkDown port

/-- A port reset (R377, R453): as a link that goes down; the host's configuration of the port is gone. -/
def State.portReset (s : State) (port : Nat) : State :=
  (s.linkDown port).onPort port (fun p => { p with msix := [], aspm := false, bar2 := 36, inReset := [] })

/-- HOT_RESET (R377). [DEDUCED, log entry 52] -/
def execHotReset (port : Nat) (s : State) : Host.Outcome State Fault Refusal := onUnit 2 port s fun s => s.portReset port

/-- PERST (R453). [DEDUCED, log entry 52] -/
def execPerst (port : Nat) (s : State) : Host.Outcome State Fault Refusal := onUnit 2 port s fun s => s.portReset port

/-- Functions of a port enter function reset: MSI-X is disabled until the host configures them again. -/
def State.functionReset (s : State) (port : Nat) (fs : List Nat) : State :=
  s.onPort port (fun p => { p with msix := p.msix.filter (fun f => !fs.contains f), inReset := (p.inReset ++ fs).eraseDups })

/-- PF_FLR (R377): all channels of the port enter DOWN. [DEDUCED, log entry 52] -/
def execPfFlr (port : Nat) (s : State) : Host.Outcome State Fault Refusal :=
  onUnit 2 port s fun s => forN 128 (s.functionReset port (List.range 17)) (fun s i => s.chDown (128 * port + i))

/-- VF_FLR (R377): the channels of the VF enter DOWN. [DEDUCED, log entry 52] -/
def execVfFlr (port vf : Nat) (s : State) : Host.Outcome State Fault Refusal :=
  onUnit 2 port s fun s =>
    if 16 ≤ vf then s
    else forN 128 (s.functionReset port [vf + 1]) (fun s i => if s.chOwner (128 * port + i) = vf + 1 then s.chDown (128 * port + i) else s)

/-- LINK_UP (R357): the link comes up at a rate code 1 to 6 and a width. FLIT mode is certain at 64 GT/s; at lower rates the partner
decides it, a free value. [DEDUCED, log entry 52] -/
def execLinkUp (port rate width : Nat) (s : State) : Host.Outcome State Fault Refusal :=
  onUnit 2 port s fun s =>
    if ¬ (1 ≤ rate ∧ rate ≤ 6 ∧ [1, 2, 4, 8, 16].contains width = true) ∨ s.powered = false ∨ s.clkLost.contains port = true then s
    else
      let flit := if rate = 6 then 1 else s.freeVal % 2
      let s := ((s.used.wr F.PCIE_LINK_RATE port 0 rate).wr F.PCIE_LINK_WIDTH port 0 width).wr F.PCIE_LINK_FLIT port 0 flit
      (s.wr F.PCIE_LINK_L1 port 0 0).onPort port (fun p => { p with up := true })

/-- L1_ENTRY (R358): the port has had no traffic for 64 µs. -/
def execL1Entry (port : Nat) (s : State) : Host.Outcome State Fault Refusal :=
  onUnit 2 port s fun s =>
    if (s.port port).up ∧ (s.port port).aspm ∧ (List.range 128).all (fun i => s.rd F.CH_ENABLE (128 * port + i) == 0) then s.wr F.PCIE_LINK_L1 port 0 1
    else s

/-- Traffic on a port brings its link out of L1. -/
def State.wakeLink (s : State) : Source → State
  | .pf p => s.wr F.PCIE_LINK_L1 p 0 0
  | .vf p _ => s.wr F.PCIE_LINK_L1 p 0 0
  | .mgmt => s

/-- CONFIGURATION_REQUEST (R276, R357): the host configures function fn (0 the PF, k + 1 the VF k). what 0: log2 of BAR2's size, PF
only; 1: MSI-X enable; 2: ASPM L1 enable, PF only, which is for the holder of primary authority (R416). A function that is configured has left its reset. [DEDUCED, log entry 52] -/
def execConfigurationRequest (port fn what v : Nat) (s : State) : Host.Outcome State Fault Refusal :=
  onUnit 2 port s fun s =>
    if (s.port port).up = false ∨ 16 < fn then s
    else
      let s := (s.wakeLink (.pf port)).onPort port (fun p => { p with inReset := p.inReset.filter (fun f => f != fn) })
      if what = 0 then (if fn = 0 ∧ 30 ≤ v ∧ v ≤ 36 then s.onPort port (fun p => { p with bar2 := v }) else s)
      else if what = 1 then s.onPort port (fun p => { p with msix := (if v = 0 then p.msix.filter (fun f => f != fn) else (fn :: p.msix).eraseDups) })
      else if what = 2 ∧ fn = 0 then (if s.hasAuth (.pf port) then s.onPort port (fun p => { p with aspm := decide (v ≠ 0) }) else s.authReject (.pf port))
      else s

end Sys2Proof.Machine
end

