-- ==== Sys2Proof/Machine/Power.lean ====
section
/-! DEFINITION. Power delivery and power states (chapter 16): T-class fields, power levels, switched domains, MINSENSE, the limiter
and the guards, failed regulator cells, warm-up ballast. -/

namespace Sys2Proof.Machine
open Sys2Proof

/-! ### T-class fields (R9, R417, R459) -/

/-- Shadow field and field in effect, where the tick copies one to the other (R9). -/
def tPairs : List (Fld × Fld) :=
  [(F.TICK_PERIOD_STEPS, F.TICK_PERIOD_STEPS_EFF), (F.TICK_IN_COMP_NS, F.TICK_IN_COMP_NS_EFF), (F.BLK_SP_MAP_MODE0, F.BLK_SP_MAP_MODE0_EFF),
   (F.BLK_SP_MAP_MODE1, F.BLK_SP_MAP_MODE1_EFF), (F.BLK_PF_CFG_DEPTH, F.BLK_PF_CFG_DEPTH_EFF), (F.MEMC_CLASS_CAP_CAP, F.MEMC_CLASS_CAP_CAP_EFF)] ++
  [(F.SLC_CLASS_CAP_CAP, F.SLC_CLASS_CAP_CAP_EFF), (F.SLC_RA_CFG_DEPTH, F.SLC_RA_CFG_DEPTH_EFF), (F.SLC_RA_CFG_CLASS, F.SLC_RA_CFG_CLASS_EFF),
   (F.ERRQ_PERIOD_H, F.ERRQ_PERIOD_EFF), (F.ERRQ_ENABLE, F.ERRQ_ENABLE_EFF), (F.FAB0_DEST_NODE, F.FAB0_DEST_NODE_EFF)] ++
  [(F.FAB0_DEST_VALID, F.FAB0_DEST_VALID_EFF), (F.PWR_W, F.PWR_W_EFF), (F.PWR_FRAME_BUDGET_UJ, F.PWR_FRAME_BUDGET_EFF_UJ)]

/-- The key of the field in effect that belongs to the key of a shadow field. -/
def tEff (k : Nat) : Option Nat :=
  match pageOf (k / 64 / 0x1000) with
  | none => none
  | some (_, u) => tPairs.findSome? (fun (f, g) =>
      let off := k / 64 - pageBase f.page u
      let i := if f.stride = 0 then 0 else (off - f.off) / f.stride
      if keyAt f.page u f i = k ∧ i < f.count then some (keyAt g.page u g i) else none)

/-- Every T-class field that has been written takes effect. -/
def State.applyT (s : State) : State :=
  s.regs.foldl (fun s (k, v) => match tEff k with
    | some e => { s with regs := SMap.put e v s.regs }
    | none => s) s

/-- A T-class field is written: its shadow, and before the first tick the field in effect too (R417, R459). -/
def State.putT (s : State) (f : Fld) (u i v : Nat) : State :=
  let s := s.wr f u i v
  match s.plaza.ticked, tPairs.find? (fun p => p.1 == f) with
  | false, some (_, g) => s.wr g u i v
  | _, _ => s

/-! ### Power levels (R418, R419) -/

/-- Step 3 for the power level: a lower level runs at once; a higher one runs once its voltage is there. [DEDUCED, log entry 57] -/
def State.applyPl (s : State) : State :=
  let t := s.rd F.PWR_PL
  let e := s.rd F.PWR_PL_EFF
  if t < e then
    if s.pwr.raise = some t then
      (if s.pwr.raised then ((s.wr F.PWR_PL_EFF 0 0 t).wr F.PWR_RAISING 0 0 0).onPwr (fun p => { p with raise := none, raised := false }) else s)
    else (s.wr F.PWR_RAISING 0 0 1).onPwr (fun p => { p with raise := some t, raised := false })
  else ((s.wr F.PWR_PL_EFF 0 0 t).wr F.PWR_RAISING 0 0 0).onPwr (fun p => { p with raise := none, raised := false })

/-- VOLTAGE_RAISED (R419): the regulators have reached the voltage of the level being raised to. -/
def execVoltageRaised (s : State) : Host.Outcome State Fault Refusal :=
  .next (
    if s.pwr.raise.isNone then s
    else
      let s := s.onPwr (fun p => { p with raised := true })
      if s.plaza.ticked then s else s.applyPl)

/-! ### Warm-up ballast (R429, R440, R441) -/

/-- Whether warm-up ballast is to run. -/
def State.warmWanted (s : State) : Bool := s.coldHold && s.rd F.PWR_WARMUP_EN == 1 && decide (s.rd F.THM_STATE_HIGH < 2)

/-- Warm-up starts or stops: the arrays of the AD domains that are ON begin to ramp. -/
def State.warmUp (s : State) : State :=
  if s.warmWanted = s.pwr.warming then s
  else
    let on := s.warmWanted
    let s := s.onPwr (fun p => { p with warming := on })
    (List.range nBlks).foldl (fun s p =>
      if s.domOn (distOf p) && !(s.blk p).core.running && s.ballast p then
        match on, (s.blk p).mx.ramp with
        | true, .off => (s.cycles F.BLK_MX_BALLAST_CYCLES p).onMx p (fun m => { m with ramp := .up 1 })
        | false, .up l => s.onMx p (fun m => { m with ramp := .down l })
        | _, _ => s
      else s) s

/-! ### Switched domains (R420 to R422) -/

/-- The state that counts for the checks of R421: a domain that is SWITCHING counts as being where it goes. -/
def State.domGoes (s : State) (n : Nat) : Nat := if s.domState n = 3 then (s.dom n).target else s.domState n

/-- Why a request is refused (R421): 0 not, 1 dependency, 2 district dark. -/
def State.domRefusal (s : State) (n req : Nat) : Nat :=
  if n < 16 ∧ 1 ≤ req then
    (if s.rd F.PWR_LDO_DARK 0 n = 1 then 2 else if s.domGoes (16 + n / 2) = 0 then 1 else 0)
  else if 16 ≤ n ∧ n < 24 ∧ req ≤ 1 then
    (if s.domGoes (2 * (n - 16)) = 2 ∨ s.domGoes (2 * (n - 16) + 1) = 2 then 1 else 0)
  else if 24 ≤ n ∧ n < 28 ∧ req = 0 then (if s.domGoes 29 = 2 then 0 else 1)
  else 0

/-- A domain enters a state. -/
def State.domEnter (s : State) (n st : Nat) : State :=
  let s := ((s.wr F.DOM_STATE n 0 st).onDom n (fun _ => ⟨st, false, false, 0⟩)).warmUp
  if st = 2 then s.setEvt .dom n 4 else s

/-- A domain starts to switch; every port is DOWN while FABRIC is not ON (R403). [DEDUCED, log entry 55] -/
def State.domStart (s : State) (n : Nat) (d : Dom) : State :=
  let s := (((s.wr F.DOM_STATE n 0 3).wr F.DOM_STEP n 0 0).wr F.DOM_PENDING_HEADROOM n 0 0).onDom n (fun _ => d)
  if n = 28 ∧ d.leaving = true then forN 8 s (fun s p => s.portLose p 0) else s

/-- A request takes effect (R421, R422). RET to OFF runs the actions of OFF too. [DEDUCED, log entry 55] -/
def State.applyDom (s : State) (n req : Nat) : State :=
  let why := s.domRefusal n req
  let st := s.domState n
  let d := s.dom n
  if why ≠ 0 then (s.wr F.DOM_REFUSED n 0 why).setEvt .dom n 6
  else if st = req then s
  else if st = 3 then
    if d.leaving then s.onDom n (fun d => { d with target := req })
    else if req = 0 then (if d.fromRet then s.domStart n ⟨0, false, true, 0⟩ else (s.wr F.DOM_STEP n 0 0).domEnter n 0)
    else s.onDom n (fun d => { d with target := req })
  else if st = 2 ∨ req = 0 then s.domStart n ⟨req, false, true, 0⟩
  else s.domStart n ⟨req, decide (st = 1), false, 0⟩

/-- The requests of a gap in two passes (R421). -/
def State.applyDoms (s : State) : State :=
  let q := s.later.doms
  let s := s.onLater (fun l => { l with doms := [] })
  let low := (List.range 30).filter (fun n => decide (q.get n 3 < 2))
  let up := (((List.range 14).map (fun n => n + 16)) ++ List.range 16).filter (fun n => decide (q.get n 3 = 2))
  (low ++ up).foldl (fun s n => s.applyDom n (q.get n 0)) s

/-- A request is written (R417, R421, R509). -/
def State.domReq (s : State) (n v : Nat) : State :=
  if v % 4 = 3 then s.cfgReject .dom n
  else
    let s := (s.wr F.DOM_STATE_REQ n 0 v).onLater (fun l => { l with doms := SMap.put n (v % 4) l.doms })
    if s.plaza.ticked then s else s.applyDoms

/-- A write of DOM[n].REQ (R421): dropped where the source has no authority (R375). -/
def State.domWrite (s : State) (src : Source) (n v : Nat) : State :=
  if s.mayWrite src = false then s
  else if s.hasAuth src = false then s.authReject src
  else s.domReq n v

/-- DOMAIN_REQUEST (R421). -/
def execDomainRequest (src : Source) (n : Nat) (v : Word) (s : State) : Host.Outcome State Fault Refusal := onSrc src <|
  onUnit 30 n s fun s => s.domWrite src n v.toNat

/-- Quadrant segment of a domain (R422); FABRIC and MEMIF have one of their own. -/
def segOf (n : Nat) : Nat := if n < 16 then n / 4 else if n < 24 then (n - 16) / 2 else if n < 28 then n - 24 else n

/-- Steps of a switch-on. -/
def Dom.steps (d : Dom) : Nat := if d.fromRet then 4 else 16

/-- Whether a domain has a step to make (R421, R422). -/
def State.domWaits (s : State) (n : Nat) : Bool :=
  s.domState n == 3 && !(s.dom n).leaving && decide (s.rd F.DOM_STEP n < (s.dom n).steps) && (decide (16 ≤ n) || s.domOn (16 + n / 2))

/-- Whether a step goes ahead (R422). [DEDUCED, log entry 55] -/
def State.headroom (s : State) (n : Nat) : Bool :=
  decide (s.pwr.vin + 3000 ≤ 1000 * s.rd F.PWR_I_HEAD)
    && (decide (28 ≤ n) || (List.range 28).all (fun m => m == n || segOf m != segOf n || !s.domOn m || decide (s.rd F.PWR_I_DOM 0 m ≤ 900 * domPeak m)))

/-- SWITCH_STEP (R422): the next step of domain n falls due: it is made, or paused for 1 µs. Within a segment the waiting domain of
the lowest number is served. [DEDUCED, log entry 55] -/
def execSwitchStep (n : Nat) (s : State) : Host.Outcome State Fault Refusal :=
  onUnit 30 n s fun s =>
    if s.domWaits n = false ∨ (List.range n).any (fun m => segOf m == segOf n && s.domWaits m) = true then s
    else if s.headroom n then s.wr F.DOM_STEP n 0 (s.rd F.DOM_STEP n + 1)
    else
      let s := (s.inc F.DOM_PAUSE_US n 0).onDom n (fun d => { d with paused := d.paused + 1 })
      if (s.dom n).paused = 200 then (s.wr F.DOM_PENDING_HEADROOM n 0 1).setEvt .dom n 5 else s

/-- Blocks of a BL domain. -/
def blBlks (n : Nat) : List Nat := (List.range 68).map (fun i => 68 * (n - 16) + i)

/-- Whether the unit of a page has checkers in a domain (R308). -/
def inDomain (n page : Nat) : Bool :=
  match pageOf page with
  | some (.blk, p) => if n < 16 then distOf p == n else decide (16 ≤ n) && decide (n < 24) && distOf p / 2 == n - 16
  | some (.slc, k) => n == 24 + k / 32
  | some (.gath, d) => n == 16 + d / 2
  | some (.fab, _) => n == 28
  | some (.memc, _) => n == 29
  | _ => false

/-- A Block loses what it holds when its logic domain enters OFF (R420): both I-memory halves are OPEN and hold free values, and the L1
holds nothing; its core, queues and thread groups stop. [DESIGN CHOICE, log entry 56] -/
def State.blkOff (s : State) (p : Nat) : State :=
  { s.onBlk p (fun b => { b with core := Core.reset, q := Queues.reset, vx := [], l1 := [], im := { IMem.reset with live := b.im.live, lost0 := some s.free, lost1 := some (s.free + 16384) } }) with
    free := s.free + 32768 }

/-- The dirty check bursts of a controller are written back (R262, R275). -/
def State.flushChecks (s : State) (g : Nat) : State :=
  let dirty := ((s.mem g).checks.map (fun (e : Nat × List CheckBurst) => e.2.filter (fun b => b.dirty))).flatten
  (dirty.foldl (fun s b => (s.checkLost g b).columns g (s.checkRow g (b.chan, b.burst)) 1) s).onMem g (fun m =>
    { m with checks := m.checks.map (fun (e : Nat × List CheckBurst) => (e.1, e.2.map (fun b => { b with dirty := false }))) })

/-- A controller completes the requests and writes in its slots. -/
def State.memDrain (s : State) (g : Nat) : State :=
  let s := (s.groupMiss g).foldl (fun s (x : GMiss) => if x.2.inSlot then s.settleLine x.1 x.2.line else s) s
  (s.mem g).writes.foldl (fun s w => s.issueWrite g w) s

/-- A controller completes what it holds and writes its check bursts back; every rank is then in self-refresh (R275). -/
def State.memQuiet (s : State) (g : Nat) : State :=
  ((s.memDrain g).flushChecks g).onMem g (fun m => { m with selfRefresh := true, batch := 0 })

/-- FABRIC reports ON (R403): each enabled port trains. -/
def State.trainPorts (s : State) : State := forN 8 s (fun s p => if s.rdAt .fab p F.HDR_CTRL_ENABLE 0 = 1 then s.portTrain p else s)

/-- What leaving ON does before the new state is reported (R420, R275, R403). [DESIGN CHOICE, log entry 56] -/
def State.leaveDom (s : State) (n target : Nat) : State :=
  match domKind n with
  | 0 => forN 34 s (fun s i => s.onMx (34 * n + i) (fun m => { m with ramp := .off }))
  | 1 => if target = 0 then (blBlks n).foldl State.blkOff s else s
  | 2 =>
    if target = 0 then
      forN 32 s (fun s i =>
        let k := 32 * (n - 24) + i
        let s := s.settleSlice k
        (s.slc k).lines.foldl (fun s x => s.flushLine k x) s)
    else s
  | 3 => s
  | _ => if target = 2 then s else forN nDist s State.memQuiet

/-- What the end of a switch-on does before the domain reports ON, or enters RET (R220, R275, R403): from OFF, the scratchpads' valid
bits are clear and the channels train again. [DEDUCED, log entry 55; DESIGN CHOICE, log entry 56] -/
def State.joinDom (s : State) (n target : Nat) (fromRet : Bool) : State :=
  match domKind n with
  | 1 => if fromRet then s else (blBlks n).foldl (fun s p => s.onBlk p (fun b => { b with sp := { b.sp with words := [], errs := [] } })) s
  | 4 => forN nDist s (fun s g => s.onMem g (fun m =>
      { m with selfRefresh := decide (target ≠ 2), retrain := if fromRet || !s.locked then m.retrain else s.chansOf g }))
  | _ => s

/-- SWITCH_DONE (R308, R420, R422): domain n ends its switch; `fails` are the pages of units whose checkers fail the self-test that
ends a switch-on from OFF. [DEDUCED, log entry 55] -/
def execSwitchDone (n : Nat) (fails : List Nat) (s : State) : Host.Outcome State Fault Refusal :=
  onUnit 30 n s fun s =>
    let d := s.dom n
    if s.domState n ≠ 3 then s
    else if d.leaving then
      let s := (s.leaveDom n d.target).domEnter n d.target
      if n = 28 ∧ d.target = 2 then s.trainPorts else s
    else if s.rd F.DOM_STEP n < d.steps then s
    else
      let s := if d.fromRet then s else (fails.filter (inDomain n)).foldl State.selfTestFail s
      if s.domState n ≠ 3 then s
      else
        let s := (s.joinDom n d.target d.fromRet).domEnter n d.target
        if n = 28 ∧ d.target = 2 then s.trainPorts else s

/-! ### MINSENSE (R408 to R412) -/

/-- The 40 bits of a frame (R410). -/
def minsense (seq vmin vtarget : Nat) (fall rise : Bool) : Nat :=
  let body := packed [(10, 28), (seq % 4, 26), (vmin % 4096, 14), (vtarget % 4096, 2), (b2n fall, 1), (b2n rise, 0)]
  body * 256 + crc8 ((leBytes 4 (body % 2 ^ 28)).reverse)

/-- Domain of a VIN_CORE sensor (R408): sensors 0 to 255 lie in the district tiles of the logic die, 16 each, 256 to 383 at the LDO
inputs of the arithmetic die, 8 for each district, and 384 to 511 one for each slice. The numbering is the model's. [DESIGN CHOICE, log entry 58] -/
def vSensorDom (k : Nat) : Nat := if k < 256 then 16 + k / 32 else if k < 384 then (k - 256) / 8 else 24 + (k - 384) / 32

/-- MINSENSE_FRAME (R408 to R412): a frame is sent with the lowest reading of a sensor in service in the past 1 µs. `readings` are
sensor numbers and readings in 0.25 mV units; a reading outside 0.50 V to 1.00 V puts its sensor out of service. [DESIGN CHOICE, log entry 58] -/
def execMinsenseFrame (readings : List (Nat × Nat)) (fall rise : Bool) (s : State) : Host.Outcome State Fault Refusal :=
  let rs := readings.filter (fun (r : Nat × Nat) => decide (r.1 < 512) && s.domOn (vSensorDom r.1))
  let s := (rs.filter (fun (r : Nat × Nat) => decide (r.2 < 2000) || decide (4000 < r.2))).foldl (fun s r =>
    if s.pwr.vout.contains r.1 then s else s.onPwr (fun p => { p with vout := r.1 :: p.vout })) s
  let vs := (rs.filter (fun (r : Nat × Nat) => !s.pwr.vout.contains r.1)).map (fun (r : Nat × Nat) => r.2)
  let t := s.rd F.PWR_VTARGET_V
  let v := if vs = [] then t else vs.foldl min 4095
  let s := if vs = [] then s.setEvt .pwr 0 8 else s
  let s := (s.wr F.PWR_VMIN_LAST 0 0 v).wr F.PWR_VMIN_LOWEST 0 0 (min v (s.rd F.PWR_VMIN_LOWEST))
  let s := s.emit "MINSENSE" [minsense s.pwr.seq v t fall rise]
  let s := s.onPwr (fun p => { p with seq := (p.seq + 1) % 4, under := if v + 200 < t then min 3 (p.under + 1) else 0, low := if v < 2800 then min 2 (p.low + 1) else 0 })
  let s := if s.pwr.under = 3 then s.setEvt .pwr 0 7 else s
  .next (if s.pwr.low = 2 ∧ s.sec.running = true then s.fatal 4 else s)

/-! ### The limiter and the guards (R413, R423 to R427) -/

/-- Throttle level, with CLAMP and GATE (R424). -/
def State.setLevel (s : State) (l : Nat) : State :=
  if s.rd F.PWR_LEVEL = l then s
  else (((s.wr F.PWR_LEVEL 0 0 l).wr F.PWR_CLAMP 0 0 (min l 4)).wr F.PWR_GATE 0 0 (l - 4)).setEvt .pwr 0 4

/-- Failed cells of a district. -/
def State.failedCells (s : State) (d : Nat) : Nat := ((List.range 24).filter (fun c => (s.rd F.PWR_LDO_FAILED 0 d).testBit c)).length

/-- Current cap of a district in mA (R413). -/
def State.distCap (s : State) (d : Nat) : Nat := 3000 * (24 - s.failedCells d)

/-- The frame budget that the firmware writes (R423). [DEDUCED, log entry 57] -/
def State.fwBudget (s : State) : State :=
  if s.sec.running = false then s else s.putT F.PWR_FRAME_BUDGET_UJ 0 0
    (min (s.rd F.PWR_W_EFF) (s.rd F.THM_ALLOW_THERM_W) * (s.rd F.TICK_PERIOD_STEPS_EFF * 10) * (16 - s.rd F.PWR_CLAMP) / 16)

/-- One sample of a district's array current against its cap (R425). [DEDUCED, log entry 57] -/
def State.distGuard (s : State) (d ma : Nat) : State :=
  let cap := s.distCap d
  let age := min 4 (s.pwr.distAge.get d 4 + 1)
  let s := if 100 * ma < 95 * cap ∨ s.pwr.warm.contains d then s else s.onPwr (fun p => { p with warm := d :: p.warm })
  if cap < ma ∧ age = 4 then
    let s := s.onPwr (fun p => { p with distAge := SMap.put d 0 p.distAge })
    let g := s.rd F.PWR_LDO_DGATE 0 d
    if g < 15 then (s.wr F.PWR_LDO_DGATE 0 d (g + 1)).inc F.PWR_DGATE_TRIPS 0 0 else s
  else if age = s.pwr.distAge.get d 4 then s
  else s.onPwr (fun p => { p with distAge := SMap.put d age p.distAge })

/-- FAST_GUARD (R425, R427): the 1 µs samples of VIN_CORE and of the districts' array currents, in mA, and the µJ drawn since the last. [DEDUCED, log entry 57] -/
def execFastGuard (ma : Nat) (dist : List Nat) (uj : Nat) (s : State) : Host.Outcome State Fault Refusal :=
  let age := min 4 (s.pwr.fastAge + 1)
  let trip := decide (1000 * s.rd F.PWR_I_FAST < ma) && age == 4
  let s := (s.wr F.PWR_ENERGY 0 0 (s.rd F.PWR_ENERGY + uj)).onPwr (fun p => { p with vin := ma, fastAge := if trip then 0 else age, fast := p.fast || trip })
  let s := if trip then (s.setLevel (min 19 (max (s.rd F.PWR_LEVEL + 1) 5))).inc F.PWR_FAST_TRIPS 0 0 else s
  .next (forN nDist s (fun s d => s.distGuard d (dist.getD d 0)))

/-- The causes of R424 at a window's end, as bits THERMAL, ENVELOPE, CURRENT, FAST: average rail 0 current in mA and power in mW. -/
def State.causes (s : State) (rail0 mw : Nat) : Nat :=
  packed [(b2n (s.rd F.THM_STATE_HIGH == 2), 0), (b2n (decide (1000 * s.rd F.PWR_W_EFF < mw)), 1), (b2n (decide (1350000 < rail0)), 2), (b2n s.pwr.fast, 3)]

/-- LIMITER_WINDOW (R424, R425, R427): a 1 ms window ends with the average rail and domain currents in mA and the average power in mW. [DEDUCED, log entry 57] -/
def execLimiterWindow (rails doms : List Nat) (mw : Nat) (s : State) : Host.Outcome State Fault Refusal :=
  let c := s.causes (rails.getD 0 0) mw
  let l := s.rd F.PWR_LEVEL
  let up := c != 0 && (c != 2 || decide (s.rd F.PWR_GATE < s.rd F.PWR_GATE_MAX))
  let down := c == 0 && decide (100 * mw < 95000 * s.rd F.PWR_W_EFF)
  let s := (s.setLevel (if up then min 19 (l + 1) else if down then l - 1 else l)).wr F.PWR_CAUSE 0 0 c
  let s := if s.rd F.PWR_LEVEL = 0 then s else s.inc F.PWR_THROTTLE_WINDOWS 0 0
  let s := forN nDist s (fun s d => if s.pwr.warm.contains d ∨ s.rd F.PWR_LDO_DGATE 0 d = 0 then s else s.wr F.PWR_LDO_DGATE 0 d (s.rd F.PWR_LDO_DGATE 0 d - 1))
  let s := s.onPwr (fun p => { p with fast := false, warm := [] })
  let s := forN 6 s (fun s r => s.wr F.PWR_I_RAIL 0 r (rails.getD r 0))
  let s := forN 30 s (fun s n => s.wr F.PWR_I_DOM 0 n (doms.getD n 0))
  .next ((s.wr F.PWR_P_TOTAL 0 0 (min 65535 (mw / 1000))).fwBudget)

/-- CELL_FAIL (R414, R415): cell c of district d fails and is isolated; at the fifth the district goes dark. -/
def execCellFail (d c : Nat) (s : State) : Host.Outcome State Fault Refusal :=
  onUnit nDist d s fun s =>
    if 24 ≤ c ∨ (s.rd F.PWR_LDO_FAILED 0 d).testBit c ∨ s.rd F.PWR_LDO_DARK 0 d = 1 then s
    else
      let s := ((s.wr F.PWR_LDO_FAILED 0 d (setBit (s.rd F.PWR_LDO_FAILED 0 d) c)).setEvt .pwr 0 5).logLater (.cell d c)
      if s.failedCells d = 5 then
        let s := s.wr F.PWR_LDO_DGATE 0 d 15
        if s.plaza.ticked then s.onLater (fun l => { l with dark := l.dark ++ [d] }) else s.darken d
      else s

/-- GATE_BOUNDARY (R426): at a boundary of 16 cycles the arrays of district d read GATE and DGATE. -/
def execGateBoundary (d : Nat) (s : State) : Host.Outcome State Fault Refusal :=
  onUnit nDist d s fun s =>
    let g := s.rd F.PWR_GATE
    let h := s.rd F.PWR_LDO_DGATE 0 d
    forN 34 s (fun s i =>
      (if g = 0 ∧ h = 0 then s else s.cycles F.BLK_MX_GATED (34 * d + i)).onMx (34 * d + i) (fun m => { m with gate := g, dgate := h }))

/-- Whether cycle i of each group of 16 is gated at a level (R426). -/
def gated (g i : Nat) : Bool := decide (g * i % 16 < g)

end Sys2Proof.Machine
end

