-- ==== Sys2Proof/Machine/Thermal.lean ====
section
/-! DEFINITION. Temperature and bond wear (chapter 17): the housekeeping sequencer, the estimate for the logic die, thresholds,
shutdown, cycle counting and the bond-wear log. Temperatures are in 0.125 °C units. -/

namespace Sys2Proof.Machine
open Sys2Proof

/-- A signed value as the bits of a field. -/
def signedBits (w : Nat) (t : Int) : Nat := (t % (2 ^ w : Int)).toNat

/-- The thermal part changed. -/
def State.onThm (s : State) (f : Thermal → Thermal) : State := { s with thm := f s.thm }

/-! ### Shutdown (R439) -/

/-- Every switched domain enters OFF and the device shuts down. [DEDUCED, log entry 59] -/
def State.shutdown (s : State) : State :=
  if s.rd F.TOP_STATUS_SHUTDOWN = 1 then s
  else
    let s := (((s.wr F.THM_STATE_HIGH 0 0 3).wr F.TOP_STATUS_SHUTDOWN 0 0 1).emit "THERMTRIP#" [1]).smb 0
    forN 30 s (fun s n =>
      if s.domState n = 0 then s else (((((s.domStart n ⟨0, false, true, 0⟩).leaveDom n 0).domEnter n 0).wr F.DOM_FORCED n 0 1).setEvt .dom n 7))

/-- A reading or an estimate is compared with 120 °C as it is taken. -/
def State.tripAt (s : State) (t : Int) : State := if 960 ≤ t then s.shutdown else s

/-! ### Sensors and the estimate (R431 to R435) -/

/-- A sensor goes out of service (R432). -/
def State.sensorOut (s : State) (k : Nat) : State :=
  ((s.onThm (fun t => { t with out := k :: t.out, read := SMap.del k t.read })).setEvt .thm 0 9).wr F.THM_TSENS_VALID 0 k 0

/-- 4 × 10⁸ times the model temperature of tile i in 0.125 °C units (R434): none where both inputs are out of service. -/
def State.tileModel (s : State) (i : Nat) : Option Int :=
  let p : Int := (s.rd F.PWR_I_DOM 0 (16 + i / 8) * s.rd F.PWR_VMIN_LAST * s.rd F.THM_RINT_R : Nat)
  match SMap.find i s.thm.read, SMap.find (128 + i / 2) s.thm.read with
  | some a, some c => some ((a + c) * 200000000 + p)
  | some a, none => some (a * 400000000 + p)
  | none, some c => some (c * 400000000 + p)
  | none, none => none

/-- A model temperature rounded to 0.125 °C; a tie, which R434 does not settle, is a free choice. [DEDUCED, log entry 59] -/
def State.roundModel (s : State) (m : Int) : State × Int :=
  let q := m / 400000000
  let r := m % 400000000
  if 2 * r < 400000000 then (s, q)
  else if 400000000 < 2 * r then (s, q + 1)
  else (s.used, q + (s.freeVal % 2 : Nat))

/-- Highest of a list of temperatures. -/
def maxOf : List Int → Option Int
  | [] => none
  | t :: ts => some (ts.foldl max t)

/-- Lowest of a list of temperatures. -/
def minOf : List Int → Option Int
  | [] => none
  | t :: ts => some (ts.foldl min t)

/-- Latest estimates of the other tiles of a tile's district; with `modelled`, of those that have a model. -/
def State.otherTiles (s : State) (i : Nat) (modelled : Bool) : List Int :=
  ((List.range 4).map (fun k => 4 * (i / 4) + k)).filterMap (fun j =>
    if j = i ∨ (modelled = true ∧ s.thm.model.contains j = false) then none else SMap.find j s.thm.est)

/-- Tile i's estimate is computed (R434, R435). [DEDUCED, log entry 59] -/
def State.estimate (s : State) (i : Nat) : State :=
  let t := SMap.find (64 + i) s.thm.read
  let m := s.tileModel i
  let bad := match m, t with
    | some m, some t => decide (64 * 400000000 < m - t * 400000000)
    | _, _ => false
  let s := s.wr F.THM_TSENS_DISAGREE 0 (64 + i) (b2n bad)
  let s := if bad then (s.setEvt .thm 0 8).onThm (fun t => { t with disagree := true }) else s
  let (s, e) : State × Option Int := match m with
    | some m => let (s, r) := s.roundModel m; (s, some (match t with | some t => max t r | none => r))
    | none => match t with
      | some t => (s, some (max t ((maxOf (s.otherTiles i true)).getD t)))
      | none => (s, maxOf (s.otherTiles i false))
  let mods := s.thm.model.filter (fun j => j != i)
  let s := s.onThm (fun x => { x with model := if m.isSome then i :: mods else mods, est := match e with | some e => SMap.put i e x.est | none => SMap.del i x.est })
  match e with
  | some e => (s.wr F.THM_TSENS_E 0 (64 + i) (signedBits 12 e)).tripAt e
  | none => s

/-- Sensor k is read: `none` is a count outside its valid range (R432). -/
def State.readSensor (s : State) (k : Nat) (v : Option Int) : State :=
  let s : State :=
    if s.thm.out.contains k then s
    else match v with
      | none => s.sensorOut k
      | some v =>
        let t := sext 12 (signedBits 12 v)
        (((s.onThm (fun x => { x with read := SMap.put k t x.read })).wr F.THM_TSENS_T 0 k (signedBits 12 t)).wr F.THM_TSENS_VALID 0 k 1).tripAt t
  if 64 ≤ k ∧ k < 128 then s.estimate (k - 64) else s

/-- HK_CHANNEL (R433): the next channel of the round is visited; v is what it measures. -/
def execHkChannel (v : Option Int) (s : State) : Host.Outcome State Fault Refusal :=
  let k := s.thm.chan
  if 512 ≤ k then .next s
  else
    let s := s.onThm (fun t => { t with chan := k + 1 })
    .next (
      if k < 160 then s.readSensor k v
      else if k < 362 then (match v with | some v => s.onThm (fun t => { t with tele := SMap.put k v.toNat t.tele }) | none => s)
      else s)

/-! ### The end of a round (R436 to R447) -/

/-- Readings and estimates that a unit's temperature is the highest of (R436): units 0 to 15 districts, 16 to 19 quadrants. -/
def State.unitTemps (s : State) (u : Nat) : List Int :=
  if u < 16 then
    (List.range 4).filterMap (fun k => SMap.find (4 * u + k) s.thm.read) ++ (List.range 4).filterMap (fun k => SMap.find (4 * u + k) s.thm.est)
  else (List.range 8).filterMap (fun k => SMap.find (128 + 8 * (u - 16) + k) s.thm.read)

/-- Unit temperatures, TMAX and TMIN are formed; whether each of TMAX and TMIN had anything in service. [DEDUCED, log entry 59] -/
def State.formTemps (s : State) : State × Bool × Bool :=
  let s := forN 20 s (fun s u => match maxOf (s.unitTemps u) with
    | some t => s.onThm (fun x => { x with units := SMap.put u t x.units })
    | none => s)
  let anyMax := (List.range 20).any (fun u => s.unitTemps u != [])
  let s := if anyMax then s.onThm (fun x => { x with tmax := ((List.range 20).map (fun u => x.units.get u 0)).foldl max (x.units.get 0 0) }) else s
  let lows := (s.thm.read.filter (fun (e : Nat × Int) => decide (e.1 < 64) || decide (128 ≤ e.1))).map (fun (e : Nat × Int) => e.2)
  let lo := minOf (lows ++ s.thm.est.map (fun (e : Nat × Int) => e.2))
  let s := s.onThm (fun x => { x with tmin := lo.getD x.tmin })
  ((s.wr F.THM_TEMP_TMAX 0 0 (signedBits 12 s.thm.tmax)).wr F.THM_TEMP_TMIN 0 0 (signedBits 12 s.thm.tmin), anyMax, lo.isSome)

/-- The high state after a round, by the state before it (R437). -/
def highNext (h : Nat) (t : Int) : Nat :=
  if (if h = 2 then decide (800 < t) else decide (840 ≤ t)) then 2
  else if (if 1 ≤ h then decide (720 < t) else decide (760 ≤ t)) then 1 else 0

/-- The cold state after a round, by the state before it (R437). -/
def coldNext (c : Nat) (t : Int) : Nat :=
  if (if c = 2 then decide (t < 80) else decide (t ≤ 40)) then 2
  else if (if 1 ≤ c then decide (t < 160) else decide (t ≤ 120)) then 1 else 0

/-- The states of R437 are updated, with the event of each entry. -/
def State.setThermal (s : State) (anyMax anyMin : Bool) : State :=
  let h := s.rd F.THM_STATE_HIGH
  let c := s.rd F.THM_STATE_COLD
  let h' := if h = 3 ∨ anyMax = false then h else highNext h s.thm.tmax
  let c' := if anyMin then coldNext c s.thm.tmin else c
  let s := (s.wr F.THM_STATE_HIGH 0 0 h').wr F.THM_STATE_COLD 0 0 c'
  let s := if h = 0 ∧ 1 ≤ h' then s.setEvt .thm 0 4 else s
  let s := if h ≠ 2 ∧ h' = 2 then s.setEvt .thm 0 5 else s
  let s := if c = 0 ∧ 1 ≤ c' then s.setEvt .thm 0 6 else s
  let s := if c ≠ 2 ∧ c' = 2 then s.setEvt .thm 0 7 else s
  s.wr F.THM_STATE_BELOW_RATED 0 0 (b2n (decide (s.thm.tmin < Config.ratedMin)))

/-- Half-cycles of a unit. -/
def State.halves (s : State) (u : Nat) : Nat := 2 * s.rd F.THM_CYCLES_COUNT 0 u + s.rd F.THM_CYCLES_ODD 0 u

/-- A unit's cycle state: half-cycles (the count saturates), direction and extreme. -/
def State.setCycles (s : State) (u halves dir : Nat) (ext : Int) : State :=
  (((s.wr F.THM_CYCLES_COUNT 0 u (min (halves / 2) (2 ^ 17 - 1))).wr F.THM_CYCLES_ODD 0 u (halves % 2)).wr F.THM_CYCLES_DIR 0 u dir).wr F.THM_CYC_EXT_EXT 0 u (signedBits 12 ext)

/-- One round of cycle counting for a unit (R447, R449). [DEDUCED, log entry 59] -/
def State.countCycles (s : State) (u : Nat) : State :=
  match SMap.find u s.thm.units with
  | none => s
  | some t =>
    if s.thm.begun.contains u = false then (s.setCycles u (s.halves u) 0 t).onThm (fun x => { x with begun := u :: x.begun })
    else
      let ext := sext 12 (s.rd F.THM_CYC_EXT_EXT 0 u)
      let h := s.halves u
      let old := s.rd F.THM_CYCLES_COUNT 0 u
      let s :=
        if s.rd F.THM_CYCLES_DIR 0 u = 1 then
          (if ext < t then s.setCycles u h 1 t else if 240 ≤ ext - t then s.setCycles u (h + 1) 0 t else s)
        else
          (if t < ext then s.setCycles u h 0 t else if 240 ≤ t - ext then s.setCycles u (h + 1) 1 t else s)
      if old < s.rd F.THM_WEAR_LIMIT ∧ s.rd F.THM_WEAR_LIMIT ≤ s.rd F.THM_CYCLES_COUNT 0 u then (s.setEvt .thm 0 10).smb 3 else s

/-- The thermal allowance in watts (R444). -/
def State.thermW (s : State) : Nat :=
  max 600 ((9600 - s.rd F.THM_ALLOW_GAIN * (s.thm.tmax - (8 * s.rd F.THM_ALLOW_T_ALLOW : Nat)).toNat) / 8)

/-- Ports that waited for cold hold to clear start training (R402). -/
def State.coldRelease (s : State) : State :=
  if s.coldHold then s else forN 8 s (fun s p => if s.rd F.FAB_COLD_HELD p = 1 then (s.wr F.FAB_STATE p 0 1).wr F.FAB_COLD_HELD p 0 0 else s)

/-! ### The telemetry map (R481) -/

/-- STATE byte of the map. -/
def State.stateByte (s : State) : Nat :=
  if s.rd F.TOP_STATUS_SHUTDOWN = 1 then 4
  else if s.rd F.TOP_STATUS_FATAL = 1 then 3
  else if s.rd F.BOOT_STATUS_STAGE = 15 then 2
  else if s.rd F.BOOT_STATUS_STAGE = 14 then 5
  else if s.rd F.TOP_STATUS_READY = 1 then 1 else 0

/-- Controllers with a channel that reports HOT, as bits (R445). -/
def State.memHot (s : State) : Nat := ((List.range nDist).filter (fun g => (List.range 4).any (fun c => s.rd F.MEMC_CHAN_HOT g c == 1))).foldl setBit 0

/-- The bytes 0x00 to 0xAF of the map as a round forms them; STATE and EVENTS are put in at each read. [DEDUCED, log entry 59] -/
def State.mapBytes (s : State) : List Byte :=
  let w (n v : Nat) := leBytes n v
  let t (u : Nat) := w 2 (signedBits 16 (s.thm.units.get u 0))
  w 1 1 ++ w 1 0 ++ w 1 (s.rd F.THM_STATE_HIGH + 4 * s.rd F.THM_STATE_COLD) ++ w 1 (s.rd F.PWR_LEVEL)
    ++ w 2 (signedBits 16 s.thm.tmax) ++ w 2 (signedBits 16 s.thm.tmin) ++ w 2 (s.rd F.PWR_P_TOTAL) ++ w 2 (s.rd F.PWR_W_EFF) ++ w 4 0
    ++ ((List.range 20).map t).flatten
    ++ ((List.range 6).map (fun r => w 2 (s.thm.tele.get (304 + r) 0 / 100))).flatten ++ ((List.range 6).map (fun r => w 2 (s.thm.tele.get (340 + r) 0))).flatten
    ++ w 2 s.memHot ++ w 1 0 ++ w 13 0
    ++ ((List.range 20).map (fun u => w 4 (s.rd F.THM_CYCLES_COUNT 0 u))).flatten

/-- The map is updated, and EVENTS with it. -/
def State.updateMap (s : State) : State :=
  let old := s.mgmt.map
  let new := s.mapBytes
  let s := if old.getD 2 0 = new.getD 2 0 then s else s.smb 2
  let s := if (leNat ((new.drop 0x50).take 2)) &&& (0xFFFF ^^^ leNat ((old.drop 0x50).take 2)) = 0 then s else s.smb 1
  { s with mgmt := { s.mgmt with map := new } }

/-- ROUND_END (R436, R437, R444, R447): the round of 512 channels ends. -/
def execRoundEnd (s : State) : Host.Outcome State Fault Refusal :=
  if s.thm.chan < 512 then .next s
  else
    let (s, hi, lo) := s.formTemps
    let s := s.setThermal hi lo
    let s := if s.rd F.THM_STATE_HIGH = 2 then s.inc F.THM_THROTTLE_ROUNDS 0 0 else s
    let s := if s.rd F.THM_STATE_COLD = 2 then s.inc F.THM_COLD_HOLD_ROUNDS 0 0 else s
    let s := if s.thm.disagree then s.inc F.THM_DISAGREE_ROUNDS 0 0 else s
    let s := forN 20 s State.countCycles
    let s := if s.sec.running then s.wr F.THM_ALLOW_THERM_W 0 0 s.thermW else s
    let s := ((s.fwBudget).coldRelease).warmUp
    let s := s.wr F.HK_ROUND_COUNT 0 0 (s.rd F.HK_ROUND_COUNT + 1)
    .next ((s.onThm (fun t => { t with chan := 0, disagree := false })).updateMap)

/-! ### The bond-wear log (R320, R414, R448) -/

/-- Half-cycles of a unit that the log holds. -/
def loggedHalves (log : List LogRec) (u : Nat) : Nat :=
  log.foldl (fun h r => match r with | .cycles v h' _ _ => if v = u then h' else h | _ => h) 0

/-- LOG_APPEND (R448): the firmware appends what has changed. [DESIGN CHOICE, log entry 60] -/
def execLogAppend (s : State) : Host.Outcome State Fault Refusal :=
  .next (
    if s.sec.running = false then s
    else
      let cyc := ((List.range 20).filter (fun u => s.halves u != loggedHalves s.nvm.log u)).map (fun u =>
        LogRec.cycles u (s.halves u) (s.rd F.THM_CYCLES_DIR 0 u) (sext 12 (s.rd F.THM_CYC_EXT_EXT 0 u)))
      let add := s.later.log ++ cyc
      if add = [] then s
      else ({ s with nvm := { s.nvm with log := s.nvm.log ++ add } }).onLater (fun l => { l with log := [] }))

end Sys2Proof.Machine
end

