-- ==== Sys2Proof/Machine/Tick.lean ====
section
/-! DEFINITION. The Plaza: the tick, its eight steps, the classing of a frame, admission, and the commands that make it tick
(R30 to R66, chapter 2; R216, R217, R224, R245, R248, R315 to R317, R351, R369, R374, R392, R396, R405, R485). -/

namespace Sys2Proof.Machine
open Sys2Proof

/-! ### When the Plaza ticks (R32, R485) -/

/-- FOLLOWER mode. -/
def State.follower (s : State) : Bool := s.rd F.TICK_SYNC_MODE == 2

/-- Whether a tick that comes now is taken: the Plaza ticks, the device is neither shut down nor failed, and a follower has seen its
pulse or lost it. [DEDUCED, log entry 19] -/
def State.mayTick (s : State) : Bool :=
  s.plaza.ticking && s.rd F.TOP_STATUS_SHUTDOWN == 0 && s.rd F.TOP_STATUS_FAILED == 0 && (!s.follower || s.plaza.armed)

/-- TICK_IN (R32, R485): a pulse on TICK_IN; it restarts a follower that waits for one. [DEDUCED, log entry 19] -/
def execTickIn (s : State) : Host.Outcome State Fault Refusal :=
  .next (if s.follower then s.onPlaza (fun p => { p with armed := true, ticking := p.ticking || p.waitPulse, waitPulse := false }) else s)

/-- TICK_LOST (R32): a follower has seen no pulse within the period plus 1 µs. [DEDUCED, log entry 19] -/
def execTickLost (s : State) : Host.Outcome State Fault Refusal :=
  .next (if s.follower && s.plaza.ticking then (s.setEvt .tick 0 0).onPlaza (fun p => { p with armed := true }) else s)

/-- TICK.CTRL.ENABLE is written (R485). A device in FATAL does not tick again (R315). [DEDUCED, log entry 19] -/
def State.tickEnable (s : State) (src : Source) (v : Bool) : State :=
  if s.mayWrite src = false then s
  else if v then
    let s := (s.wrAt .tick 0 F.HDR_CTRL_ENABLE 0 1).onPlaza (fun p => { p with stopping := false })
    if s.plaza.ticking ∨ s.rd F.TOP_STATUS_FATAL = 1 then s
    else if s.follower then s.onPlaza (fun p => { p with waitPulse := true })
    else s.onPlaza (fun p => { p with ticking := true })
  else if s.anyBusy then s
  else (s.wrAt .tick 0 F.HDR_CTRL_ENABLE 0 0).onPlaza (fun p => { p with stopping := p.ticking, waitPulse := false })

/-- TICK_CTRL_ENABLE (R485). -/
def execTickCtrlEnable (src : Source) (v : Bool) (s : State) : Host.Outcome State Fault Refusal := onSrc src <| .next (s.tickEnable src v)

/-! ### Frame end (R37, R395) -/

/-- Whether a context's entry marks fabric use (R45). -/
def State.fabricUse (s : State) (c : Nat) : Bool := bitOf ((s.ctx c).num 0x008 4) 0

/-- FRAME_ENDED (R37): every enabled Block has completed frame end; a clean frame sends its commit tokens. -/
def execFrameEnded (s : State) : Host.Outcome State Fault Refusal :=
  .next (match s.plaza.run with
    | none => s
    | some run =>
      if run.ended ∨ s.enabledBlks.all (fun p => (s.blk p).q.ended) = false then s
      else
        let s := s.onPlaza (fun p => { p with run := some { run with ended := true } })
        if run.faults = [] ∧ s.fabricUse run.ctx = true then s.sendCommit s.frame else s)

/-! ### Step 1: stop check (R38 to R40, R42, R97, R180, R184, R316) -/

/-- Class of a frame (R38). -/
inductive FrameClass where
  | kill (cause : Nat)
  | overrun
  | rollback
  | complete
  deriving DecidableEq, Repr

/-- Uncorrectable errors of a fault record as R39 counts them: reports of one code and one non-zero address count once. -/
def ueCount (fs : List FaultRep) : Nat :=
  let ues := fs.filter (fun f => decide (0x0101 ≤ f.code) && decide (f.code ≤ 0x0109))
  (ues.filter (fun f => f.addr == 0)).length + ((ues.filter (fun f => f.addr != 0)).map (fun f => (f.code, f.addr))).eraseDups.length

/-- The class of the ending frame (R38, R39, R54): the first row that applies. [DEDUCED, log entry 14] -/
def classOf (run : Run) (c : Ctx) : FrameClass :=
  match run.faults.find? (fun f => f.kill) with
  | some f => .kill f.cause
  | none =>
    if c.directWritten = true ∧ run.faults ≠ [] then .kill 0x03
    else if 2 ≤ ueCount run.faults then .kill 0x04
    else if c.replays = 2 ∧ run.faults ≠ [] then .kill 0x07
    else match c.killDue with
      | some k => if run.ended ∧ run.faults = [] then .complete else .kill k
      | none => if run.ended = false then .overrun else if run.faults = [] then .complete else .rollback

/-- A context is KILLED (R42, R45, R63, R316). -/
def State.killCtx (s : State) (c cause : Nat) : State :=
  let s := (s.discardAll c).onCtx c (fun x => { x with
    state := 5, cause := cause, stopFrame := s.frame, killDue := none, loadFail := false, replayPending := false })
  (s.enqueue ⟨0x0601, cause, pageIdx .ctx 0, some c, s.frame, 0, 0, none⟩ false).setEvt .tick 0 4

/-- A context's frame overran (R38, R42, R45, R63, R316). -/
def State.overrunCtx (s : State) (c : Nat) (fault : Bool) : State :=
  let s := (s.discardAll c).onCtx c (fun x => { x with
    state := 4, cause := 0x20, stopFrame := s.frame, faultAtOverrun := fault, replayPending := false })
  (s.enqueue ⟨0x0602, 0, pageIdx .ctx 0, some c, s.frame, 0, 0, none⟩ false).setEvt .tick 0 3

/-- The ending frame's intake is among the held ones (R63). -/
def State.holdIntake (s : State) (i : Option Intake) : State := s.onPlaza (fun p => { p with held := p.held ++ i.toList })

/-- The context of the ending frame moves as its class says (R42). A rolled-back one has one more replay (R54, R314). -/
def State.classMove (s : State) (run : Run) (k : FrameClass) : State :=
  match k with
  | .kill cause => (s.holdIntake run.intake).killCtx run.ctx cause
  | .overrun => (s.holdIntake run.intake).overrunCtx run.ctx (run.faults != [])
  | .rollback => s.onCtx run.ctx (fun x => { x with state := 2, replays := x.replays + 1, replayPending := true })
  | .complete => s.onCtx run.ctx (fun x => { x with state := 2 })

/-- Contexts other than `but` that a failed check or a lost line kills in step 1 (R46, R251, R391). [DEDUCED, log entry 14] -/
def State.killPending (s : State) (but : Option Nat) : State :=
  (s.ctxs.filter (fun (e : Nat × Ctx) => but != some e.1 && (e.2.state == 2 || e.2.state == 4) && (e.2.loadFail || e.2.killDue.isSome))).foldl
    (fun s (e : Nat × Ctx) => s.killCtx e.1 (e.2.killDue.getD 0x05)) s

/-- A Block at the end of its frame (R40, R97, R180, R184): its core stops, queues, groups and loads in flight are abandoned, and the arrays'
ramp-down ends within step 1. -/
def haltBlk (b : Block) : Block :=
  { b with
    core := { b.core with running := false, loads := [], stores := [], stall := 0 }
    q := { b.q with mxq := [], vxq := [], dxq := [], sxq := [], inflight := [], atBarrier := none }
    vx := []
    mx := { b.mx with ramp := .off, feed := [] } }

/-- Requests that a frame's end abandons: those of cores, vector engines, Block DMAs and gather engines. [DESIGN CHOICE, log entry 15] -/
def Req.ofFrame (r : Req) : Bool :=
  match r.src with
  | .core _ | .vx _ _ | .dma _ | .gath _ => true
  | _ => false

/-- A slice without the abandoned requests that wait in it. -/
def Slice.abandon (sl : Slice) : Slice :=
  { sl with
    miss := (sl.miss.map (fun m => { m with waiters := m.waiters.filter (fun r => !r.ofFrame) })).filter (fun m => !(m.kind == .victim && m.waiters.isEmpty))
    invWait := sl.invWait.filter (fun w => !w.req.ofFrame) }

/-- Requests in flight are abandoned (R40): a write to a committed region has no effect, one to a direct region lands or not, by
a free choice. [DESIGN CHOICE, log entry 15] -/
def State.abandonReqs (s : State) : State :=
  let inSlices := (s.slices.map (fun (e : Nat × Slice) => (e.2.miss.map (fun m => m.waiters)).flatten)).flatten
  let lost := (s.reqs ++ inSlices).filter (fun r => r.ofFrame && !r.shadow && r.op != .read)
  let s := { s with
    reqs := s.reqs.filter (fun r => !r.ofFrame), resps := s.resps.filter (fun r => !r.req.ofFrame)
    slices := s.slices.map (fun (e : Nat × Slice) => (e.1, e.2.abandon)) }
  lost.foldl (fun s r => if s.freeVal % 2 = 1 then (s.used.access r).1 else s.used) s

/-- Every Block, gather engine and send of the ending frame stops. -/
def State.haltAll (s : State) : State :=
  let s := { s with
    told := []
    blks := s.blks.map (fun (e : Nat × Block) => (e.1, haltBlk e.2))
    gaths := s.gaths.map (fun (e : Nat × Gather) => (e.1, { e.2 with inbound := [], parts := [], incoming := [] })) }
  (s.onFab (fun f => { f with sends := [] })).abandonReqs

/-- Step 1: the frame is classed, its context moves, and the Blocks halt. -/
def State.step1 (s : State) : State × Option (Run × FrameClass) :=
  match s.plaza.run with
  | none => ((s.killPending none).haltAll, none)
  | some run =>
    let k := classOf run (s.ctx run.ctx)
    let s := (s.onPlaza (fun p => { p with run := none })).classMove run k
    ((s.killPending (some run.ctx)).haltAll, some (run, k))

/-! ### Step 2: commit (R49, R53, R56, R61, R63, R64, R66, R245, R248, R317, R346, R392, R396) -/

/-- CUR of a written region toggles, in CUR_MAP and in the descriptor with its CHECK (R49). -/
def State.flipRegion (s : State) (c i : Nat) : State :=
  let s := s.onCtx c (fun x => { x with curMap := x.curMap ^^^ (1#1024 <<< i) })
  let a := (s.ctx c).num 0x020 8 + 64 * i
  let (s, bs) := s.hostMem a 64
  let flags := BitVec.ofNat 8 (putBits (bytesNum bs 33 1) 0 1 (b2n ((s.ctx c).curMap.getLsbD i)))
  let body := bs.take 33 ++ [flags] ++ (bs.drop 34).take 26
  s.writeBytes .engine .write 0x3401 0x1401 none false a (body ++ leBytes 4 (crc32c body)) 2

/-- Submissions of an intake on a channel, in ring order. -/
def Intake.on (i : Intake) (h : Nat) : List Sub := i.subs.filter (fun x => x.chan == h)

/-- Heads advance past what the frame consumed, and late submissions count (R64, R66). -/
def State.consume (s : State) (i : Intake) (start : Nat) : State :=
  let s := i.starts.foldl (fun s (e : Nat × Nat) => s.wr F.CH_HEAD e.1 0 (s.rd F.CH_HEAD e.1 + (i.on e.1).length)) s
  (i.subs.filter (fun x => subDue x.desc != 0 && decide (subDue x.desc < start))).foldl (fun s x => s.inc F.CTX_LATE_COUNT_COUNT 0 x.chan) s

/-- Every staging slot: sender and slot. -/
def State.slots (s : State) : List (Nat × Nat) :=
  ((List.range (s.rd F.FAB0_SENDERS)).map (fun i => (List.range s.nSlots).map (fun j => (i, j)))).flatten

/-- Every slot in CONSUMING takes a change. -/
def State.onConsuming (s : State) (f : State → Nat → Nat → State) : State :=
  (s.slots.filter (fun (e : Nat × Nat) => (s.stage e.1 e.2).state == 4)).foldl (fun s (e : Nat × Nat) => f s e.1 e.2) s

/-- A COMPLETE frame commits. -/
def State.commitFrame (s : State) (run : Run) : State :=
  let s := run.marks.foldl (fun s i => s.flipRegion run.ctx i) s
  let s := match run.intake with | some i => (s.consume i run.start).raiseInSeq i | none => s
  let e := s.rd F.PWR_ENERGY - s.plaza.frameEnergy
  let s := s.onCtx run.ctx (fun x => { x with energyMean := (7 * x.energyMean + e) / 8, replays := 0, replayPending := false })
  s.onConsuming (fun s i j => s.freeSlot i j)

/-- A ROLLBACK keeps the frame's intake for the replay; where the coming frame was chosen for the same context, it is the replay
(R54, R63). -/
def State.keepForReplay (s : State) (run : Run) : State :=
  match s.plaza.choice with
  | some ch =>
    if ch.ctx = run.ctx then
      s.discardChoice.onPlaza (fun p => { p with choice := some ⟨run.ctx, true, run.intake, true⟩ })
    else s.holdIntake run.intake
  | none => s.holdIntake run.intake

/-- A failed frame's outputs are discarded (R53, R63, R317). -/
def State.failFrame (s : State) (run : Run) (final : Bool) : State :=
  let s := (s.sendAbort run.ctx s.frame final).onConsuming (fun s i j => s.setStage i j { s.stage i j with state := 3 })
  if final then s else (s.keepForReplay run).setEvt .tick 0 2

/-- A listed line of a failed frame is invalidated without combining (R245, R51). -/
def State.dropListed (s : State) (n l : Nat) : State :=
  match (s.slc n).at l with
  | some x => if x.st = .reduce ∧ x.rl = true then (s.dropSharers n x).onSlc n (fun sl => sl.dropLine l) else s
  | none => s

/-- The rollback lists are walked (R245). -/
def State.walkLists (s : State) (complete : Bool) : State :=
  (s.slices.map (fun (e : Nat × Slice) => e.1)).foldl (fun s n =>
    let s := if complete then s else (s.slc n).rlist.foldl (fun s l => s.dropListed n l) s
    s.onSlc n (fun sl => { sl with rlist := [], lines := sl.lines.map (fun x => { x with rl := false }) })) s

/-- Constrained victim choices of the ended frame (R248). -/
def State.thrash (s : State) : State :=
  (s.slices.map (fun (e : Nat × Slice) => e.1)).foldl (fun s n =>
    let s := if s.rd F.SLC_THRASH_CFG_LIMIT n < (s.slc n).constrained then s.setEvt .slc n 4 else s
    s.onSlc n (fun sl => { sl with constrained := 0 })) s

/-- A frame whose COMMIT waited for its slot takes the slot once it is FREE (R56, R392). -/
def State.takeLate (s : State) (i : Nat) : State :=
  (s.sender i).late.foldl (fun s f =>
    let j := f % s.nSlots
    if (s.stage i j).state = 0 then
      (s.setStage i j ⟨2, f, true, 0⟩).onSender i (fun x => { x with held := true, late := x.late.filter (fun g => g != f) })
    else s) s

/-- Landed slots whose COMMIT has arrived become VISIBLE (R392). -/
def State.makeVisible (s : State) : State :=
  let s := forN 16 s State.takeLate
  s.slots.foldl (fun s (e : Nat × Nat) =>
    let st := s.stage e.1 e.2
    if st.state = 2 ∧ st.committed = true then s.setStage e.1 e.2 { st with state := 3 } else s) s

/-- Landing limit of sender i (R396), if the receiver has held a slot of it. [DEDUCED, log entry 54] -/
def State.landLimit (s : State) (i : Nat) : Option Nat :=
  if (s.sender i).held = false then none
  else
    let fs := ((List.range s.nSlots).map (fun j => s.stage i j)).filter (fun x => decide (2 ≤ x.state))
    let g := match fs with
      | [] => (s.sender i).freed.getD 0 + 1
      | x :: xs => (xs.map (fun y => y.frame)).foldl min x.frame
    some (g + s.nSlots - 1)

/-- SLOT_FREE goes to each listed sender (R396). -/
def State.sendLimits (s : State) : State :=
  if s.rd F.FAB0_ENABLE = 0 then s
  else forN (s.rd F.FAB0_SENDERS) s (fun s i => match s.landLimit i with
    | some l => s.sendCtl (ctlPkt PT.slotFree 0 false (s.rd F.FAB0_SENDER 0 i) s.node 0 l)
    | none => s)

/-- Step 2. -/
def State.step2 (s : State) (ended : Option (Run × FrameClass)) : State :=
  let s := match ended with
    | some (run, .complete) => (s.commitFrame run).walkLists true
    | some (run, .rollback) => (s.failFrame run false).walkLists false
    | some (run, _) => (s.failFrame run true).walkLists false
    | none => s
  ((s.thrash).makeVisible).sendLimits

/-! ### Step 3: tick-class writes and context commands (R15, R18, R25, R38, R42, R351, R376, R421, R467) -/

/-- Wire, site, slice and district changes take effect. -/
def State.rewire (s : State) : State :=
  let l := s.later
  let s := s.onLater (fun x => { x with wires := [], sites := [], slices := [], dark := [] })
  let s := l.wires.foldl (fun s (w : Nat × Nat) => s.applyWire w.1 w.2) s
  let s := l.sites.foldl (fun s p => s.retireSite p (pageIdx .blk p)) s
  let s := l.slices.foldl (fun s n => s.retireSlice n (pageIdx .slc n)) s
  l.dark.foldl State.darken s

/-- A context that a COMPLETE frame's clean end let commit is killed now (R38, R317). [DEDUCED, log entry 14] -/
def State.killAfter (s : State) (ended : Option (Run × FrameClass)) : State :=
  match ended with
  | some (run, .complete) =>
    match (s.ctx run.ctx).state, (s.ctx run.ctx).killDue with
    | 2, some k => (s.killCtx run.ctx k).sendAbort run.ctx s.nextFrame true
    | _, _ => s
  | _ => s

/-- READY is reported (R467). -/
def State.reportReady (s : State) : State :=
  if s.later.ready then
    let s := ((s.onLater (fun l => { l with ready := false })).wr F.TOP_STATUS_READY 0 0 1).wr F.BOOT_STATUS_STAGE 0 0 10
    (((s.setEvt .top 0 4).msi 0 0 0).msi 1 0 0).smb 0
  else s

/-- Step 3; `bad` are the wires that fail their group's test, for which the next step 3 steers a spare (R320). -/
def State.step3 (s : State) (bad : List (Nat × Nat)) (ended : Option (Run × FrameClass)) : State :=
  let s := (((s.applyT).applyPl).rewire).groupTests bad
  let s := (s.applyDoms).moveAuth
  let s := (s.applyCmds s.plaza.cmds).killAfter ended
  (s.reportReady).attestAll

/-! ### Steps 4 and 5 (R147, R150, R216, R217, R224) -/

/-- Whether the coming frame's code is LOADED in every enabled Block. -/
def State.allLoaded (s : State) : Bool := s.enabledBlks.all (fun p => (s.blk p).im.idle == .loaded)

/-- Step 4: the halves of every enabled Block swap. -/
def State.step4 (s : State) : State :=
  s.enabledBlks.foldl (fun s p => s.onBlk p (fun b => { b with im := { b.im with live := 1 - b.im.live, idle := .open } })) s

/-- Whether the domains of R30 are ON for a context. -/
def State.domainsOk (s : State) (c : Nat) : Bool :=
  (List.range nDist).all (fun d => s.logical d == 0 || (s.domOn d && s.domOn (16 + d / 2)))
    && (List.range 4).all (fun q => s.domOn (24 + q)) && s.domOn 29 && (!s.fabricUse c || s.domOn 28)

/-- Whether every destination's limit allows a frame (R397). -/
def State.limitsOk (s : State) (c frame : Nat) : Bool :=
  !s.fabricUse c || s.dests.all (fun d => !s.fab.limited.contains d || (let x := (frame + 2 ^ 32 - s.rd F.FAB0_LIMIT 0 d % 2 ^ 32) % 2 ^ 32
    x == 0 || decide (2 ^ 31 ≤ x)))

/-- Oldest VISIBLE slot of sender i. -/
def State.oldestVisible (s : State) (i : Nat) : Option Nat :=
  ((List.range s.nSlots).filter (fun j => (s.stage i j).state == 3)).foldl (fun (m : Option Nat) j => match m with
    | none => some j
    | some k => if (s.stage i j).frame < (s.stage i k).frame then some j else some k) none

/-- Whether the fabric input of a context is visible (R56, R392). -/
def State.inputOk (s : State) (c : Nat) : Bool :=
  !bitOf ((s.ctx c).num 0x008 4) 1 || (s.rd F.FAB0_ENABLE == 1 && (List.range (s.rd F.FAB0_SENDERS)).all (fun i => (s.oldestVisible i).isSome))

/-- Whether the chosen context's frame can start, its limits aside (R30, R36, R54, R56, R150, R225, R251, R368, R373, R485). -/
def State.canStart (s : State) (ch : Choice) (loaded : Bool) : Bool :=
  let c := s.ctx ch.ctx
  c.state == 2 && c.killDue.isNone && !s.plaza.stopping && loaded && s.domainsOk ch.ctx && s.inputOk ch.ctx
    && (ch.replay || ch.fetched || c.channels.isEmpty) && s.plaza.dlv.all (fun d => d.ctx != ch.ctx)
    && (List.range nSlices).all (fun n => s.rd F.SLC_SLICE_STATE_MODE n != 2)
    && s.enabledBlks.all (fun p => (s.blk p).sp.clove.isNone)

/-- The choice that step 8 starts, if any. [DEDUCED, log entry 16] -/
def State.toStart (s : State) (loaded : Bool) (frame : Nat) : Option Choice :=
  match s.plaza.choice with
  | some ch => if s.canStart ch loaded && s.limitsOk ch.ctx frame then some ch else none
  | none => none

/-- Banks of Block p that step 5 retains (R224): those marked, unless they wake or a Clove run works on them. -/
def State.spSleeps (s : State) (p : Nat) : Nat :=
  if (s.blk p).sp.clove.isSome then 0 else s.rd F.BLK_SP_PWR_RET p &&& (0xFFFF ^^^ s.rd F.BLK_SP_STATUS_WAKING p)

/-- Step 5 in a Block (R216, R217, R224): pending requests apply, the banks pass to the coming context with valid bits cleared, and
marked banks that are idle, neither waking nor under Clove, enter RETAINED. -/
def State.handover (s : State) (p : Nat) (c : Option Nat) : State :=
  let s : State := forN 16 s (fun s b => if s.rd F.BLK_SP_OWN_PENDING p b = 1 then s.spOwnApply p b else s)
  let own (c : Nat) (b : Block) : Block := if b.sp.own = some c then b else { b with sp := { b.sp with own := some c, words := [], errs := [] } }
  let s : State := match c with
    | some c => s.onBlk p (own c)
    | none => s
  if s.rd F.BLK_SP_STATUS_RETAINED p = s.spSleeps p then s else s.wr F.BLK_SP_STATUS_RETAINED p 0 (s.spSleeps p)

/-- Step 5. -/
def State.step5 (s : State) (c : Option Nat) : State := forN nBlks s (fun s p => s.handover p c)

/-! ### Step 6: admission and residency (R47, R54, R58 to R60, R440) -/

/-- LAST_START, or the activation tick, plus REL_DUE periods (R59). -/
def State.relDue (s : State) (c : Ctx) : Nat := c.activated.getD c.lastStart + c.num 0x02A 2 * (1000 * s.rd F.TICK_PERIOD_STEPS_EFF)

/-- Due time of a channel with pending submissions (R59). -/
def State.chanDue (s : State) (c : Ctx) (h : Nat) : Nat :=
  match (s.chan h).dueIdx, (s.chan h).due with
  | some i, some d => if i = s.rd F.CH_FETCHED h ∧ d ≠ 0 then d else s.relDue c
  | _, _ => s.relDue c

/-- Due times that make an ACTIVE context ready; a replay that is pending counts (R54, R58, R59). [DEDUCED, log entry 16] -/
def State.dues (s : State) (c : Ctx) : List Nat :=
  ((c.channels.filter (fun h => decide (0 < s.chPending h))).map (s.chanDue c))
    ++ (if bitOf (c.num 0x008 4) 1 || bitOf (c.num 0x008 4) 2 || c.replayPending then [s.relDue c] else [])

/-- A ready context: number and due time. -/
abbrev Ready := Nat × Nat

/-- Ready ACTIVE contexts (R58), in ascending order. -/
def State.readyCtxs (s : State) : List Ready :=
  (s.ctxs.filter (fun (e : Nat × Ctx) => e.2.state == 2 && (s.dues e.2 != []))).map (fun (e : Nat × Ctx) =>
    match s.dues e.2 with
    | d :: ds => (e.1, ds.foldl min d)
    | [] => (e.1, 0))

/-- Earliest due time, the lower number first (R60). -/
def earliest : List Ready → Option Ready
  | [] => none
  | r :: rs => some (rs.foldl (fun (m : Ready) (x : Ready) => if x.2 < m.2 then x else m) r)

/-- Whether a context's mean fits the budget (R60). -/
def State.fits (s : State) (n : Nat) : Bool := decide ((s.ctx n).energyMean ≤ s.rd F.PWR_FRAME_BUDGET_EFF_UJ)

/-- A replay that is pending and not yet fixed for the coming frame. -/
def State.wantsReplay (s : State) (n : Nat) : Bool :=
  (s.ctx n).replayPending && (match s.plaza.choice with | some ch => !(ch.ctx == n && ch.replay) | none => true)

/-- The context chosen for the frame after next (R54, R60). -/
def State.pickCtx (s : State) (ready : List Ready) : Option Nat :=
  let ok := ready.filter (fun (r : Ready) => s.fits r.1 && (s.ctx r.1).resident && (s.ctx r.1).loaded && (s.ctx r.1).killDue.isNone && s.domainsOk r.1)
  ((earliest (ok.filter (fun (r : Ready) => s.wantsReplay r.1))).orElse (fun _ => earliest ok)).map (fun (r : Ready) => r.1)

/-- Choices for which a context was ready but ineligible (R60). [DEDUCED, log entry 16] -/
def State.countBudget (s : State) (ready : List Ready) : State :=
  (s.ctxs.map (fun (e : Nat × Ctx) => e.1)).foldl (fun s n =>
    if ready.any (fun (r : Ready) => r.1 == n) && !s.fits n then
      let k := min 16 ((s.ctx n).overBudget + 1)
      let s := s.onCtx n (fun c => { c with overBudget := k })
      if k = 16 then s.setEvt .ctx 0 6 else s
    else if (s.ctx n).overBudget = 0 then s else s.onCtx n (fun c => { c with overBudget := 0 })) s

/-- The choice of a context: a replay takes its held intake with it (R63). [DEDUCED, log entry 16] -/
def State.choose (s : State) (n : Nat) : State × Choice :=
  if s.wantsReplay n then
    (s.onPlaza (fun p => { p with held := p.held.filter (fun i => i.ctx != n) }), ⟨n, true, s.plaza.held.find? (fun i => i.ctx == n), true⟩)
  else (s, ⟨n, false, none, false⟩)

/-- The resident context that makes room (R47): neither chosen, no replay pending, least recently started. [DEDUCED, log entry 16] -/
def State.evictee (s : State) (pick : Option Nat) : Option Nat :=
  let fixed := s.plaza.choice.map (fun ch => ch.ctx)
  let xs := s.ctxs.filter (fun (e : Nat × Ctx) => e.2.resident && !e.2.replayPending && some e.1 != fixed && some e.1 != pick)
  (xs.foldl (fun (m : Option (Nat × Ctx)) (e : Nat × Ctx) => match m with
    | none => some e
    | some x => if e.2.startOrder < x.2.startOrder then some e else some x) none).map (fun e => e.1)

/-- A context is made resident, if it is due earlier than every ready resident one (R47). -/
def State.reside (s : State) (ready : List Ready) (pick : Option Nat) : State :=
  let res (n : Nat) : Bool := (s.ctx n).resident
  match earliest (ready.filter (fun (r : Ready) => !res r.1)) with
  | none => s
  | some (n, due) =>
    if (ready.filter (fun (r : Ready) => res r.1)).any (fun (r : Ready) => decide (r.2 ≤ due)) then s
    else
      let enter (s : State) : State := s.onCtx n (fun c => { c with resident := true, loaded := false })
      if (s.ctxs.filter (fun (e : Nat × Ctx) => e.2.resident)).length < 64 then enter s
      else match s.evictee pick with
        | some v => enter (s.onCtx v (fun c => { c with resident := false, loaded := false }))
        | none => s

/-- Step 6: the choice for the frame after next. -/
def State.step6 (s : State) : State × Option Choice :=
  let ready := s.readyCtxs
  let pick := if s.coldHold || s.plaza.stopping then none else s.pickCtx ready
  let s := if s.coldHold || s.plaza.stopping then s else s.countBudget ready
  let s := s.reside ready pick
  match pick with
  | some n => let (s, ch) := s.choose n; (s, some ch)
  | none => (s, none)

/-! ### Step 7: host channels (R35, R64, R66, R369, R374, R378, R475) -/

/-- The first half of a completion entry (R369). -/
def State.firstHalf (s : State) (frame : Nat) (x : Sub) : State :=
  s.emit "HOST_WRITE" [x.chan / 128, s.cqAddr x.chan x.idx 0]
    (leBytes 8 (bytesNum x.desc 8 8) ++ leBytes 4 frame ++ leBytes 2 x.status ++ leBytes 1 0 ++ leBytes 1 (s.phase x.chan x.idx))

/-- Completions of a committed frame on one channel, and its deliveries to come (R372, R374, R378). -/
def State.completions (s : State) (c : Nat) (i : Intake) (h : Nat) : State :=
  let xs := i.on h
  if xs = [] then s
  else if s.rd F.CH_DOWN h = 1 then
    (s.inc F.PCIE_LOST_COMPL (h / 128) 0 xs.length).inc F.PCIE_LOST_DLV (h / 128) 0 xs.length
  else
    let s := (xs.foldl (fun s x => s.firstHalf s.frame x) s).msi (h / 128) (s.chOwner h) (s.rd F.CH_CQ_VEC h)
    s.onPlaza (fun p => { p with dlv := p.dlv ++ [⟨c, s.frame, h, (List.range xs.length).zip xs⟩] })

/-- The tail word of a channel is read (R364). -/
def State.readTail (s : State) (h : Nat) : State :=
  if s.rd F.CH_ENABLE h = 0 ∨ s.rd F.CH_DOWN h = 1 then s
  else
    ((s.emit "HOST_READ" [h / 128, s.rd F.CH_TAIL_ADDR h, 8]).inc F.PCIE_TAIL_READS (h / 128) 0).onChan h
      (fun c => { c with tailAsked := true, tailTime := s.now })

/-- BACKLOG_AGE of a channel (R66): the age of the tail read that first saw its oldest unconsumed submission. -/
def State.backlog (s : State) (h : Nat) : State :=
  let head := s.rd F.CH_HEAD h
  let ms := (s.chan h).marks.filter (fun (m : Nat × Nat) => let d := (m.1 + 2 ^ 32 - head) % 2 ^ 32; d != 0 && decide (d < 2 ^ 31))
  let age := match ms with | m :: _ => min (2 ^ 32 - 1) ((s.now - m.2) / 100) | [] => 0
  let s := if (s.chan h).marks = ms then s else s.onChan h (fun c => { c with marks := ms })
  if s.rd F.CTX_BACKLOG_AGE_AGE 0 h = age then s else s.wr F.CTX_BACKLOG_AGE_AGE 0 h age

/-- MSI-X vector 2 for new events of TICK and CTX (R475). -/
def State.tickMsi (s : State) : State :=
  let t := s.evts .tick 0
  let c := s.evts .ctx 0
  let new := (t &&& (0xFFFFFFFF ^^^ s.plaza.seen.1)) != 0 || (c &&& (0xFFFFFFFF ^^^ s.plaza.seen.2)) != 0
  let s := s.onPlaza (fun p => { p with seen := (t, c) })
  if new then (s.msi 0 0 2).msi 1 0 2 else s

/-- Step 7. -/
def State.step7 (s : State) (ended : Option (Run × FrameClass)) : State :=
  let s := match ended with
    | some (run, .complete) => match run.intake with
      | some i => i.starts.foldl (fun (s : State) (e : Nat × Nat) => s.completions run.ctx i e.1) s
      | none => s
    | _ => s
  let s := forN nChans s (fun s h => (s.readTail h).backlog h)
  s.tickMsi

/-! ### Step 8: start (R36, R52, R63, R80, R125, R165, R178, R239, R392, R405) -/

/-- Every queue, event counter, buffer and set is empty, and a stopped issue is clear (R80, R165, R178, R180, R209). -/
def clearBlk (b : Block) : Block := { b with q := Queues.reset, vxStopped := false, mx := { b.mx with bufs := [], accs := [], feed := [] } }

/-- The entry of a sender's slot in the staging header (R392): the oldest VISIBLE slot is consumed. -/
def State.takeSlot (s : State) (c i : Nat) : State :=
  match s.oldestVisible i with
  | none => s
  | some j =>
    let x := s.stage i j
    let s := s.setStage i j { x with state := 4 }
    let a := s.rd F.FAB0_STAGE_BASE + 16 * i
    match s.directAt c a 16 with
    | some (r, h) => s.writeBytes .engine .write c h (some c) false (r.baseA + (a - r.vbase))
        (leBytes 4 j ++ leBytes 4 x.bytes ++ leBytes 8 x.frame) 2
    | none => s

/-- A Block starts a frame of context c (R125, R239): its core at PC 0, its L1 invalid unless the context ran last. -/
def startBlk (cls : Nat) (same : Bool) (b : Block) : Block :=
  { b with core := { Core.reset with cls := BitVec.ofNat 4 cls, running := true }, l1 := if same then b.l1 else [] }

/-- A frame of the chosen context starts, at most 4 µs after the tick (R33). -/
def State.startFrame (s : State) (ch : Choice) : State :=
  let began := s.now + s.freeVal % 401
  let s := s.used
  let n := ch.ctx
  let c := s.ctx n
  let s := if bitOf (c.num 0x008 4) 1 then forN (s.rd F.FAB0_SENDERS) s (fun s i => s.takeSlot n i) else s
  let half := match ch.intake with | some i => i.half | none => c.intakeHalf
  let k := s.plaza.starts
  let same := s.plaza.lastCtx == some n
  let s := s.onCtx n (fun x => { x with
    state := 3, lastStart := began, directWritten := false, activated := none, startOrder := k + 1, started := true
    replayPending := x.replayPending && !ch.replay })
  let s := s.onPlaza (fun p => { p with
    run := some ⟨n, ch.replay, ch.intake, half, [], false, [], began⟩, lastCtx := some n, starts := k + 1, frameEnergy := s.rd F.PWR_ENERGY })
  s.enabledBlks.foldl (fun s p => s.onBlk p (startBlk (lowestClass (c.num 0x00E 2)) same)) s

/-- The frame starts idle (R36, R63): an intake fetched for it is discarded, a replay's intake stays held; and the frame after it, if
chosen for the same context, is the replay then. [DEDUCED, log entry 16] -/
def State.startIdle (s : State) (next : Option Choice) : State × Option Choice :=
  match s.plaza.choice with
  | some ch =>
    if ch.replay ∧ (s.ctx ch.ctx).state = 2 then
      match next with
      | some nx => if nx.ctx = ch.ctx then (s, some ch) else (s.holdIntake ch.intake, next)
      | none => (s.holdIntake ch.intake, next)
    else (s.discardChoice, next)
  | none => (s, next)

/-- TIME goes out on every ACTIVE port of a SOURCE (R405). [DEDUCED, log entry 19] -/
def State.sendTime (s : State) (frame : Nat) : State :=
  if s.rd F.TICK_SYNC_MODE = 1 then
    let k : TxPkt := ⟨PT.time, 0, false, 1, 0, s.node, 0, frame % 2 ^ 32, 0, 0, leBytes 8 frame ++ leBytes 4 (s.rd F.TICK_PERIOD_STEPS_EFF) ++ List.replicate 20 0⟩
    s.activePorts.foldl (fun s p => if s.canSend p k then s.txOn p k else s) s
  else s

/-- Step 8. -/
def State.step8 (s : State) (start : Option Choice) (loaded : Bool) (next : Option Choice) (frame : Nat) : State :=
  let s := { s with blks := s.blks.map (fun (e : Nat × Block) => (e.1, clearBlk e.2)) }
  let (s, next) := match start with
    | some ch => (s.startFrame ch, next)
    | none =>
      let held := match s.plaza.choice with | some ch => s.canStart ch loaded && !s.limitsOk ch.ctx frame | none => false
      (if held then s.inc F.FAB0_LIMIT_IDLE 0 0 else s).startIdle next
  let s := s.onPlaza (fun p => { p with choice := next, ticked := true })
  s.sendTime frame

/-! ### The tick (R33) -/

/-- Steps 2 to 8. [DESIGN CHOICE, log entry 13] -/
def State.gap (s : State) (bad : List (Nat × Nat)) (ended : Option (Run × FrameClass)) (frame : Nat) : State :=
  let s := (s.step2 ended).step3 bad ended
  let loaded := s.allLoaded
  let s := s.step4
  let start := s.toStart loaded frame
  let s := s.step5 (start.map (fun ch => ch.ctx))
  let (s, next) := s.step6
  let s := s.step7 ended
  let s := s.step8 start loaded next frame
  (s.onFab (fun f => { f with adopt := none })).onPlaza (fun p => { p with ticking := p.ticking && !p.stopping, stopping := false })

/-- The frame number and the length of the gap, at most 4 µs, which is a free value (R31, R33). [DESIGN CHOICE, log entry 13] -/
def State.numberFrame (s : State) (frame : Nat) : State :=
  let d := s.freeVal % 401
  ((s.used.wr F.TICK_GAP_LAST 0 0 d).wr F.TICK_GAP_MAX 0 0 (max d (s.rd F.TICK_GAP_MAX))).wr F.TICK_FRAME_NUM_NUM 0 0 frame

/-- A tick: step 1, and unless the device is in FATAL (R315) the rest of the gap. [DESIGN CHOICE, log entry 13; DEDUCED, log entry 19] -/
def State.tick (s : State) (bad : List (Nat × Nat)) : State :=
  let frame := s.nextFrame
  let s := (s.wr F.TICK_TICK_TIME_TIME 0 0 s.now).onPlaza (fun p => { p with armed := false, ticks := p.ticks + 1 })
  let s := if s.rd F.TICK_SYNC_TICK_OUT_EN = 1 then s.emit "TICK_OUT" [] else s
  let (s, ended) := s.step1
  if s.rd F.TOP_STATUS_FATAL = 1 then (s.onPlaza (fun p => { p with ticking := false })).wr F.TICK_FRAME_NUM_NUM 0 0 frame
  else (s.gap bad ended frame).numberFrame frame

/-- TICK (R33): the tick gap; `bad` are the wires that fail the group tests of step 3 (R319). -/
def execTick (bad : List (Nat × Nat)) (s : State) : Host.Outcome State Fault Refusal :=
  .next (if s.mayTick then s.tick bad else s)

end Sys2Proof.Machine
end

