-- ==== Sys2Proof/Machine/Mgmt.lean ====
section
/-! DEFINITION. The management cores' interrupt controller, the mailbox registers, and the sideband telemetry map (R470 to R481). -/

namespace Sys2Proof.Machine
open Sys2Proof

/-! ### The interrupt controller (R476 to R478) -/

/-- Whether a source is enabled. -/
def State.sourceEnabled (s : State) (n : Nat) : Bool := bitOf (s.rd F.INTC_ENABLE 0 (n / 32)) (n % 32)

/-- The source that is delivered next: the lowest that is pending, enabled and not in service. -/
def State.nextSource (s : State) : Option Nat :=
  (List.range 256).find? (fun n => s.sourceEnabled n && s.sourcePending n && !s.inService n)

/-- The core that receives it: the first enabled one without a source in service, from the core after the last one on. [DEDUCED, log entry 63] -/
def State.nextCore (s : State) : Option Nat :=
  ((List.range 4).map (fun i => (s.mgmt.lastCore + 1 + i) % 4)).find? (fun c => bitOf (s.rd F.INTC_CORE_EN) c && s.rd F.INTC_CUR_VALID 0 c == 0)

/-- INTERRUPT_DELIVERY (R477): one delivery, to the vector BASE + 64 × source. -/
def execInterruptDelivery (s : State) : Host.Outcome State Fault Refusal :=
  .next (match s.nextSource, s.nextCore with
    | some n, some c =>
      let s := ((s.wr F.INTC_CUR_SOURCE 0 c n).wr F.INTC_CUR_VALID 0 c 1).inc F.INTC_DELIVERED 0 0
      { s with mgmt := { s.mgmt with lastCore := c } }.emit "VECTOR" [c, (s.rd F.INTC_BASE + 64 * n) % 2 ^ 32]
    | _, _ => s)

/-- ACK (R478): core c ends the service of a source; source 18's suppression is over with it (R476). [DEDUCED, log entry 63] -/
def State.ackSource (s : State) (src : Source) (c n : Nat) : State :=
  if src ≠ .mgmt then s
  else if s.rd F.INTC_CUR_VALID 0 c = 1 ∧ s.rd F.INTC_CUR_SOURCE 0 c = n then
    let s := s.wr F.INTC_CUR_VALID 0 c 0
    if n = 18 then { s with errq := { s.errq with supp := false } } else s
  else s.inc F.INTC_ACK_STRAY 0 0

/-- ACK (R478). -/
def execAck (src : Source) (c : Nat) (v : Word) (s : State) : Host.Outcome State Fault Refusal := onSrc src <|
  onUnit 4 c s fun s => s.ackSource src c (v.toNat % 256)

/-! ### Mailbox registers (R473, R479) -/

/-- A write of MB_REQ; LEN is at most 2,048 (R509). [DEDUCED, log entry 48] -/
def State.mbReqWrite (s : State) (m v : Nat) : State :=
  if s.rd F.MB_CTRL_BUSY m = 1 then s.wr F.MB_CTRL_REJECT m 0 1
  else if 2048 < bitsOf v 16 12 then s.setEvt .mb 0 0
  else (s.wr F.MB_REQ_OP m 0 (bitsOf v 0 16)).wr F.MB_REQ_LEN m 0 (bitsOf v 16 12)

/-- A write of MB_CTRL: DONE and REJECT clear where a 1 is written, and GO starts the command. -/
def State.mbCtrlWrite (s : State) (m v : Nat) : State :=
  let s := if bitOf v 2 then s.wr F.MB_CTRL_DONE m 0 0 else s
  let s := if bitOf v 3 then s.wr F.MB_CTRL_REJECT m 0 0 else s
  if bitOf v 0 then s.mbGo m else s

/-- Bytes are written into the data window. -/
def State.mbWindowWrite (s : State) (m off : Nat) (bs : List Byte) : State :=
  if bs = [] then s
  else if s.rd F.MB_CTRL_BUSY m = 1 then s.wr F.MB_CTRL_REJECT m 0 1
  else s.onMb m (fun b => { b with window := (bs.zip (List.range bs.length)).foldl (fun (w : SMap Byte) (e : Byte × Nat) =>
    if off + e.2 < 2048 then SMap.put (off + e.2) e.1 w else w) b.window })

/-! ### The telemetry map (R480, R481) -/

/-- MB_REQ of a mailbox as a word. -/
def State.mbReqWord (s : State) (m : Nat) : Nat := packed [(s.rd F.MB_REQ_OP m, 0), (s.rd F.MB_REQ_LEN m, 16)]

/-- Byte i of the map: the part of the last housekeeping round with STATE and EVENTS as they are now, the sideband mailbox, and its
window from WIN_PTR on. Before the firmware runs every byte but STATE reads zero (R480). [DEDUCED, log entry 63] -/
def State.mapByte (s : State) (i : Nat) : Byte :=
  let n (v k : Nat) : Byte := BitVec.ofNat 8 (v / 256 ^ k)
  if i = 1 then BitVec.ofNat 8 s.stateByte
  else if s.sec.running = false then 0
  else if i = 0 then 1
  else if i = 0x52 then BitVec.ofNat 8 s.mgmt.events
  else if i < 0xE0 then s.mgmt.map.getD i 0
  else if i < 0xE4 then n (s.mbReqWord 2) (i - 0xE0)
  else if i = 0xE4 then n (packed [(s.rd F.MB_CTRL_BUSY 2, 1), (s.rd F.MB_CTRL_DONE 2, 2), (s.rd F.MB_CTRL_REJECT 2, 3)]) 0
  else if i < 0xE9 then n (packed [(s.rd F.MB_RESP_STATUS 2, 0), (s.rd F.MB_RESP_TOTAL 2, 8)]) (i - 0xE5)
  else if i = 0xE9 then 0
  else if i < 0xEC then n s.mgmt.winPtr (i - 0xEA)
  else (s.mb 2).window.get ((s.mgmt.winPtr + (i - 0xEC)) % 2 ^ 16) 0

/-- The effect of reading n bytes of the map from a on: EVENTS clears and SMBALERT# with it, and WIN_PTR passes what was read. [DEDUCED, log entry 63] -/
def State.mapRead (s : State) (a n : Nat) : State :=
  let s := if a ≤ 0x52 ∧ 0x52 < a + n ∧ s.mgmt.events ≠ 0 then
      { s with mgmt := { s.mgmt with events := 0 } }.emit "SMBALERT#" [0] else s
  let k := a + n - max a 0xEC
  { s with mgmt := { s.mgmt with winPtr := (s.mgmt.winPtr + k) % 2 ^ 16 } }

/-- SIDEBAND_READ (R480, R481): a read transaction of n bytes, at most 255, from offset a on. [DEDUCED, log entry 63] -/
def execSidebandRead (a n : Nat) (s : State) : Host.Outcome State Fault Refusal :=
  let n := min n 255
  .next (if s.powered then (s.mapRead (a % 256) n).emit "SIDEBAND" [a % 256] ((List.range n).map (fun i => s.mapByte (a % 256 + i))) else s)

/-- SIDEBAND_WRITE (R481): bytes from offset a on; only MB_REQ, MB_CTRL, WIN_PTR and WIN_DATA take what is written. [DEDUCED, log entry 63] -/
def execSidebandWrite (a : Nat) (bytes : List Byte) (s : State) : Host.Outcome State Fault Refusal :=
  let a := a % 256
  let bs := (bytes.take 255).zip ((List.range 255).map (fun i => a + i))
  let at? (x : Nat) : Option Nat := (bs.find? (fun (e : Byte × Nat) => e.2 == x)).map (fun e => e.1.toNat)
  let merge (old lo n : Nat) : Nat := (List.range n).foldl (fun v k => match at? (lo + k) with | some b => putBits v (8 * k) 8 b | none => v) old
  let hits (lo n : Nat) : Bool := (List.range n).any (fun k => (at? (lo + k)).isSome)
  let data := (bs.filter (fun (e : Byte × Nat) => decide (0xEC ≤ e.2))).map (fun (e : Byte × Nat) => e.1)
  .next (
    if s.powered = false then s
    else
      let s := if hits 0xE0 4 then s.mbReqWrite 2 (merge (s.mbReqWord 2) 0xE0 4) else s
      let s := match at? 0xE4 with | some v => s.mbCtrlWrite 2 v | none => s
      let s := if hits 0xEA 2 then { s with mgmt := { s.mgmt with winPtr := merge s.mgmt.winPtr 0xEA 2 } } else s
      let s := s.mbWindowWrite 2 s.mgmt.winPtr data
      { s with mgmt := { s.mgmt with winPtr := (s.mgmt.winPtr + data.length) % 2 ^ 16 } })

/-- TELEMETRY_READ (R474, R481): request offset and length in 4 bytes each; the bytes of the map, which ends before WIN_DATA. [DESIGN CHOICE, log entry 47] -/
def execTelemetryRead (m : Nat) (s : State) : Host.Outcome State Fault Refusal :=
  onUnit 3 m s fun s => s.serveMb m 0x0050 .any .any (fun req s =>
    let a := leNat (req.take 4)
    let n := leNat (req.drop 4)
    if req.length ≠ 8 ∨ 0xEC < a + n then s.mbKeep m 2
    else (s.mapRead a n).mbKeep m 0 ((List.range n).map (fun i => s.mapByte (a + i))))

/-- A record's bytes in the log. -/
def LogRec.bytes : LogRec → List Byte
  | .subst f w => Config.logBytes 0 [f, w]
  | .half f p => Config.logBytes 1 [f, p]
  | .site p => Config.logBytes 2 [p]
  | .slice n => Config.logBytes 3 [n]
  | .cell d c => Config.logBytes 4 [d, c]
  | .cycles u h d e => Config.logBytes 5 [u, h, d, signedBits 12 e]

/-- LOG_READ (R448, R474): request offset and length in 4 bytes each; the bytes of the bond-wear log. [DESIGN CHOICE, log entry 47; DESIGN CHOICE, log entry 60] -/
def execLogRead (m : Nat) (s : State) : Host.Outcome State Fault Refusal :=
  onUnit 3 m s fun s => s.serveMb m 0x0051 .any .ready (fun req s =>
    if req.length ≠ 8 then s.mbKeep m 2
    else s.mbKeep m 0 (((s.nvm.log.map LogRec.bytes).flatten.drop (leNat (req.take 4))).take (leNat (req.drop 4))))

end Sys2Proof.Machine
end

