-- ==== Sys2Proof/Machine/Boot.lean ====
section
/-! DEFINITION. Reset, boot and bring-up (chapter 18, R331 to R333, R505): the reset kinds, the boot ROM, the firmware image, and the
steps from power-good to READY. -/

namespace Sys2Proof.Machine
open Sys2Proof

/-! ### Reset (R451 to R454, R499) -/

/-- The option record of the boot flash, where it is good, gives the reset value of BOOT.OPT (R469). -/
def State.loadOpt (s : State) : State :=
  match s.nvm.opt with
  | none => s
  | some v =>
    ((((s.wr F.BOOT_OPT_QUICK 0 0 (bitsOf v 0 1)).wr F.BOOT_OPT_FABRIC 0 0 (bitsOf v 1 1)).wr F.BOOT_OPT_LEGACY 0 0 (bitsOf v 2 1)).wr
      F.BOOT_OPT_WARMUP 0 0 (bitsOf v 3 1)).wr F.BOOT_OPT_RET_HOLD 0 0 (bitsOf v 8 8)

/-- The engine derives new storage keys for Cardamom and the rollback owners (R327). [DESIGN CHOICE, log entry 61] -/
def State.freshKeys (s : State) : State :=
  let (s, a) := s.newKey
  let s := s.setKey 0x1400 a
  let (s, b) := s.newKey
  s.setKey 0x1401 b

/-- The state that a reset starts from: what no reset touches is kept. `powerOn`: also the housekeeping round counter and the external
memory are lost. [DESIGN CHOICE, log entry 61] -/
def State.cleared (s : State) (powerOn : Bool) : State :=
  { State.reset with
    pending := s.pending, out := s.out, nvm := s.nvm, free := s.free, nextReq := s.nextReq, clkLost := s.clkLost,
    dram := if powerOn then [] else s.dram,
    sectors := if powerOn then [] else s.sectors }

/-- A power-on or device reset (R453, R454). [DESIGN CHOICE, log entry 61] -/
def State.restart (s : State) (powerOn : Bool) : State :=
  let t := s.cleared powerOn
  let t := if powerOn then t else t.wr F.HK_ROUND_COUNT 0 0 (s.rd F.HK_ROUND_COUNT)
  let t := if s.rd F.TOP_STATUS_SHUTDOWN = 1 then t.emit "THERMTRIP#" [0] else t
  ((t.loadOpt).freshKeys).emit "RESET" [b2n powerOn]

/-- POWER_ON (R451): PWR_OK rises; the device leaves power-on reset, and the boot ROM is about to start. -/
def execPowerOn (s : State) : Host.Outcome State Fault Refusal := .next (s.restart true)

/-- POWER_DOWN (R452): PWR_OK falls; the device is held in power-on reset, with THERMTRIP# as it stands. [DESIGN CHOICE, log entry 61] -/
def execPowerDown (s : State) : Host.Outcome State Fault Refusal :=
  let t := { s.cleared true with powered := false }
  let t := if s.rd F.TOP_STATUS_SHUTDOWN = 1 then (t.wr F.TOP_STATUS_SHUTDOWN 0 0 1).wr F.THM_STATE_HIGH 0 0 3 else t
  .next (t.emit "RESET" [1])

/-- SYS_RESET (R453). -/
def execSysReset (s : State) : Host.Outcome State Fault Refusal := .next (if s.powered then s.restart false else s)

/-- A write of TOP.RESET (R453): 0x5A from the port that holds primary authority starts a device reset. -/
def State.resetKey (s : State) (src : Source) (v : Nat) : State :=
  match src with
  | .pf n => if v % 256 = 0x5A ∧ s.rd F.PCIE_AUTH_HOLDER n = 1 ∧ s.powered = true then s.restart false else s
  | _ => s

/-- RESET_KEY (R453). -/
def execResetKey (src : Source) (v : Word) (s : State) : Host.Outcome State Fault Refusal := onSrc src <| .next (s.resetKey src v.toNat)

/-- DEVICE_RESET (R453, R474). -/
def execDeviceReset (m : Nat) (s : State) : Host.Outcome State Fault Refusal :=
  onUnit 3 m s fun s => s.serveMb m 0x0060 .sideband .any (fun _ s => s.restart false)

/-! ### Reference clocks (R505) -/

/-- REFCLK_LOST (R505): clock 0 or 1 PCIE_REFCLK of the port, 2 FAB_REFCLK, 3 SYS_REFCLK. -/
def execRefclkLost (k : Nat) (s : State) : Host.Outcome State Fault Refusal :=
  onUnit 4 k s fun s =>
    if s.clkLost.contains k then s
    else
      let s := { s with clkLost := k :: s.clkLost }
      if k < 2 then s.linkDown k
      else if k = 2 then forN 8 s (fun s p => s.portLose p 0)
      else if s.sec.running then s.fatal 4 else s

/-- REFCLK_RETURN (R505). -/
def execRefclkReturn (k : Nat) (s : State) : Host.Outcome State Fault Refusal :=
  onUnit 4 k s fun s =>
    if s.clkLost.contains k = false then s
    else
      let s := { s with clkLost := s.clkLost.filter (fun c => c != k) }
      if k = 2 then s.trainPorts else s

/-! ### The firmware image (R327, R331, R332) -/

/-- A new STAGE; the sideband's STATE byte follows it, with an alert where it changes (R481). -/
def State.stageTo (s : State) (n : Nat) : State :=
  let t := s.wr F.BOOT_STATUS_STAGE 0 0 n
  if t.stateByte = s.stateByte then t else t.smb 0

/-- Step n of bring-up has ended: its duration, which the model does not compute, is a free value (R458). -/
def State.stepDone (s : State) (n : Nat) : State := (s.wr F.BOOT_STEP_MS_MS 0 (n - 1) s.freeVal).used

/-- CODE_SIZE of an image. -/
def imgSize (img : List Byte) : Nat := envNum img 0x10 4

/-- The signed bytes of an image (R331). -/
def imgSigned (img : List Byte) : List Byte := img.take 0xA0 ++ (img.drop 0x100).take (imgSize img)

/-- The form that R331 gives an image. -/
def imgForm (img : List Byte) : Bool :=
  let zero (a n : Nat) : Bool := ((img.drop a).take n).all (fun b => b == 0)
  envNum img 4 2 == 1 && envNum img 0 4 == 0x4B465732 && zero 6 2 && zero 0x14 12 && zero 0x81 31
    && decide (envNum img 8 8 ≤ 64) && imgSize img % 4 == 0 && decide (4 ≤ imgSize img) && decide (imgSize img ≤ 4194304)
    && decide (0x100 + imgSize img ≤ img.length)

/-- What the verification of an image finds (R332): 0 accepted, or the RESULT code of R469. -/
def imgResult (fuse : BitVec 64) (img : List Byte) : Nat :=
  if imgForm img = false then 1
  else if sha384 ((img.drop 0x20).take 97) ≠ Config.fwKeyHash then 2
  else if envNum img 8 8 < svnOf fuse then 3
  else if ecdsaOk ((img.drop 0x20).take 97) (imgSigned img) ((img.drop 0xA0).take 96) = false then 4
  else 0

/-- The ROM waits for a mailbox load (R456); RESULT names the last rejected image. -/
def State.awaitImage (s : State) (result : Nat) : State :=
  (if result = 0 then s else s.wr F.BOOT_STATUS_RESULT 0 0 result).stageTo 14

/-- An element of DER: tag, length, contents. -/
def der (tag : Nat) (v : List Byte) : List Byte :=
  let n := v.length
  BitVec.ofNat 8 tag :: (if n < 128 then beBytes 1 n else if n < 256 then 0x81 :: beBytes 1 n else 0x82 :: beBytes 2 n) ++ v

/-- A non-negative INTEGER of DER from its big-endian bytes. -/
def derInt (bs : List Byte) : List Byte :=
  let v := bs.dropWhile (fun b => b == 0)
  der 0x02 (match v with | [] => [0] | b :: _ => if b.toNat < 128 then v else 0 :: v)

/-- The algorithm ecdsa-with-SHA384, and the key type of a point of brainpoolP384r1. -/
def derSha : List Byte := der 0x30 (der 0x06 [0x2A, 0x86, 0x48, 0xCE, 0x3D, 0x04, 0x03, 0x03])
def derCurve : List Byte := der 0x30 (der 0x06 [0x2A, 0x86, 0x48, 0xCE, 0x3D, 0x02, 0x01] ++ der 0x06 [0x2B, 0x24, 0x03, 0x03, 0x02, 0x08, 0x01, 0x01, 0x0B])

/-- The signed part of the attestation-key certificate (R330): version 3, serial number, names, validity, the AK point, and the extension. [DESIGN CHOICE, log entry 46] -/
def akTbs (point : List Byte) (meas : BitVec 384) (svn fuse : Nat) : List Byte :=
  der 0x30 (der 0xA0 (der 0x02 [2]) ++ derInt ((sha384Bytes point).take 16) ++ derSha ++ Config.certIssuer
    ++ der 0x30 (der 0x18 (ascii "20000101000000Z") ++ der 0x18 (ascii "99991231235959Z")) ++ Config.certSubject
    ++ der 0x30 (derCurve ++ der 0x03 (0 :: point))
    ++ der 0xA3 (der 0x30 (der 0x30 (Config.certExtId ++ der 0x04 (Config.certExtValue meas svn fuse)))))

/-- An X.509 certificate: the signed part and its ECDSA signature r ‖ s. -/
def derCert (tbs sig : List Byte) : List Byte :=
  der 0x30 (tbs ++ derSha ++ der 0x03 (0 :: der 0x30 (derInt (sig.take 48) ++ derInt (sig.drop 48))))

/-- An image is accepted (R327, R328, R330, R456, R470): IK and AK are derived, IK signs the certificate, the derivation unit is locked against it, and
the cores start at the image's CODE. -/
def State.runImage (s : State) (img : List Byte) (source : Nat) : State :=
  let meas := sha384 (imgSigned img)
  let svn := envNum img 8 8
  let tbs := akTbs (ecMul (akScalar meas svn)) meas svn (svnOf s.nvm.svnFuse)
  let (s, k) := s.random 64
  let cert := if s.sec.idLocked then [] else derCert tbs (ecdsa ikScalar tbs (scalarOf k))
  let s := s.onSec (fun e => { e with fwMeas := meas, fwSvn := svn, akCert := cert, idLocked := true, running := true })
  let s := { s with mgmt := { s.mgmt with code := (img.drop 0x100).take (imgSize img) } }
  let s := ((s.wr F.SEC_STATUS_AK_READY 0 0 1).wr F.SEC_STATUS_FW_SVN 0 0 svn).wr F.BOOT_STATUS_SOURCE 0 0 source
  ((s.stepDone 1).stepDone 2).stageTo 3

/-- An image is verified, and runs or is rejected (R332, R456). -/
def State.tryImage (s : State) (img : List Byte) (source : Nat) : State :=
  match imgResult s.nvm.svnFuse img with
  | 0 => s.runImage img source
  | r => s.awaitImage r

/-- Whether no switched domain holds the unit of a page: its checkers are tested once after reset (R308). -/
def unswitched (page : Nat) : Bool := (List.range 30).all (fun n => !inDomain n page)

/-- BOOT_ROM (R456, R505): `fails` are the pages of unswitched units whose checkers fail their self-test; `flash` says that the boot
flash could be read. -/
def execBootRom (fails : List Nat) (flash : Bool) (s : State) : Host.Outcome State Fault Refusal :=
  .next (
    if s.powered = false ∨ s.clkLost ≠ [] ∨ s.rd F.BOOT_STATUS_STAGE ≠ 1 ∨ s.sec.running = true then s
    else
      let s := (fails.filter unswitched).foldl State.selfTestFail s
      if s.rd F.TOP_STATUS_FATAL = 1 then s
      else if Config.bootSrc then s.awaitImage 0
      else if flash = false then s.awaitImage 5
      else if envNum s.nvm.image 0 4 ≠ 0x4B465732 then s.awaitImage 0
      else s.tryImage s.nvm.image 0)

/-! ### Loading through the mailbox (R457, R474) -/

/-- An image of some size is announced: the staging store is empty. -/
def State.stageBegin (s : State) (n : Nat) : State := s.onSec (fun e => { e with stage := [], stageSize := some n })

/-- Image bytes are staged from an offset on. -/
def State.imgPut (s : State) (off : Nat) (bs : List Byte) : State :=
  s.onSec (fun e => { e with stage := (bs.zip (List.range bs.length)).foldl (fun (m : SMap Byte) (x : Byte × Nat) => SMap.put (off + x.2) x.1 m) e.stage })

/-- The staged image. -/
def State.staged (s : State) : List Byte := (List.range (s.sec.stageSize.getD 0)).map (fun i => s.sec.stage.get i 0)

/-- Staging ends. -/
def State.stageEnd (s : State) : State := s.onSec (fun e => { e with stage := [], stageSize := none })

/-- Largest image (R331). -/
def maxImage : Nat := 0x100 + 4194304

/-- FW_LOAD_BEGIN: request the image size in 4 bytes. [DESIGN CHOICE, log entry 47] -/
def execFwLoadBegin (m : Nat) (s : State) : Host.Outcome State Fault Refusal :=
  onUnit 3 m s fun s => s.serveMb m 0x0030 .primary .waiting (fun req s =>
    if req.length ≠ 4 ∨ maxImage < leNat req then s.mbKeep m 2 else (s.stageBegin (leNat req)).mbKeep m 0)

/-- A staging write that the announced size admits, or STATUS 2. -/
def State.stageData (s : State) (m off : Nat) (bs : List Byte) : State :=
  match s.sec.stageSize with
  | none => s.mbKeep m 2
  | some n => if n < off + bs.length then s.mbKeep m 2 else (s.imgPut off bs).mbKeep m 0

/-- FW_LOAD_DATA: request an offset in 8 bytes, then up to 2,040 bytes of the image. [DESIGN CHOICE, log entry 47] -/
def execFwLoadData (m : Nat) (s : State) : Host.Outcome State Fault Refusal :=
  onUnit 3 m s fun s => s.serveMb m 0x0031 .primary .waiting (fun req s =>
    if req.length < 8 then s.mbKeep m 2 else s.stageData m (leNat (req.take 8)) (req.drop 8))

/-- FW_LOAD_DMA: request a host address in 8 bytes and a length in 4; the image's first bytes come from host memory, where the reads
return `data`. [DESIGN CHOICE, log entry 47] -/
def execFwLoadDma (m : Nat) (data : Option (List Byte)) (s : State) : Host.Outcome State Fault Refusal :=
  onUnit 3 m s fun s => s.serveMb m 0x0032 .primary .waiting (fun req s =>
    if req.length ≠ 12 then s.mbKeep m 2
    else match data with
      | none => s.mbRefuse m 7
      | some bs => s.stageData m 0 (fitTo (leNat (req.drop 8)) bs))

/-- FW_LOAD_END: the image is verified and runs, or the ROM goes on waiting; the response is the RESULT code in one byte. [DESIGN CHOICE, log entry 47] -/
def execFwLoadEnd (m : Nat) (s : State) : Host.Outcome State Fault Refusal :=
  onUnit 3 m s fun s => s.serveMb m 0x0033 .primary .waiting (fun _ s =>
    if s.sec.stageSize.isNone then s.mbKeep m 2
    else
      let img := s.staged
      let r := imgResult s.nvm.svnFuse img
      ((s.stageEnd).tryImage img 1).mbKeep m 0 (leBytes 1 r))

/-- FW_FLASH_WRITE: a request of 4 bytes announces the size, an empty one verifies and writes the staged image, any other stages bytes
from an offset in 8 bytes on. A rejected image leaves the flash as it is. [DESIGN CHOICE, log entry 47] -/
def execFwFlashWrite (m : Nat) (s : State) : Host.Outcome State Fault Refusal :=
  onUnit 3 m s fun s => s.serveMb m 0x0034 .primary .ready (fun req s =>
    if req.length = 4 then (if maxImage < leNat req then s.mbKeep m 2 else (s.stageBegin (leNat req)).mbKeep m 0)
    else if req = [] then
      (if s.sec.stageSize.isNone then s.mbKeep m 2
       else
        let img := s.staged
        let r := imgResult s.nvm.svnFuse img
        let s := if r = 0 then { s with nvm := { s.nvm with image := img } } else s
        (s.stageEnd).mbKeep m 0 (leBytes 1 r))
    else if req.length < 8 then s.mbKeep m 2
    else s.stageData m (leNat (req.take 8)) (req.drop 8))

/-- The FUSE_SVN field with the bits below n blown. -/
def blowSvn (fuse : BitVec 64) (n : Nat) : BitVec 64 := fuse ||| BitVec.ofNat 64 (2 ^ n - 1)

/-- SVN_COMMIT (R333): bits are blown until FUSE_SVN equals the running image's SVN; response FUSE_SVN in 8 bytes. [DESIGN CHOICE, log entry 47] -/
def execSvnCommit (m : Nat) (s : State) : Host.Outcome State Fault Refusal :=
  onUnit 3 m s fun s => s.serveMb m 0x0035 .primary .ready (fun _ s =>
    let s := if svnOf s.nvm.svnFuse < s.sec.fwSvn then { s with nvm := { s.nvm with svnFuse := blowSvn s.nvm.svnFuse s.sec.fwSvn } } else s
    s.mbKeep m 0 (leBytes 8 (svnOf s.nvm.svnFuse)))

/-! ### Step 3: fuses, log and domains (R460) -/

/-- The first 32 good sites of a district are its logical Blocks, the others its cold spares (R12). -/
def State.assignSites (s : State) (d : Nat) : State :=
  let good := s.sitesWith d (fun x => decide (x < 2))
  let s := (good.take 32).foldl (fun s st => s.setSite (34 * d + st) 0) s
  let s := (good.drop 32).foldl (fun s st => s.setSite (34 * d + st) 1) s
  s.repack d

/-- One record of the bond-wear log takes effect (R460, R448). [DESIGN CHOICE, log entry 60] -/
def State.applyRec (s : State) : LogRec → State
  | .subst f _ => s.wr F.BOND_SPARES_USED f 0 (min (s.rd F.BOND_SPARES_TOTAL f) (s.rd F.BOND_SPARES_USED f + 1))
  | .half f p =>
    if f < 128 then (s.wr F.SLC_SLICE_STATE_MODE f 0 1).wr F.BOND_MODE f 0 1
    else (s.onBlk p (fun b => { b with half := true })).wr F.BOND_SITE_MODE f (siteOf p) 1
  | .site p => (((s.setSite p 3).wr F.BOND_SITE_MODE (128 + distOf p) (siteOf p) 2).assignSites (distOf p)).capsChanged
  | .slice n => s.sliceOut n 3
  | .cell d c =>
    let s := s.wr F.PWR_LDO_FAILED 0 d (setBit (s.rd F.PWR_LDO_FAILED 0 d) c)
    if s.failedCells d = 5 then s.darken d else s
  | .cycles u h dir ext => (s.setCycles u h dir ext).onThm (fun x => { x with begun := (u :: x.begun).eraseDups })

/-- The fuses are applied (R460): spares stand for the bond wires that they list, and the fabric lanes that they list are marked bad; the bad
sites are so from reset. -/
def State.applyFuses (s : State) : State :=
  let s := forN 144 s (fun s f => s.wr F.BOND_SPARES_USED f 0 (min (s.rd F.BOND_SPARES_TOTAL f) (s.rd F.BOND_SPARES_USED f + Config.fuseWires f)))
  forN 8 s (fun s p => s.onFport p (fun x => { x with barred := (List.range 9).filter (fun l => (Config.fuseLane p).getLsbD l) }))

/-- Domains that step 3 switches on, in its order (R460). -/
def State.upDomains (s : State) : List Nat :=
  (List.range 8).map (fun k => 16 + k) ++ (List.range 4).map (fun k => 24 + k) ++ [29]
    ++ (List.range nDist).filter (fun d => s.logical d != 0) ++ (if bitOf s.sec.opt 1 then [28] else [])

/-- BOOT.OPT as a word (R469). -/
def State.optWord (s : State) : Nat :=
  packed [(s.rd F.BOOT_OPT_QUICK, 0), (s.rd F.BOOT_OPT_FABRIC, 1), (s.rd F.BOOT_OPT_LEGACY, 2), (s.rd F.BOOT_OPT_WARMUP, 3), (s.rd F.BOOT_OPT_RET_HOLD, 8)]

/-- The firmware enables the first n pages of a kind, whose units it takes into service (R482). [DEDUCED, log entry 67] -/
def State.unitsOn (s : State) (pg : Page) (n : Nat) : State := forN n s (fun s u => s.wrAt pg u F.HDR_CTRL_ENABLE 0 1)

/-- Units that are in service as soon as the firmware runs: power, thermal, interrupts, host ports, domains and districts. [DEDUCED, log entry 67] -/
def State.unitsUp (s : State) : State :=
  ((((((s.unitsOn .pwr 1).unitsOn .thm 1).unitsOn .intc 1).unitsOn .pcie 2).unitsOn .dom 30).unitsOn .dist nDist)

/-- BRING_UP (R458, R460): step 3 begins: the firmware applies the fuses and the log, and requests the domains as BOOT.OPT now says. [DEDUCED, log entry 62; DEDUCED, log entry 67] -/
def execBringUp (s : State) : Host.Outcome State Fault Refusal :=
  .next (
    if s.sec.running = false ∨ s.rd F.BOOT_STATUS_STAGE ≠ 3 ∨ s.sec.applied = true then s
    else
      let s := (s.onSec (fun e => { e with applied := true, opt := s.optWord })).unitsUp
      let s := s.applyFuses
      let s := s.nvm.log.foldl State.applyRec s
      let s := s.upDomains.foldl (fun s n => s.domReq n 2) s
      (s.wr F.PWR_WARMUP_EN 0 0 (bitsOf s.sec.opt 3 1)).warmUp)

/-! ### Steps 4 and 5: bond fields and Clove (R461, R462) -/

/-- Slices in service. -/
def State.goodSlices (s : State) : List Nat := (List.range nSlices).filter (fun n => decide (s.rd F.SLC_SLICE_STATE_MODE n < 2))

/-- BOND_FIELD_TRAINING (R458, R461): step 3 ends with BOOT.OPT latched; the wires (field and number) without an eye fail, and Clove
starts in every Block and slice. [DEDUCED, log entry 62; DEDUCED, log entry 67] -/
def execBondFieldTraining (bad : List (Nat × Nat)) (s : State) : Host.Outcome State Fault Refusal :=
  .next (
    if s.rd F.BOOT_STATUS_STAGE ≠ 3 ∨ s.sec.applied = false ∨ (List.range 30).any (fun n => s.domState n == 3) = true then s
    else
      let s := ((s.onSec (fun e => { e with opt := s.optWord })).stepDone 3).stageTo 4
      let s := (bad.filter (fun b => decide (b.1 < 144))).foldl (fun s b => s.applyWire b.1 b.2) s
      let s := ((s.unitsOn .bond 144).stepDone 4).stageTo 5
      let s := (List.range nBlks).foldl (fun s p => if (s.blk p).site < 2 then s.cloveGo p false else s) s
      let sl := s.goodSlices
      s.onSec (fun e => { e with cloves := sl }))

/-- Step 5 ends when no Clove runs: the Blocks and slices in service are enabled (R460, R482). [DEDUCED, log entry 62; DEDUCED, log entry 67] -/
def State.cloveStep (s : State) : State :=
  if s.rd F.BOOT_STATUS_STAGE = 5 ∧ s.sec.cloves = [] ∧ (List.range nBlks).all (fun p => (s.blk p).sp.clove.isNone) = true then
    let s := s.enabledBlks.foldl (fun s p => s.wrAt .blk p F.HDR_CTRL_ENABLE 0 1) s
    let s := s.goodSlices.foldl (fun s n => s.wrAt .slc n F.HDR_CTRL_ENABLE 0 1) s
    (s.stepDone 5).stageTo 6
  else s

/-- CLOVE_DONE (R225, R226, R462): the Clove of Block n ends, or with `slice` that of slice n in step 5; a failing part leaves service in
step 5. -/
def execCloveDone (slice : Bool) (n : Nat) (fail : BitVec 16) (row : BitVec 11) (s : State) : Host.Outcome State Fault Refusal :=
  if slice then
    onUnit nSlices n s fun s =>
      if s.sec.cloves.contains n = false then s
      else
        let s := s.onSec (fun e => { e with cloves := e.cloves.filter (fun k => k != n) })
        (if fail = 0 then s else s.retireSliceSoon n).cloveStep
  else
    onUnit nBlks n s fun s =>
      if (s.blk n).sp.clove.isNone then s
      else
        let s := s.cloveEnd n fail row
        (if s.rd F.BOOT_STATUS_STAGE = 5 ∧ fail ≠ 0 then s.retireSiteSoon n else s).cloveStep

/-! ### Steps 6 to 8: external memory and fabric (R463 to R465) -/

/-- Bring-up fails (R468): 1 no memory channel, 2 gather engine, 3 Plaza, mesh or barrier network. -/
def State.bringUpFails (s : State) (cause : Nat) : State :=
  let s := ((s.wr F.BOOT_STATUS_FAIL_CAUSE 0 0 cause).wr F.TOP_STATUS_FAILED 0 0 1).stageTo 15
  (s.onPlaza (fun p => { p with ticking := false, stopping := false, waitPulse := false })).emit "FAULT#" [1]

/-- One channel after the passes of step 7 (R464): sectors with one failing bit, and whether one has more. -/
def State.channelTested (s : State) (g c n : Nat) (multi : Bool) : State :=
  let s := s.wr F.BOOT_MEMTEST_SINGLE 0 g (min 65535 (s.rd F.BOOT_MEMTEST_SINGLE 0 g + n))
  let s := if multi then s.wr F.BOOT_MEMTEST_MULTI 0 (4 * g + c) 1 else s
  if multi ∨ 4096 < n then (s.wr F.BOOT_MEMTEST_EXCL 0 (4 * g + c) 1).wr F.MEMC_CHAN_EXCLUDED g c 1 else s

/-- Whether a channel of any package is in service. -/
def State.anyChannel (s : State) : Bool := (List.range nDist).any (fun g => !(s.chansOf g).isEmpty)

/-- Step 8 (R465): every fabric port is enabled and trains. [DEDUCED, log entry 62] -/
def State.fabricStep (s : State) : State :=
  if bitOf s.sec.opt 1 then
    let s := (s.wr F.FAB0_LEGACY 0 0 (bitsOf s.sec.opt 2 1)).stageTo 8
    forN 8 s (fun s p => (s.wrAt .fab p F.HDR_CTRL_ENABLE 0 1).portTrain p)
  else s.stageTo 9

/-- EXTERNAL_MEMORY_TEST (R463, R464): `single` are channels, by 4 × package + channel, with their numbers of sectors with one failing
bit; `multi` are the (package, channel) with a sector of two or more. The lock, the initialisation and step 8 follow. [DEDUCED, log entry 62; DEDUCED, log entry 67] -/
def execExternalMemoryTest (single multi : List (Nat × Nat)) (s : State) : Host.Outcome State Fault Refusal :=
  .next (
    if s.rd F.BOOT_STATUS_STAGE ≠ 6 ∨ (List.range nDist).all (fun g => (s.chansOf g).all (fun c => s.rd F.MEMC_CHAN_TRAINED g c == 1)) = false then s
    else
      let s := (s.stepDone 6).stageTo 7
      let s := forN nDist s (fun s g => (s.chansOf g).foldl (fun s c => s.channelTested g c (SMap.get single (4 * g + c) 0) (multi.contains (g, c))) s)
      let s := s.wr F.BOOT_STATUS_QUICK_DONE 0 0 (bitsOf s.sec.opt 0 1)
      if s.anyChannel = false then s.bringUpFails 1
      else
        let s := forN nDist s (fun s g => s.wr F.MEMC_REFRESH_FORCE g 0 0)
        let s := { (s.lockLayout.unitsOn .memc nDist).unitsOn .gath nDist with dram := [], sectors := [] }
        (s.stepDone 7).fabricStep)

/-! ### Step 9: Cardamom (R466, R467) -/

/-- Cardamom is over: scratchpads, L1s and lines of owner 0x3400 go, the level is PL0, and READY waits for the next gap. -/
def State.cardamomDone (s : State) : State :=
  let s := (List.range nBlks).foldl (fun s p =>
    let s := s.onBlk p (fun b => { b with sp := { b.sp with words := [], errs := [] }, l1 := [] })
    let s := forN 16 s (fun s b => ((s.wr F.BLK_SP_OWN_UNIT_REQ p b F.BLK_SP_OWN_UNIT_REQ.reset).wr F.BLK_SP_OWN_GATH_REQ p b F.BLK_SP_OWN_GATH_REQ.reset).spOwnApply p b)
    let s := (s.wr F.BLK_SP_MAP_MODE0 p 0 F.BLK_SP_MAP_MODE0.reset).wr F.BLK_SP_MAP_MODE1 p 0 F.BLK_SP_MAP_MODE1.reset
    (s.wr F.BLK_SP_MAP_MODE0_EFF p 0 F.BLK_SP_MAP_MODE0.reset).wr F.BLK_SP_MAP_MODE1_EFF p 0 F.BLK_SP_MAP_MODE1.reset) s
  let s := s.startSweep ⟨some 0x3400, none⟩
  let s := ((s.wr F.PWR_PL 0 0 0).wr F.PWR_PL_EFF 0 0 0).stepDone 9
  let s := forN nDist s (fun s g => s.wr F.MEMC_REG_MODE g 0 0)
  s.onLater (fun l => { l with ready := true })

/-- Whether step 9 may begin: step 8, if it runs, has left no port training that cold hold does not hold (R465). -/
def State.cardamomMay (s : State) : Bool :=
  s.rd F.BOOT_STATUS_STAGE == 9 || (s.rd F.BOOT_STATUS_STAGE == 8
    && (List.range 8).all (fun p => s.rd F.FAB_COLD_HELD p == 1 || (s.rd F.FAB_STATE p != 1 && s.rd F.FAB_STATE p != 2)))

/-- CARDAMOM (R466, R468): step 9 as a whole: the Plaza makes its first tick, 750 frames run at each of eight power levels and 750 again
for each failing site, and the parts that fail leave service. `cause` is 2 or 3 where R468 fails bring-up. [DEDUCED, log entry 62] -/
def execCardamom (sites slices : List Nat) (cause : Nat) (s : State) : Host.Outcome State Fault Refusal :=
  .next (
    if s.cardamomMay = false ∨ s.plaza.ticked = true then s
    else
      let s := if s.rd F.BOOT_STATUS_STAGE = 8 then (s.stepDone 8).stageTo 9 else s
      let s := (s.wrAt .tick 0 F.HDR_CTRL_ENABLE 0 1).onPlaza (fun p => { p with ticked := true, ticking := true })
      if cause = 2 ∨ cause = 3 then s.bringUpFails cause
      else
        let bad := (sites.filter (fun p => s.logOf p != none && decide (p < nBlks))).eraseDups
        let s := bad.foldl (fun s p => s.retireSite p (pageIdx .blk p)) s
        let s := (slices.filter (fun n => decide (n < nSlices))).foldl (fun s n => s.retireSlice n (pageIdx .slc n)) s
        let s := s.wr F.TICK_FRAME_NUM_NUM 0 0 (s.frame + 750 * (8 + bad.length))
        s.cardamomDone)

end Sys2Proof.Machine
end

