-- ==== Sys2Proof/Machine/Crossing.lean ====
section
/-! DEFINITION. The Crossing: dispatch parts, count tables, placement and combine (R112 to R119, R174). -/

namespace Sys2Proof.Machine
open Sys2Proof

/-! ### Fields (R174) -/

namespace XD
def desc (c : Cmd) : Nat := EC.fld c 4 0 48
def dtag (c : Cmd) : Nat := EC.fld c 10 0 4
def parts (c : Cmd) : Nat := EC.fld c 10 4 4 + 1
def part (c : Cmd) : Nat := EC.fld c 11 0 4
def tFirst (c : Cmd) : Nat := EC.fld c 12 0 16
def tCount (c : Cmd) : Nat := EC.fld c 14 0 16

/-- `n` bytes of a descriptor from byte `o`. -/
def get (d : List Byte) (o n : Nat) : Nat := leNat ((d.drop o).take n)
def e (d : List Byte) : Nat := get d 0 1 + 1
def k (d : List Byte) : Nat := bitsOf (get d 1 1) 0 3 + 1
def spill (d : List Byte) : Bool := bitOf (get d 1 1) 3
def cap (d : List Byte) : Nat := bitsOf (get d 2 2) 0 15 + 1
def rowBytes (d : List Byte) : Nat := 32 * (bitsOf (get d 4 2) 0 11 + 1)
def dropMax (d : List Byte) : Nat := get d 6 2
def selBase (d : List Byte) : Nat := get d 0x08 8
def srcBase (d : List Byte) : Nat := get d 0x10 8
def srcStride (d : List Byte) : Nat := get d 0x18 4
def batchStride (d : List Byte) : Nat := get d 0x1C 4
def batchBase (d : List Byte) : Nat := get d 0x20 8
def listBase (d : List Byte) : Nat := get d 0x28 8
def mapBase (d : List Byte) : Nat := get d 0x30 8
def countBase (d : List Byte) : Nat := get d 0x38 8
def dropBase (d : List Byte) : Nat := get d 0x40 8
def sumBase (d : List Byte) : Nat := get d 0x48 8
/-- Slots of an expert's batch (R112). -/
def slots (d : List Byte) : Nat := if spill d then 2 * cap d else cap d
/-- Whether a dispatch keeps the ranges and alignments of R112 and R174. -/
def ok (c : Cmd) (d : List Byte) : Bool :=
  desc c % 128 == 0 && decide (part c < parts c) && decide (tFirst c + tCount c ≤ 65536)
    && [selBase d, srcBase d, batchBase d, listBase d, mapBase d, countBase d, dropBase d, sumBase d].all (fun a => decide (a < 2 ^ 48))
    && [selBase d, listBase d, mapBase d, countBase d, dropBase d].all (fun a => a % 4 == 0)
    && [srcBase d, srcStride d, batchBase d, batchStride d, sumBase d].all (fun a => a % 32 == 0)
end XD

/-- A selection entry (R113): expert, valid, gate. -/
structure Sel where
  expert : Nat
  valid : Bool
  gate : Nat
  deriving DecidableEq, Repr

/-- Selection entry of a word. -/
def selOf (x : Nat) : Sel := ⟨bitsOf x 0 8, bitOf x 8, bitsOf x 16 16⟩

/-- Selection entries of a part's tokens, by token in range and rank (R113). -/
def State.selections (s : State) (u : Accessor) (c : Cmd) (d : List Byte) (fs : CmdFaults) : State × List Sel × CmdFaults :=
  let k := XD.k d
  let (s, bs, fs) := s.ctxRead u (XD.selBase d + 4 * k * XD.tFirst c) (4 * k * XD.tCount c) fs
  (s, (List.range (k * XD.tCount c)).map (fun i => selOf (leNat ((bs.drop (4 * i)).take 4))), fs)

/-- Key of a count: rank and expert; the invalid choices of a rank are counted under 65536 + rank. -/
def cntKey (j e : Nat) : Nat := 256 * j + e
def invKey (j : Nat) : Nat := 65536 + j

/-- Counts of a part (R114, phase 1). -/
def countSel (k e : Nat) (sel : List Sel) : SMap Nat :=
  ((List.range sel.length).zip sel).foldl (fun m x =>
    let j := x.1 % k
    if !x.2.valid then m
    else
      let key := if x.2.expert < e then cntKey j x.2.expert else invKey j
      SMap.put key (m.get key 0 + 1) m) []

/-- Engines that hold a part of a dispatch tag. -/
def State.holders (s : State) (tag : Nat) : List Nat := (List.range nDist).filter (fun d => (s.gath d).parts.any (fun x => x.dtag == tag))

/-- The count table of a part that an engine holds. -/
def Part.own (x : Part) : List CountTable := x.tables.filter (fun t => t.part == x.part)

/-- A part has counted: it waits at its engine, its table goes to every other engine that holds a part, and theirs come to it. -/
def State.addPart (s : State) (d : Nat) (x : Part) : State :=
  let others := (s.holders x.dtag).filter (fun e => e != d)
  let sib := (s.gath d).parts.filter (fun y => y.dtag == x.dtag)
  let s1 := others.foldl (fun s e => s.onGath e (fun g => { g with incoming := g.incoming ++ x.own })) s
  let theirs := if sib = [] then (others.map (fun e => ((s.gath e).parts.filter (fun y => y.dtag == x.dtag)).map Part.own |>.flatten)).flatten else []
  let known := match sib with | y :: _ => y.tables | [] => []
  (if x.parts = 1 then s1 else s1.cycles F.GATH_XD_TABLE_WAIT d).onGath d (fun g => { g with
    parts := (g.parts.map (fun y => if y.dtag = x.dtag then { y with tables := y.tables ++ x.own } else y)) ++ [{ x with tables := x.tables ++ known }]
    incoming := g.incoming ++ theirs })

/-- XDISPATCH (R112 to R114, R174): in its turn the engine reads the descriptor and the selections, counts, and sends its table. -/
def execXdispatch (p : Nat) (s : State) : Host.Outcome State Fault Refusal :=
  onUnit nBlks p s fun s => s.engineStep p 0x38 (fun s c =>
    let d := distOf p
    match s.cmdUser (.gath d) c.cmd with
    | none => s
    | some u =>
      let (s, desc, fs) := s.ctxRead u (XD.desc c.cmd) 128 []
      if XD.ok c.cmd desc = false then ((s.cmdFaults p c.ord (pageIdx .gath d) fs).undefinedCmd p u (spGath d c.ord)).cmdDone p c.ord
      else
        let (s, sel, fs) := s.selections u c.cmd desc fs
        let cnt := countSel (XD.k desc) (XD.e desc) sel
        let n := (sel.filter (fun x => x.valid && decide (x.expert < XD.e desc))).length
        let s := (s.cmdFaults p c.ord (pageIdx .gath d) fs).inc F.GATH_XD_CHOICES d 0 n
        let t : CountTable := ⟨XD.dtag c.cmd, XD.part c.cmd, cnt⟩
        s.addPart d ⟨p, c.ord, c.cmd, desc, XD.dtag c.cmd, XD.parts c.cmd, XD.part c.cmd, [t], false⟩)

/-- COUNT_TABLE (R114): the k-th table on its way to engine d arrives at every part of its tag. -/
def execCountTable (d k : Nat) (s : State) : Host.Outcome State Fault Refusal :=
  onUnit nDist d s fun s =>
    match (s.gath d).incoming[k]? with
    | none => s
    | some t => s.onGath d (fun g => { g with
        incoming := g.incoming.eraseIdx k
        parts := g.parts.map (fun x => if x.dtag = t.dtag ∧ ¬ x.tables.any (fun y => y.part == t.part) then { x with tables := x.tables ++ [t] } else x) })

/-- Count of a key in the table of a part. -/
def Part.cnt (x : Part) (part key : Nat) : Nat :=
  match x.tables.find? (fun t => t.part == part) with
  | some t => t.table.get key 0
  | none => 0

/-- (rank, part) pairs before (j, p) in key order (R114). -/
def pairsBefore (parts j p : Nat) : List (Nat × Nat) :=
  ((List.range j).map (fun a => (List.range parts).map (fun b => (a, b)))).flatten ++ (List.range p).map (fun b => (j, b))

/-- Choices of expert e before (j, p). -/
def Part.before (x : Part) (j p e : Nat) : Nat := ((pairsBefore x.parts j p).map (fun q => x.cnt q.2 (cntKey q.1 e))).sum

/-- Drop-list entries of (rank, part) j, p: invalid choices and choices beyond the slots. -/
def Part.dropsAt (x : Part) (j p : Nat) : Nat :=
  x.cnt p (invKey j) + ((List.range (XD.e x.desc)).map (fun e =>
    let n := x.cnt p (cntKey j e)
    n - min n (XD.slots x.desc - x.before j p e))).sum

/-- Position in the drop list of the first drop of (j, p). -/
def Part.dropFirst (x : Part) (j p : Nat) : Nat := ((pairsBefore x.parts j p).map (fun q => x.dropsAt q.1 q.2)).sum

/-- What a placement carries along: state, faults, next position of each expert, next drop position. -/
structure Placing where
  s : State
  fs : CmdFaults
  pos : SMap Nat
  drop : Nat

/-- A 4-byte word is written at a context address. -/
def Placing.word (x : Placing) (u : Accessor) (a v : Nat) : Placing :=
  let (s, fs) := x.s.ctxWrite u .write a (leBytes 4 v) x.fs
  { x with s := s, fs := fs }

/-- A drop-list entry (R115): reason 0 capacity, 1 invalid expert. -/
def Placing.listDrop (x : Placing) (u : Accessor) (d : List Byte) (t e j reason : Nat) : Placing :=
  let y := if x.drop < XD.dropMax d then x.word u (XD.dropBase d + 4 * x.drop) (t + e * 2 ^ 16 + j * 2 ^ 24 + reason * 2 ^ 27) else x
  { y with drop := x.drop + 1 }

/-- One choice of a placement (R114 to R116). [DESIGN CHOICE, log entry 24] -/
def Placing.choice (x : Placing) (u : Accessor) (g : Nat) (d : List Byte) (t j : Nat) (c : Sel) : Placing :=
  let map := XD.mapBase d + 4 * (XD.k d * t + j)
  if !c.valid then { x with s := x.s.used }.word u map (x.s.freeVal % 2 ^ 24 + 3 * 2 ^ 24)
  else if XD.e d ≤ c.expert then
    ({ x with s := x.s.inc F.GATH_XD_INVALID g 0 }.listDrop u d t c.expert j 1).word u map (c.expert * 2 ^ 16 + 3 * 2 ^ 24)
  else
    let i := x.pos.get c.expert 0
    let x := { x with pos := SMap.put c.expert (i + 1) x.pos }
    if i < XD.slots d then
      let slot := c.expert * XD.slots d + i
      let (s, row, fs) := x.s.ctxRead u (XD.srcBase d + t * XD.srcStride d) (XD.rowBytes d) x.fs
      let (s, fs) := s.ctxWrite u .write (XD.batchBase d + slot * XD.batchStride d) row fs
      let s := if i < XD.cap d then s else s.inc F.GATH_XD_SPILLED g 0
      ({ x with s := s, fs := fs }.word u (XD.listBase d + 4 * slot) (t + c.gate * 2 ^ 16)).word u map
        (i + c.expert * 2 ^ 16 + (if i < XD.cap d then 0 else 1) * 2 ^ 24)
    else
      ({ x with s := x.s.inc F.GATH_XD_DROPPED g 0 }.listDrop u d t c.expert j 0).word u map (c.expert * 2 ^ 16 + 2 * 2 ^ 24)

/-- Total of an expert over all parts and ranks. -/
def Part.total (x : Part) (e : Nat) : Nat := x.before (XD.k x.desc) 0 e

/-- Count table and summary record, written by part 0 (R115). -/
def Placing.summary (y : Placing) (u : Accessor) (x : Part) : Placing :=
  let d := x.desc
  let es := List.range (XD.e d)
  let placed (e : Nat) : Nat := min (x.total e) (XD.cap d)
  let spilled (e : Nat) : Nat := min (x.total e) (XD.slots d) - placed e
  let y := es.foldl (fun y e => y.word u (XD.countBase d + 4 * e) (placed e + spilled e * 2 ^ 16)) y
  let inv := ((List.range (XD.k d)).map (fun j => ((List.range x.parts).map (fun p => x.cnt p (invKey j))).sum)).sum
  let tot := (es.map x.total).sum
  let pl := (es.map placed).sum
  let sp := (es.map spilled).sum
  let ws := [tot, pl, sp, tot - pl - sp, inv, (es.map x.total).foldl max 0, (es.filter (fun e => spilled e != 0)).length, 0]
  ((List.range 8).zip ws).foldl (fun y w => y.word u (XD.sumBase d + 4 * w.1) w.2) y

/-- Whether two parts keep the rule of R112: the same parameters, and disjoint token ranges. [DESIGN CHOICE, log entry 24] -/
def partsAgree (x y : Part) : Bool :=
  x.desc == y.desc && x.parts == y.parts && x.part != y.part
    && (decide (XD.tFirst x.cmd + XD.tCount x.cmd ≤ XD.tFirst y.cmd) || decide (XD.tFirst y.cmd + XD.tCount y.cmd ≤ XD.tFirst x.cmd)
        || XD.tCount x.cmd == 0 || XD.tCount y.cmd == 0)

/-- The placement of a part (R114, phase 2). [DESIGN CHOICE, log entry 24] -/
def State.place (s : State) (g : Nat) (x : Part) (u : Accessor) : State :=
  let d := x.desc
  let k := XD.k d
  let (s, sel, fs) := s.selections u x.cmd d []
  let y := (List.range k).foldl (fun (y : Placing) j =>
    let pos : SMap Nat := (List.range (XD.e d)).map (fun e => (e, x.before j x.part e))
    (List.range (XD.tCount x.cmd)).foldl (fun (y : Placing) i =>
      y.choice u g d (XD.tFirst x.cmd + i) j (sel.getD (k * i + j) ⟨0, false, 0⟩)) { y with pos := pos, drop := x.dropFirst j x.part })
    ⟨s, fs, [], 0⟩
  let y := if x.part = 0 then y.summary u x else y
  y.s.cmdFaults x.blk x.ord (pageIdx .gath g) y.fs

/-- Whether the parts of one dispatch keep the rule of R112, each with every other. -/
def partsOk : List Part → Bool
  | [] => true
  | x :: xs => !x.broken && xs.all (partsAgree x) && partsOk xs

/-- The parts of a dispatch tag that still wait are known to belong to a dispatch that breaks the rule of R112. -/
def State.breakParts (s : State) (tag : Nat) : State :=
  forN nDist s (fun s e => s.onGath e (fun g => { g with parts := g.parts.map (fun y => if y.dtag = tag then { y with broken := true } else y) }))

/-- PLACEMENT (R112, R114): the k-th part of engine d that holds every table places its choices; where the dispatch breaks the rule of R112,
the outputs of each of its parts are undefined. -/
def execPlacement (d k : Nat) (s : State) : Host.Outcome State Fault Refusal :=
  onUnit nDist d s fun s =>
    match ((s.gath d).parts.filter Part.ready)[k]? with
    | none => s
    | some x =>
      match s.cmdUser (.gath d) x.cmd with
      | none => s
      | some u =>
        let all := ((List.range nDist).map (fun e => (s.gath e).parts.filter (fun y => y.dtag == x.dtag))).flatten
        let s := s.onGath d (fun g => { g with parts := g.parts.filter (fun y => !(y.blk == x.blk && y.ord == x.ord)) })
        let s := if partsOk all then s.place d x u else (s.breakParts x.dtag).undefinedCmd x.blk u (spGath d x.ord)
        s.cmdDone x.blk x.ord

/-! ### XCOMBINE (R117) -/

namespace XC
def k (d : List Byte) : Nat := bitsOf (XD.get d 0 1) 0 3 + 1
def gates (d : List Byte) : Bool := bitOf (XD.get d 0 1) 3
def spill (d : List Byte) : Bool := bitOf (XD.get d 0 1) 4
/-- Formats of Y (bit 0), RES (bit 1) and OUT (bit 2): false BF16, true FP32. -/
def fmt (d : List Byte) (i : Nat) : Fmt := if bitOf (XD.get d 1 1) i then Fmt.f32 else Fmt.bf16
def sat (d : List Byte) : Bool := bitOf (XD.get d 1 1) 3
def cap (d : List Byte) : Nat := bitsOf (XD.get d 2 2) 0 15 + 1
def slots (d : List Byte) : Nat := if spill d then 2 * cap d else cap d
def h (d : List Byte) : Nat := XD.get d 4 4
def mapBase (d : List Byte) : Nat := XD.get d 0x08 8
def listBase (d : List Byte) : Nat := XD.get d 0x10 8
def yBase (d : List Byte) : Nat := XD.get d 0x18 8
def resBase (d : List Byte) : Nat := XD.get d 0x20 8
def outBase (d : List Byte) : Nat := XD.get d 0x28 8
def yStride (d : List Byte) : Nat := XD.get d 0x30 4
def resStride (d : List Byte) : Nat := XD.get d 0x34 4
def outStride (d : List Byte) : Nat := XD.get d 0x38 4
def ok (c : Cmd) (d : List Byte) : Bool :=
  XD.desc c % 128 == 0 && decide (XD.tFirst c + XD.tCount c ≤ 65536) && decide (1 ≤ h d) && decide (h d ≤ 65536)
    && [mapBase d, yBase d, resBase d, outBase d].all (fun a => decide (a < 2 ^ 48)) && (!gates d || decide (listBase d < 2 ^ 48))
end XC

/-- Bytes of an element format. -/
def Fmt.bytes (f : Fmt) : Nat := f.width / 8

/-- Element i of a row of bytes, as an F32 value. -/
def rowElem (f : Fmt) (bs : List Byte) (i : Nat) : FVal := decodeF f (leNat ((bs.drop (f.bytes * i)).take f.bytes))

/-- One token of a combine (R117). [DESIGN CHOICE, log entry 24] -/
def State.combineToken (s : State) (u : Accessor) (d : List Byte) (t : Nat) (fs : CmdFaults) : State × CmdFaults :=
  let k := XC.k d
  let n := XC.h d
  let (s, ms, fs) := s.ctxRead u (XC.mapBase d + 4 * k * t) (4 * k) fs
  let (s, res, fs) := s.ctxRead u (XC.resBase d + t * XC.resStride d) (n * (XC.fmt d 1).bytes) fs
  let (s, rows, fs) := (List.range k).foldl (fun (acc : State × List (List Byte × FVal) × CmdFaults) j =>
    let (s, rows, fs) := acc
    let m := leNat ((ms.drop (4 * j)).take 4)
    if bitsOf m 24 2 < 2 then
      let slot := bitsOf m 16 8 * XC.slots d + bitsOf m 0 16
      let (s, y, fs) := s.ctxRead u (XC.yBase d + slot * XC.yStride d) (n * (XC.fmt d 0).bytes) fs
      let (s, g, fs) := if XC.gates d then
          let (s, b, fs) := s.ctxRead u (XC.listBase d + 4 * slot) 4 fs
          (s, decodeF Fmt.bf16 (leNat (b.drop 2)), fs)
        else (s, FVal.fin false 1 0, fs)
      (s, rows ++ [(y, g)], fs)
    else acc) (s, [], fs)
  let out := (List.range n).map (fun i =>
    let acc := rows.foldl (fun acc r =>
      let p := decodeF Fmt.f32 (encodeF Fmt.f32 false (mulF r.2 (rowElem (XC.fmt d 0) r.1 i)))
      decodeF Fmt.f32 (encodeF Fmt.f32 false (addF acc p))) (rowElem (XC.fmt d 1) res i)
    leBytes (XC.fmt d 2).bytes (convertFmt (XC.fmt d 2) (XC.sat d) acc))
  s.ctxWrite u .write (XC.outBase d + t * XC.outStride d) out.flatten fs
where
  /-- Conversion of an F32 value to the output format (R88). -/
  convertFmt (f : Fmt) (sat : Bool) (v : FVal) : Nat := encodeF f (sat && f != Fmt.f32) v

/-- XCOMBINE (R117, R174): in its turn the engine folds the expert outputs of its tokens into the residual. -/
def execXcombine (p : Nat) (s : State) : Host.Outcome State Fault Refusal :=
  onUnit nBlks p s fun s => s.engineStep p 0x39 (fun s c =>
    let d := distOf p
    match s.cmdUser (.gath d) c.cmd with
    | none => s
    | some u =>
      let (s, desc, fs) := s.ctxRead u (XD.desc c.cmd) 128 []
      let s := if XC.ok c.cmd desc then
          let (s, fs) := (List.range (XD.tCount c.cmd)).foldl (fun (acc : State × CmdFaults) i =>
            (acc.1.inc F.GATH_XC_TOKENS d 0).combineToken u desc (XD.tFirst c.cmd + i) acc.2) (s, fs)
          s.cmdFaults p c.ord (pageIdx .gath d) fs
        else (s.cmdFaults p c.ord (pageIdx .gath d) fs).undefinedCmd p u (spGath d c.ord)
      s.cmdDone p c.ord)

end Sys2Proof.Machine
end

