-- ==== Sys2Proof/Machine/Registers.lean ====
section
/-! DEFINITION. Register accesses (R6 to R9, R359 to R362, R375, R455, R482 to R487, R509): the BAR0 map, the common header, reads and
writes of every register, and the unit control commands. -/

namespace Sys2Proof.Machine
open Sys2Proof

/-! ### The BAR0 map (R359, R360, R487) -/

/-- What an offset of a function's BAR0 names. -/
inductive Place where
  /-- A register page, and the offset in it. -/
  | page (pg : Page) (u off : Nat)
  /-- A byte of the context-table window. -/
  | entry (n off : Nat)
  /-- A byte of a channel block. -/
  | chan (h off : Nat)
  /-- An offset beyond a VF's last channel. -/
  | beyond
  /-- Outside every page and window. -/
  | hole
  deriving DecidableEq, Repr

/-- The channels of a VF in ascending order (R360). -/
def State.vfChans (s : State) (port vf : Nat) : List Nat :=
  (List.range 128).filter (fun i => s.rd F.PCIE_CHAN_OWNER_FUNC port i == vf + 1)

/-- The unit of a page as a source sees it: a port reaches its own mailbox, the management cores the sideband's (R472). -/
def pageUnit (src : Source) (pg : Page) (u : Nat) : Nat :=
  match pg, src with
  | .mb, .pf n => n
  | .mb, .mgmt => 2
  | _, _ => u

/-- What an offset names for a source. -/
def State.namedAt (s : State) (src : Source) (off : Nat) : Place :=
  match src with
  | .vf port k => match (s.vfChans port k)[off / 0x1000]? with
    | some i => .chan (128 * port + i) (off % 0x1000)
    | none => .beyond
  | _ =>
    if 0x100_0000 ≤ off ∧ off < 0x110_0000 then .entry ((off - 0x100_0000) / 0x400) (off % 0x400)
    else if 0x200_0000 ≤ off ∧ off < 0x208_0000 then
      (match src with
       | .pf n => .chan (128 * n + (off - 0x200_0000) / 0x1000) (off % 0x1000)
       | _ => .hole)
    else match pageOf (off / 0x1000) with
      | some (pg, u) => .page pg (pageUnit src pg u) (off % 0x1000)
      | none => .hole

/-- Unit of a page's header: the MGMT page has one header for its three mailboxes. -/
def hdrUnit (pg : Page) (u : Nat) : Nat := if pg = .mb then 0 else u

/-! ### The fields of a page -/

/-- Fields that stand on SLC[8g] only (R253). -/
def firstSliceOnly (f : Fld) : Bool :=
  f.page == .slc && (decide (0x110 ≤ f.off) && decide (f.off < 0x160) || decide (0x180 ≤ f.off) && decide (f.off < 0x1C0))

/-- The fields that a read or write of a page reaches: some stand on the first page of a kind only (R253, R278, R406), and the
model's own fields in effect of DEST on none. -/
def fieldsOf (pg : Page) (u : Nat) : List Fld :=
  match pg with
  | .ch => regs_ch
  | .fab => regs_hdr ++ regs_fab ++ (if u = 0 then regs_fab0.filter (fun f => decide (f.off < 0xE00)) else [])
  | .slc => regs_hdr ++ (if u % 8 = 0 then regs_slc else regs_slc.filter (fun f => !firstSliceOnly f))
  | .memc => regs_hdr ++ (if u = 0 then regs_memc else regs_memc.filter (fun f => f != F.MEMC_LAYOUT_LOCK && f != F.MEMC_LAYOUT_LOCKED))
  | pg => regs_hdr ++ pageFields pg

/-- Bit of a page at which copy i of a field begins. -/
def fieldBit (f : Fld) (i : Nat) : Nat := 8 * (f.off + f.stride * (i / f.bcount)) + f.lo + f.bstride * (i % f.bcount)

/-- Whether copy i of a field has a bit among the `n` bytes from `off` on. -/
def Fld.touches (f : Fld) (off n i : Nat) : Bool := decide (fieldBit f i < 8 * (off + n)) && decide (8 * off < fieldBit f i + f.width)

/-- The fields, with their copies, that have a bit among the `n` bytes from `off` on. -/
def touched (pg : Page) (u off n : Nat) : List (Fld × Nat) :=
  ((fieldsOf pg u).map (fun f => ((List.range (f.count * f.bcount)).filter (f.touches off n)).map (fun i => (f, i)))).flatten

/-- Whether a register at an 8-byte aligned offset has 64 bits (R483). -/
def wideAt (pg : Page) (u off : Nat) : Bool :=
  off % 8 == 0 && (touched pg u off 4).any (fun e => decide (32 < (fieldBit e.1 e.2 - 8 * off) + e.1.width) && decide (8 * off ≤ fieldBit e.1 e.2))

/-- The bits of field copy i that an access of `n` bytes from `off` on reaches: first bit and end, as bits of the page. -/
def reach (f : Fld) (i off n : Nat) : Nat × Nat := (max (fieldBit f i) (8 * off), min (fieldBit f i + f.width) (8 * (off + n)))

/-- What a field copy of value `old` becomes when `n` bytes of value v are written from `off` on. -/
def written (f : Fld) (i off n old v : Nat) : Nat :=
  let r := reach f i off n
  putBits old (r.1 - fieldBit f i) (r.2 - r.1) (v >>> (r.1 - 8 * off))

/-- Unit whose registers hold a field: the header of the MGMT page is one. -/
def fieldUnit (pg : Page) (u : Nat) (f : Fld) : Nat := if f.page = .hdr then hdrUnit pg u else u

/-! ### Reads (R8, R483) -/

/-- Value of the `n` bytes from `off` on, as the fields show it. -/
def State.peek (s : State) (pg : Page) (u off n : Nat) : Nat :=
  (touched pg u off n).foldl (fun (acc : Nat) (e : Fld × Nat) =>
    if e.1.acc = .wo then acc
    else
      let v := s.view pg (fieldUnit pg u e.1) e.1 e.2
      let r := reach e.1 e.2 off n
      acc + bitsOf v (r.1 - fieldBit e.1 e.2) (r.2 - r.1) * 2 ^ (r.1 - 8 * off)) 0

/-- Fields that a read clears return to their reset values, which are zero for counters (R8); a counter of cycles goes on counting while
its unit is in the condition it counts. [DESIGN CHOICE, log entry 9; DEDUCED, log entry 10] -/
def State.readClear (s : State) (pg : Page) (u off n : Nat) : State :=
  (touched pg u off n).foldl (fun s e =>
    if e.1.acc = .rc then
      (if s.counting u e.1 then (s.wrAt pg u e.1 e.2 s.freeVal).used else s.wrAt pg u e.1 e.2 (resetOf pg u e.1 e.2))
    else s) s

/-- A register of up to 64 bits is read: the `n` bytes from `off` on, whose RC fields clear. -/
def State.readReg (s : State) (pg : Page) (u off n : Nat) : State × Nat :=
  (s.readClear pg u off n, s.peek pg u off n)

/-- Bytes of CE[c][i] (R302). -/
def CeEntry.bytes (e : CeEntry) : List Byte := leBytes 2 e.unit ++ leBytes 6 e.addr ++ leBytes 2 e.syndrome ++ leBytes 2 e.count ++ leBytes 4 e.lastFrame

/-- A word of the correctable-error tables (R302). -/
def State.ceWord (s : State) (off : Nat) : Nat :=
  match (s.errq.ce.get ((off - 0x400) / 0x100) [])[off % 0x100 / 0x10]? with
  | some e => leNat ((e.bytes.drop (off % 0x10)).take 4)
  | none => 0

/-- An aligned word of a page is read. The low word of a 64-bit register latches its high word for the same source, and the next read of
the high word returns it (R483). [DEDUCED, log entry 10] -/
def State.readWord (s : State) (src : Source) (pg : Page) (u off : Nat) : State × Nat :=
  let key := pageBase pg u + off
  if pg = .blk ∧ off = 0x488 then s.imemData u none
  else if pg = .errq ∧ 0x400 ≤ off ∧ off < 0xA00 then (s, s.ceWord off)
  else if pg = .mb ∧ 0x800 ≤ off then (s, leNat ((List.range 4).map (fun i => (s.mb u).window.get (off - 0x800 + i) 0)))
  else match s.latched.find? (fun e => e.1 == src && e.2.1 == key) with
    | some e => ({ s with latched := s.latched.erase e }, e.2.2.toNat)
    | none =>
      if wideAt pg u off then
        let hi := s.peek pg u (off + 4) 4
        let (s, v) := s.readReg pg u off 4
        ({ s with latched := (src, key + 4, BitVec.ofNat 32 hi) :: s.latched.filter (fun e => !(e.1 == src && e.2.1 == key + 4)) }, v)
      else s.readReg pg u off 4

/-- A word of what an offset names. -/
def State.readPlace (s : State) (src : Source) : Place → State × Nat
  | .page pg u off => s.readWord src pg u off
  | .chan h off => s.readWord src .ch h off
  | .entry n off => (s, leNat ((List.range 4).map (fun i => (s.ctx n).byte (off + i))))
  | .beyond => (s, 0)
  | .hole => (s.inc F.TOP_BAR0_HOLE 0 0, 0)

/-- Whether a 64-bit access is to a 64-bit register. -/
def State.wideAccess (s : State) (src : Source) (off : Nat) : Option (Page × Nat × Nat) :=
  match s.namedAt src off with
  | .page pg u o => if wideAt pg u o then some (pg, u, o) else none
  | .chan h o => if wideAt .ch h o then some (.ch, h, o) else none
  | _ => none

/-- A read of `size` bytes at an offset (R483): 1 to 4 bytes within a word, or 8 aligned bytes. A misaligned read, to which the spec
gives no value, returns a free value. [DEDUCED, log entry 10] -/
def State.readAt (s : State) (src : Source) (off size : Nat) : State × Nat :=
  if size = 8 ∧ off % 8 = 0 then
    match s.wideAccess src off with
    | some (pg, u, o) => s.readReg pg u o 8
    | none => if s.namedAt src off = .hole then s.readPlace src .hole else
      let (s, lo) := s.readPlace src (s.namedAt src off)
      let (s, hi) := s.readPlace src (s.namedAt src (off + 4))
      (s, lo + hi * 2 ^ 32)
  else if off % 4 + size ≤ 4 ∧ 1 ≤ size ∧ off % size = 0 then
    let (s, v) := s.readPlace src (s.namedAt src (off - off % 4))
    (s, bitsOf v (8 * (off % 4)) (8 * size))
  else (s.used, s.freeVal % 2 ^ (8 * size))

/-- A read, with its completion to the source; the link leaves L1 (R358). -/
def State.readOp (s : State) (src : Source) (off size : Nat) : State :=
  let (s, v) := (s.wakeLink src).readAt src off size
  s.emit "READ" [off, size, v]

/-- RC_READ (R8): a word with read-to-clear fields is read. -/
def execRcRead (src : Source) (off : Nat) (s : State) : Host.Outcome State Fault Refusal := onSrc src <| .next (s.readOp src off 4)

/-- REGISTER_READ (R483). -/
def execRegisterRead (src : Source) (off size : Nat) (s : State) : Host.Outcome State Fault Refusal := onSrc src <| .next (s.readOp src off size)

/-! ### Who may write (R375, R430, R450, R455, R479) -/

/-- Whether the host may write an offset of a page before READY (R455): BOOT.OPT, the mailbox, and TOP.RESET. -/
def earlyOpen (pg : Page) (off : Nat) : Bool :=
  match pg with
  | .boot => off == 0x104
  | .mb => off == 0x100 || off == 0x104 || decide (0x800 ≤ off)
  | .top => off == 0x100
  | _ => false

/-- Whether a write of a source reaches an offset of a page: a host write waits for READY, and INTC takes no host write. -/
def State.mayReach (s : State) (src : Source) (pg : Page) (off : Nat) : Bool :=
  match src with
  | .mgmt => true
  | .pf _ => (s.mayWrite src || earlyOpen pg off) && pg != .intc
  | .vf _ _ => false

/-- Fields of which a page drops host writes without an event (R430, R450, R492). -/
def hostDrops : List Fld :=
  [F.PWR_VTARGET_V, F.PWR_FRAME_BUDGET_UJ, F.PWR_I_FAST, F.PWR_I_HEAD, F.PWR_WARMUP_EN, F.PWR_WARMUP_LEVEL] ++
  [F.THM_RINT_R, F.THM_ALLOW_THERM_W, F.THM_CYCLES_COUNT, F.THM_CYCLES_ODD, F.THM_CYCLES_DIR, F.THM_CYC_EXT_EXT]

/-- Whether a page drops a source's write of a field. -/
def dropsField (src : Source) (f : Fld) : Bool := src != .mgmt && hostDrops.contains f

/-- Registers of the host-commanded power state (R375, R416): power level, envelope, domain request, fabric CTRL. -/
def powerReg (pg : Page) (off : Nat) : Bool :=
  match pg with
  | .pwr => off == 0x100 || off == 0x104
  | .dom => off == 0x100
  | .fab => off == 0x010
  | _ => false

/-! ### Classes and ranges (R9, R486, R509) -/

/-- Whether a value lies in the range, alignment or codes of a field. -/
def Chk.ok : Chk → Nat → Bool
  | .any, _ => true
  | .range lo hi, v => decide (lo ≤ v) && decide (v ≤ hi)
  | .mult k lo, v => v % k == 0 && decide (lo ≤ v)
  | .multRange k lo hi, v => v % k == 0 && decide (lo ≤ v) && decide (v ≤ hi)

/-- Whether class-S fields of a field's unit are closed (R9, R362, R406). -/
def State.closed (s : State) (pg : Page) (u : Nat) (f : Fld) : Bool :=
  if pg = .ch then s.rd F.CH_ENABLE u == 1
  else if f.page = .fab0 then
    (if f.off = 0x200 then (List.range 8).any (fun p => s.enabled .fab p) else s.rd F.FAB0_ENABLE == 1)
  else s.enabled pg u

/-- A field copy takes its new value by its class; `shut` says whether class S was closed before the write. -/
def State.putField (s : State) (pg : Page) (u : Nat) (shut : Bool) (f : Fld) (i old v : Nat) : State :=
  match f.acc, f.cls with
  | .rw, .s => if shut then (if v = old then s else s.cfgReject pg u) else s.wrAt pg u f i v
  | .rw, .t => s.putT f u i v
  | .rw, _ => s.wrAt pg u f i v
  | _, _ => s

/-- The W1C fields that a write clears. -/
def State.clearOnes (s : State) (pg : Page) (u : Nat) (e : Fld × Nat) (bit : Bool) : State :=
  if e.1.acc = .w1c ∧ bit then s.wrAt pg u e.1 e.2 0 else s

/-- Whether a write gives a field a value that R509 drops it for. -/
def State.badValue (s : State) (src : Source) (pg : Page) (u off n v : Nat) (e : Fld × Nat) : Bool :=
  e.1.acc == .rw && !dropsField src e.1 && !e.1.chk.ok (written e.1 e.2 off n (s.rdAt pg u e.1 e.2) v)

/-- The generic write of `n` bytes of a page: dropped whole under R509, else each RW field by its class, and W1C bits. -/
def State.writeFields (s : State) (src : Source) (pg : Page) (u off n v : Nat) : State :=
  let es := (touched pg u off n).filter (fun e => e.1.page != .hdr)
  if es.any (s.badValue src pg u off n v) then s.cfgReject pg u
  else es.foldl (fun t e =>
    if dropsField src e.1 then t
    else
      let old := s.rdAt pg u e.1 e.2
      let t := t.putField pg u (s.closed pg u e.1) e.1 e.2 old (written e.1 e.2 off n old v)
      t.clearOnes pg u e (bitOf (v >>> (fieldBit e.1 e.2 - 8 * off)) 0)) s

/-! ### What a write of a register does beside storing it -/

/-- Cores whose bit of CORE_EN is clear lose the source in service (R478). -/
def State.coresOff (s : State) : State :=
  forN 4 s (fun s c => if bitOf (s.rd F.INTC_CORE_EN) c then s else s.wr F.INTC_CUR_VALID 0 c 0)

/-- Channels with EXCLUDE set leave service, before the lock (R272). -/
def State.excludeChans (s : State) (g : Nat) : State :=
  if s.locked then s
  else forN 4 s (fun s c => if s.rd F.MEMC_CHAN_EXCLUDE g c = 1 then s.wr F.MEMC_CHAN_EXCLUDED g c 1 else s)

/-- The landing unit is enabled anew: it has held no slot of any sender since (R396). -/
def State.landEnable (s : State) (was : Nat) : State :=
  if was = 0 ∧ s.rd F.FAB0_ENABLE = 1 then
    s.onFab (fun f => { f with senders := f.senders.map (fun (e : Nat × Sender) => (e.1, { e.2 with held := false })) })
  else s

/-- The effect of a generic write on the unit; `s0` is the state before it. -/
def State.afterWrite (s s0 : State) (src : Source) (pg : Page) (u off v : Nat) : State :=
  match pg with
  | .pwr => (if s.plaza.ticked then s else s.applyPl).warmUp
  | .blk => if off = 0x404 then (if s.ballast u then s else s.onMx u (fun m => { m with ramp := .off }))
    else if off = 0x644 then
      s.spWake u ((List.range 16).filter (fun b => !bitOf (s.rd F.BLK_SP_PWR_RET u) b)) else s
  | .memc => if off = 0x104 then s.excludeChans u else s
  | .intc => if off = 0x104 then s.coresOff else s
  | .fab =>
    if u ≠ 0 then s
    else if off = 0x200 then (if bitOf v 16 then s.retrainAll src else s)
    else s.landEnable (s0.rd F.FAB0_ENABLE)
  | _ => s

/-- TICK.PERIOD is written (R31). -/
def State.periodWrite (s : State) (v : Nat) : State :=
  if 10 ≤ bitsOf v 0 10 ∧ bitsOf v 0 10 ≤ 1000 then s.putT F.TICK_PERIOD_STEPS 0 0 (bitsOf v 0 10) else s.setEvt .tick 0 1

/-- PWR.ENVELOPE is written (R423). -/
def State.envelopeWrite (s : State) (v : Nat) : State :=
  if 600 ≤ bitsOf v 0 11 ∧ bitsOf v 0 11 ≤ 1200 then s.putT F.PWR_W 0 0 (bitsOf v 0 11) else s.setEvt .pwr 0 9

/-- PIN_CFG of a group is written (R246). -/
def State.ceilWrite (s : State) (u v : Nat) : State :=
  if bitsOf v 0 4 ≤ 14 ∧ s.pinReserved (u / 8) ≤ bitsOf v 0 4 then s.wr F.SLC_PIN_CFG_CEIL u 0 (bitsOf v 0 4) else s.cfgReject .slc u

/-- DIST[d].RETIRE is written (R492): by the management cores only. -/
def State.retireWrite (s : State) (src : Source) (d v : Nat) : State :=
  if src ≠ .mgmt then s
  else if 34 ≤ bitsOf v 0 6 then s.cfgReject .dist d
  else s.retireSiteSoon (34 * d + bitsOf v 0 6)

/-- CH_CTRL is written (R362, R379). -/
def State.chCtrl (s : State) (src : Source) (h v : Nat) : State :=
  let t := s.chEnable src h (bitOf v 0)
  if bitOf v 1 ∧ s.rd F.CH_ENABLE h = 0 then t.chReset src h else t

/-! ### The header (R453, R484 to R486) -/

/-- Event bits are cleared (R484); step 7 no longer counts them as seen (R475). -/
def State.evtClear (s : State) (pg : Page) (u v : Nat) : State :=
  let keep (x : Nat) : Nat := x &&& (0xFFFF_FFFF ^^^ (v % 2 ^ 32))
  let s := s.wrAt pg u F.HDR_EVT_STATUS 0 (keep (s.evts pg u))
  match pg with
  | .tick => s.onPlaza (fun p => { p with seen := (keep p.seen.1, p.seen.2) })
  | .ctx => s.onPlaza (fun p => { p with seen := (p.seen.1, keep p.seen.2) })
  | _ => s

/-- Pages whose CTRL reads 0x1 and ignores writes (R485). -/
def fixedCtrl (pg : Page) : Bool := [Page.top, .ctx, .sec, .errq, .fuse, .mb, .boot, .hk].contains pg

/-- Data-plane pages (R485). -/
def dataPlane (pg : Page) : Bool := [Page.blk, .slc, .memc, .gath, .fab].contains pg

/-- A unit stops (R485): it completes the work it has accepted, and ENABLE clears. A stopped fabric port is DOWN. -/
def State.unitOff (s : State) (pg : Page) (u : Nat) : State :=
  let s := match pg with
    | .slc => s.settleSlice u
    | .memc => s.memDrain u
    | .fab => s.portLose u 0
    | _ => s
  s.wrAt pg u F.HDR_CTRL_ENABLE 0 0

/-- ENABLE is written 0 where it is 1, or STOP_REQ is written 1 (R485). [DESIGN CHOICE, log entry 12] -/
def State.stopUnit (s : State) (src : Source) (pg : Page) (u : Nat) (stopped : Bool) : State :=
  if pg = .tick then s.tickEnable src false
  else if dataPlane pg && s.anyBusy then s.cfgReject pg u
  else
    let s := s.unitOff pg u
    if stopped then s.setEvt pg u 1 else s

/-- ENABLE is written 1. A Block's is dropped while Clove runs (R225). [DESIGN CHOICE, log entry 12] -/
def State.startUnit (s : State) (src : Source) (pg : Page) (u : Nat) : State :=
  match pg with
  | .tick => s.tickEnable src true
  | .fab => s.fabEnable src u
  | .blk => if (s.blk u).sp.clove.isSome then s.cfgReject .blk u else s.wrAt .blk u F.HDR_CTRL_ENABLE 0 1
  | pg => s.wrAt pg u F.HDR_CTRL_ENABLE 0 1

/-- Keys of a page's registers that a unit reset clears: those from 0x040 on that `f` names. -/
def State.clearKeys (s : State) (pg : Page) (u : Nat) (f : Fld → Bool) : State :=
  let keys := (((fieldsOf pg u).filter (fun x => x.page != .hdr && decide (0x40 ≤ x.off) && f x)).map (fun x =>
    (List.range (x.count * x.bcount)).map (keyAt pg u x))).flatten
  { s with regs := s.regs.filter (fun e => !keys.contains e.1) }

/-- RO fields that show a unit's working state, which a unit reset returns to reset; the other RO fields report what stays so. [DESIGN CHOICE, log entry 12] -/
def workStatus : List Fld :=
  [F.PWR_PL_EFF, F.PWR_RAISING, F.PWR_LEVEL, F.PWR_CLAMP, F.PWR_GATE, F.PWR_CAUSE] ++ [F.THM_TEMP_TMAX, F.THM_TEMP_TMIN] ++
  [F.THM_STATE_COLD, F.THM_STATE_BELOW_RATED, F.THM_TSENS_T, F.THM_TSENS_E, F.THM_TSENS_DISAGREE, F.THM_TSENS_VALID] ++
  [F.BOND_TRACK_WIRE, F.BOND_TRACK_COUNT, F.BOND_TRACK_VALID, F.SLC_PIN_ENTRY_VALID, F.SLC_PIN_ENTRY_FILLED] ++
  [F.SLC_PIN_ENTRY_WAYS, F.SLC_PIN_ENTRY_OWNER, F.SLC_PIN_CFG_RESERVED]

/-- Whether a unit reset returns a field to its reset value (R486). [DESIGN CHOICE, log entry 64] -/
def resets (pg : Page) (f : Fld) : Bool :=
  f.acc == .rw || f.acc == .w1c || f.acc == .rc || pg == .blk || workStatus.contains f || tPairs.any (fun e => e.2 == f)

/-- A unit's internal state returns to its reset state (R486); what is retired, excluded, dark or in half width stays so. [DESIGN CHOICE, log entry 12] -/
def State.resetUnit (s : State) (pg : Page) (u : Nat) : State :=
  match pg with
  | .blk => s.onBlk u (fun b => { blkReset u with site := b.site, half := b.half })
  | .slc =>
    let s := s.setSlc u { Slice.reset with moved := (s.slc u).moved }
    if u % 8 = 0 then { s with pins := s.pins.filter (fun (e : Nat × PinEntry) => e.1 / 16 != u / 8) } else s
  | .memc => s.onMem u (fun m => { memcReset u with failed := m.failed, selfRefresh := m.selfRefresh })
  | .gath => s.setGath u Gather.reset
  | .fab =>
    let s := s.portLose u 0
    if u = 0 then s.onFab (fun f => { Fabric.reset with ports := f.ports }) else s
  | .pwr => s.onPwr (fun p => { Power.reset with doms := p.doms })
  | .thm => { s with thm := Thermal.reset }
  | .bond => { s with parity := s.parity.filter (fun (e : Nat × Nat) => e.1 / 4096 != u) }
  | .pcie => s.onPort u (fun p => { p with winMiss := none, inRem := 0 })
  | _ => s

/-- CTRL.SOFT_RESET (R453, R486): accepted only while ENABLE was 0; some pages ignore it. [DESIGN CHOICE, log entry 12] -/
def State.softReset (s : State) (pg : Page) (u : Nat) (wasOn : Bool) : State :=
  if fixedCtrl pg ∨ pg = .tick ∨ pg = .intc then s
  else if wasOn then s.cfgReject pg u
  else ((s.resetUnit pg u).clearKeys pg u (resets pg)).setEvt pg u 2

/-- CTRL of a page is written: ENABLE, STOP_REQ and SOFT_RESET (R485, R486). -/
def State.ctrlWrite (s : State) (src : Source) (pg : Page) (u v : Nat) : State :=
  if fixedCtrl pg then s
  else
    let was := s.rdAt pg u F.HDR_CTRL_ENABLE 0 != 0
    let t := if bitOf v 1 then s.stopUnit src pg u true
      else if bitOf v 0 then s.startUnit src pg u
      else if was then s.stopUnit src pg u false else s
    if bitOf v 2 then t.softReset pg u was else t

/-! ### Writes (R483, R486, R509) -/

/-- Writes to registers whose write is a command of its own; `none` where the register has no such rule. -/
def State.ownWrite (s : State) (src : Source) (pg : Page) (u off v : Nat) : Option State :=
  match pg with
  | .top => if off = 0x100 then some (s.resetKey src v) else none
  | .tick => if off = 0x100 then some (s.periodWrite v) else none
  | .ctx => if off = 0x100 then some (s.ctxCmd src (bitsOf v 0 4) (bitsOf v 16 10)) else none
  | .pwr => if off = 0x104 then some (s.envelopeWrite v) else none
  | .sec => if off = 0x104 then some (s.bindReqOp src v) else none
  | .intc => if 0x120 ≤ off ∧ off < 0x130 then some (s.ackSource src ((off - 0x120) / 4) (bitsOf v 0 8)) else none
  | .errq =>
    if off = 0x120 then some (if bitOf v 0 then s.popHead src else s)
    else if off = 0x130 then some (if bitOf v 0 then s.fatalWrite src else s)
    else if off = 0x150 then some (s.injectWrite src v) else none
  | .mb =>
    if off = 0x100 then some (s.mbReqWrite u v)
    else if off = 0x104 then some (s.mbCtrlWrite u v)
    else if 0x800 ≤ off then some (s.mbWindowWrite u (off - 0x800) (leBytes 4 v)) else none
  | .dom => if off = 0x100 then some (s.domReq u v) else none
  | .dist => if off = 0x180 then some (s.retireWrite src u v) else none
  | .pcie => if 0x400 ≤ off ∧ off < 0x480 then some (s.chanOwnerWrite src u ((off - 0x400) / 4) v) else none
  | .memc => if off = 0x118 then some (if u = 0 ∧ bitOf v 0 then s.lockLayout else s) else none
  | .slc =>
    if u % 8 ≠ 0 then none
    else if off = 0x140 then some (s.ceilWrite u v)
    else if off = 0x144 then some (s.pinReq src (u / 8) v) else none
  | .blk =>
    if 0x600 ≤ off ∧ off < 0x640 then some (s.spOwnWrite src u ((off - 0x600) / 4) v)
    else if off = 0x650 then some (s.cloveWrite src u v)
    else if off = 0x488 then some (s.imemData u (some v)).1 else none
  | .ch => if off = 0 then some (s.chCtrl src u v) else none
  | _ => none

/-- `n` bytes, an aligned word or a 64-bit register, are written on a page. -/
def State.writeReg (s : State) (src : Source) (pg : Page) (u off n v : Nat) : State :=
  if s.mayReach src pg off = false then s
  else if powerReg pg off && !s.hasAuth src then s.authReject src
  else if off = 0x010 then s.ctrlWrite src pg (hdrUnit pg u) v
  else if off = 0x024 then s.wrAt pg (hdrUnit pg u) F.HDR_EVT_ENABLE 0 v
  else if off = 0x028 then s.evtClear pg (hdrUnit pg u) v
  else match s.ownWrite src pg u off v with
    | some t => t
    | none => (s.writeFields src pg u off n v).afterWrite s src pg u off v

/-- The same in a channel block, which only its owner writes (R361). -/
def State.writeChan (s : State) (src : Source) (h off n v : Nat) : State :=
  if s.mayChannel src h = false then s
  else match s.ownWrite src .ch h off v with
    | some t => t
    | none => s.writeFields src .ch h off n v

/-- A write of `n` bytes, 4 or 8, to what an offset names. -/
def State.writePlace (s : State) (src : Source) (n v : Nat) : Place → State
  | .page pg u off => s.writeReg src pg u off n v
  | .chan h off => s.writeChan src h off n v
  | .entry c off => s.entryWrite src c off (leBytes n v)
  | .beyond => s
  | .hole => s.inc F.TOP_BAR0_HOLE 0 0

/-- A write at an offset (R483): narrower than a word, or misaligned, it is dropped. A 64-bit access that names no 64-bit register and no
entry is two words, low first. [DEDUCED, log entry 10] -/
def State.writeAt (s : State) (src : Source) (off size v : Nat) : State :=
  let s := s.wakeLink src
  if size = 4 ∧ off % 4 = 0 then s.writePlace src 4 (v % 2 ^ 32) (s.namedAt src off)
  else if size = 8 ∧ off % 8 = 0 then
    match s.namedAt src off with
    | .entry c o => s.entryWrite src c o (leBytes 8 v)
    | .beyond => s
    | .hole => s.inc F.TOP_BAR0_HOLE 0 0
    | pl =>
      if (s.wideAccess src off).isSome then s.writePlace src 8 v pl
      else
        let s := s.writePlace src 4 (v % 2 ^ 32) pl
        s.writePlace src 4 (v / 2 ^ 32) (s.namedAt src (off + 4))
  else s

/-- REGISTER_WRITE (R486). -/
def execRegisterWrite (src : Source) (off size : Nat) (v : DWord) (s : State) : Host.Outcome State Fault Refusal := onSrc src <|
  .next (s.writeAt src off size v.toNat)

/-! ### Header commands with a row of their own -/

/-- A word is written to the header of page i (R482). [DESIGN CHOICE, log entry 2] -/
def onPage (src : Source) (i : Nat) (off : Nat) (s : State) (t : State → Page → Nat → State) : Host.Outcome State Fault Refusal :=
  match pageOf i with
  | none => .fault .noSuchUnit
  | some (pg, u) =>
    .next (
      if s.mayReach src pg off = false then s
      else if powerReg pg off && !s.hasAuth src then s.authReject src
      else t s pg u)

/-- STOP_REQ (R485). -/
def execStopReq (src : Source) (page : Nat) (s : State) : Host.Outcome State Fault Refusal := onSrc src <|
  onPage src page 0x010 s (fun s pg u => if fixedCtrl pg then s else s.stopUnit src pg u true)

/-- SOFT_RESET (R453, R486). -/
def execSoftReset (src : Source) (page : Nat) (s : State) : Host.Outcome State Fault Refusal := onSrc src <|
  onPage src page 0x010 s (fun s pg u => s.softReset pg u (s.enabled pg u))

/-- EVT_CLEAR (R484). -/
def execEvtClear (src : Source) (page : Nat) (v : Word) (s : State) : Host.Outcome State Fault Refusal := onSrc src <|
  onPage src page 0x028 s (fun s pg u => s.evtClear pg (hdrUnit pg u) v.toNat)

/-- RETIRE (R492). -/
def execRetire (src : Source) (d : Nat) (v : Word) (s : State) : Host.Outcome State Fault Refusal := onSrc src <|
  onUnit nDist d s fun s => s.retireWrite src d v.toNat

end Sys2Proof.Machine
end

