-- ==== Sys2Proof/Machine/Dispatch.lean ====
section
/-! DEFINITION. The effect of each command: one arm per constructor of Instr, one direct call of its meaning. -/

namespace Sys2Proof.Machine
open Sys2Proof

/-- The effect of a command on everything but the queue. -/
def exec (i : Instr) (s : State) : Host.Outcome State Fault Refusal :=
  match i with
  | .tick bad => Sys2Proof.Machine.execTick bad s
  | .time p k => Sys2Proof.Machine.execTime p k s
  | .tickIn => Sys2Proof.Machine.execTickIn s
  | .tickLost => Sys2Proof.Machine.execTickLost s
  | .frameEnded => Sys2Proof.Machine.execFrameEnded s
  | .activate src n => Sys2Proof.Machine.execActivate src n s
  | .stop src n => Sys2Proof.Machine.execStop src n s
  | .abort src n => Sys2Proof.Machine.execAbort src n s
  | .resume src n => Sys2Proof.Machine.execResume src n s
  | .release src n => Sys2Proof.Machine.execRelease src n s
  | .contextEntryWrite src n off bytes => Sys2Proof.Machine.execContextEntryWrite src n off bytes s
  | .residentLoad n => Sys2Proof.Machine.execResidentLoad n s
  | .tailValue h v => Sys2Proof.Machine.execTailValue h v s
  | .dueRead h v => Sys2Proof.Machine.execDueRead h v s
  | .intakeFetch reads whole => Sys2Proof.Machine.execIntakeFetch reads whole s
  | .imemLoad p => Sys2Proof.Machine.execImemLoad p s
  | .outputDelivery h => Sys2Proof.Machine.execOutputDelivery h s
  | .add p => Sys2Proof.Machine.execAdd p s
  | .sub p => Sys2Proof.Machine.execSub p s
  | .and p => Sys2Proof.Machine.execAnd p s
  | .or p => Sys2Proof.Machine.execOr p s
  | .xor p => Sys2Proof.Machine.execXor p s
  | .andn p => Sys2Proof.Machine.execAndn p s
  | .sll p => Sys2Proof.Machine.execSll p s
  | .srl p => Sys2Proof.Machine.execSrl p s
  | .sra p => Sys2Proof.Machine.execSra p s
  | .mul p => Sys2Proof.Machine.execMul p s
  | .mulhu p => Sys2Proof.Machine.execMulhu p s
  | .divu p => Sys2Proof.Machine.execDivu p s
  | .remu p => Sys2Proof.Machine.execRemu p s
  | .min p => Sys2Proof.Machine.execMin p s
  | .max p => Sys2Proof.Machine.execMax p s
  | .minu p => Sys2Proof.Machine.execMinu p s
  | .maxu p => Sys2Proof.Machine.execMaxu p s
  | .cmp p => Sys2Proof.Machine.execCmp p s
  | .pand p => Sys2Proof.Machine.execPand p s
  | .por p => Sys2Proof.Machine.execPor p s
  | .pxor p => Sys2Proof.Machine.execPxor p s
  | .pandn p => Sys2Proof.Machine.execPandn p s
  | .pnot p => Sys2Proof.Machine.execPnot p s
  | .ptos p => Sys2Proof.Machine.execPtos p s
  | .aluStop p => Sys2Proof.Machine.execAluStop p s
  | .mflc p => Sys2Proof.Machine.execMflc p s
  | .mfcb p => Sys2Proof.Machine.execMfcb p s
  | .rdid p => Sys2Proof.Machine.execRdid p s
  | .rdtime p => Sys2Proof.Machine.execRdtime p s
  | .rdframe p => Sys2Proof.Machine.execRdframe p s
  | .setcls p => Sys2Proof.Machine.execSetcls p s
  | .jr p => Sys2Proof.Machine.execJr p s
  | .jrl p => Sys2Proof.Machine.execJrl p s
  | .fence p => Sys2Proof.Machine.execFence p s
  | .halt p => Sys2Proof.Machine.execHalt p s
  | .addi p => Sys2Proof.Machine.execAddi p s
  | .andi p => Sys2Proof.Machine.execAndi p s
  | .ori p => Sys2Proof.Machine.execOri p s
  | .xori p => Sys2Proof.Machine.execXori p s
  | .shi p => Sys2Proof.Machine.execShi p s
  | .cmpi p => Sys2Proof.Machine.execCmpi p s
  | .cmpiu p => Sys2Proof.Machine.execCmpiu p s
  | .movi p => Sys2Proof.Machine.execMovi p s
  | .insi p => Sys2Proof.Machine.execInsi p s
  | .ld p => Sys2Proof.Machine.execLd p s
  | .st p => Sys2Proof.Machine.execSt p s
  | .lds p => Sys2Proof.Machine.execLds p s
  | .sts p => Sys2Proof.Machine.execSts p s
  | .loadReturn p k => Sys2Proof.Machine.execLoadReturn p k s
  | .storeAck p k => Sys2Proof.Machine.execStoreAck p k s
  | .br p => Sys2Proof.Machine.execBr p s
  | .brl p => Sys2Proof.Machine.execBrl p s
  | .cskip p => Sys2Proof.Machine.execCskip p s
  | .loop p => Sys2Proof.Machine.execLoop p s
  | .loopi p => Sys2Proof.Machine.execLoopi p s
  | .cbw p => Sys2Proof.Machine.execCbw p s
  | .cbwh p => Sys2Proof.Machine.execCbwh p s
  | .cbins p => Sys2Proof.Machine.execCbins p s
  | .qsend p => Sys2Proof.Machine.execQsend p s
  | .qsendm p => Sys2Proof.Machine.execQsendm p s
  | .qfree p => Sys2Proof.Machine.execQfree p s
  | .mload p => Sys2Proof.Machine.execMload p s
  | .mloadStart p => Sys2Proof.Machine.execMloadStart p s
  | .mpass p => Sys2Proof.Machine.execMpass p s
  | .mpassStart p => Sys2Proof.Machine.execMpassStart p s
  | .mdrain p => Sys2Proof.Machine.execMdrain p s
  | .mdrainStart p => Sys2Proof.Machine.execMdrainStart p s
  | .rampStep p => Sys2Proof.Machine.execRampStep p s
  | .holdExpiry p => Sys2Proof.Machine.execHoldExpiry p s
  | .gateBoundary d => Sys2Proof.Machine.execGateBoundary d s
  | .vlaunch p => Sys2Proof.Machine.execVlaunch p s
  | .dcopy p => Sys2Proof.Machine.execDcopy p s
  | .dgather p => Sys2Proof.Machine.execDgather p s
  | .fsend p => Sys2Proof.Machine.execFsend p s
  | .xdispatch p => Sys2Proof.Machine.execXdispatch p s
  | .countTable d k => Sys2Proof.Machine.execCountTable d k s
  | .placement d k => Sys2Proof.Machine.execPlacement d k s
  | .xcombine p => Sys2Proof.Machine.execXcombine p s
  | .sfence p => Sys2Proof.Machine.execSfence p s
  | .barrier p => Sys2Proof.Machine.execBarrier p s
  | .barrierRelease chip d => Sys2Proof.Machine.execBarrierRelease chip d s
  | .frameEnd p => Sys2Proof.Machine.execFrameEnd p s
  | .commandComplete p k => Sys2Proof.Machine.execCommandComplete p k s
  | .iadd p g => Sys2Proof.Machine.execIadd p g s
  | .isub p g => Sys2Proof.Machine.execIsub p g s
  | .imul p g => Sys2Proof.Machine.execImul p g s
  | .imad p g => Sys2Proof.Machine.execImad p g s
  | .vxAnd p g => Sys2Proof.Machine.execVxAnd p g s
  | .vxOr p g => Sys2Proof.Machine.execVxOr p g s
  | .vxXor p g => Sys2Proof.Machine.execVxXor p g s
  | .shl p g => Sys2Proof.Machine.execShl p g s
  | .shr p g => Sys2Proof.Machine.execShr p g s
  | .vxMin p g => Sys2Proof.Machine.execVxMin p g s
  | .vxMax p g => Sys2Proof.Machine.execVxMax p g s
  | .sel p g => Sys2Proof.Machine.execSel p g s
  | .vxMovi p g => Sys2Proof.Machine.execVxMovi p g s
  | .iaddi p g => Sys2Proof.Machine.execIaddi p g s
  | .fadd p g => Sys2Proof.Machine.execFadd p g s
  | .fmul p g => Sys2Proof.Machine.execFmul p g s
  | .ffma p g => Sys2Proof.Machine.execFfma p g s
  | .fmin p g => Sys2Proof.Machine.execFmin p g s
  | .fmax p g => Sys2Proof.Machine.execFmax p g s
  | .frcp p g => Sys2Proof.Machine.execFrcp p g s
  | .frsq p g => Sys2Proof.Machine.execFrsq p g s
  | .fexp2 p g => Sys2Proof.Machine.execFexp2 p g s
  | .flog2 p g => Sys2Proof.Machine.execFlog2 p g s
  | .cvt p g => Sys2Proof.Machine.execCvt p g s
  | .setp p g => Sys2Proof.Machine.execSetp p g s
  | .plop p g => Sys2Proof.Machine.execPlop p g s
  | .vote p g => Sys2Proof.Machine.execVote p g s
  | .shfl p g => Sys2Proof.Machine.execShfl p g s
  | .vxLd p g => Sys2Proof.Machine.execVxLd p g s
  | .vxSt p g => Sys2Proof.Machine.execVxSt p g s
  | .red p g => Sys2Proof.Machine.execRed p g s
  | .bra p g => Sys2Proof.Machine.execBra p g s
  | .join p g => Sys2Proof.Machine.execJoin p g s
  | .barG p g => Sys2Proof.Machine.execBarG p g s
  | .barB p g => Sys2Proof.Machine.execBarB p g s
  | .exit p g => Sys2Proof.Machine.execExit p g s
  | .rdsr p g => Sys2Proof.Machine.execRdsr p g s
  | .gmma p g => Sys2Proof.Machine.execGmma p g s
  | .vxLoadReturn p g k => Sys2Proof.Machine.execVxLoadReturn p g k s
  | .groupRetire p g => Sys2Proof.Machine.execGroupRetire p g s
  | .bankWake p b => Sys2Proof.Machine.execBankWake p b s
  | .spOwnWrite src p b v => Sys2Proof.Machine.execSpOwnWrite src p b v s
  | .cloveStart src p v => Sys2Proof.Machine.execCloveStart src p v s
  | .cloveDone slice n fail row => Sys2Proof.Machine.execCloveDone slice n fail row s
  | .sliceRequest n wires => Sys2Proof.Machine.execSliceRequest n wires s
  | .lineFill n k => Sys2Proof.Machine.execLineFill n k s
  | .resolve n k => Sys2Proof.Machine.execResolve n k s
  | .inv p => Sys2Proof.Machine.execInv p s
  | .invAck n => Sys2Proof.Machine.execInvAck n s
  | .prefetch n => Sys2Proof.Machine.execPrefetch n s
  | .requestRetry n => Sys2Proof.Machine.execRequestRetry n s
  | .heldAdmit d bank => Sys2Proof.Machine.execHeldAdmit d bank s
  | .pin src d v => Sys2Proof.Machine.execPin src d v s
  | .unpin src d v => Sys2Proof.Machine.execUnpin src d v s
  | .pinDone d e => Sys2Proof.Machine.execPinDone d e s
  | .sweepEnd n => Sys2Proof.Machine.execSweepEnd n s
  | .retired n unreadable => Sys2Proof.Machine.execRetired n unreadable s
  | .scrubVisit memc n => Sys2Proof.Machine.execScrubVisit memc n s
  | .lineRequest d => Sys2Proof.Machine.execLineRequest d s
  | .keyFetch d h => Sys2Proof.Machine.execKeyFetch d h s
  | .checkMiss d => Sys2Proof.Machine.execCheckMiss d s
  | .refresh d c => Sys2Proof.Machine.execRefresh d c s
  | .mr4Read d mults hot => Sys2Proof.Machine.execMr4Read d mults hot s
  | .driftTrack d c exceeds => Sys2Proof.Machine.execDriftTrack d c exceeds s
  | .channelTraining d pass => Sys2Proof.Machine.execChannelTraining d pass s
  | .lock src => Sys2Proof.Machine.execLock src s
  | .hostWindowAccess port w data len => Sys2Proof.Machine.execHostWindowAccess port w data len s
  | .errorReport r => Sys2Proof.Machine.execErrorReport r s
  | .ceTableUpdate c unit addr syndrome => Sys2Proof.Machine.execCeTableUpdate c unit addr syndrome s
  | .pop src => Sys2Proof.Machine.execPop src s
  | .fatalSet src => Sys2Proof.Machine.execFatalSet src s
  | .errorInject src v => Sys2Proof.Machine.execErrorInject src v s
  | .bondWindow n wires => Sys2Proof.Machine.execBondWindow n wires s
  | .provOpen m => Sys2Proof.Machine.execProvOpen m s
  | .provImport m => Sys2Proof.Machine.execProvImport m s
  | .sessionTimeout k => Sys2Proof.Machine.execSessionTimeout k s
  | .revoke m => Sys2Proof.Machine.execRevoke m s
  | .bindReq src v => Sys2Proof.Machine.execBindReq src v s
  | .entropyFail ok => Sys2Proof.Machine.execEntropyFail ok s
  | .attest m => Sys2Proof.Machine.execAttest m s
  | .getCerts m => Sys2Proof.Machine.execGetCerts m s
  | .getInfo m => Sys2Proof.Machine.execGetInfo m s
  | .respRead m => Sys2Proof.Machine.execRespRead m s
  | .fwLoadBegin m => Sys2Proof.Machine.execFwLoadBegin m s
  | .fwLoadData m => Sys2Proof.Machine.execFwLoadData m s
  | .fwLoadDma m data => Sys2Proof.Machine.execFwLoadDma m data s
  | .fwLoadEnd m => Sys2Proof.Machine.execFwLoadEnd m s
  | .fwFlashWrite m => Sys2Proof.Machine.execFwFlashWrite m s
  | .svnCommit m => Sys2Proof.Machine.execSvnCommit m s
  | .authHandover m => Sys2Proof.Machine.execAuthHandover m s
  | .authClaim m => Sys2Proof.Machine.execAuthClaim m s
  | .telemetryRead m => Sys2Proof.Machine.execTelemetryRead m s
  | .logRead m => Sys2Proof.Machine.execLogRead m s
  | .deviceReset m => Sys2Proof.Machine.execDeviceReset m s
  | .sidebandRead a n => Sys2Proof.Machine.execSidebandRead a n s
  | .channelEnable src h v => Sys2Proof.Machine.execChannelEnable src h v s
  | .channelReset src h => Sys2Proof.Machine.execChannelReset src h s
  | .chanOwner src port j v => Sys2Proof.Machine.execChanOwner src port j v s
  | .linkDown port => Sys2Proof.Machine.execLinkDown port s
  | .hotReset port => Sys2Proof.Machine.execHotReset port s
  | .perst port => Sys2Proof.Machine.execPerst port s
  | .pfFlr port => Sys2Proof.Machine.execPfFlr port s
  | .vfFlr port vf => Sys2Proof.Machine.execVfFlr port vf s
  | .l1Entry port => Sys2Proof.Machine.execL1Entry port s
  | .data p k => Sys2Proof.Machine.execData p k s
  | .landingComplete k => Sys2Proof.Machine.execLandingComplete k s
  | .landed p k => Sys2Proof.Machine.execLanded p k s
  | .commitToken p k => Sys2Proof.Machine.execCommitToken p k s
  | .abortMarker p k => Sys2Proof.Machine.execAbortMarker p k s
  | .slotFree p k => Sys2Proof.Machine.execSlotFree p k s
  | .ctrl p k => Sys2Proof.Machine.execCtrl p k s
  | .hello p k ok => Sys2Proof.Machine.execHello p k ok s
  | .rekey p k ok => Sys2Proof.Machine.execRekey p k ok s
  | .rekeyTrigger p => Sys2Proof.Machine.execRekeyTrigger p s
  | .lane p k => Sys2Proof.Machine.execLane p k s
  | .retryTimeout p => Sys2Proof.Machine.execRetryTimeout p s
  | .busyResend p t => Sys2Proof.Machine.execBusyResend p t s
  | .landedTimeout p t => Sys2Proof.Machine.execLandedTimeout p t s
  | .slotZeroed p k => Sys2Proof.Machine.execSlotZeroed p k s
  | .laneCheck p counts lost => Sys2Proof.Machine.execLaneCheck p counts lost s
  | .portTraining p good session credits => Sys2Proof.Machine.execPortTraining p good session credits s
  | .fabEnable src p => Sys2Proof.Machine.execFabEnable src p s
  | .retrainAll src => Sys2Proof.Machine.execRetrainAll src s
  | .minsenseFrame readings fall rise => Sys2Proof.Machine.execMinsenseFrame readings fall rise s
  | .fastGuard ma dist uj => Sys2Proof.Machine.execFastGuard ma dist uj s
  | .limiterWindow rails doms mw => Sys2Proof.Machine.execLimiterWindow rails doms mw s
  | .cellFail d c => Sys2Proof.Machine.execCellFail d c s
  | .domainRequest src n v => Sys2Proof.Machine.execDomainRequest src n v s
  | .switchStep n => Sys2Proof.Machine.execSwitchStep n s
  | .switchDone n fails => Sys2Proof.Machine.execSwitchDone n fails s
  | .voltageRaised => Sys2Proof.Machine.execVoltageRaised s
  | .hkChannel v => Sys2Proof.Machine.execHkChannel v s
  | .roundEnd => Sys2Proof.Machine.execRoundEnd s
  | .logAppend => Sys2Proof.Machine.execLogAppend s
  | .powerOn => Sys2Proof.Machine.execPowerOn s
  | .powerDown => Sys2Proof.Machine.execPowerDown s
  | .sysReset => Sys2Proof.Machine.execSysReset s
  | .resetKey src v => Sys2Proof.Machine.execResetKey src v s
  | .refclkLost k => Sys2Proof.Machine.execRefclkLost k s
  | .bootRom fails flash => Sys2Proof.Machine.execBootRom fails flash s
  | .bringUp => Sys2Proof.Machine.execBringUp s
  | .bondFieldTraining bad => Sys2Proof.Machine.execBondFieldTraining bad s
  | .externalMemoryTest single multi => Sys2Proof.Machine.execExternalMemoryTest single multi s
  | .cardamom sites slices cause => Sys2Proof.Machine.execCardamom sites slices cause s
  | .interruptDelivery => Sys2Proof.Machine.execInterruptDelivery s
  | .ack src c v => Sys2Proof.Machine.execAck src c v s
  | .stopReq src page => Sys2Proof.Machine.execStopReq src page s
  | .softReset src page => Sys2Proof.Machine.execSoftReset src page s
  | .tickCtrlEnable src v => Sys2Proof.Machine.execTickCtrlEnable src v s
  | .evtClear src page v => Sys2Proof.Machine.execEvtClear src page v s
  | .retire src d v => Sys2Proof.Machine.execRetire src d v s
  | .imemData src p v => Sys2Proof.Machine.execImemData src p v s
  | .rcRead src off => Sys2Proof.Machine.execRcRead src off s
  | .registerWrite src off size v => Sys2Proof.Machine.execRegisterWrite src off size v s
  | .illegalInstruction p => Sys2Proof.Machine.execIllegalInstruction p s
  | .illegalVectorEncoding p g => Sys2Proof.Machine.execIllegalVectorEncoding p g s
  | .linkUp port rate width => Sys2Proof.Machine.execLinkUp port rate width s
  | .refclkReturn k => Sys2Proof.Machine.execRefclkReturn k s
  | .channelRetrain d c ok => Sys2Proof.Machine.execChannelRetrain d c ok s
  | .backgroundLaneRetrain p ok => Sys2Proof.Machine.execBackgroundLaneRetrain p ok s
  | .badPacket p why k => Sys2Proof.Machine.execBadPacket p why k s
  | .rowIdleClose d bank => Sys2Proof.Machine.execRowIdleClose d bank s
  | .sidebandWrite a bytes => Sys2Proof.Machine.execSidebandWrite a bytes s
  | .configurationRequest port fn what v => Sys2Proof.Machine.execConfigurationRequest port fn what v s
  | .registerRead src off size => Sys2Proof.Machine.execRegisterRead src off size s

end Sys2Proof.Machine
end

