-- ==== Sys2Proof/Machine/Step.lean ====
section
/-! DEFINITION. One step of the device: the command at the front of the queue. -/

namespace Sys2Proof.Machine
open Sys2Proof

/-- One step: the command at the front of the queue takes effect on the state that holds the rest of the queue. On an empty queue the
block idles, and device time advances by one unit of 10 ns (DESIGN CHOICE, log entry 1). [DESIGN CHOICE, log entry 1] -/
def step (s : State) : Host.Outcome State Fault Refusal :=
  match s.pending with
  | [] => .next { s with time := s.time + 1 }
  | i :: rest => exec i { s with pending := rest }

/-- The state with the command that a word spells at the front of its queue; unchanged where the word spells none. [DESIGN CHOICE, log entry 4] -/
def State.withFetchWord (s : State) (nbits w : Nat) : State :=
  match decodeTableWord nbits w with
  | some i => { s with pending := i :: s.pending }
  | none => s

end Sys2Proof.Machine
end

