-- ==== Sys2Proof/WellFormed.lean ====
section
/-! DEFINITION. Well-formed commands: those that name a unit and a source that the device has. -/

namespace Sys2Proof

/-- Whether a page index is one of the BAR0 map's pages (R487). -/
def pageExists (i : Nat) : Bool :=
  decide (i < 0xC) || (decide (0x10 ≤ i) && decide (i < 0x2E)) || (decide (0x30 ≤ i) && decide (i < 0x42))
    || (decide (0x50 ≤ i) && decide (i < 0x58)) || (decide (0x60 ≤ i) && decide (i < 0x190)) || (decide (0x200 ≤ i) && decide (i < 0x420))

/-- Whether a source is a function of one of the two ports, or a management core (R357, R360). -/
def sourceExists : Source → Bool
  | .pf port => decide (port < 2)
  | .vf port vf => decide (port < 2) && decide (vf < 16)
  | .mgmt => true

/-- The number of the unit that a command names, and how many units of its kind the device has (R2, R13, R19, R41, R66, R357, R381,
R420, R472); unit 0 of one where the command names none. -/
def Instr.unit : Instr → Nat × Nat
  | .tick _ => (0, 1)
  | .time p _ => (p, 8)
  | .tickIn => (0, 1)
  | .tickLost => (0, 1)
  | .frameEnded => (0, 1)
  | .activate _ n => (n, 1024)
  | .stop _ n => (n, 1024)
  | .abort _ n => (n, 1024)
  | .resume _ n => (n, 1024)
  | .release _ n => (n, 1024)
  | .contextEntryWrite _ n _ _ => (n, 1024)
  | .residentLoad n => (n, 1024)
  | .tailValue h _ => (h, 256)
  | .dueRead h _ => (h, 256)
  | .intakeFetch _ _ => (0, 1)
  | .imemLoad p => (p, 544)
  | .outputDelivery h => (h, 256)
  | .add p => (p, 544)
  | .sub p => (p, 544)
  | .and p => (p, 544)
  | .or p => (p, 544)
  | .xor p => (p, 544)
  | .andn p => (p, 544)
  | .sll p => (p, 544)
  | .srl p => (p, 544)
  | .sra p => (p, 544)
  | .mul p => (p, 544)
  | .mulhu p => (p, 544)
  | .divu p => (p, 544)
  | .remu p => (p, 544)
  | .min p => (p, 544)
  | .max p => (p, 544)
  | .minu p => (p, 544)
  | .maxu p => (p, 544)
  | .cmp p => (p, 544)
  | .pand p => (p, 544)
  | .por p => (p, 544)
  | .pxor p => (p, 544)
  | .pandn p => (p, 544)
  | .pnot p => (p, 544)
  | .ptos p => (p, 544)
  | .aluStop p => (p, 544)
  | .mflc p => (p, 544)
  | .mfcb p => (p, 544)
  | .rdid p => (p, 544)
  | .rdtime p => (p, 544)
  | .rdframe p => (p, 544)
  | .setcls p => (p, 544)
  | .jr p => (p, 544)
  | .jrl p => (p, 544)
  | .fence p => (p, 544)
  | .halt p => (p, 544)
  | .addi p => (p, 544)
  | .andi p => (p, 544)
  | .ori p => (p, 544)
  | .xori p => (p, 544)
  | .shi p => (p, 544)
  | .cmpi p => (p, 544)
  | .cmpiu p => (p, 544)
  | .movi p => (p, 544)
  | .insi p => (p, 544)
  | .ld p => (p, 544)
  | .st p => (p, 544)
  | .lds p => (p, 544)
  | .sts p => (p, 544)
  | .loadReturn p _ => (p, 544)
  | .storeAck p _ => (p, 544)
  | .br p => (p, 544)
  | .brl p => (p, 544)
  | .cskip p => (p, 544)
  | .loop p => (p, 544)
  | .loopi p => (p, 544)
  | .cbw p => (p, 544)
  | .cbwh p => (p, 544)
  | .cbins p => (p, 544)
  | .qsend p => (p, 544)
  | .qsendm p => (p, 544)
  | .qfree p => (p, 544)
  | .mload p => (p, 544)
  | .mloadStart p => (p, 544)
  | .mpass p => (p, 544)
  | .mpassStart p => (p, 544)
  | .mdrain p => (p, 544)
  | .mdrainStart p => (p, 544)
  | .rampStep p => (p, 544)
  | .holdExpiry p => (p, 544)
  | .gateBoundary d => (d, 16)
  | .vlaunch p => (p, 544)
  | .dcopy p => (p, 544)
  | .dgather p => (p, 544)
  | .fsend p => (p, 544)
  | .xdispatch p => (p, 544)
  | .countTable d _ => (d, 16)
  | .placement d _ => (d, 16)
  | .xcombine p => (p, 544)
  | .sfence p => (p, 544)
  | .barrier p => (p, 544)
  | .barrierRelease _ d => (d, 16)
  | .frameEnd p => (p, 544)
  | .commandComplete p _ => (p, 544)
  | .iadd p _ => (p, 544)
  | .isub p _ => (p, 544)
  | .imul p _ => (p, 544)
  | .imad p _ => (p, 544)
  | .vxAnd p _ => (p, 544)
  | .vxOr p _ => (p, 544)
  | .vxXor p _ => (p, 544)
  | .shl p _ => (p, 544)
  | .shr p _ => (p, 544)
  | .vxMin p _ => (p, 544)
  | .vxMax p _ => (p, 544)
  | .sel p _ => (p, 544)
  | .vxMovi p _ => (p, 544)
  | .iaddi p _ => (p, 544)
  | .fadd p _ => (p, 544)
  | .fmul p _ => (p, 544)
  | .ffma p _ => (p, 544)
  | .fmin p _ => (p, 544)
  | .fmax p _ => (p, 544)
  | .frcp p _ => (p, 544)
  | .frsq p _ => (p, 544)
  | .fexp2 p _ => (p, 544)
  | .flog2 p _ => (p, 544)
  | .cvt p _ => (p, 544)
  | .setp p _ => (p, 544)
  | .plop p _ => (p, 544)
  | .vote p _ => (p, 544)
  | .shfl p _ => (p, 544)
  | .vxLd p _ => (p, 544)
  | .vxSt p _ => (p, 544)
  | .red p _ => (p, 544)
  | .bra p _ => (p, 544)
  | .join p _ => (p, 544)
  | .barG p _ => (p, 544)
  | .barB p _ => (p, 544)
  | .exit p _ => (p, 544)
  | .rdsr p _ => (p, 544)
  | .gmma p _ => (p, 544)
  | .vxLoadReturn p _ _ => (p, 544)
  | .groupRetire p _ => (p, 544)
  | .bankWake p _ => (p, 544)
  | .spOwnWrite _ p _ _ => (p, 544)
  | .cloveStart _ p _ => (p, 544)
  | .cloveDone slice n _ _ => (n, if slice then 128 else 544)
  | .sliceRequest n _ => (n, 128)
  | .lineFill n _ => (n, 128)
  | .resolve n _ => (n, 128)
  | .inv p => (p, 544)
  | .invAck n => (n, 128)
  | .prefetch n => (n, 128)
  | .requestRetry n => (n, 128)
  | .heldAdmit d _ => (d, 16)
  | .pin _ d _ => (d, 16)
  | .unpin _ d _ => (d, 16)
  | .pinDone d _ => (d, 16)
  | .sweepEnd n => (n, 128)
  | .retired n _ => (n, 128)
  | .scrubVisit memc n => (n, if memc then 16 else 128)
  | .lineRequest d => (d, 16)
  | .keyFetch d _ => (d, 16)
  | .checkMiss d => (d, 16)
  | .refresh d _ => (d, 16)
  | .mr4Read d _ _ => (d, 16)
  | .driftTrack d _ _ => (d, 16)
  | .channelTraining d _ => (d, 16)
  | .lock _ => (0, 1)
  | .hostWindowAccess port _ _ _ => (port, 2)
  | .errorReport _ => (0, 1)
  | .ceTableUpdate c _ _ _ => (c, 6)
  | .pop _ => (0, 1)
  | .fatalSet _ => (0, 1)
  | .errorInject _ _ => (0, 1)
  | .bondWindow n _ => (n, 144)
  | .provOpen m => (m, 3)
  | .provImport m => (m, 3)
  | .sessionTimeout _ => (0, 1)
  | .revoke m => (m, 3)
  | .bindReq _ _ => (0, 1)
  | .entropyFail _ => (0, 1)
  | .attest m => (m, 3)
  | .getCerts m => (m, 3)
  | .getInfo m => (m, 3)
  | .respRead m => (m, 3)
  | .fwLoadBegin m => (m, 3)
  | .fwLoadData m => (m, 3)
  | .fwLoadDma m _ => (m, 3)
  | .fwLoadEnd m => (m, 3)
  | .fwFlashWrite m => (m, 3)
  | .svnCommit m => (m, 3)
  | .authHandover m => (m, 3)
  | .authClaim m => (m, 3)
  | .telemetryRead m => (m, 3)
  | .logRead m => (m, 3)
  | .deviceReset m => (m, 3)
  | .sidebandRead _ _ => (0, 1)
  | .channelEnable _ h _ => (h, 256)
  | .channelReset _ h => (h, 256)
  | .chanOwner _ port _ _ => (port, 2)
  | .linkDown port => (port, 2)
  | .hotReset port => (port, 2)
  | .perst port => (port, 2)
  | .pfFlr port => (port, 2)
  | .vfFlr port _ => (port, 2)
  | .l1Entry port => (port, 2)
  | .data p _ => (p, 8)
  | .landingComplete _ => (0, 1)
  | .landed p _ => (p, 8)
  | .commitToken p _ => (p, 8)
  | .abortMarker p _ => (p, 8)
  | .slotFree p _ => (p, 8)
  | .ctrl p _ => (p, 8)
  | .hello p _ _ => (p, 8)
  | .rekey p _ _ => (p, 8)
  | .rekeyTrigger p => (p, 8)
  | .lane p _ => (p, 8)
  | .retryTimeout p => (p, 8)
  | .busyResend p _ => (p, 8)
  | .landedTimeout p _ => (p, 8)
  | .slotZeroed i _ => (i, 16)
  | .laneCheck p _ _ => (p, 8)
  | .portTraining p _ _ _ => (p, 8)
  | .fabEnable _ p => (p, 8)
  | .retrainAll _ => (0, 1)
  | .minsenseFrame _ _ _ => (0, 1)
  | .fastGuard _ _ _ => (0, 1)
  | .limiterWindow _ _ _ => (0, 1)
  | .cellFail d _ => (d, 16)
  | .domainRequest _ n _ => (n, 30)
  | .switchStep n => (n, 30)
  | .switchDone n _ => (n, 30)
  | .voltageRaised => (0, 1)
  | .hkChannel _ => (0, 1)
  | .roundEnd => (0, 1)
  | .logAppend => (0, 1)
  | .powerOn => (0, 1)
  | .powerDown => (0, 1)
  | .sysReset => (0, 1)
  | .resetKey _ _ => (0, 1)
  | .refclkLost k => (k, 4)
  | .bootRom _ _ => (0, 1)
  | .bringUp => (0, 1)
  | .bondFieldTraining _ => (0, 1)
  | .externalMemoryTest _ _ => (0, 1)
  | .cardamom _ _ _ => (0, 1)
  | .interruptDelivery => (0, 1)
  | .ack _ c _ => (c, 4)
  | .stopReq _ page => (if pageExists page then 0 else 1, 1)
  | .softReset _ page => (if pageExists page then 0 else 1, 1)
  | .tickCtrlEnable _ _ => (0, 1)
  | .evtClear _ page _ => (if pageExists page then 0 else 1, 1)
  | .retire _ d _ => (d, 16)
  | .imemData _ p _ => (p, 544)
  | .rcRead _ _ => (0, 1)
  | .registerWrite _ _ _ _ => (0, 1)
  | .illegalInstruction p => (p, 544)
  | .illegalVectorEncoding p _ => (p, 544)
  | .linkUp port _ _ => (port, 2)
  | .refclkReturn k => (k, 4)
  | .channelRetrain d _ _ => (d, 16)
  | .backgroundLaneRetrain p _ => (p, 8)
  | .badPacket p _ _ => (p, 8)
  | .rowIdleClose d _ => (d, 16)
  | .sidebandWrite _ _ => (0, 1)
  | .configurationRequest port _ _ _ => (port, 2)
  | .registerRead _ _ _ => (0, 1)

/-- The source of a command's write or read; the management cores where it names none. -/
def Instr.source : Instr → Source
  | .tick _ => .mgmt
  | .time _ _ => .mgmt
  | .tickIn => .mgmt
  | .tickLost => .mgmt
  | .frameEnded => .mgmt
  | .activate src _ => src
  | .stop src _ => src
  | .abort src _ => src
  | .resume src _ => src
  | .release src _ => src
  | .contextEntryWrite src _ _ _ => src
  | .residentLoad _ => .mgmt
  | .tailValue _ _ => .mgmt
  | .dueRead _ _ => .mgmt
  | .intakeFetch _ _ => .mgmt
  | .imemLoad _ => .mgmt
  | .outputDelivery _ => .mgmt
  | .add _ => .mgmt
  | .sub _ => .mgmt
  | .and _ => .mgmt
  | .or _ => .mgmt
  | .xor _ => .mgmt
  | .andn _ => .mgmt
  | .sll _ => .mgmt
  | .srl _ => .mgmt
  | .sra _ => .mgmt
  | .mul _ => .mgmt
  | .mulhu _ => .mgmt
  | .divu _ => .mgmt
  | .remu _ => .mgmt
  | .min _ => .mgmt
  | .max _ => .mgmt
  | .minu _ => .mgmt
  | .maxu _ => .mgmt
  | .cmp _ => .mgmt
  | .pand _ => .mgmt
  | .por _ => .mgmt
  | .pxor _ => .mgmt
  | .pandn _ => .mgmt
  | .pnot _ => .mgmt
  | .ptos _ => .mgmt
  | .aluStop _ => .mgmt
  | .mflc _ => .mgmt
  | .mfcb _ => .mgmt
  | .rdid _ => .mgmt
  | .rdtime _ => .mgmt
  | .rdframe _ => .mgmt
  | .setcls _ => .mgmt
  | .jr _ => .mgmt
  | .jrl _ => .mgmt
  | .fence _ => .mgmt
  | .halt _ => .mgmt
  | .addi _ => .mgmt
  | .andi _ => .mgmt
  | .ori _ => .mgmt
  | .xori _ => .mgmt
  | .shi _ => .mgmt
  | .cmpi _ => .mgmt
  | .cmpiu _ => .mgmt
  | .movi _ => .mgmt
  | .insi _ => .mgmt
  | .ld _ => .mgmt
  | .st _ => .mgmt
  | .lds _ => .mgmt
  | .sts _ => .mgmt
  | .loadReturn _ _ => .mgmt
  | .storeAck _ _ => .mgmt
  | .br _ => .mgmt
  | .brl _ => .mgmt
  | .cskip _ => .mgmt
  | .loop _ => .mgmt
  | .loopi _ => .mgmt
  | .cbw _ => .mgmt
  | .cbwh _ => .mgmt
  | .cbins _ => .mgmt
  | .qsend _ => .mgmt
  | .qsendm _ => .mgmt
  | .qfree _ => .mgmt
  | .mload _ => .mgmt
  | .mloadStart _ => .mgmt
  | .mpass _ => .mgmt
  | .mpassStart _ => .mgmt
  | .mdrain _ => .mgmt
  | .mdrainStart _ => .mgmt
  | .rampStep _ => .mgmt
  | .holdExpiry _ => .mgmt
  | .gateBoundary _ => .mgmt
  | .vlaunch _ => .mgmt
  | .dcopy _ => .mgmt
  | .dgather _ => .mgmt
  | .fsend _ => .mgmt
  | .xdispatch _ => .mgmt
  | .countTable _ _ => .mgmt
  | .placement _ _ => .mgmt
  | .xcombine _ => .mgmt
  | .sfence _ => .mgmt
  | .barrier _ => .mgmt
  | .barrierRelease _ _ => .mgmt
  | .frameEnd _ => .mgmt
  | .commandComplete _ _ => .mgmt
  | .iadd _ _ => .mgmt
  | .isub _ _ => .mgmt
  | .imul _ _ => .mgmt
  | .imad _ _ => .mgmt
  | .vxAnd _ _ => .mgmt
  | .vxOr _ _ => .mgmt
  | .vxXor _ _ => .mgmt
  | .shl _ _ => .mgmt
  | .shr _ _ => .mgmt
  | .vxMin _ _ => .mgmt
  | .vxMax _ _ => .mgmt
  | .sel _ _ => .mgmt
  | .vxMovi _ _ => .mgmt
  | .iaddi _ _ => .mgmt
  | .fadd _ _ => .mgmt
  | .fmul _ _ => .mgmt
  | .ffma _ _ => .mgmt
  | .fmin _ _ => .mgmt
  | .fmax _ _ => .mgmt
  | .frcp _ _ => .mgmt
  | .frsq _ _ => .mgmt
  | .fexp2 _ _ => .mgmt
  | .flog2 _ _ => .mgmt
  | .cvt _ _ => .mgmt
  | .setp _ _ => .mgmt
  | .plop _ _ => .mgmt
  | .vote _ _ => .mgmt
  | .shfl _ _ => .mgmt
  | .vxLd _ _ => .mgmt
  | .vxSt _ _ => .mgmt
  | .red _ _ => .mgmt
  | .bra _ _ => .mgmt
  | .join _ _ => .mgmt
  | .barG _ _ => .mgmt
  | .barB _ _ => .mgmt
  | .exit _ _ => .mgmt
  | .rdsr _ _ => .mgmt
  | .gmma _ _ => .mgmt
  | .vxLoadReturn _ _ _ => .mgmt
  | .groupRetire _ _ => .mgmt
  | .bankWake _ _ => .mgmt
  | .spOwnWrite src _ _ _ => src
  | .cloveStart src _ _ => src
  | .cloveDone _ _ _ _ => .mgmt
  | .sliceRequest _ _ => .mgmt
  | .lineFill _ _ => .mgmt
  | .resolve _ _ => .mgmt
  | .inv _ => .mgmt
  | .invAck _ => .mgmt
  | .prefetch _ => .mgmt
  | .requestRetry _ => .mgmt
  | .heldAdmit _ _ => .mgmt
  | .pin src _ _ => src
  | .unpin src _ _ => src
  | .pinDone _ _ => .mgmt
  | .sweepEnd _ => .mgmt
  | .retired _ _ => .mgmt
  | .scrubVisit _ _ => .mgmt
  | .lineRequest _ => .mgmt
  | .keyFetch _ _ => .mgmt
  | .checkMiss _ => .mgmt
  | .refresh _ _ => .mgmt
  | .mr4Read _ _ _ => .mgmt
  | .driftTrack _ _ _ => .mgmt
  | .channelTraining _ _ => .mgmt
  | .lock src => src
  | .hostWindowAccess _ _ _ _ => .mgmt
  | .errorReport _ => .mgmt
  | .ceTableUpdate _ _ _ _ => .mgmt
  | .pop src => src
  | .fatalSet src => src
  | .errorInject src _ => src
  | .bondWindow _ _ => .mgmt
  | .provOpen _ => .mgmt
  | .provImport _ => .mgmt
  | .sessionTimeout _ => .mgmt
  | .revoke _ => .mgmt
  | .bindReq src _ => src
  | .entropyFail _ => .mgmt
  | .attest _ => .mgmt
  | .getCerts _ => .mgmt
  | .getInfo _ => .mgmt
  | .respRead _ => .mgmt
  | .fwLoadBegin _ => .mgmt
  | .fwLoadData _ => .mgmt
  | .fwLoadDma _ _ => .mgmt
  | .fwLoadEnd _ => .mgmt
  | .fwFlashWrite _ => .mgmt
  | .svnCommit _ => .mgmt
  | .authHandover _ => .mgmt
  | .authClaim _ => .mgmt
  | .telemetryRead _ => .mgmt
  | .logRead _ => .mgmt
  | .deviceReset _ => .mgmt
  | .sidebandRead _ _ => .mgmt
  | .channelEnable src _ _ => src
  | .channelReset src _ => src
  | .chanOwner src _ _ _ => src
  | .linkDown _ => .mgmt
  | .hotReset _ => .mgmt
  | .perst _ => .mgmt
  | .pfFlr _ => .mgmt
  | .vfFlr _ _ => .mgmt
  | .l1Entry _ => .mgmt
  | .data _ _ => .mgmt
  | .landingComplete _ => .mgmt
  | .landed _ _ => .mgmt
  | .commitToken _ _ => .mgmt
  | .abortMarker _ _ => .mgmt
  | .slotFree _ _ => .mgmt
  | .ctrl _ _ => .mgmt
  | .hello _ _ _ => .mgmt
  | .rekey _ _ _ => .mgmt
  | .rekeyTrigger _ => .mgmt
  | .lane _ _ => .mgmt
  | .retryTimeout _ => .mgmt
  | .busyResend _ _ => .mgmt
  | .landedTimeout _ _ => .mgmt
  | .slotZeroed _ _ => .mgmt
  | .laneCheck _ _ _ => .mgmt
  | .portTraining _ _ _ _ => .mgmt
  | .fabEnable src _ => src
  | .retrainAll src => src
  | .minsenseFrame _ _ _ => .mgmt
  | .fastGuard _ _ _ => .mgmt
  | .limiterWindow _ _ _ => .mgmt
  | .cellFail _ _ => .mgmt
  | .domainRequest src _ _ => src
  | .switchStep _ => .mgmt
  | .switchDone _ _ => .mgmt
  | .voltageRaised => .mgmt
  | .hkChannel _ => .mgmt
  | .roundEnd => .mgmt
  | .logAppend => .mgmt
  | .powerOn => .mgmt
  | .powerDown => .mgmt
  | .sysReset => .mgmt
  | .resetKey src _ => src
  | .refclkLost _ => .mgmt
  | .bootRom _ _ => .mgmt
  | .bringUp => .mgmt
  | .bondFieldTraining _ => .mgmt
  | .externalMemoryTest _ _ => .mgmt
  | .cardamom _ _ _ => .mgmt
  | .interruptDelivery => .mgmt
  | .ack src _ _ => src
  | .stopReq src _ => src
  | .softReset src _ => src
  | .tickCtrlEnable src _ => src
  | .evtClear src _ _ => src
  | .retire src _ _ => src
  | .imemData src _ _ => src
  | .rcRead src _ => src
  | .registerWrite src _ _ _ => src
  | .illegalInstruction _ => .mgmt
  | .illegalVectorEncoding _ _ => .mgmt
  | .linkUp _ _ _ => .mgmt
  | .refclkReturn _ => .mgmt
  | .channelRetrain _ _ _ => .mgmt
  | .backgroundLaneRetrain _ _ => .mgmt
  | .badPacket _ _ _ => .mgmt
  | .rowIdleClose _ _ => .mgmt
  | .sidebandWrite _ _ => .mgmt
  | .configurationRequest _ _ _ _ => .mgmt
  | .registerRead src _ _ => src

/-- A command names a unit and a source that exist. -/
def Instr.wellFormed (i : Instr) : Bool := decide (i.unit.1 < i.unit.2) && sourceExists i.source

end Sys2Proof
end

