-- ==== Sys2Proof/Safety.lean ====
section
/-! DEFINITION. What counts as a safe state and a safe run. -/

namespace Sys2Proof.Machine
open Sys2Proof

/-- A state is sound: its external memory is in canonical form. -/
def State.sound (s : State) : Bool := Memory.wf s.dram

/-- A run of commands is safe: every command of the queue is well formed. -/
def State.safeQueue (s : State) : Bool := s.pending.all (fun i => i.wellFormed)

end Sys2Proof.Machine
end

