-- ==== Sys2Proof/Certificates/Slice0/Obligations.lean ====
section
/-! DEFINITION. The statements for the provers, and the words that they share. -/

namespace Sys2Proof.Claims
open Sys2Proof Sys2Proof.Machine

/-! ### What a command leaves alone -/

/-- Nothing but register fields differs. -/
def onlyRegs (s t : State) : Prop := t = { s with regs := t.regs }

/-- Nothing but register fields and what the Blocks hold differs. -/
def onlyBlks (s t : State) : Prop := t = { s with regs := t.regs, blks := t.blks }

/-- Every Block but p is as before. -/
def blksBut (p : Nat) (s t : State) : Prop := ∀ q, q ≠ p → t.blk q = s.blk q

/-- Every register field is as before, except those with the keys listed. -/
def regsBut (ks : List Nat) (s t : State) : Prop :=
  ∀ pg u f i, keyAt pg u f i ∉ ks → t.rdAt pg u f i = s.rdAt pg u f i

/-- Key of copy i of a field of unit u. -/
def keyOf (f : Fld) (u i : Nat) : Nat := keyAt f.page u f i

/-- Key of the event bits of a page. -/
def evtKey (pg : Page) (u : Nat) : Nat := keyAt pg u F.HDR_EVT_STATUS 0

end Sys2Proof.Claims

open Sys2Proof Sys2Proof.Machine Sys2Proof.Claims

/-! ### The queue of commands -/

/-- A step with command c at the front of the queue is the effect of c on the state that holds the queue's rest. -/
def Obligations.StepRunsFrontCommand : Prop :=
  ∀ (c : Instr) (rest : List Instr) (s : State), s.pending = c :: rest → step s = exec c { s with pending := rest }

/-- Every command that names a unit and a source which exist is executed: exec answers a next state. Every other command stops with the
fault noSuchUnit, and no command is ever refused. The fault is the model's choice (log entry 2). -/
def Obligations.WellFormedCommandsExecute : Prop :=
  ∀ (c : Instr) (s : State), (c.wellFormed = true → ∃ t, exec c s = .next t) ∧ (c.wellFormed = false → exec c s = .fault .noSuchUnit)

/-! ### The control core -/

namespace Sys2Proof.Claims

/-- The pair of words at an offset of Block p's live half has no error (R298). -/
def wordClean (s : State) (p pc : Nat) : Prop :=
  ∀ x ∈ (s.blk p).im.bad ++ (s.blk p).im.soft, x / 2 ≠ (16384 * (s.blk p).im.live + pc / 4) / 2

/-- The word at the PC of Block p's core has no error. -/
def fetchClean (s : State) (p : Nat) : Prop := wordClean s p (s.blk p).core.pc.toNat

/-- The counter of a condition takes a free number of cycles (the model's choice, log entry 9). -/
def counted (s : State) (f : Fld) (p : Nat) : State := { (s.inc f p 0 (Config.freeNat s.free)) with free := s.free + 1 }

/-- The core of Block p is about to execute the instruction `op`: it is in a frame and not stopped, its word is free of errors and legal, and
no register that the instruction reads waits for a load. -/
def coreIssues (s : State) (p : Nat) (op : CoreOp) (reads : Nat → List Nat) : Prop :=
  p < nBlks ∧ s.coreLive p = true ∧ CC.decode (s.coreWord p) = some op ∧ fetchClean s p ∧ s.waitsLoad p (reads (s.coreWord p)) = false

/-- As coreIssues, with the guard predicate true. -/
def coreReady (s : State) (p : Nat) (op : CoreOp) (reads : Nat → List Nat) : Prop :=
  coreIssues s p op reads ∧ s.preg p (CC.guard (s.coreWord p)) = true

/-- No active loop ends at the instruction (R141). -/
def notAtEnd (s : State) (p : Nat) : Prop := (s.blk p).core.loops.any (fun l => l.2 == (s.blk p).core.pc.toNat) = false

/-- Where the core of Block p goes on after an instruction that transfers no control (R140): active loops, counters, offset. -/
def coreNext (s : State) (p : Nat) : List (Nat × Nat) × SMap Word × Nat :=
  loopTest (s.blk p).core.pc.toNat (s.blk p).core.loops (s.blk p).core.lc

/-- The core goes on inside the live half. -/
def goesOn (s : State) (p : Nat) : Prop := (coreNext s p).2.2 < 0x1_0000

/-- From s to t only the core of Block p changes, to `c`, and the Block's count of retired instructions takes one more, with the
register keys listed. -/
def coreBecomes (s t : State) (p : Nat) (c : Core) (ks : List Nat) : Prop :=
  onlyBlks s t ∧ blksBut p s t ∧ t.blk p = { s.blk p with core := c } ∧ regsBut (keyOf F.BLK_CC_RETIRED p 0 :: ks) s t
    ∧ t.rd F.BLK_CC_RETIRED p = satAdd (2 ^ F.BLK_CC_RETIRED.width - 1) (s.rd F.BLK_CC_RETIRED p) 1

/-- The core with the instruction completed: the loops tested, and the offset moved on. -/
def passed (s : State) (p : Nat) (c : Core) : Core :=
  { c with pc := BitVec.ofNat 16 (coreNext s p).2.2, loops := (coreNext s p).1, lc := (coreNext s p).2.1, stall := 0 }

/-- A core with s[r] written: s0 discards the write, and a load in flight to s[r] no longer writes it. -/
def withS (c : Core) (r v : Nat) : Core :=
  if r = 0 then c else { c with sreg := SMap.put r (BitVec.ofNat 64 v) c.sreg, loads := c.loads.map (fun l => if l.rd = r then { l with rd := 0 } else l) }

/-- A core with p[r] written: p0 discards the write. -/
def withP (c : Core) (r : Nat) (v : Bool) : Core := if r = 0 then c else { c with preg := SMap.put r v c.preg }

/-- A core instruction that writes one s register: the instruction, its operation, the registers that it reads, its destination and
the value, by its word. -/
structure SRow where
  i : Instr
  op : CoreOp
  reads : Nat → List Nat
  dest : Nat → Nat
  val : Nat → Nat

/-- The format A rows of the ALU (R129). -/
def aluRows (s : State) (p : Nat) : List SRow :=
  let rr (i : Instr) (op : CoreOp) (f : Nat → Nat → Nat) : SRow :=
    ⟨i, op, fun w => [CC.rs1 w, CC.rs2 w], CC.rd, fun w => f (s.sreg p (CC.rs1 w)) (s.sreg p (CC.rs2 w))⟩
  [rr (.add p) .add (fun a b => (a + b) % 2 ^ 64), rr (.sub p) .sub (fun a b => (a + (2 ^ 64 - b)) % 2 ^ 64),
   rr (.and p) .and Nat.land, rr (.or p) .or Nat.lor, rr (.xor p) .xor Nat.xor,
   rr (.andn p) .andn (fun a b => Nat.land a (2 ^ 64 - 1 - b)),
   rr (.sll p) .sll (fun a b => a * 2 ^ (b % 64) % 2 ^ 64), rr (.srl p) .srl (fun a b => a / 2 ^ (b % 64)),
   rr (.sra p) .sra (fun a b => to64 (s64 a / 2 ^ (b % 64))),
   rr (.mul p) .mul (fun a b => a * b % 2 ^ 64), rr (.mulhu p) .mulhu (fun a b => a * b / 2 ^ 64),
   rr (.divu p) .divu (fun a b => if b = 0 then 2 ^ 64 - 1 else a / b), rr (.remu p) .remu (fun a b => if b = 0 then a else a % b),
   rr (.min p) .min (fun a b => if s64 a < s64 b then a else b), rr (.max p) .max (fun a b => if s64 a < s64 b then b else a),
   rr (.minu p) .minu Nat.min, rr (.maxu p) .maxu Nat.max]

/-- The rows with an immediate, and the rows that read the state of the core, the Block or the device (R128, R129). -/
def readRows (s : State) (p : Nat) : List SRow :=
  let ri (i : Instr) (op : CoreOp) (f : Nat → Nat → Nat) : SRow := ⟨i, op, fun w => [CC.rs1 w], CC.rd, fun w => f (s.sreg p (CC.rs1 w)) w⟩
  let r0 (i : Instr) (op : CoreOp) (f : Nat → Nat) : SRow := ⟨i, op, fun _ => [], CC.rd, f⟩
  [ri (.addi p) .addi (fun a w => (a + to64 (CC.imm14 w)) % 2 ^ 64), ri (.andi p) .andi (fun a w => Nat.land a (bitsOf w 0 14)),
   ri (.ori p) .ori (fun a w => Nat.lor a (bitsOf w 0 14)), ri (.xori p) .xori (fun a w => Nat.xor a (bitsOf w 0 14)),
   ri (.shi p) .shi (fun a w => shift64 (bitsOf w 12 2) a (bitsOf w 0 6)),
   r0 (.movi p) .movi (fun w => to64 (CC.imm19 w)),
   ⟨.insi p, .insi, fun w => [CC.rd w], CC.rd, fun w => s.sreg p (CC.rd w) * 2 ^ 16 % 2 ^ 64 + bitsOf w 0 16⟩,
   r0 (.ptos p) .ptos (fun w => if s.preg p (CC.rs1 w % 8) then 1 else 0),
   r0 (.mflc p) .mflc (fun w => ((s.blk p).core.lc.get (CC.rs1 w % 4) 0).toNat),
   r0 (.mfcb p) .mfcb (fun w => ((s.blk p).core.cb.get (CC.rs1 w % 8) 0).toNat),
   r0 (.rdid p) .rdid (fun w => s.rdid p (CC.rs1 w)), r0 (.rdtime p) .rdtime (fun _ => s.time.toNat),
   r0 (.rdframe p) .rdframe (fun _ => s.rd F.TICK_FRAME_NUM_NUM),
   ⟨.qfree p, .qfree, fun _ => [], CC.qrs, fun w => 64 - ((s.blk p).q.entries (qOf (CC.q w))).length⟩]

/-- A core instruction that writes one predicate. -/
structure PRow where
  i : Instr
  op : CoreOp
  reads : Nat → List Nat
  dest : Nat → Nat
  val : Nat → Bool

/-- The conditions of R130: 0 EQ, 1 NE, 2 LT and 3 GE signed, 4 LTU and 5 GEU unsigned. -/
def condHolds (cond a b : Nat) : Bool :=
  if cond = 0 then decide (a = b)
  else if cond = 1 then decide (a ≠ b)
  else if cond = 2 then decide (s64 a < s64 b)
  else if cond = 3 then decide (s64 b ≤ s64 a)
  else if cond = 4 then decide (a < b) else decide (b ≤ a)

/-- The rows that write a predicate (R128 to R130). -/
def predRows (s : State) (p : Nat) : List PRow :=
  let pp (i : Instr) (op : CoreOp) (f : Bool → Bool → Bool) : PRow :=
    ⟨i, op, fun _ => [], fun w => CC.rd w % 8, fun w => f (s.preg p (CC.rs1 w % 8)) (s.preg p (CC.rs2 w % 8))⟩
  [⟨.cmp p, .cmp, fun w => [CC.rs1 w, CC.rs2 w], fun w => CC.rd w % 8,
      fun w => condHolds (CC.func w % 8) (s.sreg p (CC.rs1 w)) (s.sreg p (CC.rs2 w))⟩,
   ⟨.cmpi p, .cmpi, fun w => [CC.rs1 w], fun w => CC.rd w / 4, fun w => condHolds (CC.rd w % 4) (s.sreg p (CC.rs1 w)) (to64 (CC.imm14 w))⟩,
   ⟨.cmpiu p, .cmpiu, fun w => [CC.rs1 w], fun w => CC.rd w / 4,
      fun w => condHolds (if CC.rd w % 4 < 2 then CC.rd w % 4 else CC.rd w % 4 + 2) (s.sreg p (CC.rs1 w)) (to64 (CC.imm14 w))⟩,
   ⟨.aluStop p, .stop, fun w => [CC.rs1 w], fun w => CC.rd w % 8, fun w => s.sreg p (CC.rs1 w) != 0⟩,
   pp (.pand p) .pand and, pp (.por p) .por or, pp (.pxor p) .pxor xor, pp (.pandn p) .pandn (fun a b => a && !b),
   pp (.pnot p) .pnot (fun a _ => !a)]

end Sys2Proof.Claims

/-- The format A rows of the ALU, the immediate rows, the moves from predicates, loop counters and command-build words, RDID, RDTIME, RDFRAME
and QFREE write s[RD] with the value that R128 and R129 give, leave every other register, and go on; nothing else of the device changes but
the count of retired instructions. -/
def Obligations.CoreRowsWriteRegister : Prop :=
  ∀ (s : State) (p : Nat), ∀ r ∈ aluRows s p ++ readRows s p, coreReady s p r.op r.reads → goesOn s p →
    ∃ t, exec r.i s = .next t ∧ coreBecomes s t p (passed s p (withS (s.blk p).core (r.dest (s.coreWord p)) (r.val (s.coreWord p)))) []

/-- The comparisons and the operations on predicates write one predicate; p0 discards the write. -/
def Obligations.CorePredicateRowsWritePredicate : Prop :=
  ∀ (s : State) (p : Nat), ∀ r ∈ predRows s p, coreReady s p r.op r.reads → goesOn s p →
    ∃ t, exec r.i s = .next t ∧ coreBecomes s t p (passed s p (withP (s.blk p).core (r.dest (s.coreWord p)) (r.val (s.coreWord p)))) []

/-! ### The control core: guards, waits, transfers, loops, commands -/

namespace Sys2Proof.Claims

/-- Every row of the core's instruction set, with its operation and the registers that it reads. -/
def coreRows (p : Nat) : List (Instr × CoreOp × (Nat → List Nat)) :=
  let n : Nat → List Nat := fun _ => []
  let a : Nat → List Nat := fun w => [CC.rs1 w]
  let ab : Nat → List Nat := fun w => [CC.rs1 w, CC.rs2 w]
  let ad : Nat → List Nat := fun w => [CC.rs1 w, CC.rd w]
  let q : Nat → List Nat := fun w => [CC.qrs w]
  [(.add p, .add, ab), (.sub p, .sub, ab), (.and p, .and, ab), (.or p, .or, ab), (.xor p, .xor, ab), (.andn p, .andn, ab), (.sll p, .sll, ab),
   (.srl p, .srl, ab), (.sra p, .sra, ab), (.mul p, .mul, ab), (.mulhu p, .mulhu, ab), (.divu p, .divu, ab), (.remu p, .remu, ab),
   (.min p, .min, ab), (.max p, .max, ab), (.minu p, .minu, ab), (.maxu p, .maxu, ab), (.cmp p, .cmp, ab), (.pand p, .pand, n), (.por p, .por, n),
   (.pxor p, .pxor, n), (.pandn p, .pandn, n), (.pnot p, .pnot, n), (.ptos p, .ptos, n), (.aluStop p, .stop, a), (.mflc p, .mflc, n),
   (.mfcb p, .mfcb, n), (.rdid p, .rdid, n), (.rdtime p, .rdtime, n), (.rdframe p, .rdframe, n), (.setcls p, .setcls, n), (.jr p, .jr, a),
   (.jrl p, .jrl, a), (.fence p, .fence, n), (.halt p, .halt, n), (.addi p, .addi, a), (.andi p, .andi, a), (.ori p, .ori, a), (.xori p, .xori, a),
   (.shi p, .shi, a), (.cmpi p, .cmpi, a), (.cmpiu p, .cmpiu, a), (.movi p, .movi, n), (.insi p, .insi, fun w => [CC.rd w]), (.ld p, .ld, a),
   (.st p, .st, ad), (.lds p, .lds, a), (.sts p, .sts, ad), (.brl p, .brl, n), (.loop p, .loop, fun w => [CC.loopRs w]), (.loopi p, .loopi, n),
   (.cbw p, .cbw, q), (.cbwh p, .cbwh, q), (.cbins p, .cbins, q), (.qsend p, .qsend, n), (.qsendm p, .qsendm, q), (.qfree p, .qfree, n)]

/-- The core stands still at its instruction, with the cause of the stall, 1 a full queue and 2 a load, store or bank; the counter of the
cause takes a free number of cycles (the model's choice, log entry 9). -/
def stalls (s : State) (p : Nat) (cause : Nat) : State :=
  (counted s (if cause = 1 then F.BLK_CC_QFULL else F.BLK_CC_MEMWAIT) p).onBlk p (fun b => { b with core := { b.core with stall := cause } })

/-- The core of Block p goes on at offset t. -/
def goneTo (c : Core) (t : Int) : Core := { c with pc := BitVec.ofInt 16 t, stall := 0 }

/-- A target is legal for the core of Block p (R136); `inside` for one that must stay in every active body that holds the
instruction (R138, R141). -/
def legalTarget (s : State) (p : Nat) (t : Int) (inside : Bool) : Prop :=
  0 ≤ t ∧ t < 0x1_0000 ∧ t % 4 = 0
    ∧ (inside = true → ∀ l ∈ (s.blk p).core.loops, l.1 ≤ (s.blk p).core.pc.toNat → (s.blk p).core.pc.toNat ≤ l.2 → (l.1 : Int) ≤ t ∧ t ≤ l.2)

/-- Offset of the instruction at which the core stands. -/
def at' (s : State) (p : Nat) : Nat := (s.blk p).core.pc.toNat

/-- The command of cb0 to cb7: bytes 0 to 29 of the words, then their check (R143). -/
def buildCommand (c : Core) : Cmd :=
  let body := ((List.range 8).map (fun i => ((c.cb.get i 0).toNat * 2 ^ (32 * i)))).sum % 2 ^ 240
  BitVec.ofNat 256 (body + crc16 (leBytes 30 body) * 2 ^ 240)

/-- Block p's queue `q` takes command c after its entries; a frame end in SXQ ends issue (R145). -/
def queueTakes (b : Block) (q : Q) (c : Cmd) : Block :=
  { b with
    q := { b.q.put q (b.q.entries q ++ [⟨b.q.nextOrd, c⟩]) with nextOrd := b.q.nextOrd + 1 }
    core := if q = .sxq ∧ c.toNat % 256 = 0x42 then { b.core with halted := true } else b.core }

end Sys2Proof.Claims

/-- An instruction whose guard predicate is false only takes its place: it is counted, the loops are tested, and nothing else changes. One
that reads the destination of a load in flight waits for it: only the core's stall cause changes. -/
def Obligations.CoreGuardFalseRetiresAndLoadWaits : Prop :=
  ∀ (s : State) (p : Nat), ∀ r ∈ coreRows p, p < nBlks → s.coreLive p = true → CC.decode (s.coreWord p) = some r.2.1 →
    fetchClean s p → (endExcluded r.2.1 = true → notAtEnd s p) →
      (s.preg p (CC.guard (s.coreWord p)) = false → goesOn s p →
        ∃ t, exec r.1 s = .next t ∧ coreBecomes s t p (passed s p (s.blk p).core) [])
      ∧ (s.preg p (CC.guard (s.coreWord p)) = true → (∃ l ∈ (s.blk p).core.loads, l.rd ≠ 0 ∧ l.rd ∈ r.2.2 (s.coreWord p)) →
        exec r.1 s = .next (stalls s p 2))

/-- BR and CSKIP go to PC + 4 × IMM19 when the guard differs from NEG and else to the next instruction, BR with GUARD 0 always or never, and
CSKIP counts its outcome; BRL
goes there and JR and JRL to s[RS1]; BRL and JRL write the return offset. -/
def Obligations.CoreTransfersReachTheirTargets : Prop :=
  ∀ (s : State) (p : Nat),
    let w := s.coreWord p
    let c := (s.blk p).core
    let rel : Int := at' s p + 4 * CC.imm19 w
    (coreIssues s p .br (fun _ => []) → notAtEnd s p →
      (s.preg p (CC.guard w) ≠ CC.neg w → legalTarget s p rel true → ∃ t, exec (.br p) s = .next t ∧ coreBecomes s t p (goneTo c rel) [])
      ∧ (s.preg p (CC.guard w) = CC.neg w → goesOn s p → ∃ t, exec (.br p) s = .next t ∧ coreBecomes s t p (passed s p c) [])
      ∧ (CC.guard w = 0 → CC.neg w = false → legalTarget s p rel true → ∃ t, exec (.br p) s = .next t ∧ coreBecomes s t p (goneTo c rel) [])
      ∧ (CC.guard w = 0 → CC.neg w = true → goesOn s p → ∃ t, exec (.br p) s = .next t ∧ coreBecomes s t p (passed s p c) []))
    ∧ (coreIssues s p .cskip (fun _ => []) → notAtEnd s p →
      (s.preg p (CC.guard w) ≠ CC.neg w → legalTarget s p rel true →
        ∃ t, exec (.cskip p) s = .next t ∧ coreBecomes s t p (goneTo c rel) [keyOf F.BLK_CSKIP_TAKEN p 0]
          ∧ t.rd F.BLK_CSKIP_TAKEN p = satAdd (2 ^ F.BLK_CSKIP_TAKEN.width - 1) (s.rd F.BLK_CSKIP_TAKEN p) 1)
      ∧ (s.preg p (CC.guard w) = CC.neg w → goesOn s p →
        ∃ t, exec (.cskip p) s = .next t ∧ coreBecomes s t p (passed s p c) [keyOf F.BLK_CSKIP_FALLTHRU p 0]
          ∧ t.rd F.BLK_CSKIP_FALLTHRU p = satAdd (2 ^ F.BLK_CSKIP_FALLTHRU.width - 1) (s.rd F.BLK_CSKIP_FALLTHRU p) 1))
    ∧ (coreReady s p .brl (fun _ => []) → notAtEnd s p → legalTarget s p rel false →
      ∃ t, exec (.brl p) s = .next t ∧ coreBecomes s t p (goneTo (withS c (CC.rd w) (at' s p + 4)) rel) [])
    ∧ (coreReady s p .jr (fun w => [CC.rs1 w]) → notAtEnd s p → legalTarget s p (s.sreg p (CC.rs1 w)) true →
      ∃ t, exec (.jr p) s = .next t ∧ coreBecomes s t p (goneTo c (s.sreg p (CC.rs1 w))) [])
    ∧ (coreReady s p .jrl (fun w => [CC.rs1 w]) → notAtEnd s p → legalTarget s p (s.sreg p (CC.rs1 w)) false →
      ∃ t, exec (.jrl p) s = .next t ∧ coreBecomes s t p (goneTo (withS c (CC.rd w) (at' s p + 4)) (s.sreg p (CC.rs1 w))) [])

/-- LOOP and LOOPI with a count of zero go on behind the body; else they take the count into lc[DEPTH] and enter the body. SETCLS takes a label
that the context's CLASS_MASK allows and leaves CLS otherwise; FENCE goes on once no load and no store of the core is in flight, and waits
before; HALT stops issue. -/
def Obligations.CoreLoopsClassFenceAndHalt : Prop :=
  ∀ (s : State) (p : Nat),
    let w := s.coreWord p
    let c := (s.blk p).core
    let e := at' s p + 4 * CC.len w
    (∀ i op reads n, ((i, op, reads, n) = (Instr.loop p, CoreOp.loop, (fun w => [CC.loopRs w]), s.sreg p (CC.loopRs w) % 2 ^ 32)
        ∨ (i, op, reads, n) = (Instr.loopi p, CoreOp.loopi, (fun (_ : Nat) => ([] : List Nat)), CC.cnt w)) →
      coreReady s p op reads → notAtEnd s p → CC.lcf w = c.loops.length → c.loops.length < 4 → e < 0x1_0000 →
      (∀ l ∈ c.loops, l.1 ≤ at' s p → at' s p ≤ l.2 → e ≤ l.2) →
      (n = 0 → e + 4 < 0x1_0000 → at' s p % 4 = 0 → ∃ t, exec i s = .next t ∧ coreBecomes s t p (goneTo c (e + 4 : Nat)) [])
      ∧ (n ≠ 0 → ∃ t, exec i s = .next t ∧ coreBecomes s t p
          { c with pc := BitVec.ofNat 16 (at' s p + 4), stall := 0, loops := (at' s p + 4, e) :: c.loops,
                   lc := SMap.put c.loops.length (BitVec.ofNat 32 n) c.lc } []))
    ∧ (coreReady s p .setcls (fun _ => []) → goesOn s p →
      ∃ t, exec (.setcls p) s = .next t
        ∧ coreBecomes s t p (passed s p (if s.classMask.testBit (CC.rs1 w) then { c with cls := BitVec.ofNat 4 (CC.rs1 w) } else c)) [])
    ∧ (coreReady s p .fence (fun _ => []) →
      (c.loads = [] → c.stores = [] → goesOn s p → ∃ t, exec (.fence p) s = .next t ∧ coreBecomes s t p (passed s p c) [])
      ∧ (c.loads ≠ [] ∨ c.stores ≠ [] → exec (.fence p) s = .next (stalls s p 2)))
    ∧ (coreReady s p .halt (fun _ => []) → notAtEnd s p → goesOn s p →
      ∃ t, exec (.halt p) s = .next t ∧ coreBecomes s t p (passed s p { c with halted := true }) [])

/-- CBW and CBWH write the low and the high word of s[RS] plus the immediate into a command-build word, CBINS inserts a field into one. QSEND
appends the command of cb0 to cb7 with its check, QSENDM 32 bytes of scratchpad as they stand, to the queue that they name; a full queue
stalls the core. -/
def Obligations.CoreBuildsAndSendsCommands : Prop :=
  ∀ (s : State) (p : Nat),
    let w := s.coreWord p
    let c := (s.blk p).core
    let b := s.blk p
    let q := qOf (CC.q w)
    let sum := (s.sreg p (CC.qrs w) + to64 (CC.imm14 w)) % 2 ^ 64
    let old := (c.cb.get (CC.cb w) 0).toNat
    (∀ i op v, ((i, op, v) = (Instr.cbw p, CoreOp.cbw, sum % 2 ^ 32) ∨ (i, op, v) = (Instr.cbwh p, CoreOp.cbwh, sum / 2 ^ 32)
        ∨ (i, op, v) = (Instr.cbins p, CoreOp.cbins, putBits old (CC.pos w) (CC.widthM1 w + 1) (s.sreg p (CC.qrs w)))) →
      coreReady s p op (fun w => [CC.qrs w]) → goesOn s p →
      ∃ t, exec i s = .next t ∧ coreBecomes s t p (passed s p { c with cb := SMap.put (CC.cb w) (BitVec.ofNat 32 v) c.cb }) [])
    ∧ (coreReady s p .qsend (fun _ => []) →
      (64 ≤ (b.q.entries q).length → exec (.qsend p) s = .next (stalls s p 1))
      ∧ ((b.q.entries q).length < 64 → goesOn s p →
        ∃ t, exec (.qsend p) s = .next t ∧ onlyBlks s t ∧ blksBut p s t
          ∧ t.blk p = queueTakes { b with core := passed s p b.core } q (buildCommand b.core)
          ∧ regsBut [keyOf F.BLK_CC_RETIRED p 0] s t))
    ∧ (coreReady s p .qsendm (fun w => [CC.qrs w]) →
      let a := to64 ((s.sreg p (CC.qrs w) : Int) + 32 * CC.imm14 w) % 2 ^ 20
      a % 32 = 0 →
      (64 ≤ (b.q.entries q).length → exec (.qsendm p) s = .next (stalls s p 1))
      ∧ ((b.q.entries q).length < 64 → s.spAsleep p a 32 = [] →
        exec (.qsendm p) s = .next ((((s.spRead p spCore a 32).1).send p q (BitVec.ofNat 256 (leNat (s.spRead p spCore a 32).2))).retire p)))

/-! ### The control core: loads, stores and illegal instructions -/

namespace Sys2Proof.Claims

/-- The state after the alignment check of an access of n bytes at a: a misaligned one is counted (R134). -/
def afterAlign (s : State) (p a n : Nat) : State := if a % n = 0 then s else s.inc F.BLK_CC_MISALIGNED p 0

/-- The state after Block p's scratchpad read of n bytes by the core, and the bytes. -/
def coreSpRead (s : State) (p a n : Nat) : State × List Byte := s.spRead p spCore a n

/-- Place of the line of an access, and of its first byte in the line. -/
def lineOfAddr (x : Xlat) : Nat := x.addr / 128
def byteOfAddr (x : Xlat) : Nat := x.addr % 128

/-- Answers on their way to Block p that no earlier answer of the same slice for the same context precedes (R22). -/
def inOrder (s : State) (p : Nat) : List Resp :=
  (s.resps.filter (fun r => r.req.src.l1Of == some p)).foldl (fun acc r =>
    if acc.any (fun q => s.homeOf q.req.line == s.homeOf r.req.line && q.req.ctx == r.req.ctx) then acc else acc ++ [r]) []

/-- A core after the answer r of its load l: the load leaves flight, and its register takes the extended bytes. -/
def loadLands (c : Core) (l : CoreLoad) (r : Resp) : Core :=
  withS { c with loads := c.loads.filter (fun y => y.req != l.req), stall := 0 } l.rd (extend l.sz r.req.size (lineNat r.data r.req.off r.req.size))

end Sys2Proof.Claims

/-- LD: a hit in the Block's L1 on a line without an error writes s[RD] at once; a miss sends one read request for the line and leaves a load
in flight.
ST sends one write request that carries the low bytes of s[RD] for the bytes it names, and leaves a store in flight; external memory
and the cache slices are as before. -/
def Obligations.CoreLoadsAndStoresAreSent : Prop :=
  (∀ (s : State) (p : Nat) (run : Run) (x : Xlat),
      let w := s.coreWord p
      let c := (s.blk p).core
      let n := szBytes (CC.sz w)
      let a := s.coreAddr p w / n * n
      let s1 := afterAlign s p (s.coreAddr p w) n
      coreReady s p .ld (fun w => [CC.rs1 w]) → s.plaza.run = some run → c.loads.length < 8 → s.xlat run.ctx a false false = some x →
      (∀ y ∈ (s.blk p).l1, y.line = lineOfAddr x → y.bad = false) → goesOn s p →
      (∀ y, s.l1Find p (lineOfAddr x) x.owner x.keyh = some y →
        ∃ t, exec (.ld p) s = .next t
          ∧ coreBecomes s t p (passed s p (withS c (CC.rd w) (extend (CC.sz w) n (lineNat y.data (byteOfAddr x) n)))) [keyOf F.BLK_CC_MISALIGNED p 0])
      ∧ (s.l1Find p (lineOfAddr x) x.owner x.keyh = none → (s1.homeOf (lineOfAddr x)).isSome = true →
        ∃ t r, exec (.ld p) s = .next t
          ∧ t = { s with regs := t.regs, blks := t.blks, nextReq := s.nextReq + 1, reqs := s.reqs ++ [r] }
          ∧ r.id = s.nextReq ∧ r.src = .core p ∧ r.op = .read ∧ r.line = lineOfAddr x ∧ r.owner = x.owner ∧ r.keyh = x.keyh
          ∧ r.off = byteOfAddr x ∧ r.size = n ∧ r.cls = c.cls.toNat ∧ r.ctx = some run.ctx
          ∧ blksBut p s t ∧ regsBut [keyOf F.BLK_CC_RETIRED p 0, keyOf F.BLK_CC_MISALIGNED p 0] s t
          ∧ t.blk p = { s.blk p with core := passed s p { withS c (CC.rd w) (s.sreg p (CC.rd w)) with
              loads := (withS c (CC.rd w) (s.sreg p (CC.rd w))).loads ++ [⟨s.nextReq, CC.rd w, CC.sz w, a⟩], lastMiss := some (lineOfAddr x) } }))
  ∧ (∀ (s : State) (p : Nat) (run : Run) (x : Xlat),
      let w := s.coreWord p
      let c := (s.blk p).core
      let n := szBytes (CC.sz w)
      let a := s.coreAddr p w / n * n
      let s1 := afterAlign s p (s.coreAddr p w) n
      coreReady s p .st (fun w => [CC.rs1 w, CC.rd w]) → s.plaza.run = some run → c.stores.length < 8 → s.xlat run.ctx a false true = some x →
      x.forbidden = false → (s1.homeOf (lineOfAddr x)).isSome = true → goesOn s p →
        ∃ t r, exec (.st p) s = .next t
          ∧ t = { s with regs := t.regs, blks := t.blks, ctxs := t.ctxs, plaza := t.plaza, nextReq := s.nextReq + 1, reqs := s.reqs ++ [r] }
          ∧ r.id = s.nextReq ∧ r.src = .core p ∧ r.op = .write ∧ r.line = lineOfAddr x ∧ r.owner = x.owner ∧ r.keyh = x.keyh
          ∧ r.mask = rangeMask (byteOfAddr x) n ∧ r.data = lineOf (byteOfAddr x) n (s.sreg p (CC.rd w)) ∧ r.ctx = some run.ctx
          ∧ blksBut p s t ∧ regsBut [keyOf F.BLK_CC_RETIRED p 0, keyOf F.BLK_CC_MISALIGNED p 0] s t
          ∧ (t.blk p).core = passed s p { c with stores := c.stores ++ [s.nextReq] })

/-- A load outside every region of the context writes zero and reports 0x0303, and so does a store, which is not performed; a store to a
shared region that the context does not own reports 0x0304 (R131).
LDS writes s[RD] with the extended bytes of the Block's scratchpad at the low 20 bits of the address, STS writes the low bytes of s[RD]
there, when the banks that they touch are awake; else the banks are woken and the core waits. -/
def Obligations.CoreFaultsAndScratchpadAccess : Prop :=
  (∀ (s : State) (p : Nat) (run : Run),
      let w := s.coreWord p
      let c := (s.blk p).core
      let n := szBytes (CC.sz w)
      let a := s.coreAddr p w / n * n
      let s1 := afterAlign s p (s.coreAddr p w) n
      s.plaza.run = some run →
      (coreReady s p .ld (fun w => [CC.rs1 w]) → c.loads.length < 8 → s.xlat run.ctx a false false = none →
        exec (.ld p) s = .next (((s1.fault 0x0303 (pageIdx .blk p) a).setSreg p (CC.rd w) 0).retire p))
      ∧ (coreReady s p .st (fun w => [CC.rs1 w, CC.rd w]) → c.stores.length < 8 →
        (s.xlat run.ctx a false true = none → exec (.st p) s = .next ((s1.fault 0x0303 (pageIdx .blk p) a).retire p))
        ∧ (∀ x, s.xlat run.ctx a false true = some x → x.forbidden = true →
          exec (.st p) s = .next ((s1.fault 0x0304 (pageIdx .blk p) a).retire p))))
  ∧ (∀ (s : State) (p : Nat),
      let w := s.coreWord p
      let n := szBytes (CC.sz w)
      let a0 := s.coreAddr p w % 2 ^ 20
      let a := a0 / n * n
      let s1 := afterAlign s p a0 n
      (coreReady s p .lds (fun w => [CC.rs1 w]) →
        (s.spAsleep p a n = [] →
          exec (.lds p) s = .next (((coreSpRead s1 p a n).1.setSreg p (CC.rd w) (extend (CC.sz w) n (leNat (coreSpRead s1 p a n).2))).retire p))
        ∧ (s.spAsleep p a n ≠ [] → exec (.lds p) s = .next (stalls (s.spWake p (s.spAsleep p a n)) p 2)))
      ∧ (coreReady s p .sts (fun w => [CC.rs1 w, CC.rd w]) →
        (s.spAsleep p a n = [] → exec (.sts p) s = .next ((s1.spWrite p spCore a (leBytes n (s.sreg p (CC.rd w)))).retire p))
        ∧ (s.spAsleep p a n ≠ [] → exec (.sts p) s = .next (stalls (s.spWake p (s.spAsleep p a n)) p 2))))

/-- A byte written to scratchpad by a unit that the bank serves as its own reads back, any other byte of a valid error-free word of the Block reads as
before, and no other Block and no register field changes. -/
def Obligations.ScratchpadByteWriteThenRead : Prop :=
  ∀ (s : State) (p a b : Nat) (u : SpUnit) (v : Byte), s.spServes p (s.spPlaceOf p a).1 u = true →
    (u.code = 4 → s.rd F.BLK_SP_OWN_UNIT p (s.spPlaceOf p a).1 = 4) → (s.blk p).sp.errs = [] → (s.blk p).sp.inject = 0 →
    let t := s.spWrite p u a [v]
    t.spByte p a = v
    ∧ (s.spWord p b ≠ s.spWord p a ∨ b % 8 ≠ a % 8 → t.spByte p b = s.spByte p b)
    ∧ onlyBlks s t ∧ blksBut p s t ∧ regsBut [keyOf F.BLK_SP_RMW p 0] s t

/-- LOAD_RETURN: the k-th load in flight whose answer can arrive next, in the mesh's order of answers, writes its register with the extended
bytes of its line, leaves flight, and ends the core's stall. STORE_ACK: the k-th acknowledgement that can arrive next takes its store out of
flight. -/
def Obligations.CoreLoadReturnsAndStoreCompletes : Prop :=
  ∀ (s : State) (p k : Nat), p < nBlks →
    (∀ l r, ((s.blk p).core.loads.filter (fun l => (inOrder s p).any (fun r => r.req.id == l.req)))[k]? = some l →
      (inOrder s p).find? (fun r => r.req.id == l.req) = some r →
      ∃ t, exec (.loadReturn p k) s = .next t
        ∧ t = { s with blks := t.blks, resps := s.resps.filter (fun r => r.req.id != l.req) } ∧ blksBut p s t
        ∧ t.blk p = { s.blk p with core := loadLands (s.blk p).core l r })
    ∧ (∀ r, ((inOrder s p).filter (fun r => r.req.op != .read))[k]? = some r →
      ∃ t, exec (.storeAck p k) s = .next t
        ∧ t = { s with blks := t.blks, resps := s.resps.filter (fun q => q.req.id != r.req.id) } ∧ blksBut p s t
        ∧ (t.blk p).core.stores = (s.blk p).core.stores.filter (fun x => x != r.req.id)
        ∧ (t.blk p).core.sreg = (s.blk p).core.sreg)

/-- An illegal encoding is counted, and its undefined result stays within the issuing core, its queues and its context's regions: memory,
the cache slices, the scratchpad's words and owners, the I-memories, the other Blocks, the keys and the security state are as before. -/
def Obligations.IllegalInstructionIsConfined : Prop :=
  ∀ (s : State) (p : Nat), p < nBlks → s.coreLive p = true → CC.decode (s.coreWord p) = none →
    ∃ t, exec (.illegalInstruction p) s = .next t
      ∧ t = { s with regs := t.regs, blks := t.blks, free := t.free, reqs := t.reqs, resps := t.resps, nextReq := t.nextReq, ctxs := t.ctxs,
                     plaza := t.plaza, errq := t.errq, out := t.out, mgmt := t.mgmt }
      ∧ blksBut p s t ∧ (t.blk p).im = (s.blk p).im ∧ (t.blk p).sp = { (s.blk p).sp with inject := (t.blk p).sp.inject } ∧ (t.blk p).mx = (s.blk p).mx ∧ (t.blk p).vx = (s.blk p).vx
      ∧ t.rd F.BLK_CC_ILLEGAL p = satAdd (2 ^ F.BLK_CC_ILLEGAL.width - 1) (s.rd F.BLK_CC_ILLEGAL p) 1
      ∧ (t.blk p).core.pc.toNat % 4 = 0 ∧ (t.blk p).core.stall = 0 ∧ (t.blk p).core.loops.length < 5

/-! ### The vector engine -/

namespace Sys2Proof.Claims

/-- Group x in slot g of Block p is about to issue the instruction `op` (R190): the frame runs, no fault has stopped issue, threads are
active, the word is free of errors and legal, no register that it uses waits for a load, and the next word is in the live half. -/
def vecReady (s : State) (p g : Nat) (op : VecOp) (x : Group) : Prop :=
  p < nBlks ∧ s.grp p g = some x ∧ (s.blk p).core.running = true ∧ (s.blk p).vxStopped = false ∧ x.active ≠ 0
    ∧ wordClean s p x.pc ∧ VX.decode ((s.blk p).im.fetch64 x.pc) = some op
    ∧ (∀ l ∈ x.loads, ∀ i, i < VX.szRegs l.sz → l.d + i ∉ VX.uses op ((s.blk p).im.fetch64 x.pc)) ∧ x.pc + 8 < 0x1_0000

/-- The 64-bit word at which group x of Block p stands. -/
def vecWord (s : State) (p : Nat) (x : Group) : Nat := (s.blk p).im.fetch64 x.pc

/-- Lane l takes part: it is active and its guard is true (R187). -/
def takesPart (x : Group) (w l : Nat) : Bool := x.active.getLsbD l && (x.q l (VX.guard w) != VX.neg w)

/-- From s to t only the group in slot g of Block p changes, to y, and the Block's count of issued vector instructions takes one more,
with the register keys listed. -/
def groupBecomes (s t : State) (p g : Nat) (y : Group) (ks : List Nat) : Prop :=
  onlyBlks s t ∧ blksBut p s t ∧ t.blk p = { s.blk p with vx := SMap.put g y (s.blk p).vx }
    ∧ regsBut (keyOf F.BLK_VX_ISSUED p 0 :: ks) s t
    ∧ t.rd F.BLK_VX_ISSUED p = satAdd (2 ^ F.BLK_VX_ISSUED.width - 1) (s.rd F.BLK_VX_ISSUED p) 1

/-- Group y is group x, one instruction on, with t[d] of each lane that takes part set to the lane's value. -/
def lanesTake (x y : Group) (w d : Nat) (v : Nat → Nat) : Prop :=
  y = { x with treg := y.treg, pc := x.pc + 8 }
    ∧ ∀ l r, l < 32 → r < 64 → y.t l r = if takesPart x w l = true ∧ r = d then v l % 2 ^ 32 else x.t l r

/-- Group y is group x, one instruction on, with q[d] of each lane that takes part set; q0 discards the write. -/
def lanesTakeQ (x y : Group) (w d : Nat) (v : Nat → Bool) : Prop :=
  y = { x with qreg := y.qreg, pc := x.pc + 8 }
    ∧ ∀ l r, l < 32 → r < 8 → y.q l r = if takesPart x w l = true ∧ r = d ∧ r ≠ 0 then v l else x.q l r

/-- The integer rows, the moves and the rows that read the group, with the value of a lane (R185, R189). -/
def vecIntRows (s : State) (p g : Nat) (x : Group) (w : Nat) : List (Instr × VecOp × (Nat → Nat)) :=
  let a (l : Nat) : Nat := x.t l (VX.a w)
  let b (l : Nat) : Nat := x.t l (VX.b w)
  let c (l : Nat) : Nat := x.t l (VX.c w)
  let signed : Bool := VX.t w == 1
  [(.iadd p g, .iadd, fun l => a l + b l), (.isub p g, .isub, fun l => a l + 2 ^ 32 - b l), (.imul p g, .imul, fun l => a l * b l),
   (.imad p g, .imad, fun l => a l * b l + c l), (.vxAnd p g, .and, fun l => Nat.land (a l) (b l)), (.vxOr p g, .or, fun l => Nat.lor (a l) (b l)),
   (.vxXor p g, .xor, fun l => Nat.xor (a l) (b l)), (.shl p g, .shl, fun l => a l * 2 ^ (b l % 32)),
   (.shr p g, .shr, fun l => if signed then (sext 32 (a l) / 2 ^ (b l % 32) % 2 ^ 32).toNat else a l / 2 ^ (b l % 32)),
   (.vxMin p g, .min, fun l => if signed then (if sext 32 (a l) < sext 32 (b l) then a l else b l) else Nat.min (a l) (b l)),
   (.vxMax p g, .max, fun l => if signed then (if sext 32 (a l) < sext 32 (b l) then b l else a l) else Nat.max (a l) (b l)),
   (.sel p g, .sel, fun l => if x.q l (VX.c w % 8) then a l else b l), (.vxMovi p g, .movi, fun _ => VX.imm w),
   (.iaddi p g, .iaddi, fun l => a l + VX.imm w),
   (.vote p g, .vote, fun _ => (laneMask ((List.range 32).filter (fun k => takesPart x w k && x.q k (VX.a w % 8)))).toNat),
   (.shfl p g, .shfl, fun l => x.t (b l % 32) (VX.a w)),
   (.rdsr p g, .rdsr, fun l => match bitsOf w 0 4 with
     | 0 => l | 1 => x.num | 2 => x.groups | 3 => s.rdid p 0 | 4 => s.logicalAll | 5 => s.rdid p 2 | 6 => s.rd F.TICK_FRAME_NUM_NUM
     | _ => s.time.toNat)]

/-- The floating rows, with the value of a lane: one rounding of the exact result, and for the special functions the bits that
Config leaves open within 2 units in the last place (R188, R189). -/
def vecFloatRows (p g : Nat) (x : Group) (w : Nat) : List (Instr × VecOp × (Nat → Nat)) :=
  let a (l : Nat) : Nat := x.t l (VX.a w)
  let ff (f : FVal → FVal → FVal → FVal) (l : Nat) : Nat := vecF (VX.t w) f (a l) (x.t l (VX.b w)) (x.t l (VX.c w))
  let special (fn : SpecialFn) (f : Word → Word) (l : Nat) : Nat := specialF fn (a l) (f (BitVec.ofNat 32 (a l)))
  [(.fadd p g, .fadd, ff (fun a b _ => addF a b)), (.fmul p g, .fmul, ff (fun a b _ => mulF a b)),
   (.ffma p g, .ffma, ff (fun a b c => addF (mulF a b) c)), (.fmin p g, .fmin, ff (fun a b _ => minF a b)),
   (.fmax p g, .fmax, ff (fun a b _ => maxF a b)), (.frcp p g, .frcp, special .rcp Config.frcp), (.frsq p g, .frsq, special .rsq Config.frsq),
   (.fexp2 p g, .fexp2, special .exp2 Config.fexp2), (.flog2 p g, .flog2, special .log2 Config.flog2),
   (.cvt p g, .cvt, fun l => cvt (VX.t w) (VX.b w % 16) (bitOf (VX.b w) 4) (a l))]

/-- The rows that write a predicate, with the value of a lane (R189). -/
def vecPredRows (p g : Nat) (x : Group) (w : Nat) : List (Instr × VecOp × (Nat → Bool)) :=
  [(.setp p g, .setp, fun l => setp (VX.t w) (VX.c w % 8) (x.t l (VX.a w)) (x.t l (VX.b w))),
   (.plop p g, .plop, fun l =>
     let a := x.q l (VX.a w % 8)
     let b := x.q l (VX.b w % 8)
     if VX.c w % 4 = 0 then a && b else if VX.c w % 4 = 1 then a || b else if VX.c w % 4 = 2 then a != b else a && !b)]

/-- Element of a GMMA operand of 8 rows and 8 columns: +0.0 where the lane that holds it takes no part (R204, R205). -/
def gmmaOperand (x : Group) (w r i k : Nat) : FVal :=
  let l := 4 * i + k / 2
  let f := if VX.t w = 0 then Fmt.bf16 else if VX.t w = 1 then Fmt.e4m3 else Fmt.e5m2
  let n := if VX.t w = 0 then 16 else 8
  if takesPart x w l then decodeF f (bitsOf (x.t l r) (n * (k % 2)) n) else .fin false 0 0

/-- Element (l / 4, 2 (l mod 4) + h) of GMMA's result: the exact sum of the products and of C's element, rounded once (R204). -/
def gmmaResult (x : Group) (w l h : Nat) : Nat :=
  encodeF Fmt.f32 false (sumF ((List.range 8).map (fun k => mulF (gmmaOperand x w (VX.a w) (l / 4) k) (gmmaOperand x w (VX.b w) (2 * (l % 4) + h) k))
    ++ [decodeF Fmt.f32 (x.t l (VX.c w + h))]))

end Sys2Proof.Claims

/-- The integer, logic, move, vote, shuffle, special-register and floating rows of the vector engine give t[D] of every lane that takes
part its value, SETP and PLOP give q[D[2:0]] of every such lane its value, and nothing else changes but the group's offset and the count of
issued instructions. -/
def Obligations.VectorRowsWriteLanes : Prop :=
  ∀ (s : State) (p g : Nat) (x : Group),
    let w := vecWord s p x
    (∀ r ∈ vecIntRows s p g x w ++ vecFloatRows p g x w, vecReady s p g r.2.1 x →
      ∃ t y, exec r.1 s = .next t ∧ groupBecomes s t p g y [] ∧ lanesTake x y w (VX.d w) r.2.2)
    ∧ (∀ r ∈ vecPredRows p g x w, vecReady s p g r.2.1 x →
      ∃ t y, exec r.1 s = .next t ∧ groupBecomes s t p g y [] ∧ lanesTakeQ x y w (VX.d w % 8) r.2.2)

/-- GMMA gives t[D] and t[D + 1] of every lane that takes part the two elements of D = C + A × B that the lane holds. -/
def Obligations.VectorMatrixProduct : Prop :=
  ∀ (s : State) (p g : Nat) (x : Group), vecReady s p g .gmma x →
    let w := vecWord s p x
    ∃ t y, exec (.gmma p g) s = .next t ∧ groupBecomes s t p g y [keyOf F.BLK_VX_GMMA p 0]
      ∧ t.rd F.BLK_VX_GMMA p = satAdd (2 ^ F.BLK_VX_GMMA.width - 1) (s.rd F.BLK_VX_GMMA p) 1
      ∧ y = { x with treg := y.treg, pc := x.pc + 8 }
      ∧ ∀ l r, l < 32 → r < 64 → y.t l r =
          if takesPart x w l = true ∧ r = VX.d w then gmmaResult x w l 0 % 2 ^ 32
          else if takesPart x w l = true ∧ r = VX.d w + 1 then gmmaResult x w l 1 % 2 ^ 32 else x.t l r

/-- JOIN parks the threads at the top entry's point and settles, and is a no-op elsewhere: where no thread waits, the entry's pending path
runs, or the entry is popped and its threads that have not exited go on behind the point. -/
def joinRuns (s : State) (p g : Nat) (x : Group) : Prop :=
  ((∀ e, x.stack.head? = some e → e.rpc ≠ x.pc) → ∃ t, exec (.join p g) s = .next t ∧ groupBecomes s t p g { x with pc := x.pc + 8 } [])
  ∧ (∀ e es, x.stack = e :: es → e.rpc = x.pc →
      exec (.join p g) s = .next ((s.inc F.BLK_VX_ISSUED p 0).settle p g { x with active := 0 })
      ∧ (x.waits = [] → x.active &&& x.exited = 0 →
        (e.pendMask ≠ 0 → ∃ t, exec (.join p g) s = .next t ∧ groupBecomes s t p g
          { x with active := e.pendMask, pc := e.pendPc, stack := { e with pendMask := 0 } :: es } [])
        ∧ (e.pendMask = 0 → e.mask &&& ~~~x.exited ≠ 0 → ∃ t, exec (.join p g) s = .next t ∧ groupBecomes s t p g
          { x with active := e.mask &&& ~~~x.exited, pc := x.pc + 8, stack := es } [])))

/-- The group goes on behind the barrier at which it stood, every thread that has not exited active, its stack as it was. -/
def pastBarrier (x : Group) : Group := { x with active := ~~~x.exited, pc := x.pc + 8, waits := [], waitBlk := [] }

/-- BRA: where no active thread's guard is false every one goes to the target, and where none is true the group goes on; otherwise the guard
splits the threads, and the others wait on a new stack entry. A full stack is fault kind 4.
JOIN runs as above; BAR.G and BAR.B of a group whose stores are complete count their wait and make the active threads wait: where these are all that have not exited, BAR.G releases them at once,
and BAR.B releases them with the one other group of the Block where that has arrived, and leaves them waiting where it has not; EXIT
takes the threads that take part out of every mask. -/
def Obligations.VectorControlFlow : Prop :=
  (∀ (s : State) (p g : Nat) (x : Group), vecReady s p g .bra x →
      let w := vecWord s p x
      let target := bitsOf (VX.imm w) 0 16
      let rpc := bitsOf (VX.imm w) 16 16
      let go := x.guarded w
      let stay := x.active &&& ~~~go
      let top : Option Nat := x.stack.head?.map (fun e => e.rpc)
      (stay = 0 → ∃ t, exec (.bra p g) s = .next t ∧ groupBecomes s t p g { x with pc := target } [])
      ∧ (stay ≠ 0 → go = 0 → ∃ t, exec (.bra p g) s = .next t ∧ groupBecomes s t p g { x with pc := x.pc + 8 } [])
      ∧ (stay ≠ 0 → go ≠ 0 → top = some target → target = rpc →
        ∃ t, exec (.bra p g) s = .next t ∧ groupBecomes s t p g { x with active := stay, pc := x.pc + 8 } [keyOf F.BLK_VX_DIVERGE p 0])
      ∧ (stay ≠ 0 → go ≠ 0 → ¬ (top = some target ∧ target = rpc) → x.stack.length < 16 →
        ∃ t, exec (.bra p g) s = .next t ∧ groupBecomes s t p g
          { x with active := go, pc := target, stack := ⟨rpc, x.active, x.pc + 8, stay⟩ :: x.stack } [keyOf F.BLK_VX_DIVERGE p 0])
      ∧ (stay ≠ 0 → go ≠ 0 → ¬ (top = some target ∧ target = rpc) → 16 ≤ x.stack.length →
        ∃ t, exec (.bra p g) s = .next t ∧ (t.blk p).vxStopped = true ∧ t.grp p g = some x))
  ∧ (∀ (s : State) (p g : Nat) (x : Group),
      let i := s.inc F.BLK_VX_ISSUED p 0
      let c := counted s F.BLK_VX_BAR_WAIT p
      let w := vecWord s p x
      (vecReady s p g .join x → joinRuns s p g x)
      ∧ (∀ b, vecReady s p g (if b then .barB else .barG) x → x.stores = [] →
        let ls := lanesOf x.active
        let y : Group := { x with active := 0, waits := ls.foldl (fun m l => SMap.put l x.pc m) x.waits,
                                  waitBlk := ls.foldl (fun m l => SMap.put l b m) x.waitBlk }
        exec (if b then .barB p g else .barG p g) s = .next ((counted i F.BLK_VX_BAR_WAIT p).settle p g y)
        ∧ (x.active = ~~~x.exited →
          (b = false → ∃ t, exec (.barG p g) s = .next t ∧ groupBecomes c t p g (pastBarrier x) [])
          ∧ (b = true → ∀ h z o, (s.blk p).vx = [(g, x), (h, z)] → g < h → z.atBlk = some o →
            ∃ t, exec (.barB p g) s = .next t ∧ t.grp p g = some (pastBarrier x) ∧ t.grp p h = some (z.release o))
          ∧ (b = true → ∀ h z, (s.blk p).vx = [(g, x), (h, z)] → g < h → z.alive ≠ [] → z.atBlk = none →
            ∃ t, exec (.barB p g) s = .next t ∧ groupBecomes c t p g y.unstack [])))
      ∧ (vecReady s p g .exit x →
        let gone := x.guarded w
        let y : Group := { x with exited := x.exited ||| gone, active := x.active &&& ~~~gone,
                                  stack := x.stack.map (fun e => { e with mask := e.mask &&& ~~~gone, pendMask := e.pendMask &&& ~~~gone }) }
        (x.active &&& ~~~gone = 0 → exec (.exit p g) s = .next (i.settle p g y))
        ∧ (x.active &&& ~~~gone ≠ 0 → ∃ t, exec (.exit p g) s = .next t ∧ groupBecomes s t p g { y with pc := x.pc + 8 } [])))

/-- A vector load from awake scratchpad gives the registers of every lane that takes part the bytes at its address; one from context space that meets no fault and finds no line in the L1 leaves a load in flight. -/
def Obligations.VectorLoadsFillRegisters : Prop :=
  ∀ (s : State) (p g : Nat) (x : Group) (run : Run), vecReady s p g .ld x → s.plaza.run = some run →
    let w := vecWord s p x
    let n := VX.szBytes (VX.sz w)
    let part := (List.range 32).filter (fun l => takesPart x w l)
    (VX.sp w = 0 → x.inFlight < 8 → (∀ l ∈ part, ∀ i, i < n → s.spAsleep p (32 * ((x.spAddr w l + i) % 2 ^ 20 / 32)) 32 = []) →
      ∃ t y, exec (.vxLd p g) s = .next t ∧ t.grp p g = some y ∧ y.pc = x.pc + 8 ∧ y.active = x.active
        ∧ ∀ l i, l ∈ part → i < VX.szRegs (VX.sz w) → y.t l (VX.d w + i) =
            bitsOf (vecExtend (VX.sz w) (leNat ((List.range n).map (fun k =>
              if s.spServes p (s.spPlaceOf p (x.spAddr w l + k)).1 spVec then s.spByte p (x.spAddr w l + k) else 0)))) (32 * i) 32)
    ∧ (VX.sp w = 1 → (∀ l ∈ part, s.laneFault run.ctx (x.addr w l) n x.sr false = none) → x.inFlight < 8 →
      part ≠ [] → (∀ l ∈ part, ∀ z, s.xlat run.ctx (x.addr w l) x.sr false = some z → s.l1Find p (z.addr / 128) z.owner z.keyh = none) →
      ∃ t y, exec (.vxLd p g) s = .next t ∧ t.grp p g = some y ∧ y.pc = x.pc + 8 ∧ y.loads.length = x.loads.length + 1 ∧ y.treg = x.treg)

/-- A vector store to awake scratchpad puts the bytes of the highest lane at each address; one to context space, and a reduction, that meet
no fault send their requests and leave a store in flight; a fault stops issue and performs nothing. -/
def Obligations.VectorStoresAndReductionsAreSent : Prop :=
  ∀ (s : State) (p g : Nat) (x : Group) (run : Run), s.plaza.run = some run →
    let w := vecWord s p x
    let n := VX.szBytes (VX.sz w)
    let part := (List.range 32).filter (fun l => takesPart x w l)
    (vecReady s p g .st x → VX.sp w = 0 → x.inFlight < 8 → (s.blk p).sp.inject = 0 →
      (∀ l ∈ part, ∀ i, i < n → s.spAsleep p (32 * ((x.spAddr w l + i) % 2 ^ 20 / 32)) 32 = []) →
      ∃ t, exec (.vxSt p g) s = .next t ∧ t.grp p g = some { x with pc := x.pc + 8 }
        ∧ ∀ l i, l ∈ part → i < n → s.spServes p (s.spPlaceOf p (x.spAddr w l + i)).1 spVec = true →
            (∀ k ∈ part, l < k → ∀ j, j < n → (x.spAddr w k + j) % 2 ^ 20 ≠ (x.spAddr w l + i) % 2 ^ 20) →
            t.spByte p (x.spAddr w l + i) = BitVec.ofNat 8 (x.stored l (VX.b w) (VX.sz w) / 2 ^ (8 * i)))
    ∧ (∀ c op, ((c, op) = (Instr.vxSt p g, VecOp.st) ∧ VX.sp w = 1) ∨ (c, op) = (Instr.red p g, VecOp.red) → vecReady s p g op x → x.inFlight < 8 → part ≠ [] →
      ((∀ l ∈ part, s.laneFault run.ctx (x.addr w l) n x.sr true = none) →
        ∃ t ids, exec c s = .next t ∧ ids ≠ [] ∧ t.grp p g = some { x with pc := x.pc + 8, stores := x.stores ++ [ids] }
          ∧ t.nextReq = s.nextReq + ids.length ∧ t.dram = s.dram ∧ t.slices = s.slices)
      ∧ (∀ l k, l ∈ part → s.laneFault run.ctx (x.addr w l) n x.sr true = some k → (∀ j ∈ part, j < l → s.laneFault run.ctx (x.addr w j) n x.sr true = none) →
        ∃ t, exec c s = .next t ∧ (t.blk p).vxStopped = true ∧ t.grp p g = some x ∧ t.reqs = s.reqs
          ∧ (s.rd F.BLK_VX_FAULT_KIND p = 0 → t.rd F.BLK_VX_FAULT_KIND p = k ∧ t.rd F.BLK_VX_FAULT_LANE p = l)))

/-- VX_LOAD_RETURN: the answer that completes a vector load, among those that can arrive next, writes the registers of its lanes; GROUP_RETIRE: a group that has exited with its stores complete leaves its
slot; ILLEGAL_VECTOR_ENCODING: the group keeps its place in its launch and its loads, and no other thread group, core or queue of the Block changes. -/
def Obligations.VectorGroupsStartLoadAndRetire : Prop :=
  ∀ (s : State) (p g : Nat) (x : Group), p < nBlks → s.grp p g = some x →
    (∀ k r l0, ((inOrder s p).filter (fun r => x.loads.any (fun l => l.need.contains r.req.id)))[k]? = some r → x.loads = [l0] → l0.need = [r.req.id] →
      ∃ t y, exec (.vxLoadReturn p g k) s = .next t ∧ t.grp p g = some y ∧ y.loads = [] ∧ y.pc = x.pc
        ∧ t.resps = s.resps.filter (fun q => q.req.id != r.req.id)
        ∧ y.treg = (l0.items.foldl (fun (y : Group) i =>
            y.putLoad i.lane l0.d l0.sz (lineNat ((SMap.put r.req.line r.data l0.got).get i.line 0) i.off i.size)) x).treg)
    ∧ (x.alive = [] → x.stores = [] → ∃ t, exec (.groupRetire p g) s = .next t ∧ t.dram = s.dram ∧ (t.blk p).core = (s.blk p).core
        ∧ t.grp p g = none)
    ∧ (VX.decode (vecWord s p x) = none → (s.blk p).core.running = true → (s.blk p).vxStopped = false → x.active ≠ 0 →
        ∃ t y, exec (.illegalVectorEncoding p g) s = .next t ∧ t.grp p g = some y ∧ y.ord = x.ord ∧ y.num = x.num ∧ y.groups = x.groups
          ∧ y.loads = x.loads ∧ y.stores = x.stores ∧ (∀ l, l < 32 → x.exited.getLsbD l = true → y.exited.getLsbD l = true)
          ∧ (∀ h, h ≠ g → t.grp p h = s.grp p h) ∧ (t.blk p).core = (s.blk p).core ∧ (t.blk p).q = (s.blk p).q ∧ t.sec = s.sec)

/-! ### Command queues, matrix arrays, copies and dispatch -/

namespace Sys2Proof.Claims

/-- The head e of queue k of Block p, with command e.cmd, can leave it now (R156 to R166): the frame runs, no check has failed, the check
and the opcode are right, its unit takes it, and its WAIT is met. -/
def headLeaves (s : State) (p : Nat) (k : Q) (e : QEntry) : Prop :=
  p < nBlks ∧ (s.blk p).q.stopped = false ∧ (s.blk p).core.running = true ∧ (s.blk p).q.entries k ≠ [] ∧ (s.blk p).q.entries k = e :: ((s.blk p).q.entries k).tail
    ∧ (∀ f ∈ (s.blk p).q.inflight, f.ord ≠ e.ord) ∧ EC.checkOk e.cmd = true ∧ EC.queueOf (EC.opcode e.cmd) = some k
    ∧ s.unitTakes p e.cmd = true ∧ s.waitMet p k e.cmd = true

/-- The entries of queue k after its head has left: a sync command keeps its entry. -/
def afterHead (s : State) (p : Nat) (k : Q) : List QEntry := if k = .sxq then (s.blk p).q.sxq else ((s.blk p).q.entries k).tail

/-- The event counter that the head's WAIT decrements (R165). -/
def ecAfterWait (s : State) (p : Nat) (e : QEntry) (n : Nat) : Nat :=
  if EC.wait e.cmd = true ∧ n = EC.waitEc e.cmd then s.ec p n - 1 else s.ec p n

/-- The commands that a unit takes from the head of a queue, with queue and opcode. -/
def takeRows (p : Nat) : List (Instr × Q × Nat) :=
  [(.mload p, .mxq, 0x10), (.mpass p, .mxq, 0x11), (.mdrain p, .mxq, 0x12), (.vlaunch p, .vxq, 0x20), (.dcopy p, .dxq, 0x30), (.sfence p, .sxq, 0x40)]

/-- What a taken head does to its Block's queues: it has left its queue and is in flight, not done, with its WAIT performed. -/
def tookHead (s t : State) (p : Nat) (k : Q) (e : QEntry) : Prop :=
  (t.blk p).q.entries k = afterHead s p k ∧ (∀ j, j ≠ k → (t.blk p).q.entries j = (s.blk p).q.entries j)
    ∧ (∀ n, t.ec p n = ecAfterWait s p e n)
    ∧ (∃ f ∈ (t.blk p).q.inflight, f.ord = e.ord ∧ f.cmd = e.cmd ∧ f.q = k ∧ f.done = false)

/-- The ramp after the front end has accepted a matrix command (R94, R96): it rises from off, and again from ramp-down. -/
def rampAccepts (r : Ramp) : Ramp :=
  match r with
  | .off => .up 1
  | .down n => if n = 4 then .hold else .up (n + 1)
  | .up n => .up n
  | .hold => .hold

/-- The ramp where BALLAST_OFF leaves it in force, and as it was where not (R98). -/
def rampTaken (s : State) (p : Nat) : Ramp :=
  if s.rd F.BLK_MX_TEST_BALLAST_OFF p = 0 then rampAccepts (s.blk p).mx.ramp else (s.blk p).mx.ramp

/-- Bytes that a unit of Block p reads at a scratchpad address: zero where a bank does not serve it (R214, R215). -/
def unitReads (s : State) (p : Nat) (u : SpUnit) (a n : Nat) : List Byte :=
  (List.range n).map (fun i => if s.spServes p (s.spPlaceOf p (a + i)).1 u = true then s.spByte p (a + i) else 0)

/-- Whether the work of a command in flight is done, so that it completes (R156, R169, R176, R179). -/
def completes (s : State) (p : Nat) (f : InFlight) : Bool :=
  if EC.opcode f.cmd = 0x20 then f.started && (s.blk p).vx.all (fun (g : Nat × Group) => g.2.ord != f.ord)
  else if EC.opcode f.cmd = 0x40 then s.drained p f.ord (EC.fld f.cmd 4 0 3)
  else if EC.opcode f.cmd = 0x42 then false else f.done

/-- A ramp after its next step of 16 cycles: up to hold, down to off (R94, R96); warm-up ballast raises it to its level in an ON district whose
core stands (R429). -/
def rampAfter (s : State) (p : Nat) (r : Ramp) : Ramp :=
  let warm : Bool := s.pwr.warming && s.domOn (p / 34) && !(s.blk p).core.running
  let l := s.rd F.PWR_WARMUP_LEVEL
  match r with
  | .off => if warm then .up 1 else .off
  | .up n => if warm then (if n < l then .up (n + 1) else .up l) else if n = 4 then .hold else .up (n + 1)
  | .hold => .hold
  | .down n => if n < 2 then .off else .down (n - 1)

/-- Accumulator set k of Block p's arrays. -/
def accOf (s : State) (p k : Nat) : AccSet := (s.blk p).mx.accs.get k ⟨none, false, []⟩

/-- The command in flight with order number n is done. -/
def isDone (t : State) (p n : Nat) : Prop := ∀ x ∈ (t.blk p).q.inflight, x.ord = n → x.done = true

/-- Who reads and writes context space for command c of Block p's district or DMA (R162). -/
def actsFor (s : State) (src : Src) (run : Run) (c : Cmd) : Accessor :=
  ⟨src, run.ctx, EC.sr c, s.cmdClass c, if EC.lc c = true then some (EC.deadline c) else none⟩

/-- Gather engine of Block p's district. -/
def engineOf (p : Nat) : Nat := distOf p

/-- The engine's next command is c, of Block p with opcode op, and it may start (R158, R164). -/
def engineFront (s : State) (p op : Nat) (c : GCmd) : Prop :=
  p < nBlks ∧ (s.blk p).core.running = true ∧ (s.gath (engineOf p)).free = true
    ∧ (s.gath (engineOf p)).inbound = c :: (s.gath (engineOf p)).inbound.tail ∧ c.blk = p ∧ EC.opcode c.cmd = op

/-- The state with the engine's front command taken out of its buffer. -/
def popFront (s : State) (p : Nat) : State := s.onGath (engineOf p) (fun g => { g with inbound := g.inbound.tail })

end Sys2Proof.Claims

/-- MLOAD, MDRAIN, VLAUNCH and SFENCE at the head of their queue, which their unit can take: the head leaves its queue, is in flight, and has
performed its WAIT. MLOAD and MDRAIN change nothing else but the ramp, SFENCE nothing else, and VLAUNCH of a legal size and entry fills the
lowest free slots with its groups. -/
def Obligations.QueueHeadsLeaveInOrder : Prop :=
  ∀ (s : State) (p : Nat) (e : QEntry), ∀ r ∈ takeRows p, headLeaves s p r.2.1 e → EC.opcode e.cmd = r.2.2 → r.2.2 ≠ 0x11 → r.2.2 ≠ 0x30 →
    (r.2.2 = 0x20 → 0 < EC.fld e.cmd 6 0 5 ∧ EC.fld e.cmd 6 0 5 ≤ 16 ∧ EC.fld e.cmd 4 0 16 % 8 = 0) →
    ∃ t, exec r.1 s = .next t ∧ t = { s with regs := t.regs, blks := t.blks, free := t.free } ∧ blksBut p s t ∧ tookHead s t p r.2.1 e
      ∧ t.blk p = { s.blk p with q := (t.blk p).q, vx := (t.blk p).vx, mx := { (s.blk p).mx with ramp := (t.blk p).mx.ramp } }
      ∧ (t.blk p).mx.ramp = (if r.2.1 = .mxq then rampTaken s p else (s.blk p).mx.ramp)
      ∧ (r.2.2 ≠ 0x20 → (t.blk p).vx = (s.blk p).vx)
      ∧ regsBut [keyOf F.BLK_CMD_CLASS_SUBST p 0, keyOf F.BLK_MX_BALLAST_CYCLES p 0, keyOf F.BLK_VX_IDLE p 0] s t
      ∧ (r.2.2 = 0x20 → ∀ i, i < EC.fld e.cmd 6 0 5 → ∃ g y, ((List.range 16).filter (fun g => (s.grp p g).isNone))[i]? = some g
          ∧ t.grp p g = some y ∧ y.num = i ∧ y.pc = EC.fld e.cmd 4 0 16 ∧ y.active = BitVec.allOnes 32 ∧ y.exited = 0)

/-- MPASS at the head of MXQ, which the front end can take: the head leaves, the ramp rises, and the fetch unit puts its first row-slots into the
feeder queues, at most 16, in token order from token 0; the first one of an unmasked pass that has a plan holds the bytes at ABASE. Buffers, sets,
core, thread groups and the words of scratchpad are as before. -/
def Obligations.MatrixPassIsAcceptedAndFed : Prop :=
  ∀ (s : State) (p : Nat) (e : QEntry), headLeaves s p .mxq e → EC.opcode e.cmd = 0x11 →
    ∃ t, exec (.mpass p) s = .next t ∧ blksBut p s t ∧ tookHead s t p .mxq e
      ∧ (t.blk p).mx.ramp = rampTaken s p ∧ (t.blk p).mx.bufs = (s.blk p).mx.bufs ∧ (t.blk p).mx.accs = (s.blk p).mx.accs
      ∧ (t.blk p).core = (s.blk p).core ∧ (t.blk p).vx = (s.blk p).vx ∧ (t.blk p).sp = (s.blk p).sp ∧ t.dram = s.dram ∧ t.slices = s.slices
      ∧ (∀ pl, (s.blk p).plan e.ord e.cmd = some pl →
          (t.blk p).mx.feed ≠ [] ∧ (t.blk p).mx.feed.length ≤ 16 ∧ (t.blk p).mx.feed.length ≤ MX.tokens e.cmd
          ∧ (∀ (m : Nat) (x : FeedSlot), (t.blk p).mx.feed[m]? = some x → x.ord = e.ord ∧ x.token = m)
          ∧ (MX.maskEn e.cmd = false → ∀ x, (t.blk p).mx.feed.head? = some x → x.masked = false
              ∧ x.elems = leNat (unitReads s p feeder (32 * MX.abase e.cmd) (32 * pl.d * modeS pl.mode * pl.act.w / 8))))

/-- A head whose check fails is discarded, stops the Block's queues, and reports 0x0301; one with a reserved opcode, or in another queue than
its own, is discarded, counted as malformed, and reports 0x0302.
COMMAND_COMPLETE: the k-th command whose work is done, and which no earlier done command of an in-order unit precedes, leaves flight, and its
POST increments its event counter, which saturates. -/
def Obligations.QueueHeadsAreCheckedAndCommandsComplete : Prop :=
  (∀ (s : State) (p : Nat) (e : QEntry), ∀ r ∈ takeRows p, p < nBlks → (s.blk p).q.stopped = false → (s.blk p).core.running = true →
      (s.blk p).q.entries r.2.1 = e :: ((s.blk p).q.entries r.2.1).tail → (∀ f ∈ (s.blk p).q.inflight, f.ord ≠ e.ord) →
      (EC.checkOk e.cmd = false →
        exec r.1 s = .next ((s.fault 0x0301 (pageIdx .blk p) 0).onQ p (fun q => { q.put r.2.1 (q.entries r.2.1).tail with stopped := true })))
      ∧ (EC.checkOk e.cmd = true → EC.queueOf (EC.opcode e.cmd) ≠ some r.2.1 →
        exec r.1 s = .next (((s.inc F.BLK_CMD_MALFORMED p 0).fault 0x0302 (pageIdx .blk p) 0).onQ p (fun q => q.put r.2.1 (q.entries r.2.1).tail))))
  ∧ (∀ (s : State) (p k : Nat) (f : InFlight), p < nBlks → (s.blk p).core.running = true →
      (firstOfUnit ((s.blk p).q.inflight.filter (completes s p)))[k]? = some f →
      ∃ t, exec (.commandComplete p k) s = .next t ∧ onlyBlks s t ∧ blksBut p s t
        ∧ (t.blk p).q.inflight = (s.blk p).q.inflight.filter (fun x => x.ord != f.ord)
        ∧ (∀ n, t.ec p n = if EC.post f.cmd = true ∧ n = EC.postEc f.cmd ∧ s.ec p n ≠ 65535 then s.ec p n + 1 else s.ec p n)
        ∧ (f.q = .sxq → (t.blk p).q.sxq = (s.blk p).q.sxq.tail)
        ∧ t.blk p = { s.blk p with q := (t.blk p).q } ∧ regsBut [keyOf F.BLK_EC_SATURATED p 0] s t)

/-- BARRIER: a Block whose BARRIER is in flight and drained arrives and counts its wait. BARRIER_RELEASE: the barrier of a scope is released once
every enabled Block of it waits at the barrier of one number. FRAME_END: a taken one completes frame end once every earlier command and every
request of the Block has completed. -/
def Obligations.BarriersAndFrameEnd : Prop :=
  ∀ (s : State),
    (∀ p f, p < nBlks → (s.blk p).core.running = true → (∀ e, (s.blk p).q.sxq.head? = some e → ∃ f ∈ (s.blk p).q.inflight, f.ord = e.ord) →
      ((s.blk p).held 0x41).find? (fun f => !f.started) = some f → s.drained p f.ord (EC.fld f.cmd 4 0 3) = true →
      ∃ t, exec (.barrier p) s = .next t ∧ t = { counted s F.BLK_BAR_WAIT p with blks := t.blks } ∧ blksBut p s t
        ∧ (t.blk p).q.atBarrier = some (EC.fld f.cmd 5 0 1 == 0)
        ∧ (t.blk p).q.inflight = (s.blk p).q.inflight.map (fun x => if x.ord = f.ord then { x with started := true } else x))
    ∧ (∀ chip d n, d < nDist →
      let ps := if chip then s.enabledBlks else s.blksOf d
      ps ≠ [] → (∀ p ∈ ps, (s.blk p).q.atBarrier = some chip ∧ (if chip then (s.blk p).q.barChip else (s.blk p).q.barDist) = n) →
      ∃ t, exec (.barrierRelease chip d) s = .next t ∧ onlyBlks s t ∧ t.regs = s.regs
        ∧ (∀ p ∈ ps, (t.blk p).q.atBarrier = none ∧ (∀ f ∈ (t.blk p).q.inflight, EC.opcode f.cmd = 0x41 → f.started = true → f.done = true))
        ∧ (∀ p, p ∉ ps → t.blk p = s.blk p))
    ∧ (∀ p f, p < nBlks → (s.blk p).core.running = true → (∀ e, (s.blk p).q.sxq.head? = some e → ∃ f ∈ (s.blk p).q.inflight, f.ord = e.ord) →
      ((s.blk p).held 0x42).head? = some f → s.drained p f.ord 7 = true → s.blkQuiet p = true →
      ∃ t, exec (.frameEnd p) s = .next t ∧ onlyBlks s t ∧ t.regs = s.regs ∧ blksBut p s t
        ∧ t.blk p = { s.blk p with q := { (s.blk p).q with ended := true } })

/-- MPASS_START: the next pass, once the arrays are in hold or their ramps are off, the loads and drains before it are done and its first row-slot is
queued, streams its row-slots and is done; weights, core and thread groups are as before. A pass of one unmasked token that does not
accumulate puts the 32 column sums of its row-slot into token row FIRST of the set that it names, in every array of the mask, and takes the
row-slot out of the queues; every other set is as before. -/
def Obligations.MatrixPassWritesColumnSums : Prop :=
  ∀ (s : State) (p : Nat) (f : InFlight), p < nBlks → (s.blk p).core.running = true → (s.blk p).nextOf 0x11 = some f →
    (s.rd F.BLK_MX_TEST_BALLAST_OFF p ≠ 0 ∨ (s.blk p).mx.ramp = .hold) →
    (s.blk p).allDone 0x10 f.ord (fun c => MX.buf c == MX.buf f.cmd && (MX.loadMask c &&& MX.passMask f.cmd) != 0) = true →
    (s.blk p).allDone 0x12 f.ord (fun c => MX.dset c == MX.set f.cmd) = true → (s.blk p).fed f = true →
    ∃ t, exec (.mpassStart p) s = .next t ∧ isDone t p f.ord ∧ blksBut p s t ∧ (t.blk p).mx.bufs = (s.blk p).mx.bufs
      ∧ (t.blk p).core = (s.blk p).core ∧ (t.blk p).vx = (s.blk p).vx ∧ t.dram = s.dram
      ∧ (∀ pl x, (s.blk p).plan f.ord f.cmd = some pl → (s.blk p).mx.feed = [x] → x.masked = false → MX.tokens f.cmd = 1 → MX.add f.cmd = false →
          (t.blk p).mx.feed = []
          ∧ (∀ k, (∀ a, a < 4 → (MX.passMask f.cmd).testBit a = true → k ≠ 2 * a + MX.set f.cmd) →
              SMap.find k (t.blk p).mx.accs = SMap.find k (s.blk p).mx.accs)
          ∧ ∀ a, a < 4 → (MX.passMask f.cmd).testBit a = true →
              let img := leNat ((s.blk p).mx.bufs.get (2 * a + MX.buf f.cmd) ⟨30, 0, []⟩).image
              ∃ y, SMap.find (2 * a + MX.set f.cmd) (t.blk p).mx.accs = some y ∧ y.isInt = some pl.act.fmt.isNone
                ∧ SMap.find (MX.first f.cmd) y.rows = some ((List.range 32).map (fun k => BitVec.ofNat 32 ((passRow pl img ⟨x.elems, x.scales⟩).1.getD k 0))))

/-- MLOAD_START: the load unit's next MLOAD, once every earlier pass on its buffer is done, puts the tile image that scratchpad holds at IMG into
the named buffer of every array of the mask, with its format and mode (a reserved code leaves the buffer undefined), and is done; the sets, the
ramp and the words of scratchpad are as before.
MDRAIN_START: the drain unit's next MDRAIN, once every earlier pass into its set is done, writes its token rows and is done; sets, buffers and
core are as before. A drain of one row puts the 32 words of row FIRST of each array of the mask, converted to its format, at OBASE, the
arrays one after another, where the feeders are served. -/
def Obligations.MatrixLoadsAndDrains : Prop :=
  (∀ (s : State) (p : Nat) (f : InFlight), p < nBlks → (s.blk p).core.running = true → (s.blk p).nextOf 0x10 = some f →
      (s.blk p).allDone 0x11 f.ord (fun c => MX.buf c == MX.buf f.cmd) = true →
      ∃ t, exec (.mloadStart p) s = .next t ∧ isDone t p f.ord ∧ blksBut p s t
        ∧ (∀ a, a < 4 → (MX.loadMask f.cmd).testBit a = true → ∃ b, SMap.find (2 * a + MX.buf f.cmd) (t.blk p).mx.bufs = some b
            ∧ (∀ o, opFmt (MX.wfmt f.cmd) = some o → MX.mode f.cmd ≠ 3 → b.wfmt = MX.wfmt f.cmd ∧ b.mode = MX.mode f.cmd
                ∧ b.image = unitReads s p feeder (32 * MX.img f.cmd a) (imageBytes o (MX.mode f.cmd))))
        ∧ (∀ k, (∀ a, a < 4 → (MX.loadMask f.cmd).testBit a = true → k ≠ 2 * a + MX.buf f.cmd) →
            SMap.find k (t.blk p).mx.bufs = SMap.find k (s.blk p).mx.bufs)
        ∧ (t.blk p).mx.accs = (s.blk p).mx.accs ∧ (t.blk p).mx.ramp = (s.blk p).mx.ramp ∧ (t.blk p).sp = (s.blk p).sp
        ∧ (t.blk p).core = (s.blk p).core)
  ∧ (∀ (s : State) (p : Nat) (f : InFlight), p < nBlks → (s.blk p).core.running = true → (s.blk p).nextOf 0x12 = some f →
      (s.blk p).allDone 0x11 f.ord (fun c => MX.set c == MX.dset f.cmd) = true →
      ∃ t, exec (.mdrainStart p) s = .next t ∧ isDone t p f.ord
        ∧ (t.blk p).mx = (s.blk p).mx ∧ (t.blk p).core = (s.blk p).core
        ∧ (∀ g es, MX.drainFmt f.cmd = some (g, es) → MX.rows f.cmd = 1 → (s.blk p).sp.inject = 0 →
            (∀ i, i < 128 * es → s.spServes p (s.spPlaceOf p (32 * MX.obase f.cmd + i)).1 feeder = true) →
            ∀ a i b, a < 4 → (MX.drainMask f.cmd).testBit a = true → i < 32 → b < es →
              (accOf s p (2 * a + MX.dset f.cmd)).bad = false → (accOf s p (2 * a + MX.dset f.cmd)).isInt ≠ some g.isSome →
              let w := (((accOf s p (2 * a + MX.dset f.cmd)).rows.get (MX.dfirst f.cmd) []).getD i 0).toNat
              let v := match g with | some m => convertF m (MX.sat f.cmd) w | none => w
              t.spByte p (32 * MX.obase f.cmd + 32 * a * es + es * i + b) = BitVec.ofNat 8 (v / 2 ^ (8 * b))))

/-- RAMP_STEP moves the ramp one level, HOLD_EXPIRY begins the ramp-down of arrays in hold for which no pass waits, and GATE_BOUNDARY has the arrays of
every site of the district take over the levels of PWR.GATE and of their district's DGATE; nothing else changes but, at a boundary with a
level set, the counters of gated cycles. -/
def Obligations.MatrixRampsAndGatesMove : Prop :=
  (∀ (s : State) (p : Nat), p < nBlks → s.rd F.BLK_MX_TEST_BALLAST_OFF p = 0 →
    (∃ t, exec (.rampStep p) s = .next t ∧ onlyBlks s t ∧ t.regs = s.regs ∧ blksBut p s t
      ∧ t.blk p = { s.blk p with mx := { (s.blk p).mx with ramp := rampAfter s p (s.blk p).mx.ramp, lfsr := (t.blk p).mx.lfsr } })
    ∧ ((s.blk p).mx.ramp = .hold → (∀ f ∈ (s.blk p).held 0x11, f.started = true) →
      ∃ t, exec (.holdExpiry p) s = .next t ∧ onlyBlks s t ∧ t.regs = s.regs ∧ blksBut p s t
        ∧ t.blk p = { s.blk p with mx := { (s.blk p).mx with ramp := .down 4 } }))
  ∧ (∀ (s : State) (d : Nat), d < nDist →
    ∃ t, exec (.gateBoundary d) s = .next t ∧ t = { s with regs := t.regs, blks := t.blks, free := t.free }
      ∧ regsBut ((List.range 34).map (fun i => keyOf F.BLK_MX_GATED (34 * d + i) 0)) s t
      ∧ (s.rd F.PWR_GATE = 0 → s.rd F.PWR_LDO_DGATE 0 d = 0 → t.regs = s.regs)
      ∧ (∀ q, q / 34 = d → t.blk q = { s.blk q with mx := { (s.blk q).mx with gate := s.rd F.PWR_GATE, dgate := s.rd F.PWR_LDO_DGATE 0 d } })
      ∧ (∀ q, q / 34 ≠ d → t.blk q = s.blk q))

/-- DCOPY leaves its queue and is done; a copy of one row from scratchpad to scratchpad, in banks that are awake and that the Block DMA is
served by, leaves at the destination the bytes of the source. -/
def Obligations.DcopyMovesBytes : Prop :=
  ∀ (s : State) (p : Nat) (e : QEntry) (run : Run), headLeaves s p .dxq e → EC.opcode e.cmd = 0x30 → s.plaza.run = some run →
    ∃ t, exec (.dcopy p) s = .next t
      ∧ (∀ x ∈ (t.blk p).q.inflight, x.ord = e.ord → x.done = true) ∧ (t.blk p).q.dxq = (s.blk p).q.dxq.tail
      ∧ (DC.rows e.cmd = 0 ∨ DC.rowBytes e.cmd = 0 → onlyBlks s t ∧ (t.blk p).sp = (s.blk p).sp ∧ (t.blk p).im = (s.blk p).im)
      ∧ (DC.rows e.cmd = 1 → DC.srcKind e.cmd = 0 → DC.dstKind e.cmd = 0 → DC.ok e.cmd = true →
          DC.dst e.cmd + DC.rowBytes e.cmd ≤ 2 ^ 20 → (s.blk p).sp.errs = [] → (s.blk p).sp.inject = 0 →
          (∀ i, i < DC.rowBytes e.cmd → s.spAsleep p (DC.src e.cmd + i) 1 = [] ∧ s.spAsleep p (DC.dst e.cmd + i) 1 = []
            ∧ s.spServes p (s.spPlaceOf p (DC.src e.cmd + i)).1 (spDma e.ord) = true ∧ s.spServes p (s.spPlaceOf p (DC.dst e.cmd + i)).1 (spDma e.ord) = true) →
          ∀ i, i < DC.rowBytes e.cmd → t.spByte p (DC.dst e.cmd + i) = s.spByte p (DC.src e.cmd + i))

/-- DGATHER, XDISPATCH and XCOMBINE at the front of their engine leave its buffer and have their effect: the gather and the combine are done; a
dispatch part counts its choices and waits at the engine with its table. One at the head of DXQ, with the engine's buffer empty, leaves its
queue and goes the same way. -/
def Obligations.GatherEngineRunsItsFrontCommand : Prop :=
  ∀ (s : State) (p : Nat) (run : Run), s.plaza.run = some run →
    let d := engineOf p
    let s1 := popFront s p
    (∀ c, engineFront s p 0x31 c → ∃ t, exec (.dgather p) s = .next t ∧ isDone t p c.ord
      ∧ (DG.count c.cmd = 0 ∨ DG.rowBytes c.cmd = 0 → t = s1.cmdDone p c.ord)
      ∧ (DG.count c.cmd ≠ 0 → DG.rowBytes c.cmd ≠ 0 → DG.ok c.cmd = true → t = (s1.doGather p d c.ord c.cmd (actsFor s (.gath d) run c.cmd)).cmdDone p c.ord))
    ∧ (∀ c, engineFront s p 0x39 c → ∃ t, exec (.xcombine p) s = .next t ∧ isDone t p c.ord)
    ∧ (∀ c, engineFront s p 0x38 c →
      let r := s1.ctxRead (actsFor s (.gath d) run c.cmd) (XD.desc c.cmd) 128 []
      XD.ok c.cmd r.2.1 = true →
      ∃ t x, exec (.xdispatch p) s = .next t ∧ x ∈ (t.gath d).parts ∧ x.blk = p ∧ x.ord = c.ord ∧ x.desc = r.2.1 ∧ x.part = XD.part c.cmd
        ∧ ∃ k ∈ x.tables, k.part = XD.part c.cmd ∧ k.dtag = XD.dtag c.cmd
            ∧ k.table = countSel (XD.k r.2.1) (XD.e r.2.1) (r.1.selections (actsFor s (.gath d) run c.cmd) c.cmd r.2.1 r.2.2).2.1)
    ∧ (∀ e i op, (i, op) ∈ [(Instr.dgather p, 0x31), (.xcombine p, 0x39), (.xdispatch p, 0x38)] → headLeaves s p .dxq e → EC.opcode e.cmd = op →
      (s.gath d).inbound = [] → (s.gath d).free = true →
      ∃ t, exec i s = .next t ∧ (t.gath d).inbound = [] ∧ (t.blk p).q.dxq = (s.blk p).q.dxq.tail ∧ (op ≠ 0x38 → isDone t p e.ord))

/-- COUNT_TABLE: a count table reaches every part of its tag that does not hold it yet, and no other. PLACEMENT: a part that holds every table places
its choices in rank-major order, each part's after those of the parts before it, is done, and leaves its engine. -/
def Obligations.DispatchPlacesInRankMajorOrder : Prop :=
  ∀ (s : State) (d k : Nat), d < nDist →
    (∀ c, (s.gath d).incoming[k]? = some c →
      exec (.countTable d k) s = .next (s.onGath d (fun g => { g with
        incoming := g.incoming.eraseIdx k
        parts := g.parts.map (fun x => if x.dtag = c.dtag ∧ ¬ x.tables.any (fun y => y.part == c.part) then { x with tables := x.tables ++ [c] } else x) })))
    ∧ (∀ x, ((s.gath d).parts.filter Part.ready)[k]? = some x → (∃ run, s.plaza.run = some run) →
      ∃ t, exec (.placement d k) s = .next t ∧ (∀ y ∈ (t.blk x.blk).q.inflight, y.ord = x.ord → y.done = true)
        ∧ (∀ y ∈ (t.gath d).parts, ¬ (y.blk = x.blk ∧ y.ord = x.ord)))
    ∧ (∀ (x : Part) (j p e : Nat), x.before j (p + 1) e = x.before j p e + x.cnt p (cntKey j e) ∧ x.before (j + 1) 0 e = x.before j x.parts e)

/-! ### Scratchpad owners and banks, Clove -/

namespace Sys2Proof.Claims

/-- A source that exists and whose writes reach the registers (R360, R455). -/
def mayCommand (s : State) (src : Source) : Prop := sourceOk src = true ∧ s.mayWrite src = true

/-- The keys of the request and owner fields of bank b of Block p. -/
def ownKeys (p b : Nat) : List Nat :=
  [keyOf F.BLK_SP_OWN_UNIT_REQ p b, keyOf F.BLK_SP_OWN_GATH_REQ p b, keyOf F.BLK_SP_OWN_UNIT p b, keyOf F.BLK_SP_OWN_GATH p b, keyOf F.BLK_SP_OWN_PENDING p b]

end Sys2Proof.Claims

/-- BANK_WAKE makes a waking bank ACTIVE. SP_OWN_WRITE takes effect at once in an idle bank, one that does not wake and on which no Clove run
works, and waits in any other; codes 6 and 7 are rejected. CLOVE_START in a Block out of service wakes every bank and leaves the run busy.
CLOVE_DONE records the result, a destructive run leaving every byte of the scratchpad zero and a preserving one leaving the contents; for a slice
it ends that slice's run of bring-up. -/
def Obligations.ScratchpadOwnersAndClove : Prop :=
  ∀ (s : State) (p b : Nat) (src : Source) (v : Word), p < nBlks → b < 16 →
    (bitOf (s.rd F.BLK_SP_STATUS_WAKING p) b = true →
      exec (.bankWake p b) s = .next (s.wr F.BLK_SP_STATUS_WAKING p 0 (clrBit (s.rd F.BLK_SP_STATUS_WAKING p) b)))
    ∧ (mayCommand s src → 5 < bitsOf v.toNat 0 3 → exec (.spOwnWrite src p b v) s = .next (s.setEvt .blk p 0))
    ∧ (mayCommand s src → bitsOf v.toNat 0 3 ≤ 5 →
      ∃ t, exec (.spOwnWrite src p b v) s = .next t ∧ onlyRegs s t ∧ regsBut (ownKeys p b) s t
        ∧ t.rd F.BLK_SP_OWN_UNIT_REQ p b = bitsOf v.toNat 0 3 ∧ t.rd F.BLK_SP_OWN_GATH_REQ p b = bitsOf v.toNat 3 4
        ∧ (bitOf (s.rd F.BLK_SP_STATUS_WAKING p) b = false → (s.blk p).sp.clove = none →
            t.rd F.BLK_SP_OWN_UNIT p b = bitsOf v.toNat 0 3 ∧ t.rd F.BLK_SP_OWN_GATH p b = bitsOf v.toNat 3 4 ∧ t.rd F.BLK_SP_OWN_PENDING p b = 0)
        ∧ (bitOf (s.rd F.BLK_SP_STATUS_WAKING p) b = true ∨ (s.blk p).sp.clove.isSome = true →
            t.rd F.BLK_SP_OWN_UNIT p b = s.rd F.BLK_SP_OWN_UNIT p b ∧ t.rd F.BLK_SP_OWN_PENDING p b = 1))
    ∧ (mayCommand s src → s.enabled .blk p = false → bitOf v.toNat 0 = true → (s.blk p).sp.clove = none →
      ∃ t, exec (.cloveStart src p v) s = .next t ∧ onlyBlks s t ∧ blksBut p s t
        ∧ regsBut [keyOf F.BLK_CLOVE_CTRL_MODE p 0, keyOf F.BLK_CLOVE_RESULT_BUSY p 0, keyOf F.BLK_SP_STATUS_WAKING p 0, keyOf F.BLK_SP_STATUS_RETAINED p 0,
            keyOf F.BLK_SP_WAKE p 0] s t
        ∧ t.blk p = { s.blk p with sp := { (s.blk p).sp with clove := some (bitOf v.toNat 1) } }
        ∧ t.rd F.BLK_CLOVE_RESULT_BUSY p = 1 ∧ t.rd F.BLK_SP_STATUS_WAKING p = 0
        ∧ (∀ k, k < 16 → bitOf (t.rd F.BLK_SP_STATUS_RETAINED p) k = false))
    ∧ (∀ (fail : BitVec 16) (row : BitVec 11) (pres : Bool), (s.blk p).sp.clove = some pres → (s.rd F.BOOT_STATUS_STAGE ≠ 5 ∨ (fail = 0 ∧ s.sec.cloves ≠ [])) →
      ∃ t, exec (.cloveDone false p fail row) s = .next t ∧ onlyBlks s t ∧ blksBut p s t
        ∧ (t.blk p).sp.clove = none ∧ t.rd F.BLK_CLOVE_RESULT_BUSY p = 0 ∧ t.rd F.BLK_CLOVE_RESULT_FAIL p = fail.toNat
        ∧ t.rd F.BLK_CLOVE_RESULT_ROW p = (if fail = 0 then 0 else row.toNat) ∧ bitOf (t.evts .blk p) 11 = true
        ∧ (pres = false → ∀ a, t.spByte p a = 0)
        ∧ (pres = true → (t.blk p).sp = { (s.blk p).sp with clove := none }))
    ∧ (∀ (n : Nat) (fail : BitVec 16) (row : BitVec 11), n < nSlices → s.sec.cloves.contains n = true → s.rd F.BOOT_STATUS_STAGE ≠ 5 ∨ (s.sec.cloves.filter (fun k => k != n)) ≠ [] →
      fail = 0 → exec (.cloveDone true n fail row) s = .next (s.onSec (fun e => { e with cloves := e.cloves.filter (fun k => k != n) })))

/-! ### The cache slices -/

namespace Sys2Proof.Claims

/-- Slice n is about to take request r, of a line that it holds as x under the request's owner and key, with no error stored there and no
miss register for it (R235, R236); r asks for no run-ahead. -/
def sliceHits (s : State) (n : Nat) (r : Req) (x : Line) : Prop :=
  n < nSlices ∧ s.pick n = some r ∧ r.isPf = false ∧ r.ra = false ∧ (s.slc n).parity = none
    ∧ (∀ m ∈ (s.slc n).miss, m.line ≠ r.line) ∧ (s.slc n).errs = [] ∧ (s.slc n).record = []
    ∧ (s.slc n).at r.line = some x ∧ x.line = r.line ∧ x.owner = r.owner ∧ x.keyh = r.keyh ∧ (x.st = .clean ∨ x.st = .dirty)

/-- Slice n is about to take request r for a line of which it knows nothing, in a set with way w free (R237). -/
def sliceMisses (s : State) (n : Nat) (r : Req) (w : Nat) : Prop :=
  n < nSlices ∧ s.pick n = some r ∧ r.ra = false ∧ (s.slc n).parity = none ∧ (∀ m ∈ (s.slc n).miss, m.line ≠ r.line)
    ∧ (s.slc n).at r.line = none ∧ (s.slc n).victim (Machine.setOf r.line) = .way w false
    ∧ ((s.slc n).lines.find? (fun x => x.way == w && Machine.setOf x.line == Machine.setOf r.line)) = none

/-- The requests that stay when r is taken. -/
def othersThan (s : State) (r : Req) : List Req := s.reqs.filter (fun q => q.id != r.id)

end Sys2Proof.Claims

/-- SLICE_REQUEST of a line that the slice holds: a read whose bytes the line holds is answered with the line and counted as a hit; a write to a
line without sharers puts its bytes into the line, which becomes DIRTY with the writer's context as WRITER, and is acknowledged; a reduction
combines with the bytes that the line holds. External memory is as before. -/
def Obligations.SliceHitsAnswerAndMerge : Prop :=
  ∀ (s : State) (n : Nat) (r : Req) (x : Line), sliceHits s n r x →
    (r.op = .read → r.mask &&& x.bvalid = r.mask →
      ∃ t y, exec (.sliceRequest n []) s = .next t ∧ t.resps = s.resps ++ [⟨r, x.data⟩] ∧ t.reqs = othersThan s r
        ∧ t.dram = s.dram ∧ t.sectors = s.sectors ∧ t.memcs = s.memcs ∧ regsBut [keyOf F.SLC_HITS n 0] s t
        ∧ t.rd F.SLC_HITS n = satAdd (2 ^ F.SLC_HITS.width - 1) (s.rd F.SLC_HITS n) 1
        ∧ (∀ l, l ≠ r.line → (∀ y, (s.slc n).at l = some y → ¬ (y.way = x.way ∧ Machine.setOf y.line = Machine.setOf x.line)) → (t.slc n).at l = (s.slc n).at l)
        ∧ (t.slc n).at r.line = some y ∧ y.st = x.st ∧ y.data = x.data ∧ y.bvalid = x.bvalid)
    ∧ (x.dmode = 0 → (s.slc n).inject = 0 → r.op = .write ∨ (∃ op, r.op = .reduce op ∧ r.mask &&& x.bvalid = r.mask) →
      ∃ t y, exec (.sliceRequest n []) s = .next t ∧ t.resps = s.resps ++ [⟨r, 0⟩] ∧ t.reqs = othersThan s r ∧ t.invs = s.invs
        ∧ t.dram = s.dram ∧ t.sectors = s.sectors ∧ t.memcs = s.memcs ∧ t.blks = s.blks ∧ regsBut [keyOf F.SLC_HITS n 0] s t
        ∧ (t.slc n).at r.line = some y ∧ y.st = .dirty ∧ y.bvalid = x.bvalid ||| r.mask ∧ y.writer = r.ctx.orElse (fun _ => x.writer)
        ∧ (r.op = .write → y.data = mergeLine x.data r.data r.mask)
        ∧ (∀ op, r.op = .reduce op → y.data = mergeLine x.data (r.combine op x.data) r.mask))

/-- SLICE_REQUEST of a line that the slice does not hold, with a way of its set free: a read takes the way, which is FILLING, and a miss
register with the read as its waiter; a write takes it DIRTY with the bytes written valid; a reduction takes it as a REDUCE line. PREFETCH takes
a FILLING way and a miss register without a waiter, if 24 registers are free and its caps allow one. External memory is as before.
REQUEST_RETRY offers the oldest refused request again. -/
def Obligations.SliceMissesTakeRegisters : Prop :=
  ∀ (s : State) (n : Nat),
    (∀ r w, sliceMisses s n r w → r.op = .read → s.missRoom n r = true →
      ∃ t y m, exec (.sliceRequest n []) s = .next t ∧ t.reqs = othersThan s r ∧ t.resps = s.resps ∧ t.dram = s.dram ∧ t.memcs = s.memcs ∧ t.blks = s.blks
        ∧ (t.slc n).at r.line = some y ∧ y.st = .filling ∧ y.way = w ∧ y.owner = r.owner ∧ y.keyh = r.keyh
        ∧ (t.slc n).miss = (s.slc n).miss ++ [m] ∧ m.line = r.line ∧ m.kind = .fetch ∧ m.stage = .waiting ∧ m.waiters = [r]
        ∧ t.rd F.SLC_MISSES n = satAdd (2 ^ F.SLC_MISSES.width - 1) (s.rd F.SLC_MISSES n) 1)
    ∧ (∀ r w, sliceMisses s n r w → (s.slc n).inject = 0 → r.op = .write ∨ (∃ op, r.op = .reduce op ∧ r.skew op = false ∧ r.shadow = false) →
      ∃ t y, exec (.sliceRequest n []) s = .next t ∧ t.reqs = othersThan s r ∧ t.resps = s.resps ++ [⟨r, 0⟩] ∧ t.dram = s.dram ∧ t.memcs = s.memcs ∧ t.blks = s.blks
        ∧ (t.slc n).miss = (s.slc n).miss ∧ (t.slc n).at r.line = some y ∧ y.way = w ∧ y.owner = r.owner ∧ y.keyh = r.keyh
        ∧ (r.op = .write → y.st = .dirty ∧ y.bvalid = r.mask ∧ y.data = mergeLine 0 r.data r.mask)
        ∧ (∀ op, r.op = .reduce op → y.st = .reduce ∧ y.redop = op))
    ∧ (∀ r w st, sliceMisses s n r w → r.op = .prefetch st → (s.slc n).miss.length ≤ 72 → s.missRoom n r = true →
      ∃ t y m, exec (.prefetch n) s = .next t ∧ t.reqs = othersThan s r ∧ t.resps = s.resps ∧ t.dram = s.dram ∧ t.memcs = s.memcs ∧ t.blks = s.blks
        ∧ (t.slc n).at r.line = some y ∧ y.st = .filling ∧ y.way = w
        ∧ (t.slc n).miss = (s.slc n).miss ++ [m] ∧ m.line = r.line ∧ m.kind = .prefetch st ∧ m.waiters = []
        ∧ t.rd F.SLC_PF_ISSUED n = satAdd (2 ^ F.SLC_PF_ISSUED.width - 1) (s.rd F.SLC_PF_ISSUED n) 1)
    ∧ (∀ r, n < nSlices → bestBy (Req.older s) (s.reqs.filter (fun r => s.firstRefused r && s.homeOf r.line == some n)) = some r →
      exec (.requestRetry n) s = .next { s with reqs := s.reqs.map (fun q => if q.id = r.id then { q with refused := false } else q) })

/-- LINE_FILL answers the read that waited for the line, which is CLEAN with every byte valid; bytes already written into it are kept. RESOLVE
combines the line's partial values with what memory holds: the result stands in memory and in the slice, where the line is CLEAN. -/
def Obligations.SliceFillsAndResolves : Prop :=
  ∀ (s : State) (n : Nat) (m : Miss) (x : Line), n < nSlices → (s.slc n).at m.line = some x → (s.slc n).miss = [m] → (s.slc n).inject = 0 →
    (∀ d, m.stage = .done d none → m.kind = .fetch → m.waiters = [] →
      ∃ t y, exec (.lineFill n 0) s = .next t ∧ (t.slc n).miss = [] ∧ (t.slc n).at m.line = some y
        ∧ y.st = (if x.st = .filling then .clean else x.st) ∧ y.data = mergeLine d x.data x.bvalid ∧ y.bvalid = BitVec.allOnes 128
        ∧ t.dram = s.dram ∧ t.regs = s.regs ∧ t.resps = s.resps)
    ∧ (∀ d r, m.stage = .done d none → m.kind = .fetch → m.waiters = [r] → r.op = .read → r.line = m.line → r.owner = x.owner → r.keyh = x.keyh → r.ra = false →
      (x.st = .filling ∨ x.st = .clean ∨ x.st = .dirty) → (s.slc n).parity = none → (s.slc n).errs = [] → (s.slc n).record = [] →
      ∃ t, exec (.lineFill n 0) s = .next t ∧ (t.slc n).miss = [] ∧ t.resps = s.resps ++ [⟨r, mergeLine d x.data x.bvalid⟩] ∧ t.dram = s.dram)
    ∧ (m.stage = .slot → m.kind = .resolve → m.keyWait = false → m.checkWait = false → m.lc = false → m.waiters = [] → s.sharers x = [] →
      s.reachable (n / 8) m.line = true → Memory.wf s.dram = true →
      let old := ((s.freeMiss n m.line).inc F.SLC_RESOLVES n 0).readLine (n / 8) x.line x.keyh
      old.2.2 = none →
      ∃ t y, exec (.resolve n 0) s = .next t ∧ (t.slc n).miss = [] ∧ (t.slc n).at m.line = some y ∧ y.st = .clean ∧ y.sdirty = 0
        ∧ y.data = combineLine x.redop old.2.1 x.data (BitVec.allOnes 128)
        ∧ (∀ i, i < 128 → memRead t.dram (128 * m.line + i) = lineByte y.data i) ∧ t.blks = s.blks ∧ t.resps = s.resps)

/-- PIN and UNPIN are writes of PIN_REQ: a PIN request that no reason refuses takes its entry with the range, owner and ways asked for; an UNPIN request frees the entry and
unpins its lines; one refused for one reason changes only PIN_RESULT. PIN_DONE of an entry with a fill under way sets FILLED and its event. -/
def Obligations.PinRequestsTakeAndFreeEntries : Prop :=
  ∀ (s : State) (src : Source) (d : Nat) (v : Word), mayCommand s src → d < nDist →
    let e := bitsOf v.toNat 2 4
    (∀ c ∈ [Instr.pin src d v, Instr.unpin src d v],
      (s.pinRefusals d v.toNat = [] → bitsOf v.toNat 0 2 = 1 →
        ∃ t, exec c s = .next t ∧ t = { s with regs := t.regs, pins := t.pins } ∧ t.rd F.SLC_PIN_RESULT_CODE (8 * d) = 1 ∧ t.rd F.SLC_PIN_RESULT_ENTRY (8 * d) = e
          ∧ t.rd F.SLC_PIN_ENTRY_VALID (8 * d) e = 1 ∧ t.rd F.SLC_PIN_ENTRY_FILLED (8 * d) e = 0
          ∧ SMap.find (16 * d + e) t.pins = some ⟨s.rd F.SLC_PIN_BASE_BASE (8 * d), s.rd F.SLC_PIN_SIZE_SIZE (8 * d), bitsOf v.toNat 16 14, bitsOf v.toNat 6 4, bitOf v.toNat 10⟩)
      ∧ (s.pinRefusals d v.toNat = [] → bitsOf v.toNat 0 2 ≠ 1 →
        ∃ t q, exec c s = .next t ∧ SMap.find (16 * d + e) s.pins = some q ∧ t.rd F.SLC_PIN_RESULT_CODE (8 * d) = 1 ∧ SMap.find (16 * d + e) t.pins = none
          ∧ (∀ n, n / 8 = d → ∀ x ∈ (t.slc n).lines, q.base ≤ x.line * 128 → x.line * 128 < q.base + q.size → x.owner = q.owner → x.pin = false)
          ∧ (∀ n, n / 8 ≠ d → t.slc n = s.slc n) ∧ t.dram = s.dram)
      ∧ (∀ r, s.pinRefusals d v.toNat = [r] → ∃ t, exec c s = .next t ∧ onlyRegs s t ∧ t.rd F.SLC_PIN_RESULT_CODE (8 * d) = r
          ∧ regsBut [keyOf F.SLC_PIN_RESULT_CODE (8 * d) 0, keyOf F.SLC_PIN_RESULT_ENTRY (8 * d) 0, keyOf F.SLC_PIN_RESULT_VALID (8 * d) 0] s t))
    ∧ (∀ q k, k < 16 → SMap.find (16 * d + k) s.pins = some q → q.fill = true → s.rd F.SLC_PIN_ENTRY_FILLED (8 * d) k = 0 →
      ∃ t, exec (.pinDone d k) s = .next t ∧ t.rd F.SLC_PIN_ENTRY_FILLED (8 * d) k = 1 ∧ bitOf (t.evts .slc (8 * d)) 8 = true)

/-- SWEEP_END takes the oldest sweep from the slice's list and leaves no line of its owner or key in the slice. RETIRED leaves the slice RETIRED
and empty, with its event, and no bucket held back. SCRUB_VISIT takes one way of a slice, or one sector of a controller, whose single-bit error it
puts right. INV drops the line from the L1 and is acknowledged; with INV_ACK the write waits for the last acknowledgement and is then answered. -/
def Obligations.SweepsDrainsAndScrubs : Prop :=
  ∀ (s : State) (n : Nat), n < nSlices →
    (∀ w ws, (s.slc n).sweeps = w :: ws → (s.slc n).miss = [] →
      ∃ t, exec (.sweepEnd n) s = .next t ∧ (t.slc n).sweeps = ws
        ∧ (∀ x ∈ (t.slc n).lines, w.owner ≠ some x.owner ∧ w.handle ≠ some x.keyh ∧ ∀ h, w.handle = some h → x.owner ≠ 0x2000 + h))
    ∧ (∀ un, s.rd F.SLC_SLICE_STATE_MODE n = 2 →
      ∃ t, exec (.retired n un) s = .next t ∧ t.rd F.SLC_SLICE_STATE_MODE n = 3 ∧ bitOf (t.evts .slc n) 7 = true ∧ (t.slc n).moved = []
        ∧ (s.winWait = [] → (s.slc n).miss = [] → (t.slc n).lines = []))
    ∧ (s.rd F.ERRQ_ENABLE_EFF ≠ 0 → s.rd F.DOM_STATE (24 + n / 32) = 2 → s.rd F.SLC_SLICE_STATE_MODE n < 2 →
      ∃ t, exec (.scrubVisit false n) s = .next t ∧ (t.slc n).scrub = (s.slc n).scrub + 1
        ∧ (((s.slc n).lines.find? (fun x => Machine.setOf x.line == (s.slc n).scrub % 196608 / 16 && x.way == (s.slc n).scrub % 196608 % 16)) = none →
            t = s.onSlc n (fun sl => { sl with scrub := sl.scrub + 1 })))
    ∧ (∀ g, g < nDist →
      let q := s.rd F.MEMC_RANGE_BASE_BASE g / 32 + (s.mem g).scrub % s.scrubSectors g
      s.rd F.ERRQ_ENABLE_EFF ≠ 0 → s.canWalk g q = true → (s.mem g).failed = false → (∀ e ∈ (s.mem g).checks, ∀ b ∈ e.2, b.err = 0) →
      ∃ t, exec (.scrubVisit true g) s = .next t ∧ t.dram = s.dram ∧ (t.mem g).scrub = (s.mem g).scrub + 1
        ∧ (s.sectorErr q = 1 → t.sectorErr q = 0 ∧ (t.sectors.get q ⟨0, 0⟩).key = (s.sectors.get q ⟨0, 0⟩).key)
        ∧ (s.sectorErr q ≠ 1 → t.sectors = s.sectors))
    ∧ (∀ p i m, p < nBlks → s.invs.findIdx? (fun m => m.blk == p && !m.acked) = some i → s.invs[i]? = some m →
      ∃ t, exec (.inv p) s = .next t ∧ onlyBlks { s with invs := t.invs } t ∧ t.regs = s.regs ∧ blksBut p s t ∧ t.invs = s.invs.set i { m with acked := true }
        ∧ (t.blk p).l1 = (s.blk p).l1.filter (fun y => y.line != m.line) ∧ t.blk p = { s.blk p with l1 := (t.blk p).l1 })
    ∧ (∀ k i m w, k < nSlices → s.invs.findIdx? (fun m => m.slice == k && m.acked) = some i → s.invs[i]? = some m →
      (s.slc k).invWait.find? (fun w => w.req.id == m.req) = some w →
      ∃ t, exec (.invAck k) s = .next t ∧ t.invs = s.invs.eraseIdx i ∧ t.regs = s.regs ∧ t.dram = s.dram ∧ t.blks = s.blks
        ∧ (w.left.filter (fun p => p != m.blk) = [] → t.resps = s.resps ++ [⟨w.req, 0⟩] ∧ (t.slc k).invWait = (s.slc k).invWait.filter (fun w => w.req.id != m.req))
        ∧ (w.left.filter (fun p => p != m.blk) ≠ [] → t.resps = s.resps))

/-! ### Memory controllers and the host window -/

namespace Sys2Proof.Claims

/-- Nothing but the controllers differs. -/
def onlyMems (s t : State) : Prop := t = { s with memcs := t.memcs }

/-- Every controller but g is as before. -/
def memsBut (g : Nat) (s t : State) : Prop := ∀ k, k ≠ g → t.mem k = s.mem k

/-- The miss registers of slice n with those of a line changed, and every other slice as before. -/
def missesMapped (s t : State) (n l : Nat) (f : Miss → Miss) : Prop :=
  t.slc n = { s.slc n with miss := (s.slc n).miss.map (fun y => if y.line = l then f y else y) } ∧ ∀ k, k ≠ n → t.slc k = s.slc k

/-- A request's register has its slot; it waits there for a key and a check burst that the controller does not hold (R262, R266). -/
def slotTaken (s t : State) (g n : Nat) (m : Miss) : Prop :=
  missesMapped s t n m.line (fun y =>
    { y with stage := .slot, keyWait := !(s.mem g).keys.contains m.keyh, checkWait := !(s.mem g).holds (s.checkOf g m.line) })

/-- The requests of a group that wait for a slot, oldest first. -/
def waitingOf (s : State) (g : Nat) : List GMiss :=
  sortOn (GMiss.older s) ((s.groupMiss g).filter (fun x => x.2.stage == .waiting && x.2.kind != .victim))

/-- No word of a check burst that the controller holds has an error. -/
def checksClean (s : State) (g : Nat) : Prop := ∀ e ∈ (s.mem g).checks, ∀ b ∈ e.2, b.err = 0

/-- The bytes of a line under a key, as its four sectors hold them (R265). -/
def sectorsOfLine (s : State) (l h : Nat) : BitVec 1024 :=
  (s.readSector (4 * l + 3) h) ++ (s.readSector (4 * l + 2) h) ++ (s.readSector (4 * l + 1) h) ++ (s.readSector (4 * l) h)

/-- One column command for the read x of controller d (R259, R268): after the second the line is back in its miss register. -/
def columnIssued (s t : State) (d : Nat) (x : GMiss) : Prop :=
  t.dram = s.dram ∧ t.sectors = s.sectors ∧ t.reqs = s.reqs ∧ t.resps = s.resps ∧ t.blks = s.blks ∧ memsBut d s t
    ∧ t.rd F.MEMC_READ_BURSTS d = satAdd (2 ^ F.MEMC_READ_BURSTS.width - 1) (s.rd F.MEMC_READ_BURSTS d) 1
    ∧ (1 < x.2.cols ∨ (s.mem d).holds (s.checkOf d x.2.line) = true → SMap.find (s.bankOf d x.2.line) (t.mem d).rows = some (s.rowOf d x.2.line).2)
    ∧ (1 < x.2.cols → missesMapped s t x.1 x.2.line (fun y => { y with cols := y.cols - 1 }))
    ∧ (x.2.cols ≤ 1 → (s.mem d).holds (s.checkOf d x.2.line) = true →
        ((∀ i, i < 4 → s.sectorBad d (4 * x.2.line + i) = false) →
          missesMapped s t x.1 x.2.line (fun y => { y with stage := .done (sectorsOfLine s x.2.line x.2.keyh) none, cols := 0 }))
        ∧ (∀ i, i < 4 → s.sectorBad d (4 * x.2.line + i) = true → (∀ j, j < i → s.sectorBad d (4 * x.2.line + j) = false) →
          missesMapped s t x.1 x.2.line (fun y => { y with stage := .done 0 (some (4 * x.2.line + i)), cols := 0 })))

/-- The window's one line, which slice n holds as x under the window's owner and key, with no error, no miss register and no request about it. -/
def windowHolds (s : State) (l n : Nat) (x : Line) : Prop :=
  s.homeOf l = some n ∧ s.drainer l = none ∧ s.quadOn l = true ∧ s.reqs = [] ∧ s.resps = [] ∧ s.invs = [] ∧ (s.slc n).invWait = []
    ∧ (s.slc n).miss = [] ∧ (s.slc n).parity = none ∧ (s.slc n).errs = [] ∧ (s.slc n).record = [] ∧ (s.slc n).inject = 0
    ∧ (s.slc n).at l = some x ∧ x.owner = 0x3401 ∧ x.keyh = 0x1401 ∧ (x.st = .clean ∨ x.st = .dirty) ∧ x.bvalid = BitVec.allOnes 128 ∧ x.dmode = 0

/-- Device address of an offset of a port's window (R276). -/
def windowAt (s : State) (port w : Nat) : Nat := s.rd F.PCIE_BAR2_MAP_BASE port * 0x1_0000 + w

end Sys2Proof.Claims

/-- HELD_ADMIT gives the oldest HELD request of a bank a slot that its bank and its caps have free. LINE_REQUEST gives a waiting request a slot,
marks it HELD where its bank takes none, or leaves it waiting for want of room; it issues one column command for the read that the rules pick,
in PARTITION mode among those of the partition whose turn it is; it issues a write of a batch; and with nothing to do it changes nothing. -/
def Obligations.ControllersAdmitAndServe : Prop :=
  ∀ (s : State) (d : Nat), d < nDist →
    (∀ bank x, bestBy (GMiss.older s) ((s.groupMiss d).filter (fun x => x.2.stage == .held && s.bankOf d x.2.line == bank)) = some x →
      s.bankSlots d bank < 64 → s.slotRoom d x.2 = true →
      ∃ t, exec (.heldAdmit d bank) s = .next t ∧ slotTaken s t d x.1 x.2 ∧ t.dram = s.dram ∧ t.memcs = s.memcs)
    ∧ (∀ x, waitingOf s d = [x] → (s.mem d).writes = [] → s.servable d = [] →
      let shut := s.bankShut d (s.bankOf d x.2.line)
      (shut = true → s.heldFor x.1 (s.bankOf d x.2.line) < 16 →
        ∃ t, exec (.lineRequest d) s = .next t ∧ missesMapped s t x.1 x.2.line (fun y => { y with stage := .held }) ∧ t.dram = s.dram ∧ t.memcs = s.memcs
          ∧ t.rd F.SLC_HELD x.1 = satAdd (2 ^ F.SLC_HELD.width - 1) (s.rd F.SLC_HELD x.1) 1)
      ∧ (shut = false → s.slotRoom d x.2 = true → (s.mem d).keys.contains x.2.keyh = false →
        ∃ t, exec (.lineRequest d) s = .next t ∧ slotTaken s t d x.1 x.2 ∧ t.dram = s.dram ∧ t.memcs = s.memcs
          ∧ t.rd F.MEMC_KEY_MISS d = satAdd (2 ^ F.MEMC_KEY_MISS.width - 1) (s.rd F.MEMC_KEY_MISS d) 1)
      ∧ (shut = false → s.slotRoom d x.2 = false → ∃ t, exec (.lineRequest d) s = .next t ∧ t = { s with regs := t.regs, free := t.free }))
    ∧ (∀ x aged, waitingOf s d = [] → s.writeMode d = false → s.partition d = false → s.pickMem d true (s.servable d) = some (x, aged) → checksClean s d →
      ∃ t, exec (.lineRequest d) s = .next t ∧ columnIssued s t d x)
    ∧ (∀ i x aged, waitingOf s d = [] → s.writeMode d = false → s.partition d = true → s.rotTurn d (s.servable d) = some i → checksClean s d →
      s.pickMem d false ((s.servable d).filter (fun x => x.2.part == s.rd F.MEMC_ROT_ENTRY d (((s.mem d).rot + i) % 16))) = some (x, aged) →
      ∃ t, exec (.lineRequest d) s = .next t ∧ columnIssued s t d x ∧ (t.mem d).rot = ((s.mem d).rot + i + 1) % 16)
    ∧ (∀ w, waitingOf s d = [] → s.writeMode d = true → s.pickWrite d = some w →
      ∃ t, exec (.lineRequest d) s = .next t ∧ t = { s with regs := t.regs, memcs := t.memcs } ∧ memsBut d s t ∧ (t.mem d).writes = (s.mem d).writes.erase w
        ∧ (t.mem d).batch = (if (s.mem d).writes.erase w = [] then 0 else if (s.mem d).batch = 0 then 31 else (s.mem d).batch - 1))
    ∧ (waitingOf s d = [] → (s.mem d).writes = [] → s.servable d = [] → exec (.lineRequest d) s = .next s)

/-- KEY_FETCH and CHECK_MISS: the fetched key, or check burst, is held by the controller, and no request of the group waits for it any more;
external memory is as before. -/
def Obligations.ControllersFetchKeysAndChecks : Prop :=
  ∀ (s : State) (d : Nat), d < nDist →
    (∀ h x, (s.groupMiss d).find? (fun x => x.2.keyWait && x.2.keyh == h) = some x →
      ∃ t, exec (.keyFetch d h) s = .next t ∧ h ∈ (t.mem d).keys ∧ (t.mem d).keys.length ≤ max 256 (s.mem d).keys.length ∧ memsBut d s t
        ∧ t.dram = s.dram ∧ t.sectors = s.sectors ∧ t.regs = s.regs ∧ t.blks = s.blks
        ∧ (∀ y ∈ t.groupMiss d, y.2.keyh = h → y.2.keyWait = false))
    ∧ (∀ x, bestBy (GMiss.older s) ((s.groupMiss d).filter (fun x => x.2.checkWait)) = some x →
      ∃ t, exec (.checkMiss d) s = .next t ∧ (t.mem d).holds (s.checkOf d x.2.line) = true ∧ memsBut d s t ∧ t.dram = s.dram ∧ t.blks = s.blks
        ∧ regsBut [keyOf F.MEMC_ROW_HITS d 0, keyOf F.MEMC_ROW_MISSES d 0] s t
        ∧ (∀ y ∈ t.groupMiss d, s.checkOf d y.2.line = s.checkOf d x.2.line → y.2.checkWait = false))

/-- ROW_IDLE_CLOSE closes the row of a bank that no request uses. REFRESH refreshes the next bank of a channel for 140 ns, by the forced
multiplier or the one that MR4 asked for last. MR4_READ takes the highest code of a channel's ranks; one above the range marks its channel and
reports 0x0506. DRIFT_TRACK beyond the range puts the channel in self-refresh, CHANNEL_RETRAIN ends that, and CHANNEL_TRAINING excludes a channel
that fails before the lock. Nothing of this touches external memory. -/
def Obligations.ControllersRefreshAndTrain : Prop :=
  ∀ (s : State) (d : Nat), d < nDist →
    (∀ bank, s.bankSlots d bank = 0 → ∃ t, exec (.rowIdleClose d bank) s = .next t ∧ onlyMems s t ∧ memsBut d s t
      ∧ t.mem d = { s.mem d with rows := SMap.del bank (s.mem d).rows })
    ∧ (∀ bank, s.bankSlots d bank ≠ 0 → exec (.rowIdleClose d bank) s = .next s)
    ∧ (∀ c, c < 4 → s.rd F.MEMC_CHAN_EXCLUDED d c = 0 → (s.mem d).selfRefresh = false → (s.mem d).retrain.contains c = false → (s.mem d).mr4.get c 2 < 8 →
      let m := if s.rd F.MEMC_REFRESH_FORCE d = 1 then s.rd F.MEMC_REFRESH_FORCE_MULT d else (s.mem d).mr4.get c 2
      let b := (s.mem d).refBank.get c 0
      s.rd F.MEMC_REFRESH_FORCE_MULT d < 8 →
      ∃ t, exec (.refresh d c) s = .next t ∧ t = { s with regs := t.regs, memcs := t.memcs, out := ⟨"REFpb", [d, c, b, m], []⟩ :: s.out } ∧ memsBut d s t
        ∧ t.mem d = { s.mem d with
            refBank := SMap.put c ((b + 1) % (if (s.mem d).twoRanks then 32 else 16)) (s.mem d).refBank
            busy := SMap.put (32 * c + b) (s.now + 14) (s.mem d).busy }
        ∧ t.rd F.MEMC_REFRESH_MULT d c = m ∧ regsBut [keyOf F.MEMC_REFRESH_MULT d c] s t)
    ∧ (∀ c, (s.mem d).selfRefresh = true ∨ (s.mem d).retrain.contains c = true → exec (.refresh d c) s = .next s)
    ∧ (∀ mults hot, (∀ i, hot.getD i false = false) →
      ∃ t, exec (.mr4Read d mults hot) s = .next t ∧ t = { s with regs := t.regs, memcs := t.memcs } ∧ memsBut d s t
        ∧ (∀ c, c ∈ s.chansOf d → t.rd F.MEMC_CHAN_HOT d c = 0
            ∧ (t.mem d).mr4.get c 2 = max (min 4 (mults.getD (2 * c) 2)) (if (s.mem d).twoRanks then min 4 (mults.getD (2 * c + 1) 2) else 0)))
    ∧ (∀ mults hot c, c ∈ s.chansOf d → hot.getD (2 * c) false = true →
      ∃ t, exec (.mr4Read d mults hot) s = .next t ∧ t.rd F.MEMC_CHAN_HOT d c = 1 ∧ (t.mem d).mr4.get c 2 = 4 ∧ bitOf (t.evts .memc d) 4 = true ∧ t.dram = s.dram)
    ∧ (∀ c, s.locked = true → (s.chansOf d).contains c = true → (s.mem d).retrain.contains c = false →
      exec (.driftTrack d c true) s = .next (s.onMem d (fun m => { m with retrain := c :: m.retrain })))
    ∧ (∀ c, exec (.driftTrack d c false) s = .next s)
    ∧ (∀ c ok, (s.mem d).retrain.contains c = true →
      ∃ t, exec (.channelRetrain d c ok) s = .next t ∧ (t.mem d).retrain = (s.mem d).retrain.filter (fun x => x != c) ∧ bitOf (t.evts .memc d) 6 = true
        ∧ t.dram = s.dram ∧ (ok = true → t.errq = s.errq))
    ∧ (∀ pass, ∃ t, exec (.channelTraining d pass) s = .next t ∧ t.dram = s.dram ∧ (t.mem d).retrain = []
      ∧ (∀ c ∈ s.chansOf d, t.rd F.MEMC_CHAN_TRAINED d c = b2n (pass.getD c false)
          ∧ (pass.getD c false = false → s.locked = false → t.rd F.MEMC_CHAN_EXCLUDED d c = 1)
          ∧ (pass.getD c false = true ∨ s.locked = true → t.rd F.MEMC_CHAN_EXCLUDED d c = 0)))

/-- LOCK gives every package group a range of 15/16 of the capacity of its channels in service, each range beginning where the one before it
ends, from address 0; a second LOCK changes nothing. HOST_WINDOW_ACCESS while the window is shut answers a read with Unsupported Request and
drops a write, and so it does where a quadrant is not ON. An open window answers a read with as many bytes as were asked for, poisoned where a
line cannot be read, those of a line that its slice holds; it puts the bytes of a write into that line; and an access to a bucket that a drain moves waits. An access
beyond BAR2 changes nothing but the link's L1 state. -/
def Obligations.LockAndHostWindow : Prop :=
  ∀ (s : State),
    (∀ src, mayCommand s src →
      (s.locked = true → exec (.lock src) s = .next s)
      ∧ (s.locked = false → ∃ t, exec (.lock src) s = .next t ∧ onlyRegs s t ∧ t.locked = true
        ∧ t.rd F.MEMC_RANGE_BASE_BASE 0 = 0
        ∧ (∀ g, g < nDist → t.rd F.MEMC_RANGE_SIZE_SIZE g = (s.mem g).chanGiB * 2 ^ 26 * 15 * (s.chansOf g).length % 2 ^ F.MEMC_RANGE_SIZE_SIZE.width)
        ∧ (∀ g, g + 1 < nDist → (∀ k, k < nDist → (s.mem k).chanGiB ≤ 16) →
            t.rd F.MEMC_RANGE_BASE_BASE (g + 1) = t.rd F.MEMC_RANGE_BASE_BASE g + t.rd F.MEMC_RANGE_SIZE_SIZE g)))
    ∧ ∀ (port w len : Nat) (bs : List Byte), port < 2 →
      let s1 := s.wr F.PCIE_LINK_L1 port 0 0
      let ps := pieces (windowAt s port w) len
      (w + len ≤ 2 ^ (s.port port).bar2 → s.windowShut = true ∨ (∃ x ∈ ps, s.quadOn x.1 = false) →
        exec (.hostWindowAccess port w none len) s = .next (s1.emit "UR" [port])
        ∧ (bs.length = len → exec (.hostWindowAccess port w (some bs) 0) s = .next s1))
      ∧ (2 ^ (s.port port).bar2 < w + len → exec (.hostWindowAccess port w none len) s = .next s1)
      ∧ (s.windowShut = false → w + len ≤ 2 ^ (s.port port).bar2 → (∀ x ∈ ps, s.quadOn x.1 = true ∧ s.drainer x.1 = none) →
        ∃ t d, exec (.hostWindowAccess port w none len) s = .next t ∧ d.length = len
          ∧ t.out.head? = some ⟨if ps.any (fun x => s.lineBad x.1 0x3401 0x1401) then "CplD poisoned" else "CplD", [port], d⟩
          ∧ ((∀ x ∈ ps, s.homeOf x.1 = none) → d = List.replicate len 0 ∧ t.slices = s.slices ∧ t.dram = s.dram))
      ∧ (∀ l lo n x, s.windowShut = false → w + len ≤ 2 ^ (s.port port).bar2 → ps = [(l, lo, len, 0)] → windowHolds s l n x →
        (∃ t, exec (.hostWindowAccess port w none len) s = .next t ∧ t.out = ⟨"CplD", [port], lineBytes x.data lo len⟩ :: s.out ∧ t.dram = s.dram ∧ t.blks = s.blks)
        ∧ (bs.length = len → 0 < len → ∃ t y, exec (.hostWindowAccess port w (some bs) 0) s = .next t ∧ (t.slc n).at l = some y ∧ y.st = .dirty ∧ t.out = s.out ∧ t.dram = s.dram
            ∧ ∀ i, i < 128 → lineByte y.data i = if lo ≤ i ∧ i < lo + len then bs.getD (i - lo) 0 else lineByte x.data i))
      ∧ (s.windowShut = false → w + len ≤ 2 ^ (s.port port).bar2 → (∀ x ∈ ps, s.quadOn x.1 = true ∧ (s.homeOf x.1).isSome = true) → (∃ x ∈ ps, (s.drainer x.1).isSome = true) →
        exec (.hostWindowAccess port w none len) s = .next { s1 with winWait := s.winWait ++ [(port, windowAt s port w, none, len)] })

/-! ### Errors -/

namespace Sys2Proof.Claims

/-- The queue entry that a report becomes (R311). -/
def entryOf (s : State) (r : Report) : ErrEntry :=
  ⟨r.code, r.detail, r.ctx, killCode r.code, replayCode r.code, s.isLate r, r.page, r.frame, r.addr, r.syndrome, r.writer, s.errq.nextSeq⟩

/-- The running frame's fault record after a report (R39, R300). -/
def recordAfter (run : Run) (r : Report) : Run := { run with faults := run.faults ++ [⟨r.code, r.addr, killCode r.code, causeOf r.code⟩] }

/-- The unit of a page takes the injection of k flipped bits (R323). -/
def injected (s : State) (k : Nat) : Option (Page × Nat) → State
  | some (.blk, p) => s.onBlk p (fun b => { b with sp := { b.sp with inject := k } })
  | some (.slc, n) => s.onSlc n (fun sl => { sl with inject := k })
  | some (.memc, g) => s.onMem g (fun m => { m with inject := k })
  | _ => s

end Sys2Proof.Claims

/-- ERROR_REPORT: a report that its limits let in is the queue's last entry, with the next sequence number; one that they do not is counted; one
that finds 64 entries makes the device FATAL, and so does an uncorrectable error of the queue's own storage. A kill or replay report of the running
frame enters its record, a parity report stops the slice's next request, and a code that R312 does not list has no effect. POP removes the head,
FATAL_SET makes the device FATAL with cause 4, and ERROR_INJECT arms the unit it names. -/
def Obligations.ErrorsEnterQueueAndRecord : Prop :=
  ∀ (s : State),
    (∀ r, errCodes.contains r.code = false → exec (.errorReport r) s = .next s)
    ∧ (∀ r, errCodes.contains r.code = true → r.code ≠ 0x0201 → r.page ≠ pageIdx .errq 0 →
      (s.storedFor r < limitMax r → s.errq.entries.length < 64 →
        ∃ t, exec (.errorReport r) s = .next t ∧ t.errq.entries = s.errq.entries ++ [entryOf s r] ∧ t.errq.nextSeq = (s.errq.nextSeq + 1) % 2 ^ 32
          ∧ t.errq.ce = s.errq.ce ∧ t.storedFor r = s.storedFor r + 1 ∧ regsBut [keyOf F.ERRQ_ENTRIES 0 0] s t
          ∧ t.rd F.ERRQ_ENTRIES = satAdd (2 ^ F.ERRQ_ENTRIES.width - 1) (s.rd F.ERRQ_ENTRIES) 1 ∧ t.dram = s.dram ∧ t.slices = s.slices
          ∧ (r.code ∉ [0x0103, 0x0104, 0x0105, 0x0109] → t = { s with regs := t.regs, errq := t.errq, plaza := t.plaza }))
      ∧ (limitMax r ≤ s.storedFor r → ∃ t, exec (.errorReport r) s = .next t ∧ t.errq = { s.errq with supp := true }
          ∧ regsBut [keyOf F.ERRQ_SUPPRESSED 0 0] s t ∧ t.rd F.ERRQ_SUPPRESSED = satAdd (2 ^ F.ERRQ_SUPPRESSED.width - 1) (s.rd F.ERRQ_SUPPRESSED) 1)
      ∧ (s.storedFor r < limitMax r → 64 ≤ s.errq.entries.length → s.rd F.TOP_STATUS_FATAL ≠ 1 →
        ∃ t, exec (.errorReport r) s = .next t ∧ t.errq = s.errq ∧ t.rd F.TOP_STATUS_FATAL = 1 ∧ t.rd F.ERRQ_FATAL_CAUSE = 1 ∧ ⟨"FAULT#", [1], []⟩ ∈ t.out)
      ∧ (∀ c run, r.ctx = some c → s.plaza.run = some run → run.ctx = c → r.frame = s.frame → run.ended = false → (killCode r.code || replayCode r.code) = true →
        ∃ t, exec (.errorReport r) s = .next t ∧ t.plaza.run = some (recordAfter run r)))
    ∧ (∀ r, r.page = pageIdx .errq 0 → 0x0101 ≤ r.code → r.code ≤ 0x0109 → s.rd F.TOP_STATUS_FATAL ≠ 1 →
        ∃ t, exec (.errorReport r) s = .next t ∧ t.errq = s.errq ∧ t.rd F.TOP_STATUS_FATAL = 1 ∧ t.rd F.ERRQ_FATAL_CAUSE = 2)
    ∧ (∀ r n, r.code = 0x0201 → pageOf r.page = some (.slc, n) → ∃ t, exec (.errorReport r) s = .next t ∧ (t.slc n).parity = some (r.addr / 16))
    ∧ (∀ src, mayCommand s src →
      exec (.pop src) s = .next { s with errq := { s.errq with entries := s.errq.entries.tail } }
      ∧ (s.rd F.TOP_STATUS_FATAL ≠ 1 → ∃ t, exec (.fatalSet src) s = .next t ∧ t.rd F.TOP_STATUS_FATAL = 1 ∧ t.rd F.ERRQ_FATAL_CAUSE = 4 ∧ t.errq = s.errq)
      ∧ (s.rd F.TOP_STATUS_FATAL = 1 → exec (.fatalSet src) s = .next s)
      ∧ (∀ v : Word, (bitsOf v.toNat 16 2 = 1 ∨ bitsOf v.toNat 16 2 = 2) →
          exec (.errorInject src v) s = .next (injected s (bitsOf v.toNat 16 2) (pageOf (bitsOf v.toNat 0 16))))
      ∧ (∀ v : Word, bitsOf v.toNat 16 2 ≠ 1 → bitsOf v.toNat 16 2 ≠ 2 → exec (.errorInject src v) s = .next (s.setEvt .errq 0 0)))

/-- CE_TABLE_UPDATE counts a correction in the unit's own counter; a new one takes a row of its class's table, and one that the table holds is
counted there. BOND_WINDOW counts a correction of its field, and where the window is over clears the field's counts and begins the next. -/
def Obligations.CorrectionsAreCounted : Prop :=
  ∀ (s : State),
    (∀ c unit addr syn, c < 6 →
      let old := s.errq.ce.get c []
      (old.any (fun e => e.unit == unit && e.addr == addr) = false → old.length < 16 →
        ∃ t, exec (.ceTableUpdate c unit addr syn) s = .next t
          ∧ t = { s with regs := t.regs, errq := { s.errq with ce := SMap.put c (old ++ [⟨unit, addr, syn, 1, s.frame % 2 ^ 32⟩]) s.errq.ce } }
          ∧ (c = 0 → unit < nBlks → t.rd F.BLK_SP_CE unit = satAdd (2 ^ F.BLK_SP_CE.width - 1) (s.rd F.BLK_SP_CE unit) 1)
          ∧ (c = 2 ∨ c = 3 → unit < nSlices → t.rd F.SLC_CE unit = satAdd (2 ^ F.SLC_CE.width - 1) (s.rd F.SLC_CE unit) 1)
          ∧ (c = 4 → unit < nDist → t.rd F.MEMC_CE unit = satAdd (2 ^ F.MEMC_CE.width - 1) (s.rd F.MEMC_CE unit) 1)
          ∧ (c = 1 ∨ c = 5 → t.regs = s.regs))
      ∧ (∃ t, exec (.ceTableUpdate c unit addr syn) s = .next t ∧ t = { s with regs := t.regs, errq := { s.errq with ce := t.errq.ce } }
        ∧ (∃ e ∈ t.errq.ce.get c [], e.unit = unit ∧ e.addr = addr ∧ e.syndrome = syn ∧ e.lastFrame = s.frame % 2 ^ 32)
        ∧ ((∀ k, k ≠ c → t.errq.ce.get k [] = s.errq.ce.get k []))))
    ∧ (∀ n, n < 144 →
      (∀ wires, s.windowOver n = true → ∃ t, exec (.bondWindow n wires) s = .next t ∧ (∀ i, i < 16 → t.rd F.BOND_TRACK_COUNT n i = 0)
        ∧ (∀ e ∈ t.parity, e.1 / 4096 ≠ n) ∧ SMap.find n t.windows = some s.plaza.ticks ∧ t.dram = s.dram ∧ t.errq = s.errq
        ∧ (wires = [] → t = { s with regs := t.regs, parity := t.parity, windows := t.windows }))
      ∧ (s.windowOver n = false → exec (.bondWindow n []) s = .next s)
      ∧ (∀ w, s.windowOver n = false → ∃ t, exec (.bondWindow n [w]) s = .next t ∧ t.dram = s.dram ∧ t.errq = s.errq ∧ t.parity = s.parity
        ∧ t.rd F.BOND_CE n = satAdd (2 ^ F.BOND_CE.width - 1) (s.rd F.BOND_CE n) 1))

/-! ### Mailboxes -/

namespace Sys2Proof.Claims

/-- Mailbox m is being served the command `op` (R473). -/
def mbBusy (s : State) (m op : Nat) : Prop := m < 3 ∧ s.rd F.MB_CTRL_BUSY m ≠ 0 ∧ s.rd F.MB_REQ_OP m = op

/-- As mbBusy, from a source and in a stage in which the command is accepted (R474). -/
def mbServed (s : State) (m op : Nat) (fr : MbFrom) (st : MbStage) : Prop := mbBusy s m op ∧ s.mbFromOk m fr = true ∧ s.mbStageOk st = true

/-- Mailbox m has completed: status and total length, BUSY clear, DONE set, and the response's first 2,048 bytes in the window; the other
mailboxes, external memory and the slices are as in s (R473). -/
def mbDoneWith (s t : State) (m st total : Nat) (resp : List Byte) : Prop :=
  t.rd F.MB_RESP_STATUS m = st ∧ t.rd F.MB_RESP_TOTAL m = total % 2 ^ 24 ∧ t.rd F.MB_CTRL_BUSY m = 0 ∧ t.rd F.MB_CTRL_DONE m = 1
    ∧ (∀ i, i < resp.length → i < 2048 → some ((t.mb m).window.get i 0) = resp[i]?)
    ∧ (∀ k, k ≠ m → t.mb k = s.mb k) ∧ t.dram = s.dram ∧ t.slices = s.slices ∧ t.plaza = s.plaza

/-- As mbDoneWith, with the response kept for RESP_READ. -/
def mbAnswers (s t : State) (m st : Nat) (resp : List Byte) : Prop := mbDoneWith s t m st resp.length resp ∧ (t.mb m).kept = resp

/-- t is right after a reset of s: no context, nothing running, every domain OFF, the boot ROM at its start; the boot flash and fuses are kept. -/
def restarted (s t : State) : Prop :=
  t.pending = s.pending ∧ t.nvm = s.nvm ∧ t.ctxs = [] ∧ t.plaza = Plaza.reset ∧ t.sec.running = false ∧ t.powered = true ∧ t.blks = [] ∧ t.chans = []
    ∧ t.rd F.BOOT_STATUS_STAGE = 1 ∧ t.rd F.TOP_STATUS_READY = 0 ∧ t.rd F.TOP_STATUS_SHUTDOWN = 0 ∧ ∀ n, n < 30 → t.domState n = 0

/-- The mailbox commands, FW_LOAD_DMA with the data d that the host memory returns: OP, who may send them and in which stage (R474). -/
def mbRows (m : Nat) (d : Option (List Byte)) : List (Instr × Nat × MbFrom × MbStage) :=
  [(.respRead m, 0x0001, .any, .any), (.getInfo m, 0x0010, .any, .any), (.getCerts m, 0x0011, .any, .certs), (.attest m, 0x0012, .ports, .ready),
   (.provOpen m, 0x0020, .ports, .ready), (.provImport m, 0x0021, .ports, .ready), (.revoke m, 0x0022, .ports, .ready),
   (.fwLoadBegin m, 0x0030, .primary, .waiting), (.fwLoadData m, 0x0031, .primary, .waiting), (.fwLoadDma m d, 0x0032, .primary, .waiting),
   (.fwLoadEnd m, 0x0033, .primary, .waiting), (.fwFlashWrite m, 0x0034, .primary, .ready), (.svnCommit m, 0x0035, .primary, .ready),
   (.authHandover m, 0x0040, .ports, .ready), (.authClaim m, 0x0041, .ports, .ready), (.telemetryRead m, 0x0050, .any, .any),
   (.logRead m, 0x0051, .any, .ready), (.deviceReset m, 0x0060, .sideband, .any)]

/-- A number of a request: n bytes from offset a on, least significant first. -/
def reqNum (s : State) (m a n : Nat) : Nat := leNat (((s.mbReq m).drop a).take n)

end Sys2Proof.Claims

/-- A mailbox command from a source that may not send it completes with STATUS 3, and one in a stage that does not accept it with STATUS 4,
both with no response and without an effect of its own. RESP_READ answers with a segment of the kept response, GET_INFO, GET_CERTS,
TELEMETRY_READ and LOG_READ with what they name. -/
def Obligations.MailboxRefusesAndReads : Prop :=
  ∀ (s : State) (m : Nat),
    (∀ d, ∀ r ∈ mbRows m d, mbBusy s m r.2.1 →
      (s.mbFromOk m r.2.2.1 = false → ∃ t, exec r.1 s = .next t ∧ mbAnswers s t m 3 [] ∧ t.sec = s.sec ∧ t.nvm = s.nvm ∧ t.later = s.later)
      ∧ (s.mbFromOk m r.2.2.1 = true → s.mbStageOk r.2.2.2 = false →
        ∃ t, exec r.1 s = .next t ∧ mbAnswers s t m 4 [] ∧ t.sec = s.sec ∧ t.nvm = s.nvm ∧ t.later = s.later))
    ∧ (mbServed s m 0x0001 .any .any → (s.mbReq m).length = 4 →
      ∃ t, exec (.respRead m) s = .next t ∧ mbDoneWith s t m 0 (s.mb m).kept.length (((s.mb m).kept.drop (leNat (s.mbReq m))).take 2048)
        ∧ (t.mb m).kept = (s.mb m).kept)
    ∧ (mbServed s m 0x0010 .any .any → s.mbReq m = [] → ∃ t st, exec (.getInfo m) s = .next t
        ∧ mbAnswers s t m 0 (Config.infoLayout [Config.part, Config.serial, Config.fwVersion s.sec.fwMeas, s.sec.fwSvn, svnOf s.nvm.svnFuse, st])
        ∧ st % 16 = s.rd F.BOOT_STATUS_STAGE % 16)
    ∧ (mbServed s m 0x0011 .any .certs → ∃ t, exec (.getCerts m) s = .next t ∧ mbAnswers s t m 0 (Config.certLayout Config.idCert s.sec.akCert))
    ∧ (mbServed s m 0x0050 .any .any → (s.mbReq m).length = 8 →
      let a := reqNum s m 0 4
      let n := leNat ((s.mbReq m).drop 4)
      a + n ≤ 0xEC → ∃ t, exec (.telemetryRead m) s = .next t ∧ mbAnswers s t m 0 ((List.range n).map (fun i => s.mapByte (a + i)))
        ∧ (a ≤ 0x52 → 0x52 < a + n → t.mgmt.events = 0))
    ∧ (mbServed s m 0x0051 .any .ready → (s.mbReq m).length = 8 →
      ∃ t, exec (.logRead m) s = .next t
        ∧ mbAnswers s t m 0 (((s.nvm.log.map LogRec.bytes).flatten.drop (reqNum s m 0 4)).take (leNat ((s.mbReq m).drop 4))))

/-- FW_LOAD_BEGIN, FW_LOAD_DATA, FW_LOAD_DMA, FW_LOAD_END and FW_FLASH_WRITE stage an image, verify it and run it or write it to the flash: a
rejected image neither runs nor reaches the flash. SVN_COMMIT blows fuses up to the running image's SVN and never lowers FUSE_SVN; AUTH_HANDOVER and AUTH_CLAIM ask for the change that step 3
makes; and DEVICE_RESET from the sideband restarts the device. -/
def Obligations.MailboxFirmwareAndAuthority : Prop :=
  ∀ (s : State) (m : Nat),
    let req := s.mbReq m
    let img := s.staged
    let r := imgResult s.nvm.svnFuse img
    (mbServed s m 0x0030 .primary .waiting → req.length = 4 → leNat req ≤ maxImage →
      ∃ t, exec (.fwLoadBegin m) s = .next t ∧ mbAnswers s t m 0 [] ∧ t.sec = { s.sec with stage := [], stageSize := some (leNat req) })
    ∧ (∀ n, mbServed s m 0x0031 .primary .waiting → 8 ≤ req.length → s.sec.stageSize = some n → reqNum s m 0 8 + (req.drop 8).length ≤ n →
      ∃ t, exec (.fwLoadData m) s = .next t ∧ mbAnswers s t m 0 [] ∧ t.sec = { s.sec with stage := t.sec.stage }
        ∧ ∀ i, i < (req.drop 8).length → some (t.sec.stage.get (reqNum s m 0 8 + i) 0) = (req.drop 8)[i]?)
    ∧ (∀ n bs, mbServed s m 0x0032 .primary .waiting → req.length = 12 → s.sec.stageSize = some n → leNat (req.drop 8) ≤ n → bs.length = leNat (req.drop 8) →
      ∃ t, exec (.fwLoadDma m (some bs)) s = .next t ∧ mbAnswers s t m 0 [] ∧ t.sec = { s.sec with stage := t.sec.stage }
        ∧ ∀ i, i < bs.length → some (t.sec.stage.get i 0) = bs[i]?)
    ∧ (mbServed s m 0x0033 .primary .waiting → s.sec.stageSize.isSome = true →
      ∃ t, exec (.fwLoadEnd m) s = .next t ∧ mbAnswers s t m 0 [BitVec.ofNat 8 r] ∧ t.sec.stageSize = none ∧ t.nvm = s.nvm
        ∧ (r = 0 → t.sec.running = true ∧ t.sec.fwMeas = sha384 (imgSigned img) ∧ t.sec.fwSvn = envNum img 8 8 ∧ t.rd F.BOOT_STATUS_STAGE = 3
            ∧ t.mgmt.code = (img.drop 0x100).take (imgSize img) ∧ t.sec.idLocked = true)
        ∧ (r ≠ 0 → t.sec.running = s.sec.running ∧ t.sec.fwMeas = s.sec.fwMeas ∧ t.rd F.BOOT_STATUS_STAGE = 14 ∧ t.rd F.BOOT_STATUS_RESULT = r))
    ∧ (mbServed s m 0x0034 .primary .ready →
      (req = [] → s.sec.stageSize.isSome = true →
        ∃ t, exec (.fwFlashWrite m) s = .next t ∧ mbAnswers s t m 0 [BitVec.ofNat 8 r] ∧ t.nvm = (if r = 0 then { s.nvm with image := img } else s.nvm))
      ∧ (req.length = 4 → leNat req ≤ maxImage →
        ∃ t, exec (.fwFlashWrite m) s = .next t ∧ mbAnswers s t m 0 [] ∧ t.sec.stageSize = some (leNat req) ∧ t.nvm = s.nvm)
      ∧ (∀ n, 8 ≤ req.length → s.sec.stageSize = some n → reqNum s m 0 8 + (req.drop 8).length ≤ n →
        ∃ t, exec (.fwFlashWrite m) s = .next t ∧ mbAnswers s t m 0 [] ∧ t.sec = { s.sec with stage := t.sec.stage } ∧ t.nvm = s.nvm
          ∧ ∀ i, i < (req.drop 8).length → some (t.sec.stage.get (reqNum s m 0 8 + i) 0) = (req.drop 8)[i]?))
    ∧ (mbServed s m 0x0035 .primary .ready →
      ∃ t, exec (.svnCommit m) s = .next t ∧ t.nvm = { s.nvm with svnFuse := t.nvm.svnFuse } ∧ mbAnswers s t m 0 (leBytes 8 (svnOf t.nvm.svnFuse))
        ∧ svnOf s.nvm.svnFuse ≤ svnOf t.nvm.svnFuse
        ∧ (s.sec.fwSvn ≤ svnOf s.nvm.svnFuse → t.nvm.svnFuse = s.nvm.svnFuse)
        ∧ (svnOf s.nvm.svnFuse < s.sec.fwSvn → t.nvm.svnFuse = blowSvn s.nvm.svnFuse s.sec.fwSvn))
    ∧ (mbServed s m 0x0040 .ports .ready → s.later.auth = none → s.rd F.PCIE_AUTH_HOLDER m = 1 → (s.port (1 - m)).up = true →
      exec (.authHandover m) s = .next (s.onLater (fun l => { l with auth := some (m, 1 - m) })))
    ∧ (mbServed s m 0x0041 .ports .ready → s.later.auth = none → s.rd F.PCIE_AUTH_HOLDER m = 0 → (s.port (1 - m)).up = false →
      s.rd F.PCIE_AUTH_CLAIM_MS m * 100000 < s.now - (s.port (1 - m)).downAt →
      exec (.authClaim m) s = .next (s.onLater (fun l => { l with auth := some (m, m) })))
    ∧ (mbServed s m 0x0060 .sideband .any → ∃ t, exec (.deviceReset m) s = .next t ∧ restarted s t ∧ t.dram = s.dram ∧ t.sectors = s.sectors)

/-! ### The security engine -/

namespace Sys2Proof.Claims

/-- Ciphertext, policy and session number of a PROV_IMPORT request. -/
def importPolicy (s : State) (m : Nat) : List Byte := ((s.mbReq m).drop 2).take ((s.mbReq m).length - 50)
def importBox (s : State) (m : Nat) : List Byte := (s.mbReq m).drop ((s.mbReq m).length - 48)

/-- The wrap key of a session (R335): of slot t, the nonces, the peer's point and the device's attestation key. -/
def wrapKey (s : State) (t : Nat) (nt nd qt : List Byte) : BitVec 256 :=
  BitVec.ofNat 256 (leNat (hkdf (ecdh s.ak qt) (some (nt ++ nd)) (ascii "DG3140 WRAP" ++ leBytes 2 t ++ qt) 32))

/-- What the session's wrap key opens. -/
def importOpens (s : State) (m : Nat) (x : Session) : Option (List Byte) :=
  gcmUnbox (leBytes 32 x.kw.toNat) (List.replicate 12 0) (leBytes 2 (reqNum s m 0 2) ++ leBytes 2 x.tenant ++ importPolicy s m) (importBox s m)

end Sys2Proof.Claims

/-- PROV_OPEN opens a session with a number that no open one has and the wrap key of R335; PROV_IMPORT that passes every check provisions the
slot with the imported key and policy, and one that fails stores nothing, sets IMPORT_FAIL and closes the session; SESSION_TIMEOUT closes a session
of 60 s; REVOKE of a slot that no context holds starts its sweep; ATTEST waits for step 3; BIND_REQ is accepted only for a context that is EMPTY or
STOPPED; and ENTROPY_FAIL holds what needs entropy until the source passes again. -/
def Obligations.SecurityProvisionsAndRevokes : Prop :=
  ∀ (s : State) (m : Nat),
    let req := s.mbReq m
    (mbServed s m 0x0020 .ports .ready → req.length = 131 → reqNum s m 0 2 < 4096 → s.sec.entropyOk = true → s.sec.sessions.length < 16 →
      ∃ t, exec (.provOpen m) s = .next t
        ∧ (ecOnCurve (req.drop 34) = true → ∃ x nd, t.sec = { s.sec with sessions := s.sec.sessions ++ [x], drbg := t.sec.drbg } ∧ x.tenant = reqNum s m 0 2
          ∧ x.opened = s.now ∧ x.kw = wrapKey s (reqNum s m 0 2) ((req.drop 2).take 32) nd (req.drop 34)
          ∧ x.id < 65536 ∧ (∀ y ∈ s.sec.sessions, y.id ≠ x.id) ∧ mbAnswers s t m 0 (leBytes 2 x.id ++ nd) ∧ nd.length = 32)
        ∧ (ecOnCurve (req.drop 34) = false → mbAnswers s t m 6 [] ∧ t.sec = s.sec))
    ∧ (∀ x minSvn ms, mbServed s m 0x0021 .ports .ready → s.sec.sessions.find? (fun x => x.id == reqNum s m 0 2) = some x →
        policyOf (importPolicy s m) = some (minSvn, ms) → (s.tenant x.tenant).state = 0 → (s.measTable ++ ms).eraseDups.length ≤ 2048 →
      ∃ t, exec (.provImport m) s = .next t ∧ t.sec.sessions = s.sec.sessions.filter (fun y => y.id != reqNum s m 0 2)
        ∧ (∀ k, importOpens s m x = some k → (∃ resp, mbAnswers s t m 0 resp ∧ resp.length = 16)
          ∧ t.tenant x.tenant = { Tenant.reset with state := 1, key := BitVec.ofNat 256 (leNat k), minSvn := minSvn, meas := ms }
          ∧ (∀ u, u ≠ x.tenant → t.tenant u = s.tenant u) ∧ t.key x.tenant = (t.tenant x.tenant).xts)
        ∧ (importOpens s m x = none → mbAnswers s t m 6 [] ∧ t.keys = s.keys ∧ t.sec.tenants = s.sec.tenants ∧ bitOf (t.evts .sec 0) 2 = true))
    ∧ (∀ k x, s.sec.sessions[k]? = some x →
      (x.opened + 6000000000 ≤ s.now → exec (.sessionTimeout k) s = .next { s with sec := { s.sec with sessions := s.sec.sessions.eraseIdx k } })
      ∧ (s.now < x.opened + 6000000000 → exec (.sessionTimeout k) s = .next s))
    ∧ (mbServed s m 0x0022 .ports .ready → req.length = 2 → leNat req < 4096 → (s.tenant (leNat req)).state ≠ 3 →
      (s.boundSomewhere (leNat req) = false → s.sweepSlices ≠ [] →
        ∃ t, exec (.revoke m) s = .next t ∧ (t.tenant (leNat req)).state = 3 ∧ (t.tenant (leNat req)).waiter = some m ∧ t.rd F.MB_CTRL_BUSY m = s.rd F.MB_CTRL_BUSY m
          ∧ (∀ n ∈ s.sweepSlices, (t.slc n).sweeps = (s.slc n).sweeps ++ [⟨none, some (leNat req)⟩]) ∧ t.dram = s.dram)
      ∧ (s.boundSomewhere (leNat req) = true →
        ∃ t, exec (.revoke m) s = .next t ∧ mbAnswers s t m 7 (Config.reasonBytes 6) ∧ t.sec = s.sec))
    ∧ (mbServed s m 0x0012 .ports .ready → 48 ≤ req.length → req.length % 2 = 0 → req.length ≤ 176 →
      (∀ i, 48 + 2 * i < req.length → envNum req (48 + 2 * i) 2 < 1024) → s.later.attest.contains m = false →
      exec (.attest m) s = .next (s.onLater (fun l => { l with attest := l.attest ++ [m] })))
    ∧ (∀ src v, mayCommand s src →
      let n := bitsOf v.toNat 0 10
      ((s.ctx n).state ≤ 1 → exec (.bindReq src v) s = .next (s.onCtx n (fun c => { c with
          bindReq := SMap.put (bitsOf v.toNat 10 6) (if bitOf v.toNat 28 then 0x1000 else bitsOf v.toNat 16 12) c.bindReq })))
      ∧ (1 < (s.ctx n).state → exec (.bindReq src v) s = .next (s.setEvt .sec 0 0)))
    ∧ (∃ t, exec (.entropyFail false) s = .next t ∧ t = { s with regs := t.regs, sec := { s.sec with entropyOk := false } } ∧ bitOf (t.evts .sec 0) 1 = true)
    ∧ (∃ t, exec (.entropyFail true) s = .next t ∧ t.sec.entropyOk = true ∧ (∀ c ∈ t.plaza.cmds, c.op = 1 → c.prep.isSome = true)
      ∧ (∀ p, p < 8 → s.fabActive p = true → (t.fport p).rekeyHeld = none))
    ∧ (s.plaza.cmds = [] → (∀ p, p < 8 → s.fabActive p = false) → (∀ p, p < 8 → (s.fport p).rekeyHeld = none) →
      exec (.entropyFail true) s = .next { s with sec := { s.sec with entropyOk := true } })

/-! ### Host ports -/

namespace Sys2Proof.Claims

/-- A source that exists and may write channel h's block (R361). -/
def mayUse (s : State) (src : Source) (h : Nat) : Prop := sourceOk src = true ∧ h < nChans ∧ s.mayChannel src h = true

/-- The choice whose intake may be fetched (R62, R315, R366). -/
def intakeDue (s : State) (ch : Choice) : Prop :=
  s.halted = false ∧ s.plaza.choice = some ch ∧ ch.fetched = false ∧ ch.replay = false ∧ ch.intake = none ∧ (s.ctx ch.ctx).channels ≠ [] ∧ (s.ctx ch.ctx).killDue = none

/-- Every enabled channel of the port is DOWN in t and loses its deliveries; the channels of the other port are as in s (R377). -/
def channelsFall (s t : State) (port : Nat) : Prop :=
  (∀ i, i < 128 → s.rd F.CH_ENABLE (128 * port + i) = 1 → t.rd F.CH_DOWN (128 * port + i) = 1)
    ∧ (∀ d ∈ t.plaza.dlv, d ∈ s.plaza.dlv ∧ ¬ (d.chan / 128 = port ∧ s.rd F.CH_ENABLE d.chan = 1))
    ∧ (∀ h, h < nChans → h / 128 ≠ port → t.rd F.CH_DOWN h = s.rd F.CH_DOWN h)

/-- A number of bytes as the second half of a completion entry holds them (R369). -/
def completion (s : State) (h n len st : Nat) : List Byte := leBytes 4 len ++ leBytes 2 st ++ List.replicate 9 0 ++ leBytes 1 (s.phase h n)

end Sys2Proof.Claims

/-- CHANNEL_ENABLE and CHANNEL_RESET of a channel's owner enable and reset it, a reset only while it is not enabled; any other source changes
nothing. TAIL_VALUE moves TAIL_SEEN to a tail that the ring can hold, sets RING_ERR for one that it cannot, and reports a read in error; DUE_READ
keeps the due time; CHAN_OWNER gives a channel that is not enabled to a function, a VF up to 16 of them. -/
def Obligations.HostChannelsAreConfigured : Prop :=
  ∀ (s : State) (src : Source) (h : Nat),
    (mayUse s src h → ∀ v,
      (∃ t, exec (.channelEnable src h v) s = .next t ∧ t = (s.wr F.CH_ENABLE h 0 (b2n v)).dueAsk h ∧ t.rd F.CH_ENABLE h = b2n v ∧ t.plaza = s.plaza)
      ∧ (s.rd F.CH_ENABLE h = 1 → exec (.channelReset src h) s = .next s)
      ∧ (s.rd F.CH_ENABLE h = 0 → ∃ t, exec (.channelReset src h) s = .next t ∧ t = { s with regs := t.regs, chans := t.chans } ∧ t.chan h = Chan.reset
        ∧ t.rd F.CH_HEAD h = 0 ∧ t.rd F.CH_FETCHED h = 0 ∧ t.rd F.CH_TAIL_SEEN h = 0 ∧ t.rd F.CH_DELIVERED h = 0 ∧ t.rd F.CH_DOWN h = 0))
    ∧ (sourceOk src = true → h < nChans → s.mayChannel src h = false → ∀ v, exec (.channelEnable src h v) s = .next s ∧ exec (.channelReset src h) s = .next s)
    ∧ (h < nChans → (s.chan h).tailAsked = true →
      exec (.tailValue h none) s = .next ((s.onChan h (fun c => { c with tailAsked := false })).emit "AER" [h / 128])
      ∧ ∀ w : DWord, s.rd F.CH_ENABLE h ≠ 0 → s.rd F.CH_DOWN h ≠ 1 →
        let v := w.toNat % 2 ^ 32
        let held := (v + 2 ^ 32 - s.rd F.CH_HEAD h) % 2 ^ 32
        ∃ t, exec (.tailValue h (some w)) s = .next t ∧ (t.chan h).tailAsked = false ∧ t.plaza = s.plaza
          ∧ (2 ^ s.rd F.CH_LOG2 h < held → t.rd F.CH_RING_ERR h = 1 ∧ t.rd F.CH_TAIL_SEEN h = s.rd F.CH_TAIL_SEEN h)
          ∧ (held ≤ 2 ^ s.rd F.CH_LOG2 h → v ≠ s.rd F.CH_TAIL_SEEN h →
              t.rd F.CH_TAIL_SEEN h = v ∧ (t.chan h).marks = (s.chan h).marks ++ [(v, (s.chan h).tailTime)]))
    ∧ (∀ v, h < nChans → (s.chan h).dueIdx ≠ none → (s.chan h).due = none →
      exec (.dueRead h v) s = .next (s.onChan h (fun c => { c with due := some (match v with | some w => w.toNat | none => 0) })))
    ∧ (∀ port j (v : Word), mayCommand s src → port < 2 → j < 32 →
      ((∃ k, k < 4 ∧ 16 < bitsOf v.toNat (8 * k) 5) → exec (.chanOwner src port j v) s = .next (s.setEvt .pcie port 7))
      ∧ ((∀ k, k < 4 → bitsOf v.toNat (8 * k) 5 ≤ 16) → ∃ t, exec (.chanOwner src port j v) s = .next t ∧ onlyRegs s t
        ∧ ∀ k, k < 4 → (s.rd F.CH_ENABLE (128 * port + (4 * j + k)) = 1 → t.rd F.PCIE_CHAN_OWNER_FUNC port (4 * j + k) = s.rd F.PCIE_CHAN_OWNER_FUNC port (4 * j + k))
          ∧ (s.rd F.CH_ENABLE (128 * port + (4 * j + k)) = 0 → bitsOf v.toNat (8 * k) 5 = 0 → t.rd F.PCIE_CHAN_OWNER_FUNC port (4 * j + k) = 0)
          ∧ (s.rd F.CH_ENABLE (128 * port + (4 * j + k)) = 0 → (∀ i, i < 4 → i ≠ k → bitsOf v.toNat (8 * i) 5 = s.rd F.PCIE_CHAN_OWNER_FUNC port (4 * j + i)) →
              ((List.range 128).filter (fun i => i != 4 * j + k && s.rd F.PCIE_CHAN_OWNER_FUNC port i == bitsOf v.toNat (8 * k) 5)).length < 16 →
              t.rd F.PCIE_CHAN_OWNER_FUNC port (4 * j + k) = bitsOf v.toNat (8 * k) 5)))

/-- INTAKE_FETCH takes at most 4,096 submissions, flips the half, moves the channels on and leaves the choice with the intake; an area that is
no longer valid kills its context in the next gap. IMEM_LOAD begins the load of the coming frame's code into the idle half of a Block, or skips it
where the half holds the code, and once begun ends it, the live half keeping its words; IMEM_DATA writes only an open idle half. OUTPUT_DELIVERY
completes the next submission of its channel, in order, with its output where it has one. -/
def Obligations.HostIntakeLoadAndDelivery : Prop :=
  ∀ (s : State),
    (∀ ch reads whole, intakeDue s ch →
      ((s.ctx ch.ctx).channels.all (s.areaOk ch.ctx) = false →
        ∃ t, exec (.intakeFetch reads whole) s = .next t ∧ (t.ctx ch.ctx).killDue = some 5 ∧ t.dram = s.dram ∧ t.plaza = s.plaza)
      ∧ ((s.ctx ch.ctx).channels.all (s.areaOk ch.ctx) = true →
        ∃ t i, exec (.intakeFetch reads whole) s = .next t ∧ t.plaza.choice = some { ch with intake := some i, fetched := whole }
          ∧ (∀ h ∈ (s.ctx ch.ctx).channels, t.rd F.CH_FETCHED h = (s.rd F.CH_FETCHED h + (i.subs.filter (fun x => x.chan == h)).length) % 2 ^ 32)
          ∧ i.ctx = ch.ctx ∧ i.half = (s.ctx ch.ctx).intakeHalf ∧ i.subs.length ≤ 4096 ∧ (t.ctx ch.ctx).intakeHalf = 1 - (s.ctx ch.ctx).intakeHalf))
    ∧ (∀ p ch, p < nBlks → s.plaza.choice = some ch → (s.blk p).site = 0 →
      let im := (s.blk p).im
      let idle := 1 - im.live
      (im.idle = .open → im.code idle = some ch.ctx →
        exec (.imemLoad p) s = .next (s.setBlk p { s.blk p with im := { im with idle := .loaded } }))
      ∧ (im.idle = .open → im.code idle ≠ some ch.ctx →
        ∃ t, exec (.imemLoad p) s = .next t ∧ onlyBlks s t ∧ t.regs = s.regs ∧ blksBut p s t ∧ t.blk p = { s.blk p with im := (t.blk p).im }
          ∧ (t.blk p).im.idle = .loading ∧ (t.blk p).im.live = im.live ∧ (t.blk p).im.code idle = none ∧ ∀ h w, (t.blk p).im.word h w = im.word h w)
      ∧ (im.idle = .loading → (s.blk p).sp.inject = 0 →
        ∃ t, exec (.imemLoad p) s = .next t ∧ onlyBlks s t ∧ t.regs = s.regs ∧ blksBut p s t ∧ t.blk p = { s.blk p with im := (t.blk p).im }
          ∧ (t.blk p).im.idle = .loaded ∧ (t.blk p).im.live = im.live ∧ (t.blk p).im.code idle = some ch.ctx
          ∧ (∀ w, (t.blk p).im.word im.live w = im.word im.live w) ∧ (∀ w, (t.blk p).im.word idle w = ((s.ctx ch.ctx).prog[w]?).getD 0x61)))
    ∧ (∀ src p (v : Word), mayCommand s src → p < nBlks →
      let at0 := s.rd F.BLK_IMEM_ADDR_WORD p
      (s.rd F.BLK_IMEM_ADDR_HALF p ≠ 1 → (s.blk p).im.idle = .open →
        ∃ t, exec (.imemData src p (some v)) s = .next t ∧ onlyBlks s t ∧ blksBut p s t ∧ (t.blk p).im.word (1 - (s.blk p).im.live) at0 = v
          ∧ (s.rd F.BLK_IMEM_ADDR_AUTOINC p = 1 → t.rd F.BLK_IMEM_ADDR_WORD p = (at0 + 1) % 16384))
      ∧ (s.rd F.BLK_IMEM_ADDR_HALF p = 1 ∨ (s.blk p).im.idle ≠ .open →
        ∃ t, exec (.imemData src p (some v)) s = .next t ∧ onlyRegs s t ∧ bitOf (t.evts .blk p) 8 = true)
      ∧ (∃ t, exec (.imemData src p none) s = .next t ∧ t.blks = s.blks ∧ t.out = ⟨"READ", [((s.blk p).im.word
          (if s.rd F.BLK_IMEM_ADDR_HALF p = 1 then (s.blk p).im.live else 1 - (s.blk p).im.live) at0).toNat], []⟩ :: s.out))
    ∧ (∀ h i d pos x rest, h < nChans → s.halted = false → s.plaza.dlv.findIdx? (fun d => d.chan == h) = some i → s.plaza.dlv[i]? = some d → d.subs = (pos, x) :: rest →
      ∃ t len st, exec (.outputDelivery h) s = .next t ∧ t.rd F.CH_DELIVERED h = (x.idx + 1) % 2 ^ 32
        ∧ ⟨"HOST_WRITE", [h / 128, s.cqAddr h x.idx 1], completion s h x.idx len st⟩ ∈ t.out
        ∧ (x.status ≠ 0 → len = 0 ∧ st = 7)
        ∧ (∀ u e ok, x.status = 0 → s.committedBytes d.ctx (s.rd F.CH_OUT_AREA h + 8 * pos) 8 = (u, e, false, ok) → len = 0 ∧ st = 6)
        ∧ (∀ u e v bs, x.status = 0 → x.seq = none → s.committedBytes d.ctx (s.rd F.CH_OUT_AREA h + 8 * pos) 8 = (u, e, true, true) →
            u.committedBytes d.ctx (s.rd F.CH_OUT_AREA h + bytesNum e 0 4) (bytesNum e 4 4) = (v, bs, true, true) → bytesNum e 4 4 ≤ subOutMax x.desc →
            len = bs.length ∧ st = 0 ∧ ⟨"HOST_WRITE", [h / 128, subOutAddr x.desc], bs⟩ ∈ t.out)
        ∧ t.plaza.dlv = (if rest = [] then s.plaza.dlv.eraseIdx i else s.plaza.dlv.set i { d with subs := rest }))

/-- LINK_UP brings a powered port's link up at its rate and width; LINK_DOWN takes it down with every enabled channel of its port; HOT_RESET and
PERST also forget what the host configured; PF_FLR and VF_FLR take the function's channels down and disable its interrupts, until a
CONFIGURATION_REQUEST of the function, which sets BAR2, MSI-X and, from the holder of primary authority, ASPM; L1_ENTRY takes an idle port that may
into L1. -/
def Obligations.HostLinksAndResets : Prop :=
  ∀ (s : State) (port : Nat), port < 2 →
    (∀ rate width, 1 ≤ rate → rate ≤ 6 → [1, 2, 4, 8, 16].contains width = true → s.powered = true → s.clkLost.contains port = false →
      ∃ t, exec (.linkUp port rate width) s = .next t ∧ (t.port port).up = true ∧ t.rd F.PCIE_LINK_RATE port = rate ∧ t.rd F.PCIE_LINK_WIDTH port = width
        ∧ t.rd F.PCIE_LINK_L1 port = 0 ∧ (rate = 6 → t.rd F.PCIE_LINK_FLIT port = 1) ∧ t.plaza = s.plaza)
    ∧ (∀ c ∈ [Instr.linkDown port, .hotReset port, .perst port],
      ∃ t, exec c s = .next t ∧ (t.port port).up = false ∧ t.rd F.PCIE_LINK_RATE port = 0 ∧ t.rd F.PCIE_LINK_WIDTH port = 0 ∧ bitOf (t.evts .pcie port) 4 = true
        ∧ channelsFall s t port ∧ t.port (1 - port) = s.port (1 - port) ∧ t.dram = s.dram ∧ t.ctxs = s.ctxs
        ∧ (c ≠ .linkDown port → (t.port port).msix = [] ∧ (t.port port).aspm = false ∧ (t.port port).bar2 = 36))
    ∧ (∃ t, exec (.pfFlr port) s = .next t ∧ (∀ i, i < 128 → t.rd F.CH_DOWN (128 * port + i) = 1) ∧ (t.port port).up = (s.port port).up
        ∧ (∀ f ∈ (t.port port).msix, 17 ≤ f) ∧ (∀ d ∈ t.plaza.dlv, d.chan / 128 ≠ port))
    ∧ (∀ vf, vf < 16 → ∃ t, exec (.vfFlr port vf) s = .next t ∧ (t.port port).msix = (s.port port).msix.filter (fun f => f != vf + 1)
        ∧ (t.port port).inReset.contains (vf + 1) = true
        ∧ ∀ i, i < 128 → t.rd F.CH_DOWN (128 * port + i) = if s.chOwner (128 * port + i) = vf + 1 then 1 else s.rd F.CH_DOWN (128 * port + i))
    ∧ ((s.port port).up = true → (s.port port).aspm = true → (∀ i, i < 128 → s.rd F.CH_ENABLE (128 * port + i) = 0) →
        exec (.l1Entry port) s = .next (s.wr F.PCIE_LINK_L1 port 0 1))
    ∧ (∀ fn what v, (s.port port).up = true → fn ≤ 16 →
      ∃ t, exec (.configurationRequest port fn what v) s = .next t ∧ fn ∉ (t.port port).inReset ∧ t.rd F.PCIE_LINK_L1 port = 0 ∧ t.plaza = s.plaza
        ∧ (what = 0 → fn = 0 → 30 ≤ v → v ≤ 36 → (t.port port).bar2 = v) ∧ (what = 1 → (fn ∈ (t.port port).msix ↔ v ≠ 0))
        ∧ (what = 2 → fn = 0 → (s.rd F.PCIE_AUTH_HOLDER port = 1 → (t.port port).aspm = decide (v ≠ 0))
            ∧ (s.rd F.PCIE_AUTH_HOLDER port ≠ 1 → (t.port port).aspm = (s.port port).aspm ∧ bitOf (t.evts .pcie port) 5 = true)))

/-! ### The fabric -/

namespace Sys2Proof.Claims

/-- The packets whose handling begins with the link layer's check of SEQ (R384 to R386). -/
def rxRows (p : Nat) (k : Pkt) (ok : Bool) : List Instr :=
  [.ctrl p k, .landed p k, .data p k, .commitToken p k, .abortMarker p k, .slotFree p k, .time p k, .lane p k, .rekey p k ok]

/-- Packet k is the next one of port p, sealed in the epoch in force, and asks for nothing to be sent again. -/
def nextPkt (s : State) (p : Nat) (k : Pkt) : Prop :=
  p < 8 ∧ s.fabActive p = true ∧ k.seq % 4096 = (s.fport p).rxSeq ∧ k.epoch = (s.fport p).rxEpoch ∧ k.nak = false

/-- The link layer has taken packet k of port p: one more packet received, and the next SEQ expected. -/
def linkTook (s t : State) (p : Nat) : Prop :=
  (t.fport p).rxSeq = ((s.fport p).rxSeq + 1) % 4096 ∧ t.rd F.FAB_RX_PKTS p = satAdd (2 ^ F.FAB_RX_PKTS.width - 1) (s.rd F.FAB_RX_PKTS p) 1

/-- Packet k names slot j of sender i for frame f, which the landing unit may still take (R391, R392). -/
def slotNamed (s : State) (k : Pkt) (i j f : Nat) : Prop :=
  s.senderOf k.src = some i ∧ f = s.extend32 k.frame ∧ j = f % s.nSlots ∧ s.frameDone i f = false ∧ s.rd F.FAB0_ENABLE ≠ 0

/-- Port p has sent packet k between s and t: it stands with the next SEQ at the end of the replay buffer. -/
def portSent (s t : State) (p : Nat) (k : TxPkt) : Prop :=
  (∃ u, (t.fport p).replay = (s.fport p).replay ++ [u] ∧ u.seq = (s.fport p).txSeq ∧ u.pkt = k ∧ u.resends = 0)
    ∧ (t.fport p).txSeq = ((s.fport p).txSeq + 1) % 4096

/-- Port p can send the packet with NAK that asks for a gap's packets again (R386). -/
def canNak (s : State) (p : Nat) : Prop := s.canSend p (ctlPkt PT.ctrl 0 false 0 0 0 0) = true

end Sys2Proof.Claims

/-- CTRL, LANDED, DATA, COMMIT_TOKEN, ABORT_MARKER, SLOT_FREE, TIME, LANE and REKEY of a port that is not ACTIVE, and repeated ones, change nothing; one
that comes too early is discarded, and opens a gap where the port can ask again; one of an unknown epoch is counted and discarded; the next one is
counted and acts, and moves the port to its epoch; HELLO of an ACTIVE port only so. BAD_PACKET with a bad CRC, bad codeword or bad tag is counted
and discarded, one of a reserved type counted and acknowledged. RETRY_TIMEOUT sends everything unacknowledged again, the bytes unchanged, or after eight
times takes the port out of ACTIVE. -/
def Obligations.FabricLinkKeepsOrder : Prop :=
  ∀ (s : State) (p : Nat) (k : Pkt) (ok : Bool), p < 8 →
    (∀ c ∈ rxRows p k ok,
      (s.fabActive p = false → exec c s = .next s)
      ∧ (s.fabActive p = true → k.seq % 4096 ≠ (s.fport p).rxSeq →
        ((k.seq + 4096 - (s.fport p).rxSeq) % 4096 < 2048 → (s.fport p).gap = false → canNak s p →
          ∃ t, exec c s = .next t ∧ t = { s with regs := t.regs, fab := { s.fab with ports := t.fab.ports }, out := t.out } ∧ (t.fport p).gap = true ∧ (t.fport p).rxSeq = (s.fport p).rxSeq
            ∧ portSent s t p (ctlPkt PT.ctrl 0 false 0 0 0 0))
        ∧ (2048 ≤ (k.seq + 4096 - (s.fport p).rxSeq) % 4096 ∨ (s.fport p).gap = true ∨ ¬ canNak s p → exec c s = .next s))
      ∧ (s.fabActive p = true → k.seq % 4096 = (s.fport p).rxSeq → k.epoch ≠ (s.fport p).rxEpoch → k.epoch ≠ (s.fport p).txEpoch →
        ∃ t, exec c s = .next t ∧ (t.fport p).rxSeq = (s.fport p).rxSeq ∧ t.rd F.FAB_AUTH_ERR p = satAdd (2 ^ F.FAB_AUTH_ERR.width - 1) (s.rd F.FAB_AUTH_ERR p) 1)
      ∧ (nextPkt s p k → c ≠ .rekey p k ok → ∃ t, exec c s = .next t ∧ linkTook s t p))
    ∧ (nextPkt s p k → ∃ t, exec (.hello p k ok) s = .next t ∧ linkTook s t p)
    ∧ (nextPkt s p k → (s.fport p).owed < 32 → k.type ≠ PT.data → s.fab.waiting = [] →
      ∃ t, exec (.ctrl p k) s = .next t ∧ t = { s with regs := t.regs, fab := { s.fab with ports := t.fab.ports } } ∧ linkTook s t p ∧ (t.fport p).gap = false
        ∧ (t.fport p).credits = min 1024 ((s.fport p).credits + k.credit)
        ∧ (∀ i, (s.fport p).replay.findIdx? (fun u => u.seq == k.ack % 4096) = some i → (t.fport p).replay = (s.fport p).replay.drop (i + 1)))
    ∧ (s.fabActive p = true → k.seq % 4096 = (s.fport p).rxSeq → k.epoch ≠ (s.fport p).rxEpoch → k.epoch = (s.fport p).txEpoch → k.nak = false →
      ∃ t, exec (.ctrl p k) s = .next t ∧ linkTook s t p ∧ (t.fport p).rxEpoch = k.epoch ∧ (t.fport p).rxCount = 1 ∧ (t.fport p).oldLink = none)
    ∧ (∀ why, s.fabActive p = true → why ≠ 3 → why < 5 →
      ∃ t, exec (.badPacket p why k) s = .next t ∧ (t.fport p).rxSeq = (s.fport p).rxSeq
        ∧ ((s.fport p).gap = true ∨ canNak s p → (t.fport p).gap = true)
        ∧ (why = 0 ∨ why = 4 → t.rd F.FAB_CRC_ERR p = satAdd (2 ^ F.FAB_CRC_ERR.width - 1) (s.rd F.FAB_CRC_ERR p) 1)
        ∧ (why = 4 → t.rd F.FAB_FEC_UNCORR p = satAdd (2 ^ F.FAB_FEC_UNCORR.width - 1) (s.rd F.FAB_FEC_UNCORR p) 1)
        ∧ (why = 2 → t.rd F.FAB_AUTH_ERR p = satAdd (2 ^ F.FAB_AUTH_ERR.width - 1) (s.rd F.FAB_AUTH_ERR p) 1))
    ∧ (nextPkt s p k → ∃ t, exec (.badPacket p 3 k) s = .next t ∧ linkTook s t p ∧ t.rd F.FAB_RX_BAD p = satAdd (2 ^ F.FAB_RX_BAD.width - 1) (s.rd F.FAB_RX_BAD p) 1)
    ∧ (∀ u us, s.fabActive p = true → (s.fport p).replay = u :: us →
      (u.resends < 8 → ∃ t, exec (.retryTimeout p) s = .next t ∧ (t.fport p).replay = (u :: us).map (fun u => { u with resends := u.resends + 1 })
        ∧ t.rd F.FAB_RESENDS p = satAdd (2 ^ F.FAB_RESENDS.width - 1) (s.rd F.FAB_RESENDS p) (us.length + 1))
      ∧ (8 ≤ u.resends → ∃ t, exec (.retryTimeout p) s = .next t ∧ t.rd F.FAB_STATE p = b2n (!s.legacy && !s.coldHold)))

/-- FSEND is cut into packets that leave through a port that can take them, and waits without one; one of LEN 0 is done at once; a context that may
not use the fabric has it dropped. LANDED with STATUS 0, 2 or 3 ends a packet, STATUS 1 keeps it, for BUSY_RESEND to send again; LANDED_TIMEOUT counts a lost
one. DATA lands in its sender's slot or is refused: by a device that lists no such sender, out of the slot's bounds, while the slot is busy, or
outside the landing context's direct regions; LANDING_COMPLETE answers it. COMMIT_TOKEN marks the slot, ABORT_MARKER frees it, SLOT_FREE
sets the limit, and SLOT_ZEROED frees a zeroed slot. -/
def Obligations.FabricSendsAndLands : Prop :=
  ∀ (s : State) (p : Nat) (k : Pkt),
    (∀ e run, headLeaves s p .dxq e → EC.opcode e.cmd = 0x32 → s.plaza.run = some run →
      ((s.ctx run.ctx).num 0x008 4 % 2 = 0 → s.activePorts = [] →
        ∃ t, exec (.fsend p) s = .next t ∧ t.fab = s.fab ∧ (t.blk p).q.dxq = (s.blk p).q.dxq.tail ∧ ∀ x ∈ (t.blk p).q.inflight, x.ord ≠ e.ord)
      ∧ ((s.ctx run.ctx).num 0x008 4 % 2 = 1 → FS.ok e.cmd = true → FS.len e.cmd = 0 → s.activePorts = [] →
        ∃ t, exec (.fsend p) s = .next t ∧ t.fab = s.fab ∧ (t.blk p).q.dxq = (s.blk p).q.dxq.tail ∧ ∃ x ∈ (t.blk p).q.inflight, x.ord = e.ord ∧ x.done = true)
      ∧ ((s.ctx run.ctx).num 0x008 4 % 2 = 1 → FS.ok e.cmd = true → FS.len e.cmd ≠ 0 → (∃ d ∈ s.dests, s.destNode d = FS.dest e.cmd) →
        (s.activePorts = [] → ∃ t, exec (.fsend p) s = .next t ∧ t.fab = { s.fab with sends := s.fab.sends ++ [⟨p, e.ord, e.cmd, run.ctx, s.frame, 0, []⟩] }
          ∧ (t.blk p).q.dxq = (s.blk p).q.dxq.tail)
        ∧ (∀ q, FS.srcKind e.cmd = 0 → FS.len e.cmd ≤ 1792 → s.fab.sends = [] →
            (List.range 8).filter (fun r => s.canSend r ⟨PT.data, 0, false, 8 * (((FS.len e.cmd + 31) / 32 + 7) / 8), 0, 0, 0, 0, 0, 0, []⟩) = [q] →
          ∃ t x, exec (.fsend p) s = .next t ∧ portSent s t q x ∧ x.type = PT.data ∧ x.add = FS.add e.cmd ∧ x.dest = FS.dest e.cmd ∧ x.src = s.node
            ∧ x.off = FS.off e.cmd / 32 ∧ x.frame = s.frame % 2 ^ 32 ∧ x.len = (FS.len e.cmd + 31) / 32 ∧ x.pad = 32 * x.len - FS.len e.cmd ∧ x.xtag = 2048 * q
            ∧ (∃ d, t.fab.sends = [d] ∧ d.pos = FS.len e.cmd ∧ d.flights = [⟨q, 0, (x.len + 7) / 8, x, false⟩]))))
    ∧ (∀ d q g, nextPkt s p k → q = k.xtag / 2048 % 8 → g = k.xtag % 2048 → s.sendAt q g = some d →
      (k.add = 1 → ∃ t, exec (.landed p k) s = .next t ∧ t.fab.sends = s.fab.sends.map (fun e => if e.blk = d.blk ∧ e.ord = d.ord then
          { e with flights := e.flights.map (fun x => if x.port = q ∧ x.tag = g then { x with busy := true } else x) } else e))
      ∧ (k.add ≠ 1 → (∀ x ∈ d.flights, x.port = q ∧ x.tag = g) → FS.len d.cmd ≤ d.pos →
        ∃ t, exec (.landed p k) s = .next t ∧ t.fab.sends = s.fab.sends.filter (fun e => !(e.blk == d.blk && e.ord == d.ord))
          ∧ ∀ x ∈ (t.blk d.blk).q.inflight, x.ord = d.ord → x.done = true))
    ∧ (∀ g d x, p < 8 → s.sendAt p g = some d →
      (d.flights.find? (fun x => x.port == p && x.tag == g && x.busy) = some x → s.canSend p x.pkt = true → ∃ t, exec (.busyResend p g) s = .next t ∧ portSent s t p x.pkt)
      ∧ (∃ t, exec (.landedTimeout p g) s = .next t ∧ t.rd F.FAB0_LOST = satAdd (2 ^ F.FAB0_LOST.width - 1) (s.rd F.FAB0_LOST) 1 ∧ t.dram = s.dram
          ∧ ∀ e ∈ t.fab.sends, e.blk = d.blk → e.ord = d.ord → ∀ y ∈ e.flights, ¬ (y.port = p ∧ y.tag = g)))
    ∧ (∀ i j f r, nextPkt s p k → slotNamed s k i j f → s.ctxState (s.rd F.FAB0_CTX) ≠ 0 → (s.stage i j).state = 0 →
      32 * k.off + (32 * k.len - k.pad) ≤ s.rd F.FAB0_SLOT_SIZE * 0x1_0000 → s.directAt (s.rd F.FAB0_CTX) (s.slotBase i j + 32 * k.off) (32 * k.len - k.pad) = some r →
      ∃ t, exec (.data p k) s = .next t ∧ t.fab.landings = s.fab.landings ++ [⟨k.src, k.xtag, k.frame⟩] ∧ (t.sender i).held = true
        ∧ t.stage i j = ⟨2, f, (s.stage i j).committed, 32 * k.len - k.pad⟩)
    ∧ (∀ i j f, nextPkt s p k → slotNamed s k i j f → s.ctxState (s.rd F.FAB0_CTX) ≠ 0 →
      (s.rd F.FAB0_SLOT_SIZE * 0x1_0000 < 32 * k.off + (32 * k.len - k.pad) →
        ∃ t, exec (.data p k) s = .next t ∧ t.fab.landings = s.fab.landings ∧ t.fab.stages = s.fab.stages ∧ t.dram = s.dram
          ∧ t.rd F.FAB0_LAND_BOUNDS = satAdd (2 ^ F.FAB0_LAND_BOUNDS.width - 1) (s.rd F.FAB0_LAND_BOUNDS) 1)
      ∧ (32 * k.off + (32 * k.len - k.pad) ≤ s.rd F.FAB0_SLOT_SIZE * 0x1_0000 →
        ((s.stage i j).state ≠ 0 → ¬ ((s.stage i j).state = 2 ∧ (s.stage i j).frame = f) →
          ∃ t, exec (.data p k) s = .next t ∧ t.fab.landings = s.fab.landings ∧ t.fab.stages = s.fab.stages ∧ t.dram = s.dram
            ∧ t.rd F.FAB0_LAND_BUSY = satAdd (2 ^ F.FAB0_LAND_BUSY.width - 1) (s.rd F.FAB0_LAND_BUSY) 1)
        ∧ ((s.stage i j).state = 0 → s.directAt (s.rd F.FAB0_CTX) (s.slotBase i j + 32 * k.off) (32 * k.len - k.pad) = none →
          ∃ t, exec (.data p k) s = .next t ∧ t.fab.landings = s.fab.landings ∧ t.fab.stages = s.fab.stages ∧ t.dram = s.dram
            ∧ (t.ctx (s.rd F.FAB0_CTX)).killDue = some 5
            ∧ t.rd F.FAB0_LAND_REFUSED = satAdd (2 ^ F.FAB0_LAND_REFUSED.width - 1) (s.rd F.FAB0_LAND_REFUSED) 1)))
    ∧ (nextPkt s p k → s.senderOf k.src = none → ∃ t, exec (.data p k) s = .next t ∧ t.fab.landings = s.fab.landings ∧ t.fab.stages = s.fab.stages
        ∧ t.rd F.FAB0_LAND_REFUSED = satAdd (2 ^ F.FAB0_LAND_REFUSED.width - 1) (s.rd F.FAB0_LAND_REFUSED) 1 ∧ t.dram = s.dram)
    ∧ (∀ n l, s.fab.landings[n]? = some l → ∃ t, exec (.landingComplete n) s = .next t ∧ t.fab.landings = s.fab.landings.eraseIdx n ∧ t.dram = s.dram)
    ∧ (∀ i j f, nextPkt s p k → slotNamed s k i j f → (s.stage i j).state = 0 →
      ∃ t, exec (.commitToken p k) s = .next t ∧ t.stage i j = ⟨2, f, true, 0⟩ ∧ (t.sender i).committed = f :: (s.sender i).committed ∧ t.dram = s.dram)
    ∧ (∀ i j f, nextPkt s p k → slotNamed s k i j f → (s.stage i j).state = 2 → (s.stage i j).frame = f → (s.stage i j).committed = false → (s.sender i).aborted.contains f = false →
      ∃ t, exec (.abortMarker p k) s = .next t ∧ t.stage i j = ⟨if s.rd F.FAB0_ZERO = 1 then 1 else 0, 0, false, 0⟩ ∧ f ∈ (t.sender i).aborted ∧ t.dram = s.dram)
    ∧ (∀ d, nextPkt s p k → d ∈ s.dests → s.destNode d = k.src → s.fab.limited.contains d = false → k.frame < 2 ^ 32 →
      ∃ t, exec (.slotFree p k) s = .next t ∧ t.rd F.FAB0_LIMIT 0 d = k.frame ∧ t.fab.limited.contains d = true ∧ t.dram = s.dram)
    ∧ (∀ i j, i < 16 → j < 8 → (s.stage i j).state = 1 → ∃ t, exec (.slotZeroed i j) s = .next t ∧ t.stage i j = ⟨0, 0, false, 0⟩)

/-- TIME of the time source is adopted by a follower that runs nothing: its next tick takes the frame number after the carried one. While a context is in
use a different frame number sets event 7, another period event 8, and equal ones change nothing. A device that follows no one takes nothing from
it, and TIME of any other device is counted and ignored. -/
def Obligations.FabricTimeIsAdopted : Prop :=
  ∀ (s : State) (p : Nat) (k : Pkt), nextPkt s p k →
    let f := leNat (k.payload.take 8)
    let steps := leNat ((k.payload.drop 8).take 4)
    (∃ t, exec (.time p k) s = .next t ∧ linkTook s t p ∧ t.dram = s.dram ∧ t.ctxs = s.ctxs ∧ t.blks = s.blks ∧ t.plaza = s.plaza
      ∧ (t.fab.adopt = s.fab.adopt ∨ t.fab.adopt = some (f + 1)))
    ∧ (s.rd F.FAB0_TIME_SRC_VALID = 1 → s.rd F.FAB0_TIME_SRC_NODE = k.src →
      (s.rd F.TICK_SYNC_MODE = 2 →
        (f ≠ s.frame → s.anyBusy = false → ∃ t, exec (.time p k) s = .next t ∧ t.fab.adopt = some (f + 1) ∧ bitOf (t.evts .fab 0) 7 = bitOf (s.evts .fab 0) 7)
        ∧ (f ≠ s.frame → s.anyBusy = true → ∃ t, exec (.time p k) s = .next t ∧ t.fab.adopt = s.fab.adopt ∧ bitOf (t.evts .fab 0) 7 = true)
        ∧ (f = s.frame → ∃ t, exec (.time p k) s = .next t ∧ t.fab.adopt = s.fab.adopt ∧ bitOf (t.evts .fab 0) 7 = bitOf (s.evts .fab 0) 7)
        ∧ (∃ t, exec (.time p k) s = .next t ∧ bitOf (t.evts .fab 0) 8 = (bitOf (s.evts .fab 0) 8 || decide (steps ≠ s.rd F.TICK_PERIOD_STEPS_EFF))))
      ∧ (s.rd F.TICK_SYNC_MODE ≠ 2 → exec (.time p k) s = exec (.ctrl p k) s))
    ∧ (¬ (s.rd F.FAB0_TIME_SRC_VALID = 1 ∧ s.rd F.FAB0_TIME_SRC_NODE = k.src) → ∃ t, exec (.time p k) s = .next t ∧ t.fab.adopt = s.fab.adopt
      ∧ t.rd F.FAB0_TIME_IGNORED = satAdd (2 ^ F.FAB0_TIME_IGNORED.width - 1) (s.rd F.FAB0_TIME_IGNORED) 1)

/-- FAB_ENABLE lets a port begin training, or wait under cold hold, and without its reference clock stay DOWN; RETRAIN_ALL does so for all legacy ports.
A port whose PORT_TRAINING ends with eight good lanes that the fuses do not bar, a session and no failed checker is ACTIVE with the session's keys, the ninth good lane as
its spare; else it FAILED. HELLO is assembled, and holds the port if it does not verify; REKEY_TRIGGER sends REKEY, and REKEY changes the key epoch, or holds the port; both wait
for the entropy source. LANE_CHECK has a failing lane swapped for the spare, LANE does the peer's part, and BACKGROUND_LANE_RETRAIN makes a lane that passes the spare. -/
def Obligations.FabricPortsTrain : Prop :=
  ∀ (s : State) (p : Nat), p < 8 →
    (∀ src, mayCommand s src → s.hasAuth src = true → s.legacy = false → [1, 2, 3].contains (s.rd F.FAB_STATE p) = false → s.domOn 28 = true → (s.fport p).replay = [] →
      (s.clkLost.contains 2 = false →
        ∃ t, exec (.fabEnable src p) s = .next t ∧ t.rdAt .fab p F.HDR_CTRL_ENABLE 0 = 1 ∧ t.rd F.FAB_STATE p = b2n (!s.coldHold) ∧ t.rd F.FAB_COLD_HELD p = b2n s.coldHold ∧ t.dram = s.dram)
      ∧ (s.clkLost.contains 2 = true → exec (.fabEnable src p) s = .next (s.wrAt .fab p F.HDR_CTRL_ENABLE 0 1)))
    ∧ (∀ n, n < 2 → s.mayWrite (.pf n) = true → s.rd F.PCIE_AUTH_HOLDER n ≠ 1 → exec (.fabEnable (.pf n) p) s = .next (s.setEvt .pcie n 5))
    ∧ (∀ src, mayCommand s src → s.legacy = true → s.domOn 28 = true → s.clkLost.contains 2 = false →
      (s.ctxs.any (fun (e : Nat × Ctx) => [2, 3, 4].contains e.2.state && e.2.num 0x008 4 % 2 == 1)) = false →
      ∃ t, exec (.retrainAll src) s = .next t ∧ ∀ q, q < 8 → t.rd F.FAB_STATE q = b2n (!s.coldHold))
    ∧ (∀ good session credits, (s.rd F.FAB_STATE p = 1 ∨ s.rd F.FAB_STATE p = 2) → s.rd F.FAB_COLD_HELD p = 0 → s.domOn 28 = true →
      let g := (List.range 9).filter (fun l => good.contains l && !(s.fport p).barred.contains l)
      let keyless := (s.fport p).eph = none ∧ s.sec.entropyOk = false
      (g.length < 8 ∨ session = false ∨ (s.fport p).bad = true ∨ keyless → exec (.portTraining p good session credits) s = .next (s.wr F.FAB_STATE p 0 5))
      ∧ (8 ≤ g.length → session = true → (s.fport p).bad = false → ¬ keyless →
        ∃ t, exec (.portTraining p good session credits) s = .next t ∧ t.rd F.FAB_STATE p = 3 ∧ bitOf (t.evts .fab p) 4 = true ∧ (t.fport p).rxSeq = 0
          ∧ (t.fport p).link.isSome = true ∧ (t.fport p).lanes = g.take 8 ∧ (t.fport p).spare = g[8]? ∧ t.rd F.FAB_SPARE_GOOD p = b2n (decide (g.length = 9)) ∧ t.dram = s.dram))
    ∧ (∀ k ok, (s.rd F.FAB_STATE p = 1 ∨ s.rd F.FAB_STATE p = 2) → 32 * k.off = (s.fport p).hello.length →
      let h := (s.fport p).hello ++ k.payload.take (32 * k.len - k.pad)
      (ok = true ∨ h.length < leNat (h.take 4) →
        ∃ t, exec (.hello p k ok) s = .next t ∧ t.rd F.FAB_STATE p = 2 ∧ (t.fport p).hello = h ∧ t.dram = s.dram ∧ t.ctxs = s.ctxs ∧ t.blks = s.blks
          ∧ (s.sec.entropyOk = true → (t.fport p).eph.isSome = true))
      ∧ (ok = false → leNat (h.take 4) ≤ h.length → ∃ t, exec (.hello p k ok) s = .next t ∧ t.rd F.FAB_STATE p = 5))
    ∧ (s.fabActive p = true → (s.fport p).rekeySent = false → (2 ^ 31 ≤ (s.fport p).txCount ∨ 2 ^ 31 ≤ (s.fport p).rxCount) →
      (s.sec.entropyOk = true → ∃ t x, exec (.rekeyTrigger p) s = .next t ∧ portSent s t p x ∧ x.type = PT.rekey ∧ (t.fport p).rekeySent = true)
      ∧ (s.sec.entropyOk = false → exec (.rekeyTrigger p) s = .next s))
    ∧ (∀ k, nextPkt s p k → (s.fport p).owed < 32 → k.type ≠ PT.data → s.fab.waiting = [] →
      ((s.fport p).rekeySent = true ∨ s.sec.entropyOk = true →
        ∃ t, exec (.rekey p k true) s = .next t ∧ (t.fport p).txEpoch = !(s.fport p).txEpoch ∧ (t.fport p).txCount = 0 ∧ (t.fport p).rekeySent = false
          ∧ (t.fport p).oldLink = (s.fport p).link ∧ (t.fport p).eph = none)
      ∧ ((s.fport p).rekeySent = false → s.sec.entropyOk = false →
        ∃ t, exec (.rekey p k true) s = .next t ∧ (t.fport p).rekeyHeld = some k.payload ∧ (t.fport p).txEpoch = (s.fport p).txEpoch)
      ∧ (∃ t, exec (.rekey p k false) s = .next t ∧ t.rd F.FAB_STATE p = 4))
    ∧ (∀ k sp, nextPkt s p k → leNat ((k.payload.drop 1).take 1) = 0 → (s.fport p).spare = some sp →
      ∃ t, exec (.lane p k) s = .next t ∧ (t.fport p).spare = none ∧ (t.fport p).retrain = some (leNat (k.payload.take 1))
        ∧ (t.fport p).lanes = (s.fport p).lanes.map (fun l => if l = leNat (k.payload.take 1) then sp else l) ∧ bitOf (t.evts .fab p) 6 = true)
    ∧ (∀ counts lost, s.fabActive p = true →
      let failing := ((s.fport p).lanes.zip (List.range (s.fport p).lanes.length)).find? (fun e => lost.contains e.1 || decide (s.rd F.FAB_THRESH p < counts.getD e.2 0))
      (failing = none → ∃ t, exec (.laneCheck p counts lost) s = .next t ∧ onlyRegs s t
        ∧ t.rd F.FAB_FEC_CORR p = satAdd (2 ^ F.FAB_FEC_CORR.width - 1) (s.rd F.FAB_FEC_CORR p) counts.sum)
      ∧ (∀ e, failing = some e → s.legacy = false → (s.fport p).swap = none →
        ((s.fport p).spare ≠ none → ∃ t x, exec (.laneCheck p counts lost) s = .next t ∧ portSent s t p x ∧ x.type = PT.lane ∧ (t.fport p).swap = some e.1)
        ∧ ((s.fport p).spare = none → ∃ t, exec (.laneCheck p counts lost) s = .next t ∧ t.rd F.FAB_STATE p = b2n (!s.coldHold))))
    ∧ (∀ lane, (s.fport p).retrain = some lane → s.coldHold = false →
      (∃ t, exec (.backgroundLaneRetrain p true) s = .next t ∧ (t.fport p).spare = some lane ∧ (t.fport p).retrain = none ∧ t.rd F.FAB_SPARE_GOOD p = 1)
      ∧ (∃ t, exec (.backgroundLaneRetrain p false) s = .next t ∧ (t.fport p).spare = (s.fport p).spare ∧ (t.fport p).retrain = none))

/-! ### Power, temperature -/

namespace Sys2Proof.Claims

/-- Domain n is next to make a step in its segment (R422). -/
def stepsNext (s : State) (n : Nat) : Prop := n < 30 ∧ s.domWaits n = true ∧ ∀ m, m < n → segOf m = segOf n → s.domWaits m = false

/-- Domain n is in state st, with no switch in progress. -/
def settled (s : State) (n st : Nat) : Prop := s.domState n = st ∧ s.dom n = ⟨st, false, false, 0⟩

/-- Sensor k is in service and has just been visited. -/
def visited (s : State) (k : Nat) : Prop := s.thm.chan = k ∧ k < 64 ∧ s.thm.out.contains k = false

end Sys2Proof.Claims

/-- DOMAIN_REQUEST waits for the gap once the Plaza ticks, and takes effect at once before: a domain starts to switch, and the ports go DOWN when FABRIC leaves ON,
or the refusal is recorded; a reserved code, or a source without authority, only raises an event. SWITCH_STEP makes a step of a switch-on with headroom and pauses
without; SWITCH_DONE reports the new state; an AD domain is refused ON and RET while its BL domain is OFF, and stays as it is; VOLTAGE_RAISED lets the level
rise; CELL_FAIL lowers its district's cap by 3 A, and the fifth gates it. -/
def Obligations.PowerDomainsSwitch : Prop :=
  ∀ (s : State) (src : Source) (n : Nat) (v : Word), n < 30 →
    (mayCommand s src → s.hasAuth src = true →
      (v.toNat % 4 = 3 → exec (.domainRequest src n v) s = .next (s.setEvt .dom n 0))
      ∧ (v.toNat % 4 ≠ 3 → s.plaza.ticked = true →
        ∃ t, exec (.domainRequest src n v) s = .next t ∧ t = { s with regs := t.regs, later := t.later } ∧ regsBut [keyOf F.DOM_STATE_REQ n 0] s t
          ∧ t.rd F.DOM_STATE_REQ n = v.toNat % 4 ∧ t.later.doms.get n 3 = v.toNat % 4)
      ∧ (s.plaza.ticked = false → s.later.doms = [] →
        (∀ why, v.toNat % 4 ≠ 3 → why ≠ 0 → s.domRefusal n (v.toNat % 4) = why →
          ∃ t, exec (.domainRequest src n v) s = .next t ∧ t.domState n = s.domState n ∧ t.rd F.DOM_REFUSED n = why ∧ bitOf (t.evts .dom n) 6 = true)
        ∧ (v.toNat % 4 = 2 → s.domRefusal n 2 = 0 → s.domState n = 0 →
          ∃ t, exec (.domainRequest src n v) s = .next t ∧ t.domState n = 3 ∧ t.rd F.DOM_STEP n = 0 ∧ t.dom n = ⟨2, false, false, 0⟩)
        ∧ (v.toNat % 4 = 0 → s.domRefusal n 0 = 0 → s.domState n = 2 →
          ∃ t, exec (.domainRequest src n v) s = .next t ∧ t.domState n = 3 ∧ t.dom n = ⟨0, false, true, 0⟩
            ∧ (n = 28 → ∀ p, p < 8 → t.rd F.FAB_STATE p = 0))))
    ∧ (∀ d req, d < 16 → 1 ≤ req → s.domState (16 + d / 2) = 0 →
        (s.applyDom d req).domState d = s.domState d ∧ (s.applyDom d req).rd F.DOM_REFUSED d ≠ 0 ∧ bitOf ((s.applyDom d req).evts .dom d) 6 = true)
    ∧ (∀ p, p < 2 → s.mayWrite (.pf p) = true → s.rd F.PCIE_AUTH_HOLDER p ≠ 1 → exec (.domainRequest (.pf p) n v) s = .next (s.setEvt .pcie p 5))
    ∧ (s.domWaits n = false → exec (.switchStep n) s = .next s)
    ∧ (stepsNext s n → (28 ≤ n ∨ ∀ m, m < 28 → m ≠ n → segOf m = segOf n → s.domOn m = true → s.rd F.PWR_I_DOM 0 m ≤ 900 * domPeak m) →
        s.pwr.vin + 3000 ≤ 1000 * s.rd F.PWR_I_HEAD →
      ∃ t, exec (.switchStep n) s = .next t ∧ onlyRegs s t ∧ regsBut [keyOf F.DOM_STEP n 0] s t ∧ t.rd F.DOM_STEP n = s.rd F.DOM_STEP n + 1)
    ∧ (stepsNext s n → 1000 * s.rd F.PWR_I_HEAD < s.pwr.vin + 3000 →
      ∃ t, exec (.switchStep n) s = .next t ∧ t.rd F.DOM_STEP n = s.rd F.DOM_STEP n ∧ t.domState n = 3 ∧ (t.dom n).paused = (s.dom n).paused + 1
        ∧ t.rd F.DOM_PAUSE_US n = satAdd (2 ^ F.DOM_PAUSE_US.width - 1) (s.rd F.DOM_PAUSE_US n) 1
        ∧ ((s.dom n).paused = 199 → t.rd F.DOM_PENDING_HEADROOM n = 1 ∧ bitOf (t.evts .dom n) 5 = true))
    ∧ (s.domState n ≠ 3 → exec (.switchDone n []) s = .next s)
    ∧ (s.domState n = 3 → (s.dom n).target ≤ 2 →
      ((s.dom n).leaving = true → ∃ t, exec (.switchDone n []) s = .next t ∧ settled t n (s.dom n).target)
      ∧ ((s.dom n).leaving = false → s.rd F.DOM_STEP n < (s.dom n).steps → exec (.switchDone n []) s = .next s)
      ∧ ((s.dom n).leaving = false → (s.dom n).steps ≤ s.rd F.DOM_STEP n →
        ∃ t, exec (.switchDone n []) s = .next t ∧ settled t n (s.dom n).target ∧ ((s.dom n).target = 2 → bitOf (t.evts .dom n) 4 = true)))
    ∧ (s.pwr.raise = none → exec .voltageRaised s = .next s)
    ∧ (∀ pl, s.pwr.raise = some pl → (s.plaza.ticked = true → exec .voltageRaised s = .next (s.onPwr (fun p => { p with raised := true })))
      ∧ (s.plaza.ticked = false → s.rd F.PWR_PL = pl → pl < s.rd F.PWR_PL_EFF → pl < 8 →
        ∃ t, exec .voltageRaised s = .next t ∧ t.rd F.PWR_PL_EFF = pl ∧ t.rd F.PWR_RAISING = 0 ∧ t.pwr.raise = none))
    ∧ (∀ d c, d < 16 →
      (24 ≤ c ∨ (s.rd F.PWR_LDO_FAILED 0 d).testBit c = true ∨ s.rd F.PWR_LDO_DARK 0 d = 1 → exec (.cellFail d c) s = .next s)
      ∧ (c < 24 → (s.rd F.PWR_LDO_FAILED 0 d).testBit c = false → s.rd F.PWR_LDO_DARK 0 d ≠ 1 →
        (s.failedCells d < 4 → ∃ t, exec (.cellFail d c) s = .next t ∧ (t.rd F.PWR_LDO_FAILED 0 d).testBit c = true ∧ t.distCap d + 3000 = s.distCap d
          ∧ bitOf (t.evts .pwr 0) 5 = true ∧ t.later.log = s.later.log ++ [.cell d c] ∧ t.blks = s.blks)
        ∧ (s.failedCells d = 4 → s.plaza.ticked = true → ∃ t, exec (.cellFail d c) s = .next t ∧ t.rd F.PWR_LDO_DGATE 0 d = 15 ∧ t.later.dark = s.later.dark ++ [d]
          ∧ t.domState d = s.domState d ∧ t.blks = s.blks)))

/-- MINSENSE_FRAME carries the lowest reading, and undervoltage and lost timing are found from it. FAST_GUARD sets the throttle level and each district's
gate level, and LIMITER_WINDOW moves the level by its causes. HK_CHANNEL keeps a sensor's reading, takes a bad sensor out of service, and shuts the device
down at 120 °C; ROUND_END sets the high and cold states by their thresholds; and LOG_APPEND logs what has changed. -/
def Obligations.PowerLimitsAndTemperature : Prop :=
  ∀ (s : State),
    (∀ readings fall rise, readings ≠ [] → s.pwr.vout = [] → (∀ r ∈ readings, r.1 < 512 ∧ s.domOn (vSensorDom r.1) = true ∧ 2000 ≤ r.2 ∧ r.2 ≤ 4000) →
      ∃ t v, exec (.minsenseFrame readings fall rise) s = .next t ∧ (∃ r ∈ readings, r.2 = v) ∧ (∀ r ∈ readings, v ≤ r.2) ∧ t.rd F.PWR_VMIN_LAST = v
        ∧ ⟨"MINSENSE", [minsense s.pwr.seq v (s.rd F.PWR_VTARGET_V) fall rise], []⟩ ∈ t.out ∧ t.pwr.seq = (s.pwr.seq + 1) % 4
        ∧ (s.pwr.under = 2 → v + 200 < s.rd F.PWR_VTARGET_V → bitOf (t.evts .pwr 0) 7 = true)
        ∧ (s.pwr.low = 1 → v < 2800 → s.sec.running = true → t.rd F.TOP_STATUS_FATAL = 1))
    ∧ (∀ fall rise, s.rd F.PWR_VTARGET_V < 4096 →
      ∃ t, exec (.minsenseFrame [] fall rise) s = .next t ∧ t.rd F.PWR_VMIN_LAST = s.rd F.PWR_VTARGET_V ∧ bitOf (t.evts .pwr 0) 8 = true)
    ∧ (∀ ma dist uj, ∃ t, exec (.fastGuard ma dist uj) s = .next t ∧ t.rd F.PWR_ENERGY = (s.rd F.PWR_ENERGY + uj) % 2 ^ 64 ∧ t.pwr.vin = ma
      ∧ (1000 * s.rd F.PWR_I_FAST < ma → 3 ≤ s.pwr.fastAge → t.rd F.PWR_LEVEL = min 19 (max (s.rd F.PWR_LEVEL + 1) 5))
      ∧ (1000 * s.rd F.PWR_I_FAST < ma → 3 ≤ s.pwr.fastAge → t.rd F.PWR_FAST_TRIPS = satAdd (2 ^ F.PWR_FAST_TRIPS.width - 1) (s.rd F.PWR_FAST_TRIPS) 1 ∧ t.pwr.fast = true)
      ∧ (ma ≤ 1000 * s.rd F.PWR_I_FAST → t.rd F.PWR_LEVEL = s.rd F.PWR_LEVEL ∧ t.rd F.PWR_FAST_TRIPS = s.rd F.PWR_FAST_TRIPS)
      ∧ ∀ d, d < 16 → (s.distCap d < dist.getD d 0 → 3 ≤ s.pwr.distAge.get d 4 → s.rd F.PWR_LDO_DGATE 0 d < 15 → t.rd F.PWR_LDO_DGATE 0 d = s.rd F.PWR_LDO_DGATE 0 d + 1)
        ∧ (dist.getD d 0 ≤ s.distCap d → t.rd F.PWR_LDO_DGATE 0 d = s.rd F.PWR_LDO_DGATE 0 d))
    ∧ (∀ rails doms mw, s.rd F.PWR_LEVEL ≤ 19 →
      let c := s.causes (rails.getD 0 0) mw
      ∃ t, exec (.limiterWindow rails doms mw) s = .next t ∧ t.rd F.PWR_CAUSE = c ∧ t.rd F.PWR_P_TOTAL = min 65535 (mw / 1000) ∧ t.pwr.fast = false
        ∧ (∀ r, r < 6 → t.rd F.PWR_I_RAIL 0 r = rails.getD r 0 % 2 ^ 32)
        ∧ (c ≠ 0 → (c ≠ 2 ∨ s.rd F.PWR_GATE < s.rd F.PWR_GATE_MAX) → t.rd F.PWR_LEVEL = min 19 (s.rd F.PWR_LEVEL + 1))
        ∧ (c = 2 → s.rd F.PWR_GATE_MAX ≤ s.rd F.PWR_GATE → t.rd F.PWR_LEVEL = s.rd F.PWR_LEVEL)
        ∧ (c = 0 → t.rd F.PWR_LEVEL = if mw < 950 * s.rd F.PWR_W_EFF then s.rd F.PWR_LEVEL - 1 else s.rd F.PWR_LEVEL))
    ∧ (∀ v, 512 ≤ s.thm.chan → exec (.hkChannel v) s = .next s)
    ∧ (∀ k, visited s k →
      (∃ t, exec (.hkChannel none) s = .next t ∧ t.thm.chan = k + 1 ∧ t.thm.out = k :: s.thm.out ∧ bitOf (t.evts .thm 0) 9 = true)
      ∧ ∀ x : Int, -2048 ≤ x → x < 2048 →
        ∃ t, exec (.hkChannel (some x)) s = .next t ∧ t.thm.chan = k + 1 ∧ t.thm.read = SMap.put k x s.thm.read ∧ t.rd F.THM_TSENS_T 0 k = (x % 4096).toNat
          ∧ (x < 960 → t.rd F.TOP_STATUS_SHUTDOWN = s.rd F.TOP_STATUS_SHUTDOWN)
          ∧ (960 ≤ x → s.rd F.TOP_STATUS_SHUTDOWN = 0 → t.rd F.TOP_STATUS_SHUTDOWN = 1 ∧ t.rd F.THM_STATE_HIGH = 3 ∧ ∀ n, n < 30 → t.domState n = 0))
    ∧ (s.thm.chan < 512 → exec .roundEnd s = .next s)
    ∧ (512 ≤ s.thm.chan → s.rd F.THM_STATE_HIGH ≤ 3 → s.rd F.THM_STATE_COLD ≤ 2 →
      ∃ t, exec .roundEnd s = .next t ∧ t.thm.chan = 0 ∧ t.rd F.HK_ROUND_COUNT = (s.rd F.HK_ROUND_COUNT + 1) % 2 ^ 32
        ∧ (s.rd F.THM_STATE_HIGH = 3 ∨ s.formTemps.2.1 = false → t.rd F.THM_STATE_HIGH = s.rd F.THM_STATE_HIGH)
        ∧ (s.rd F.THM_STATE_HIGH ≠ 3 → s.formTemps.2.1 = true →
          (840 ≤ t.thm.tmax → t.rd F.THM_STATE_HIGH = 2) ∧ (t.thm.tmax ≤ 720 → t.rd F.THM_STATE_HIGH = 0)
          ∧ (760 ≤ t.thm.tmax → t.thm.tmax ≤ 800 → t.rd F.THM_STATE_HIGH = 1)
          ∧ (s.rd F.THM_STATE_HIGH = 2 → 800 < t.thm.tmax → t.rd F.THM_STATE_HIGH = 2) ∧ (s.rd F.THM_STATE_HIGH = 0 → t.thm.tmax < 760 → t.rd F.THM_STATE_HIGH = 0))
        ∧ (s.formTemps.2.2 = false → t.rd F.THM_STATE_COLD = s.rd F.THM_STATE_COLD)
        ∧ (s.formTemps.2.2 = true →
          (t.thm.tmin ≤ 40 → t.rd F.THM_STATE_COLD = 2) ∧ (160 ≤ t.thm.tmin → t.rd F.THM_STATE_COLD = 0)
          ∧ (80 ≤ t.thm.tmin → t.thm.tmin ≤ 120 → t.rd F.THM_STATE_COLD = 1) ∧ (s.rd F.THM_STATE_COLD = 2 → t.thm.tmin < 80 → t.rd F.THM_STATE_COLD = 2)))
    ∧ (s.sec.running = false → exec .logAppend s = .next s)
    ∧ (s.sec.running = true → (∀ r ∈ s.later.log, ∀ u h d e, r ≠ .cycles u h d e) →
      ∃ t added, exec .logAppend s = .next t ∧ t = { s with nvm := t.nvm, later := t.later } ∧ t.nvm.log = s.nvm.log ++ s.later.log ++ added ∧ t.later.log = []
        ∧ t.nvm.svnFuse = s.nvm.svnFuse ∧ ∀ u, u < 20 → loggedHalves t.nvm.log u = t.halves u)

/-! ### Register accesses, interrupts, the sideband -/

namespace Sys2Proof.Claims

/-- A word access of a source at an offset reaches offset o of a page, where one field begins, alone in its register of 32 bits. -/
def atField (s : State) (src : Source) (off : Nat) (pg : Page) (u o : Nat) (f : Fld) : Prop :=
  sourceOk src = true ∧ off % 4 = 0 ∧ (s.wakeLink src).namedAt src off = .page pg u o ∧ touched pg u o 4 = [(f, 0)] ∧ f.page ≠ .hdr ∧ wideAt pg u o = false

/-- As atField, with the field's effective copy g beside it in the register. -/
def atPair (s : State) (src : Source) (off : Nat) (pg : Page) (u o : Nat) (f g : Fld) : Prop :=
  sourceOk src = true ∧ off % 4 = 0 ∧ (s.wakeLink src).namedAt src off = .page pg u o ∧ touched pg u o 4 = [(f, 0), (g, 0)] ∧ (f, g) ∈ tPairs
    ∧ f.page = pg ∧ f.acc = .rw ∧ f.cls = .t ∧ g.page = pg ∧ g.acc = .ro

/-- A source's write of a word reaches the page's fields by the generic rules of R486. -/
def plainWrite (s : State) (src : Source) (pg : Page) (u o : Nat) (f : Fld) (v : Nat) : Prop :=
  s.mayReach src pg o = true ∧ pg ∉ [Page.pwr, .fab, .ch] ∧ (pg, o) ∉ [(Page.blk, 0x404), (.blk, 0x644), (.memc, 0x104), (.intc, 0x104)] ∧ powerReg pg o = false
    ∧ o ∉ [0x010, 0x024, 0x028] ∧ s.ownWrite src pg u o v = none ∧ dropsField src f = false

/-- A source may write the header of page i, which is page pg of unit u. -/
def headerOpen (s : State) (src : Source) (i : Nat) (pg : Page) (u o : Nat) : Prop :=
  sourceOk src = true ∧ pageOf i = some (pg, u) ∧ s.mayReach src pg o = true ∧ (powerReg pg o = false ∨ s.hasAuth src = true)

/-- Source n is next to be delivered (R477). -/
def delivers (s : State) (n : Nat) : Prop :=
  let waits (k : Nat) : Bool := s.sourceEnabled k && s.sourcePending k && !s.inService k
  n < 256 ∧ waits n = true ∧ ∀ m, m < n → waits m = false

end Sys2Proof.Claims

/-- REGISTER_READ and RC_READ return what the fields show, and clear the RC fields they reach (a counter whose unit is in the condition that it counts
goes on from a free value: the model's choice, log entry 9); offsets that name nothing read 0, and count where they are a hole. REGISTER_WRITE narrower than a
word is dropped; one of a bad value, or of a closed class-S field, raises CFG_REJECT; a class-L field changes at once and a class-T field's effective copy only
at a tick; RO fields do not change; and the host writes nothing before READY. STOP_REQ stops a unit, SOFT_RESET resets one only while it is stopped, EVT_CLEAR clears
event bits where a 1 is written, and RETIRE is for the management cores. -/
def Obligations.RegisterAccesses : Prop :=
  ∀ (s : State) (src : Source) (off : Nat) (v : DWord),
    let w := s.wakeLink src
    let x := v.toNat % 2 ^ 32
    (∀ pg u o f, atField s src off pg u o f → ¬ (pg = .blk ∧ o = 0x488) → ¬ (pg = .errq ∧ 0x400 ≤ o ∧ o < 0xA00) → ¬ (pg = .mb ∧ 0x800 ≤ o) → s.latched = [] →
      ∀ c ∈ [Instr.rcRead src off, Instr.registerRead src off 4],
        ∃ t, exec c s = .next t ∧ t = { w with regs := t.regs, free := t.free, out := t.out } ∧ t.out.head? = some ⟨"READ", [off, 4, w.peek pg u o 4 % 2 ^ 32], []⟩
          ∧ (f.acc = .rc → w.counting u f = false → t.rdAt pg u f 0 = resetOf pg u f 0 % 2 ^ f.width ∧ t.free = s.free)
            ∧ (f.acc = .rc → w.counting u f = true → t.free = s.free + 1) ∧ (f.acc ≠ .rc → t.regs = w.regs))
    ∧ (sourceOk src = true → off % 4 = 0 →
      (w.namedAt src off = .beyond → exec (.registerRead src off 4) s = .next (w.emit "READ" [off, 4, 0]) ∧ exec (.registerWrite src off 4 v) s = .next w)
      ∧ (w.namedAt src off = .hole → ∃ t, exec (.registerRead src off 4) s = .next t ∧ t.out.head? = some ⟨"READ", [off, 4, 0], []⟩
        ∧ t.rd F.TOP_BAR0_HOLE = satAdd (2 ^ F.TOP_BAR0_HOLE.width - 1) (s.rd F.TOP_BAR0_HOLE) 1))
    ∧ (∀ size, sourceOk src = true → ¬ (size = 4 ∧ off % 4 = 0) → ¬ (size = 8 ∧ off % 8 = 0) → exec (.registerWrite src off size v) s = .next w)
    ∧ (∀ n pg u o, src = .pf n → n < 2 → off % 4 = 0 → w.namedAt src off = .page pg u o → w.mayWrite src = false → earlyOpen pg o = false →
        exec (.registerWrite src off 4 v) s = .next w)
    ∧ (∀ pg u o f, atField s src off pg u o f → plainWrite w src pg u o f x →
      let old := w.rdAt pg u f 0
      let new := written f 0 o 4 old x
      (f.acc = .ro → exec (.registerWrite src off 4 v) s = .next w)
      ∧ (f.acc = .rw →
        (f.chk.ok new = false → exec (.registerWrite src off 4 v) s = .next (w.cfgReject pg u))
        ∧ (f.chk.ok new = true →
          (f.cls = .l → ∃ t, exec (.registerWrite src off 4 v) s = .next t ∧ onlyRegs w t ∧ regsBut [keyAt pg u f 0] w t ∧ t.rdAt pg u f 0 = new % 2 ^ f.width)
          ∧ (f.cls = .s →
            (w.closed pg u f = true → new ≠ old → exec (.registerWrite src off 4 v) s = .next (w.cfgReject pg u))
            ∧ (w.closed pg u f = true → new = old → exec (.registerWrite src off 4 v) s = .next w)
            ∧ (w.closed pg u f = false → ∃ t, exec (.registerWrite src off 4 v) s = .next t ∧ onlyRegs w t ∧ regsBut [keyAt pg u f 0] w t ∧ t.rdAt pg u f 0 = new % 2 ^ f.width)))))
    ∧ (∀ pg u o f g, atPair s src off pg u o f g → plainWrite w src pg u o f x →
      let new := written f 0 o 4 (w.rdAt pg u f 0) x
      (f.chk.ok new = false → exec (.registerWrite src off 4 v) s = .next (w.cfgReject pg u))
      ∧ (f.chk.ok new = true → ∃ t, exec (.registerWrite src off 4 v) s = .next t ∧ onlyRegs w t ∧ t.rd f u = new % 2 ^ f.width
          ∧ t.rd g u = if s.plaza.ticked then w.rd g u else new % 2 ^ g.width))
    ∧ (∀ i pg u, headerOpen s src i pg u 0x010 →
      (fixedCtrl pg = true → exec (.stopReq src i) s = .next s ∧ exec (.softReset src i) s = .next s)
      ∧ (dataPlane pg = true → s.anyBusy = true → exec (.stopReq src i) s = .next (s.cfgReject pg u))
      ∧ (fixedCtrl pg = false → pg ≠ .tick → dataPlane pg = false ∨ s.anyBusy = false →
        (∃ t, exec (.stopReq src i) s = .next t ∧ t.rdAt pg u F.HDR_CTRL_ENABLE 0 = 0 ∧ bitOf (t.evts pg u) 1 = true ∧ (pg = .fab → t.rd F.FAB_STATE u = 0)
          ∧ (pg ∉ [Page.slc, .memc, .fab] → onlyRegs s t ∧ regsBut [keyAt pg u F.HDR_CTRL_ENABLE 0, evtKey pg u] s t)))
      ∧ (pg = .blk →
        (s.rdAt .blk u F.HDR_CTRL_ENABLE 0 ≠ 0 → exec (.softReset src i) s = .next (s.setEvt .blk u 0))
        ∧ (s.rdAt .blk u F.HDR_CTRL_ENABLE 0 = 0 →
          ∃ t, exec (.softReset src i) s = .next t ∧ onlyBlks s t ∧ blksBut u s t ∧ t.blk u = { blkReset u with site := (s.blk u).site, half := (s.blk u).half }
            ∧ bitOf (t.evts .blk u) 2 = true ∧ ∀ f ∈ regs_blk, f.acc = .rw → ∀ k, k < f.count * f.bcount → t.rdAt .blk u f k = resetOf .blk u f k)))
    ∧ (∀ i pg u (y : Word), headerOpen s src i pg u 0x028 →
      ∃ t, exec (.evtClear src i y) s = .next t ∧ t = { s with regs := t.regs, plaza := t.plaza } ∧ regsBut [evtKey pg (hdrUnit pg u)] s t
        ∧ ∀ b, b < 32 → bitOf (t.evts pg (hdrUnit pg u)) b = (bitOf (s.evts pg (hdrUnit pg u)) b && !bitOf y.toNat b))
    ∧ (∀ d (y : Word), d < nDist → sourceOk src = true →
      (src ≠ .mgmt → exec (.retire src d y) s = .next s)
      ∧ (src = .mgmt → 34 ≤ bitsOf y.toNat 0 6 → exec (.retire src d y) s = .next (s.setEvt .dist d 0))
      ∧ (src = .mgmt → bitsOf y.toNat 0 6 < 34 → s.plaza.ticked = true →
        exec (.retire src d y) s = .next (s.onLater (fun l => { l with sites := l.sites ++ [34 * d + bitsOf y.toNat 0 6] }))))

/-- The lowest source that is pending, enabled and not in service is delivered to the next free core, at its vector; an acknowledgement ends the
service of that source, and a stray one is counted. A sideband read returns the map's bytes and clears EVENTS where it reaches them; a sideband
write sets the window pointer and the mailbox request, and its data moves the pointer on. -/
def Obligations.InterruptsAndSideband : Prop :=
  ∀ (s : State),
    ((∀ n, n < 256 → (s.sourceEnabled n && s.sourcePending n && !s.inService n) = false) ∨ s.nextCore = none → exec .interruptDelivery s = .next s)
    ∧ (∀ n c, delivers s n → s.nextCore = some c →
      ∃ t, exec .interruptDelivery s = .next t ∧ t = { s with regs := t.regs, mgmt := t.mgmt, out := t.out } ∧ t.rd F.INTC_CUR_SOURCE 0 c = n ∧ t.rd F.INTC_CUR_VALID 0 c = 1
        ∧ t.rd F.INTC_DELIVERED = satAdd (2 ^ F.INTC_DELIVERED.width - 1) (s.rd F.INTC_DELIVERED) 1 ∧ t.mgmt.lastCore = c
        ∧ t.out = ⟨"VECTOR", [c, (s.rd F.INTC_BASE + 64 * n) % 2 ^ 32], []⟩ :: s.out)
    ∧ (∀ src c (v : Word), c < 4 → sourceOk src = true →
      (src ≠ .mgmt → exec (.ack src c v) s = .next s)
      ∧ (src = .mgmt → s.rd F.INTC_CUR_VALID 0 c = 1 → s.rd F.INTC_CUR_SOURCE 0 c = v.toNat % 256 →
        ∃ t, exec (.ack src c v) s = .next t ∧ t = { s with regs := t.regs, errq := t.errq } ∧ regsBut [keyOf F.INTC_CUR_VALID 0 c] s t ∧ t.rd F.INTC_CUR_VALID 0 c = 0
          ∧ (v.toNat % 256 = 18 → t.errq.supp = false) ∧ (v.toNat % 256 ≠ 18 → t.errq = s.errq))
      ∧ (src = .mgmt → ¬ (s.rd F.INTC_CUR_VALID 0 c = 1 ∧ s.rd F.INTC_CUR_SOURCE 0 c = v.toNat % 256) →
        ∃ t, exec (.ack src c v) s = .next t ∧ onlyRegs s t ∧ t.rd F.INTC_ACK_STRAY = satAdd (2 ^ F.INTC_ACK_STRAY.width - 1) (s.rd F.INTC_ACK_STRAY) 1
          ∧ t.rd F.INTC_CUR_VALID 0 c = s.rd F.INTC_CUR_VALID 0 c))
    ∧ (s.powered = false → ∀ a n bs, exec (.sidebandRead a n) s = .next s ∧ exec (.sidebandWrite a bs) s = .next s)
    ∧ (s.powered = true →
      (∀ a n, a < 256 → ∃ t bs, exec (.sidebandRead a n) s = .next t ∧ t = { s with mgmt := t.mgmt, out := t.out } ∧ t.out.head? = some ⟨"SIDEBAND", [a], bs⟩
        ∧ bs.length = min n 255 ∧ (∀ i, i < min n 255 → bs[i]? = some (s.mapByte (a + i)))
        ∧ (a ≤ 0x52 → 0x52 < a + min n 255 → t.mgmt.events = 0) ∧ (¬ (a ≤ 0x52 ∧ 0x52 < a + min n 255) → t.mgmt.events = s.mgmt.events))
      ∧ (∀ lo hi : Byte, s.mgmt.winPtr < 2 ^ 16 → ∃ t, exec (.sidebandWrite 0xEA [lo, hi]) s = .next t ∧ t = { s with mgmt := t.mgmt } ∧ t.mgmt.winPtr = lo.toNat + 256 * hi.toNat)
      ∧ (∀ b0 b1 b2 b3 : Byte, s.rd F.MB_CTRL_BUSY 2 ≠ 1 → (b2.toNat + 256 * b3.toNat) % 4096 ≤ 2048 → s.mgmt.winPtr < 2 ^ 16 →
        ∃ t, exec (.sidebandWrite 0xE0 [b0, b1, b2, b3]) s = .next t ∧ onlyRegs s t ∧ t.rd F.MB_REQ_OP 2 = b0.toNat + 256 * b1.toNat
          ∧ t.rd F.MB_REQ_LEN 2 = (b2.toNat + 256 * b3.toNat) % 4096)
      ∧ (∀ bs : List Byte, bs.length ≤ 20 → s.rd F.MB_CTRL_BUSY 2 ≠ 1 → s.mgmt.winPtr < 2 ^ 16 →
        ∃ t, exec (.sidebandWrite 0xEC bs) s = .next t ∧ t = { s with mgmt := t.mgmt, mbs := t.mbs } ∧ t.mgmt.winPtr = (s.mgmt.winPtr + bs.length) % 2 ^ 16
          ∧ ∀ i, i < bs.length → s.mgmt.winPtr + i < 2048 → SMap.find (s.mgmt.winPtr + i) (t.mb 2).window = bs[i]?))

/-! ### Reset, boot and bring-up -/

namespace Sys2Proof.Claims

/-- The boot ROM may start with the flash image (R456). -/
def romStarts (s : State) : Prop :=
  s.powered = true ∧ s.clkLost = [] ∧ s.rd F.BOOT_STATUS_STAGE = 1 ∧ s.sec.running = false ∧ s.rd F.TOP_STATUS_FATAL ≠ 1

/-- Bring-up has failed with a cause (R468). -/
def broughtDown (t : State) (cause : Nat) : Prop :=
  t.rd F.BOOT_STATUS_STAGE = 15 ∧ t.rd F.TOP_STATUS_FAILED = 1 ∧ t.rd F.BOOT_STATUS_FAIL_CAUSE = cause ∧ t.plaza.ticking = false

end Sys2Proof.Claims

/-- POWER_ON loses external memory, SYS_RESET keeps it, and both start anew with the boot flash and the fuses; POWER_DOWN holds the device in reset;
RESET_KEY from the primary port is a device reset. REFCLK_LOST stops what runs on the clock, and REFCLK_RETURN lets the fabric's ports train again. BOOT_ROM runs
an image that verifies and waits for one otherwise; BRING_UP, BOND_FIELD_TRAINING, EXTERNAL_MEMORY_TEST and CARDAMOM each act only in their STAGE, and
go on to the next or fail. -/
def Obligations.BootAndReset : Prop :=
  ∀ (s : State),
    (∃ t, exec .powerOn s = .next t ∧ restarted s t ∧ t.dram = [] ∧ t.sectors = [] ∧ t.rd F.HK_ROUND_COUNT = 0)
    ∧ (∃ t, exec .powerDown s = .next t ∧ t.powered = false ∧ t.nvm = s.nvm ∧ t.dram = [] ∧ t.ctxs = []
      ∧ (s.rd F.TOP_STATUS_SHUTDOWN = 1 → t.rd F.TOP_STATUS_SHUTDOWN = 1 ∧ t.rd F.THM_STATE_HIGH = 3))
    ∧ (s.powered = true → ∃ t, exec .sysReset s = .next t ∧ restarted s t ∧ t.dram = s.dram ∧ t.sectors = s.sectors ∧ t.rd F.HK_ROUND_COUNT = s.rd F.HK_ROUND_COUNT % 2 ^ 32)
    ∧ (s.powered = false → exec .sysReset s = .next s)
    ∧ (∀ src (v : Word), sourceOk src = true →
      ((∃ n, src = .pf n ∧ v.toNat % 256 = 0x5A ∧ s.rd F.PCIE_AUTH_HOLDER n = 1) → s.powered = true →
        ∃ t, exec (.resetKey src v) s = .next t ∧ restarted s t ∧ t.dram = s.dram ∧ t.sectors = s.sectors)
      ∧ ((∀ n, src = .pf n → v.toNat % 256 ≠ 0x5A ∨ s.rd F.PCIE_AUTH_HOLDER n ≠ 1 ∨ s.powered = false) → exec (.resetKey src v) s = .next s))
    ∧ (∀ k, k < 4 →
      (k ∈ s.clkLost → exec (.refclkLost k) s = .next s) ∧ (k ∉ s.clkLost → exec (.refclkReturn k) s = .next s)
      ∧ (k ∉ s.clkLost → ∃ t, exec (.refclkLost k) s = .next t ∧ t.clkLost = k :: s.clkLost ∧ t.dram = s.dram
        ∧ (k < 2 → (t.port k).up = false) ∧ (k = 2 → ∀ p, p < 8 → t.rd F.FAB_STATE p = 0) ∧ (k = 3 → s.sec.running = true → t.rd F.TOP_STATUS_FATAL = 1))
      ∧ (k ∈ s.clkLost → ∃ t, exec (.refclkReturn k) s = .next t ∧ k ∉ t.clkLost ∧ t.dram = s.dram ∧ (∀ j, j ≠ k → (j ∈ t.clkLost ↔ j ∈ s.clkLost))
        ∧ (k = 2 → s.domOn 28 = true → ∀ p, p < 8 → s.rdAt .fab p F.HDR_CTRL_ENABLE 0 = 1 → t.rd F.FAB_STATE p = b2n (!s.coldHold))))
    ∧ (∀ flash fails, ¬ (s.powered = true ∧ s.clkLost = [] ∧ s.rd F.BOOT_STATUS_STAGE = 1 ∧ s.sec.running = false) → exec (.bootRom fails flash) s = .next s)
    ∧ (∀ flash, romStarts s →
      let read : Bool := !Config.bootSrc && flash
      let found := decide (envNum s.nvm.image 0 4 = 0x4B465732)
      let r := imgResult s.nvm.svnFuse s.nvm.image
      ∃ t, exec (.bootRom [] flash) s = .next t ∧ t.nvm = s.nvm ∧ t.dram = s.dram
        ∧ (read = true → r = 0 → t.rd F.BOOT_STATUS_STAGE = 3 ∧ t.sec.running = true ∧ t.rd F.SEC_STATUS_AK_READY = 1
          ∧ t.sec.fwSvn = envNum s.nvm.image 8 8 ∧ t.sec.fwMeas = sha384 (imgSigned s.nvm.image)
          ∧ t.sec.idLocked = true ∧ t.mgmt.code = (s.nvm.image.drop 0x100).take (imgSize s.nvm.image))
        ∧ (read = false ∨ r ≠ 0 → t.rd F.BOOT_STATUS_STAGE = 14 ∧ t.sec = s.sec)
        ∧ (read = true → found = true → r ≠ 0 → t.rd F.BOOT_STATUS_RESULT = r) ∧ (Config.bootSrc = false → flash = false → t.rd F.BOOT_STATUS_RESULT = 5))
    ∧ (s.sec.running = false ∨ s.rd F.BOOT_STATUS_STAGE ≠ 3 ∨ s.sec.applied = true → exec .bringUp s = .next s)
    ∧ (s.sec.running = true → s.rd F.BOOT_STATUS_STAGE = 3 → s.sec.applied = false →
      ∃ t, exec .bringUp s = .next t ∧ t.sec.applied = true ∧ t.rd F.BOOT_STATUS_STAGE = 3
        ∧ ∀ n, 16 ≤ n → n < 28 ∨ n = 29 → t.rd F.DOM_STATE_REQ n = 2)
    ∧ (s.rd F.BOOT_STATUS_STAGE ≠ 3 → ∀ bad, exec (.bondFieldTraining bad) s = .next s)
    ∧ (s.rd F.BOOT_STATUS_STAGE = 3 → s.sec.applied = true → (∀ n, n < 30 → s.domState n ≠ 3) →
      ∃ t, exec (.bondFieldTraining []) s = .next t ∧ t.rd F.BOOT_STATUS_STAGE = 5 ∧ t.sec.opt = s.optWord ∧ t.sec.cloves = s.goodSlices
        ∧ ∀ p, p < nBlks → (s.blk p).site < 2 → (t.blk p).sp.clove = some false)
    ∧ (s.rd F.BOOT_STATUS_STAGE ≠ 6 → ∀ single multi, exec (.externalMemoryTest single multi) s = .next s)
    ∧ (s.rd F.BOOT_STATUS_STAGE = 6 → (∀ g, g < nDist → ∀ c ∈ s.chansOf g, s.rd F.MEMC_CHAN_TRAINED g c = 1) →
      (s.anyChannel = false → ∀ single multi, ∃ t, exec (.externalMemoryTest single multi) s = .next t ∧ broughtDown t 1)
      ∧ (s.anyChannel = true → ∃ t, exec (.externalMemoryTest [] []) s = .next t ∧ t.locked = true ∧ t.dram = [] ∧ t.sectors = []
        ∧ t.rd F.BOOT_STATUS_STAGE = if bitOf s.sec.opt 1 then 8 else 9)
      ∧ (∀ g c single multi, g < nDist → c ∈ s.chansOf g → (g, c) ∈ multi →
        ∃ t, exec (.externalMemoryTest single multi) s = .next t ∧ t.rd F.BOOT_MEMTEST_EXCL 0 (4 * g + c) = 1 ∧ c ∉ t.chansOf g))
    ∧ (s.cardamomMay = false ∨ s.plaza.ticked = true → ∀ sites slices cause, exec (.cardamom sites slices cause) s = .next s)
    ∧ (s.cardamomMay = true → s.plaza.ticked = false →
      (∀ sites slices cause, cause = 2 ∨ cause = 3 → ∃ t, exec (.cardamom sites slices cause) s = .next t ∧ broughtDown t cause)
      ∧ (∃ t, exec (.cardamom [] [] 0) s = .next t ∧ t.later.ready = true ∧ t.plaza.ticked = true ∧ t.plaza.ticking = true ∧ t.rd F.PWR_PL = 0 ∧ t.rd F.PWR_PL_EFF = 0
        ∧ t.frame = (s.frame + 6000) % 2 ^ 64 ∧ ∀ p, p < nBlks → (t.blk p).l1 = []))

/-! ### The tick and the contexts -/

namespace Sys2Proof.Claims

/-- The context commands with a row of their own, and their OP codes (R43). -/
def ctxRows (src : Source) (n : Nat) : List (Instr × Nat) :=
  [(.activate src n, 1), (.stop src n, 2), (.abort src n, 3), (.resume src n, 4), (.release src n, 5)]

/-- A tick that is taken raises the frame number, and runs the whole gap or leaves the device in FATAL, where it does not tick again. -/
def gapOrFatal (s t : State) : Prop :=
  t.frame = s.nextFrame ∧ ((t.fab.adopt = none ∧ ∀ p, p < nBlks → (t.blk p).q = Queues.reset) ∨ (t.rd F.TOP_STATUS_FATAL = 1 ∧ t.plaza.ticking = false))

/-- Context n is in state st (R42). -/
def inState (t : State) (n st : Nat) : Prop := (t.ctx n).state = st

/-- A queued command is refused for a reason, and no context changes (R43). -/
def cmdRefused (s t : State) (op n reason : Nat) : Prop :=
  onlyRegs s t ∧ t.rd F.CTX_CMD_RESULT_VALID = 1 ∧ t.rd F.CTX_CMD_RESULT_REASON = reason ∧ t.rd F.CTX_CMD_RESULT_OP = op % 16 ∧ t.rd F.CTX_CMD_RESULT_CTX = n % 1024

end Sys2Proof.Claims

/-- TICK, where it is taken, classes the ending frame, moves its context as the class says, and starts no frame but that of the context chosen. TICK_IN
arms a follower, and so does TICK_LOST; TICK_CTRL_ENABLE starts and stops the Plaza; FRAME_ENDED ends a frame that every enabled Block has ended. ACTIVATE, STOP, ABORT,
RESUME and RELEASE queue, with ACTIVATE prepared; the queue's commands move a context as the table of R42 lists, or are refused. CONTEXT_ENTRY_WRITE writes
an entry outside the device's bytes and the reserved bits unless its context may run, and RESIDENT_LOAD checks a context made resident. -/
def Obligations.TickAndContexts : Prop :=
  ∀ (s : State),
    (s.mayTick = false → ∀ bad, exec (.tick bad) s = .next s)
    ∧ (s.mayTick = true → ∀ bad, ∃ t, exec (.tick bad) s = .next t ∧ gapOrFatal s t ∧ t.rd F.TICK_TICK_TIME_TIME = s.now % 2 ^ 64
      ∧ (∀ r, t.plaza.run = some r → inState t r.ctx 3 ∧ ∃ ch, s.plaza.choice = some ch ∧ ch.ctx = r.ctx)
      ∧ ∀ run, s.plaza.run = some run → s.plaza.cmds = [] →
        (∀ f, run.faults.find? (fun f => f.kill) = some f → inState t run.ctx 5 ∧ (t.ctx run.ctx).cause = f.cause ∧ (t.ctx run.ctx).stopFrame = s.frame)
        ∧ (run.faults = [] → run.ended = false → (s.ctx run.ctx).killDue = none → inState t run.ctx 4 ∧ (t.ctx run.ctx).faultAtOverrun = false ∧ (t.ctx run.ctx).cause = 0x20)
        ∧ (run.faults = [] → run.ended = true → (s.ctx run.ctx).killDue = none → s.plaza.choice = none → (∀ n, (s.slc n).moved = []) → inState t run.ctx 2)
        ∧ (run.faults ≠ [] → (∀ f ∈ run.faults, f.kill = false) → (s.ctx run.ctx).directWritten = false → ueCount run.faults < 2 → (s.ctx run.ctx).replays < 2 →
            (s.ctx run.ctx).killDue = none → run.ended = true → s.plaza.choice = none →
          inState t run.ctx 2 ∧ (t.ctx run.ctx).replays = (s.ctx run.ctx).replays + 1 ∧ (t.ctx run.ctx).replayPending = true))
    ∧ (s.rd F.TICK_SYNC_MODE = 2 → ∃ t, exec .tickIn s = .next t ∧ t = { s with plaza := t.plaza } ∧ t.plaza.armed = true ∧ t.plaza.waitPulse = false
        ∧ t.plaza.ticking = (s.plaza.ticking || s.plaza.waitPulse))
    ∧ (s.rd F.TICK_SYNC_MODE ≠ 2 → exec .tickIn s = .next s ∧ exec .tickLost s = .next s)
    ∧ (s.rd F.TICK_SYNC_MODE = 2 → s.plaza.ticking = true → ∃ t, exec .tickLost s = .next t ∧ t.plaza.armed = true ∧ bitOf (t.evts .tick 0) 0 = true ∧ t.frame = s.frame)
    ∧ (∀ src, mayCommand s src →
      (s.rd F.TOP_STATUS_FATAL ≠ 1 → ∃ t, exec (.tickCtrlEnable src true) s = .next t ∧ t.rdAt .tick 0 F.HDR_CTRL_ENABLE 0 = 1 ∧ t.plaza.stopping = false
        ∧ (s.rd F.TICK_SYNC_MODE ≠ 2 → t.plaza.ticking = true) ∧ (s.rd F.TICK_SYNC_MODE = 2 → s.plaza.ticking = false → t.plaza.ticking = false ∧ t.plaza.waitPulse = true))
      ∧ (s.anyBusy = true → exec (.tickCtrlEnable src false) s = .next s)
      ∧ (s.anyBusy = false → ∃ t, exec (.tickCtrlEnable src false) s = .next t ∧ t.rdAt .tick 0 F.HDR_CTRL_ENABLE 0 = 0 ∧ t.plaza.stopping = s.plaza.ticking ∧ t.frame = s.frame))
    ∧ (s.plaza.run = none → exec .frameEnded s = .next s)
    ∧ (∀ run, s.plaza.run = some run →
      ((∃ p ∈ s.enabledBlks, (s.blk p).q.ended = false) → exec .frameEnded s = .next s)
      ∧ (run.ended = false → (∀ p ∈ s.enabledBlks, (s.blk p).q.ended = true) →
        ∃ t, exec .frameEnded s = .next t ∧ t.plaza = { s.plaza with run := some { run with ended := true } } ∧ t.dram = s.dram
          ∧ (run.faults ≠ [] ∨ s.fabricUse run.ctx = false → t = { s with plaza := t.plaza })))
    ∧ (∀ src n, mayCommand s src → n < nCtxs → ∀ c ∈ ctxRows src n,
      (64 ≤ s.plaza.cmds.length → exec c.1 s = .next (s.setEvt .ctx 0 4))
      ∧ (s.plaza.cmds.length < 64 → (∀ q ∈ s.plaza.cmds, q.op ≠ 1 ∨ q.prep.isSome = true) →
        (c.2 ≠ 1 → ∃ t, exec c.1 s = .next t ∧ t = { s with plaza := t.plaza } ∧ t.plaza.cmds = s.plaza.cmds ++ [⟨c.2, n, none⟩])
        ∧ (c.2 = 1 → s.sec.entropyOk = true → ∃ t p, exec c.1 s = .next t ∧ t.plaza.cmds = s.plaza.cmds ++ [⟨1, n, some p⟩]
          ∧ (inState s n 0 → (∀ q ∈ s.plaza.cmds, q.ctx ≠ n) → p.fromEmpty = true ∧ ((s.ctx n).entryOk = false → p.reason = 2))
          ∧ (¬ inState s n 0 → p.fromEmpty = false ∧ p.reason = 0))))
    ∧ (∀ op n prep, let st := (s.ctx n).state; let t := s.applyCmd ⟨op, n, prep⟩
      (op = 2 → (st = 1 ∨ st = 2 ∨ st = 4 → inState t n 1) ∧ (st = 0 ∨ st = 3 ∨ st = 5 ∨ st = 6 → cmdRefused s t op n 1))
      ∧ (op = 3 → (st ≠ 0 → inState t n 6) ∧ (st = 0 → cmdRefused s t op n 1))
      ∧ (op = 4 → (st = 4 → inState t n 2 ∧ (t.ctx n).replays = 0) ∧ (st ≠ 4 → cmdRefused s t op n 1))
      ∧ (op = 5 → (st = 1 ∨ st = 4 ∨ st = 5 ∨ st = 6 → inState t n 0) ∧ (st = 0 ∨ st = 2 ∨ st = 3 → cmdRefused s t op n 1))
      ∧ (op = 1 → 2 ≤ st → cmdRefused s t op n 1) ∧ (op = 0 ∨ 6 ≤ op → cmdRefused s t op n 5))
    ∧ (∀ src n off (bytes : List Byte), mayCommand s src → n < nCtxs →
      (¬ (bytes.length = 4 ∨ bytes.length = 8) ∨ off % bytes.length ≠ 0 → exec (.contextEntryWrite src n off bytes) s = .next s)
      ∧ ((bytes.length = 4 ∨ bytes.length = 8) → off % bytes.length = 0 → off + bytes.length ≤ 1024 →
        (inState s n 2 ∨ inState s n 3 → exec (.contextEntryWrite src n off bytes) s = .next (s.setEvt .ctx 0 5))
        ∧ (¬ (inState s n 2 ∨ inState s n 3) → ∃ t, exec (.contextEntryWrite src n off bytes) s = .next t ∧ t = { s with regs := t.regs, ctxs := t.ctxs }
          ∧ (∀ m, m ≠ n → t.ctx m = s.ctx m) ∧ t.ctx n = { s.ctx n with host := (t.ctx n).host }
          ∧ ∀ a, (t.ctx n).host.get a 0 = if off ≤ a ∧ a < off + bytes.length ∧ a < 0x200 ∧ ¬ (4 ≤ a ∧ a < 8) then bytes.getD (a - off) 0 &&& entryMask a else (s.ctx n).host.get a 0)))
    ∧ (∀ n, n < nCtxs →
      ((s.ctx n).resident = false ∨ (s.ctx n).loaded = true → exec (.residentLoad n) s = .next s)
      ∧ ((s.ctx n).resident = true → (s.ctx n).loaded = false →
        ((s.ctx n).entryOk = false → ∃ t, exec (.residentLoad n) s = .next t ∧ (t.ctx n).loadFail = true ∧ (t.ctx n).loaded = false)
        ∧ ((s.ctx n).entryOk = true → (s.regionTable (s.ctx n)).2.2.2 = true →
          ∃ t, exec (.residentLoad n) s = .next t ∧ (t.ctx n).loaded = true ∧ (t.ctx n).regions = (s.regionTable (s.ctx n)).2.1)
        ∧ ((s.ctx n).entryOk = true → (s.regionTable (s.ctx n)).2.2.2 = false → ∃ t, exec (.residentLoad n) s = .next t ∧ (t.ctx n).loadFail = true)))

/-! ### The whole machine -/

/-- Every command keeps the external memory in its canonical form. -/
def Obligations.StepKeepsMemoryCanonical : Prop :=
  ∀ (s t : State), s.sound = true → step s = .next t → t.sound = true

/-- No command lowers the value of the FUSE_SVN field (R333), and none rewrites the bond-wear log: records are only appended. -/
def Obligations.StepLowersNoFuseAndNoLog : Prop :=
  ∀ (s t : State), step s = .next t → svnOf s.nvm.svnFuse ≤ svnOf t.nvm.svnFuse ∧ s.nvm.log <+: t.nvm.log

/-- Right after reset nothing waits, memory lists nothing and is in its canonical form, bring-up is at its first step, no event is set,
every domain is OFF, every context EMPTY, every slice empty, and no frame has run. An idle step changes nothing but the time, which is the
model's choice (log entry 1). -/
def Obligations.ResetState : Prop :=
  State.reset.sound = true ∧ State.reset.pending = [] ∧ State.reset.dram = [] ∧ State.reset.rd F.BOOT_STATUS_STAGE = 1 ∧ State.reset.rd F.TOP_STATUS_READY = 0
    ∧ State.reset.frame = 0 ∧ State.reset.plaza.run = none ∧ State.reset.plaza.ticking = false
    ∧ (∀ pg u, State.reset.evts pg u = 0) ∧ (∀ n, State.reset.domState n = 0) ∧ (∀ n, (State.reset.ctx n).state = 0) ∧ (∀ n, (State.reset.slc n).lines = [])
    ∧ (∀ s : State, s.pending = [] → ∃ t, step s = .next t ∧ t = { s with time := t.time })
end

