-- ==== Sys2Proof/Laws/Dispatch.lean ====
section
/-! SUPPORT. The effect of each command is its meaning: one equation for each constructor. -/

namespace Sys2Proof.Machine
open Sys2Proof

@[simp] theorem exec_tick (s : State) : exec (.tick bad) s = execTick bad s := rfl
@[simp] theorem exec_time (p : Nat) (k : Pkt) (s : State) : exec (.time p k) s = execTime p k s := rfl
@[simp] theorem exec_tickIn (s : State) : exec .tickIn s = execTickIn s := rfl
@[simp] theorem exec_tickLost (s : State) : exec .tickLost s = execTickLost s := rfl
@[simp] theorem exec_frameEnded (s : State) : exec .frameEnded s = execFrameEnded s := rfl
@[simp] theorem exec_activate (src : Source) (n : Nat) (s : State) : exec (.activate src n) s = execActivate src n s := rfl
@[simp] theorem exec_stop (src : Source) (n : Nat) (s : State) : exec (.stop src n) s = execStop src n s := rfl
@[simp] theorem exec_abort (src : Source) (n : Nat) (s : State) : exec (.abort src n) s = execAbort src n s := rfl
@[simp] theorem exec_resume (src : Source) (n : Nat) (s : State) : exec (.resume src n) s = execResume src n s := rfl
@[simp] theorem exec_release (src : Source) (n : Nat) (s : State) : exec (.release src n) s = execRelease src n s := rfl
@[simp] theorem exec_contextEntryWrite (src : Source) (n : Nat) (off : Nat) (bytes : List Byte) (s : State) : exec (.contextEntryWrite src n off bytes) s = execContextEntryWrite src n off bytes s := rfl
@[simp] theorem exec_residentLoad (n : Nat) (s : State) : exec (.residentLoad n) s = execResidentLoad n s := rfl
@[simp] theorem exec_tailValue (h : Nat) (v : Option DWord) (s : State) : exec (.tailValue h v) s = execTailValue h v s := rfl
@[simp] theorem exec_dueRead (h : Nat) (v : Option DWord) (s : State) : exec (.dueRead h v) s = execDueRead h v s := rfl
@[simp] theorem exec_intakeFetch (reads : List HostRead) (whole : Bool) (s : State) : exec (.intakeFetch reads whole) s = execIntakeFetch reads whole s := rfl
@[simp] theorem exec_imemLoad (p : Nat) (s : State) : exec (.imemLoad p) s = execImemLoad p s := rfl
@[simp] theorem exec_outputDelivery (h : Nat) (s : State) : exec (.outputDelivery h) s = execOutputDelivery h s := rfl
@[simp] theorem exec_add (p : Nat) (s : State) : exec (.add p) s = execAdd p s := rfl
@[simp] theorem exec_sub (p : Nat) (s : State) : exec (.sub p) s = execSub p s := rfl
@[simp] theorem exec_and (p : Nat) (s : State) : exec (.and p) s = execAnd p s := rfl
@[simp] theorem exec_or (p : Nat) (s : State) : exec (.or p) s = execOr p s := rfl
@[simp] theorem exec_xor (p : Nat) (s : State) : exec (.xor p) s = execXor p s := rfl
@[simp] theorem exec_andn (p : Nat) (s : State) : exec (.andn p) s = execAndn p s := rfl
@[simp] theorem exec_sll (p : Nat) (s : State) : exec (.sll p) s = execSll p s := rfl
@[simp] theorem exec_srl (p : Nat) (s : State) : exec (.srl p) s = execSrl p s := rfl
@[simp] theorem exec_sra (p : Nat) (s : State) : exec (.sra p) s = execSra p s := rfl
@[simp] theorem exec_mul (p : Nat) (s : State) : exec (.mul p) s = execMul p s := rfl
@[simp] theorem exec_mulhu (p : Nat) (s : State) : exec (.mulhu p) s = execMulhu p s := rfl
@[simp] theorem exec_divu (p : Nat) (s : State) : exec (.divu p) s = execDivu p s := rfl
@[simp] theorem exec_remu (p : Nat) (s : State) : exec (.remu p) s = execRemu p s := rfl
@[simp] theorem exec_min (p : Nat) (s : State) : exec (.min p) s = execMin p s := rfl
@[simp] theorem exec_max (p : Nat) (s : State) : exec (.max p) s = execMax p s := rfl
@[simp] theorem exec_minu (p : Nat) (s : State) : exec (.minu p) s = execMinu p s := rfl
@[simp] theorem exec_maxu (p : Nat) (s : State) : exec (.maxu p) s = execMaxu p s := rfl
@[simp] theorem exec_cmp (p : Nat) (s : State) : exec (.cmp p) s = execCmp p s := rfl
@[simp] theorem exec_pand (p : Nat) (s : State) : exec (.pand p) s = execPand p s := rfl
@[simp] theorem exec_por (p : Nat) (s : State) : exec (.por p) s = execPor p s := rfl
@[simp] theorem exec_pxor (p : Nat) (s : State) : exec (.pxor p) s = execPxor p s := rfl
@[simp] theorem exec_pandn (p : Nat) (s : State) : exec (.pandn p) s = execPandn p s := rfl
@[simp] theorem exec_pnot (p : Nat) (s : State) : exec (.pnot p) s = execPnot p s := rfl
@[simp] theorem exec_ptos (p : Nat) (s : State) : exec (.ptos p) s = execPtos p s := rfl
@[simp] theorem exec_aluStop (p : Nat) (s : State) : exec (.aluStop p) s = execAluStop p s := rfl
@[simp] theorem exec_mflc (p : Nat) (s : State) : exec (.mflc p) s = execMflc p s := rfl
@[simp] theorem exec_mfcb (p : Nat) (s : State) : exec (.mfcb p) s = execMfcb p s := rfl
@[simp] theorem exec_rdid (p : Nat) (s : State) : exec (.rdid p) s = execRdid p s := rfl
@[simp] theorem exec_rdtime (p : Nat) (s : State) : exec (.rdtime p) s = execRdtime p s := rfl
@[simp] theorem exec_rdframe (p : Nat) (s : State) : exec (.rdframe p) s = execRdframe p s := rfl
@[simp] theorem exec_setcls (p : Nat) (s : State) : exec (.setcls p) s = execSetcls p s := rfl
@[simp] theorem exec_jr (p : Nat) (s : State) : exec (.jr p) s = execJr p s := rfl
@[simp] theorem exec_jrl (p : Nat) (s : State) : exec (.jrl p) s = execJrl p s := rfl
@[simp] theorem exec_fence (p : Nat) (s : State) : exec (.fence p) s = execFence p s := rfl
@[simp] theorem exec_halt (p : Nat) (s : State) : exec (.halt p) s = execHalt p s := rfl
@[simp] theorem exec_addi (p : Nat) (s : State) : exec (.addi p) s = execAddi p s := rfl
@[simp] theorem exec_andi (p : Nat) (s : State) : exec (.andi p) s = execAndi p s := rfl
@[simp] theorem exec_ori (p : Nat) (s : State) : exec (.ori p) s = execOri p s := rfl
@[simp] theorem exec_xori (p : Nat) (s : State) : exec (.xori p) s = execXori p s := rfl
@[simp] theorem exec_shi (p : Nat) (s : State) : exec (.shi p) s = execShi p s := rfl
@[simp] theorem exec_cmpi (p : Nat) (s : State) : exec (.cmpi p) s = execCmpi p s := rfl
@[simp] theorem exec_cmpiu (p : Nat) (s : State) : exec (.cmpiu p) s = execCmpiu p s := rfl
@[simp] theorem exec_movi (p : Nat) (s : State) : exec (.movi p) s = execMovi p s := rfl
@[simp] theorem exec_insi (p : Nat) (s : State) : exec (.insi p) s = execInsi p s := rfl
@[simp] theorem exec_ld (p : Nat) (s : State) : exec (.ld p) s = execLd p s := rfl
@[simp] theorem exec_st (p : Nat) (s : State) : exec (.st p) s = execSt p s := rfl
@[simp] theorem exec_lds (p : Nat) (s : State) : exec (.lds p) s = execLds p s := rfl
@[simp] theorem exec_sts (p : Nat) (s : State) : exec (.sts p) s = execSts p s := rfl
@[simp] theorem exec_loadReturn (p : Nat) (k : Nat) (s : State) : exec (.loadReturn p k) s = execLoadReturn p k s := rfl
@[simp] theorem exec_storeAck (p : Nat) (k : Nat) (s : State) : exec (.storeAck p k) s = execStoreAck p k s := rfl
@[simp] theorem exec_br (p : Nat) (s : State) : exec (.br p) s = execBr p s := rfl
@[simp] theorem exec_brl (p : Nat) (s : State) : exec (.brl p) s = execBrl p s := rfl
@[simp] theorem exec_cskip (p : Nat) (s : State) : exec (.cskip p) s = execCskip p s := rfl
@[simp] theorem exec_loop (p : Nat) (s : State) : exec (.loop p) s = execLoop p s := rfl
@[simp] theorem exec_loopi (p : Nat) (s : State) : exec (.loopi p) s = execLoopi p s := rfl
@[simp] theorem exec_cbw (p : Nat) (s : State) : exec (.cbw p) s = execCbw p s := rfl
@[simp] theorem exec_cbwh (p : Nat) (s : State) : exec (.cbwh p) s = execCbwh p s := rfl
@[simp] theorem exec_cbins (p : Nat) (s : State) : exec (.cbins p) s = execCbins p s := rfl
@[simp] theorem exec_qsend (p : Nat) (s : State) : exec (.qsend p) s = execQsend p s := rfl
@[simp] theorem exec_qsendm (p : Nat) (s : State) : exec (.qsendm p) s = execQsendm p s := rfl
@[simp] theorem exec_qfree (p : Nat) (s : State) : exec (.qfree p) s = execQfree p s := rfl
@[simp] theorem exec_mload (p : Nat) (s : State) : exec (.mload p) s = execMload p s := rfl
@[simp] theorem exec_mloadStart (p : Nat) (s : State) : exec (.mloadStart p) s = execMloadStart p s := rfl
@[simp] theorem exec_mpass (p : Nat) (s : State) : exec (.mpass p) s = execMpass p s := rfl
@[simp] theorem exec_mpassStart (p : Nat) (s : State) : exec (.mpassStart p) s = execMpassStart p s := rfl
@[simp] theorem exec_mdrain (p : Nat) (s : State) : exec (.mdrain p) s = execMdrain p s := rfl
@[simp] theorem exec_mdrainStart (p : Nat) (s : State) : exec (.mdrainStart p) s = execMdrainStart p s := rfl
@[simp] theorem exec_rampStep (p : Nat) (s : State) : exec (.rampStep p) s = execRampStep p s := rfl
@[simp] theorem exec_holdExpiry (p : Nat) (s : State) : exec (.holdExpiry p) s = execHoldExpiry p s := rfl
@[simp] theorem exec_gateBoundary (d : Nat) (s : State) : exec (.gateBoundary d) s = execGateBoundary d s := rfl
@[simp] theorem exec_vlaunch (p : Nat) (s : State) : exec (.vlaunch p) s = execVlaunch p s := rfl
@[simp] theorem exec_dcopy (p : Nat) (s : State) : exec (.dcopy p) s = execDcopy p s := rfl
@[simp] theorem exec_dgather (p : Nat) (s : State) : exec (.dgather p) s = execDgather p s := rfl
@[simp] theorem exec_fsend (p : Nat) (s : State) : exec (.fsend p) s = execFsend p s := rfl
@[simp] theorem exec_xdispatch (p : Nat) (s : State) : exec (.xdispatch p) s = execXdispatch p s := rfl
@[simp] theorem exec_countTable (d : Nat) (k : Nat) (s : State) : exec (.countTable d k) s = execCountTable d k s := rfl
@[simp] theorem exec_placement (d : Nat) (k : Nat) (s : State) : exec (.placement d k) s = execPlacement d k s := rfl
@[simp] theorem exec_xcombine (p : Nat) (s : State) : exec (.xcombine p) s = execXcombine p s := rfl
@[simp] theorem exec_sfence (p : Nat) (s : State) : exec (.sfence p) s = execSfence p s := rfl
@[simp] theorem exec_barrier (p : Nat) (s : State) : exec (.barrier p) s = execBarrier p s := rfl
@[simp] theorem exec_barrierRelease (chip : Bool) (d : Nat) (s : State) : exec (.barrierRelease chip d) s = execBarrierRelease chip d s := rfl
@[simp] theorem exec_frameEnd (p : Nat) (s : State) : exec (.frameEnd p) s = execFrameEnd p s := rfl
@[simp] theorem exec_commandComplete (p : Nat) (k : Nat) (s : State) : exec (.commandComplete p k) s = execCommandComplete p k s := rfl
@[simp] theorem exec_iadd (p : Nat) (g : Nat) (s : State) : exec (.iadd p g) s = execIadd p g s := rfl
@[simp] theorem exec_isub (p : Nat) (g : Nat) (s : State) : exec (.isub p g) s = execIsub p g s := rfl
@[simp] theorem exec_imul (p : Nat) (g : Nat) (s : State) : exec (.imul p g) s = execImul p g s := rfl
@[simp] theorem exec_imad (p : Nat) (g : Nat) (s : State) : exec (.imad p g) s = execImad p g s := rfl
@[simp] theorem exec_vxAnd (p : Nat) (g : Nat) (s : State) : exec (.vxAnd p g) s = execVxAnd p g s := rfl
@[simp] theorem exec_vxOr (p : Nat) (g : Nat) (s : State) : exec (.vxOr p g) s = execVxOr p g s := rfl
@[simp] theorem exec_vxXor (p : Nat) (g : Nat) (s : State) : exec (.vxXor p g) s = execVxXor p g s := rfl
@[simp] theorem exec_shl (p : Nat) (g : Nat) (s : State) : exec (.shl p g) s = execShl p g s := rfl
@[simp] theorem exec_shr (p : Nat) (g : Nat) (s : State) : exec (.shr p g) s = execShr p g s := rfl
@[simp] theorem exec_vxMin (p : Nat) (g : Nat) (s : State) : exec (.vxMin p g) s = execVxMin p g s := rfl
@[simp] theorem exec_vxMax (p : Nat) (g : Nat) (s : State) : exec (.vxMax p g) s = execVxMax p g s := rfl
@[simp] theorem exec_sel (p : Nat) (g : Nat) (s : State) : exec (.sel p g) s = execSel p g s := rfl
@[simp] theorem exec_vxMovi (p : Nat) (g : Nat) (s : State) : exec (.vxMovi p g) s = execVxMovi p g s := rfl
@[simp] theorem exec_iaddi (p : Nat) (g : Nat) (s : State) : exec (.iaddi p g) s = execIaddi p g s := rfl
@[simp] theorem exec_fadd (p : Nat) (g : Nat) (s : State) : exec (.fadd p g) s = execFadd p g s := rfl
@[simp] theorem exec_fmul (p : Nat) (g : Nat) (s : State) : exec (.fmul p g) s = execFmul p g s := rfl
@[simp] theorem exec_ffma (p : Nat) (g : Nat) (s : State) : exec (.ffma p g) s = execFfma p g s := rfl
@[simp] theorem exec_fmin (p : Nat) (g : Nat) (s : State) : exec (.fmin p g) s = execFmin p g s := rfl
@[simp] theorem exec_fmax (p : Nat) (g : Nat) (s : State) : exec (.fmax p g) s = execFmax p g s := rfl
@[simp] theorem exec_frcp (p : Nat) (g : Nat) (s : State) : exec (.frcp p g) s = execFrcp p g s := rfl
@[simp] theorem exec_frsq (p : Nat) (g : Nat) (s : State) : exec (.frsq p g) s = execFrsq p g s := rfl
@[simp] theorem exec_fexp2 (p : Nat) (g : Nat) (s : State) : exec (.fexp2 p g) s = execFexp2 p g s := rfl
@[simp] theorem exec_flog2 (p : Nat) (g : Nat) (s : State) : exec (.flog2 p g) s = execFlog2 p g s := rfl
@[simp] theorem exec_cvt (p : Nat) (g : Nat) (s : State) : exec (.cvt p g) s = execCvt p g s := rfl
@[simp] theorem exec_setp (p : Nat) (g : Nat) (s : State) : exec (.setp p g) s = execSetp p g s := rfl
@[simp] theorem exec_plop (p : Nat) (g : Nat) (s : State) : exec (.plop p g) s = execPlop p g s := rfl
@[simp] theorem exec_vote (p : Nat) (g : Nat) (s : State) : exec (.vote p g) s = execVote p g s := rfl
@[simp] theorem exec_shfl (p : Nat) (g : Nat) (s : State) : exec (.shfl p g) s = execShfl p g s := rfl
@[simp] theorem exec_vxLd (p : Nat) (g : Nat) (s : State) : exec (.vxLd p g) s = execVxLd p g s := rfl
@[simp] theorem exec_vxSt (p : Nat) (g : Nat) (s : State) : exec (.vxSt p g) s = execVxSt p g s := rfl
@[simp] theorem exec_red (p : Nat) (g : Nat) (s : State) : exec (.red p g) s = execRed p g s := rfl
@[simp] theorem exec_bra (p : Nat) (g : Nat) (s : State) : exec (.bra p g) s = execBra p g s := rfl
@[simp] theorem exec_join (p : Nat) (g : Nat) (s : State) : exec (.join p g) s = execJoin p g s := rfl
@[simp] theorem exec_barG (p : Nat) (g : Nat) (s : State) : exec (.barG p g) s = execBarG p g s := rfl
@[simp] theorem exec_barB (p : Nat) (g : Nat) (s : State) : exec (.barB p g) s = execBarB p g s := rfl
@[simp] theorem exec_exit (p : Nat) (g : Nat) (s : State) : exec (.exit p g) s = execExit p g s := rfl
@[simp] theorem exec_rdsr (p : Nat) (g : Nat) (s : State) : exec (.rdsr p g) s = execRdsr p g s := rfl
@[simp] theorem exec_gmma (p : Nat) (g : Nat) (s : State) : exec (.gmma p g) s = execGmma p g s := rfl
@[simp] theorem exec_vxLoadReturn (p : Nat) (g : Nat) (k : Nat) (s : State) : exec (.vxLoadReturn p g k) s = execVxLoadReturn p g k s := rfl
@[simp] theorem exec_groupRetire (p : Nat) (g : Nat) (s : State) : exec (.groupRetire p g) s = execGroupRetire p g s := rfl
@[simp] theorem exec_bankWake (p : Nat) (b : Nat) (s : State) : exec (.bankWake p b) s = execBankWake p b s := rfl
@[simp] theorem exec_spOwnWrite (src : Source) (p : Nat) (b : Nat) (v : Word) (s : State) : exec (.spOwnWrite src p b v) s = execSpOwnWrite src p b v s := rfl
@[simp] theorem exec_cloveStart (src : Source) (p : Nat) (v : Word) (s : State) : exec (.cloveStart src p v) s = execCloveStart src p v s := rfl
@[simp] theorem exec_cloveDone (slice : Bool) (n : Nat) (fail : BitVec 16) (row : BitVec 11) (s : State) : exec (.cloveDone slice n fail row) s = execCloveDone slice n fail row s := rfl
@[simp] theorem exec_sliceRequest (n : Nat) (wires : List Nat) (s : State) : exec (.sliceRequest n wires) s = execSliceRequest n wires s := rfl
@[simp] theorem exec_lineFill (n : Nat) (k : Nat) (s : State) : exec (.lineFill n k) s = execLineFill n k s := rfl
@[simp] theorem exec_resolve (n : Nat) (k : Nat) (s : State) : exec (.resolve n k) s = execResolve n k s := rfl
@[simp] theorem exec_inv (p : Nat) (s : State) : exec (.inv p) s = execInv p s := rfl
@[simp] theorem exec_invAck (n : Nat) (s : State) : exec (.invAck n) s = execInvAck n s := rfl
@[simp] theorem exec_prefetch (n : Nat) (s : State) : exec (.prefetch n) s = execPrefetch n s := rfl
@[simp] theorem exec_requestRetry (n : Nat) (s : State) : exec (.requestRetry n) s = execRequestRetry n s := rfl
@[simp] theorem exec_heldAdmit (d : Nat) (bank : Nat) (s : State) : exec (.heldAdmit d bank) s = execHeldAdmit d bank s := rfl
@[simp] theorem exec_pin (src : Source) (d : Nat) (v : Word) (s : State) : exec (.pin src d v) s = execPin src d v s := rfl
@[simp] theorem exec_unpin (src : Source) (d : Nat) (v : Word) (s : State) : exec (.unpin src d v) s = execUnpin src d v s := rfl
@[simp] theorem exec_pinDone (d : Nat) (e : Nat) (s : State) : exec (.pinDone d e) s = execPinDone d e s := rfl
@[simp] theorem exec_sweepEnd (n : Nat) (s : State) : exec (.sweepEnd n) s = execSweepEnd n s := rfl
@[simp] theorem exec_retired (n : Nat) (unreadable : List Nat) (s : State) : exec (.retired n unreadable) s = execRetired n unreadable s := rfl
@[simp] theorem exec_scrubVisit (memc : Bool) (n : Nat) (s : State) : exec (.scrubVisit memc n) s = execScrubVisit memc n s := rfl
@[simp] theorem exec_lineRequest (d : Nat) (s : State) : exec (.lineRequest d) s = execLineRequest d s := rfl
@[simp] theorem exec_keyFetch (d : Nat) (h : Nat) (s : State) : exec (.keyFetch d h) s = execKeyFetch d h s := rfl
@[simp] theorem exec_checkMiss (d : Nat) (s : State) : exec (.checkMiss d) s = execCheckMiss d s := rfl
@[simp] theorem exec_refresh (d : Nat) (c : Nat) (s : State) : exec (.refresh d c) s = execRefresh d c s := rfl
@[simp] theorem exec_mr4Read (d : Nat) (mults : List Nat) (hot : List Bool) (s : State) : exec (.mr4Read d mults hot) s = execMr4Read d mults hot s := rfl
@[simp] theorem exec_driftTrack (d : Nat) (c : Nat) (exceeds : Bool) (s : State) : exec (.driftTrack d c exceeds) s = execDriftTrack d c exceeds s := rfl
@[simp] theorem exec_channelTraining (d : Nat) (pass : List Bool) (s : State) : exec (.channelTraining d pass) s = execChannelTraining d pass s := rfl
@[simp] theorem exec_lock (src : Source) (s : State) : exec (.lock src) s = execLock src s := rfl
@[simp] theorem exec_hostWindowAccess (s : State) : exec (.hostWindowAccess port w data len) s = execHostWindowAccess port w data len s := rfl
@[simp] theorem exec_errorReport (r : Report) (s : State) : exec (.errorReport r) s = execErrorReport r s := rfl
@[simp] theorem exec_ceTableUpdate (c : Nat) (unit : Nat) (addr : Nat) (syndrome : Nat) (s : State) : exec (.ceTableUpdate c unit addr syndrome) s = execCeTableUpdate c unit addr syndrome s := rfl
@[simp] theorem exec_pop (src : Source) (s : State) : exec (.pop src) s = execPop src s := rfl
@[simp] theorem exec_fatalSet (src : Source) (s : State) : exec (.fatalSet src) s = execFatalSet src s := rfl
@[simp] theorem exec_errorInject (src : Source) (v : Word) (s : State) : exec (.errorInject src v) s = execErrorInject src v s := rfl
@[simp] theorem exec_bondWindow (n : Nat) (wires : List Nat) (s : State) : exec (.bondWindow n wires) s = execBondWindow n wires s := rfl
@[simp] theorem exec_provOpen (m : Nat) (s : State) : exec (.provOpen m) s = execProvOpen m s := rfl
@[simp] theorem exec_provImport (m : Nat) (s : State) : exec (.provImport m) s = execProvImport m s := rfl
@[simp] theorem exec_sessionTimeout (k : Nat) (s : State) : exec (.sessionTimeout k) s = execSessionTimeout k s := rfl
@[simp] theorem exec_revoke (m : Nat) (s : State) : exec (.revoke m) s = execRevoke m s := rfl
@[simp] theorem exec_bindReq (src : Source) (v : Word) (s : State) : exec (.bindReq src v) s = execBindReq src v s := rfl
@[simp] theorem exec_entropyFail (ok : Bool) (s : State) : exec (.entropyFail ok) s = execEntropyFail ok s := rfl
@[simp] theorem exec_attest (m : Nat) (s : State) : exec (.attest m) s = execAttest m s := rfl
@[simp] theorem exec_getCerts (m : Nat) (s : State) : exec (.getCerts m) s = execGetCerts m s := rfl
@[simp] theorem exec_getInfo (m : Nat) (s : State) : exec (.getInfo m) s = execGetInfo m s := rfl
@[simp] theorem exec_respRead (m : Nat) (s : State) : exec (.respRead m) s = execRespRead m s := rfl
@[simp] theorem exec_fwLoadBegin (m : Nat) (s : State) : exec (.fwLoadBegin m) s = execFwLoadBegin m s := rfl
@[simp] theorem exec_fwLoadData (m : Nat) (s : State) : exec (.fwLoadData m) s = execFwLoadData m s := rfl
@[simp] theorem exec_fwLoadDma (s : State) : exec (.fwLoadDma m data) s = execFwLoadDma m data s := rfl
@[simp] theorem exec_fwLoadEnd (m : Nat) (s : State) : exec (.fwLoadEnd m) s = execFwLoadEnd m s := rfl
@[simp] theorem exec_fwFlashWrite (m : Nat) (s : State) : exec (.fwFlashWrite m) s = execFwFlashWrite m s := rfl
@[simp] theorem exec_svnCommit (m : Nat) (s : State) : exec (.svnCommit m) s = execSvnCommit m s := rfl
@[simp] theorem exec_authHandover (m : Nat) (s : State) : exec (.authHandover m) s = execAuthHandover m s := rfl
@[simp] theorem exec_authClaim (m : Nat) (s : State) : exec (.authClaim m) s = execAuthClaim m s := rfl
@[simp] theorem exec_telemetryRead (m : Nat) (s : State) : exec (.telemetryRead m) s = execTelemetryRead m s := rfl
@[simp] theorem exec_logRead (m : Nat) (s : State) : exec (.logRead m) s = execLogRead m s := rfl
@[simp] theorem exec_deviceReset (m : Nat) (s : State) : exec (.deviceReset m) s = execDeviceReset m s := rfl
@[simp] theorem exec_sidebandRead (a : Nat) (n : Nat) (s : State) : exec (.sidebandRead a n) s = execSidebandRead a n s := rfl
@[simp] theorem exec_channelEnable (src : Source) (h : Nat) (v : Bool) (s : State) : exec (.channelEnable src h v) s = execChannelEnable src h v s := rfl
@[simp] theorem exec_channelReset (src : Source) (h : Nat) (s : State) : exec (.channelReset src h) s = execChannelReset src h s := rfl
@[simp] theorem exec_chanOwner (src : Source) (port : Nat) (j : Nat) (v : Word) (s : State) : exec (.chanOwner src port j v) s = execChanOwner src port j v s := rfl
@[simp] theorem exec_linkDown (port : Nat) (s : State) : exec (.linkDown port) s = execLinkDown port s := rfl
@[simp] theorem exec_hotReset (port : Nat) (s : State) : exec (.hotReset port) s = execHotReset port s := rfl
@[simp] theorem exec_perst (port : Nat) (s : State) : exec (.perst port) s = execPerst port s := rfl
@[simp] theorem exec_pfFlr (port : Nat) (s : State) : exec (.pfFlr port) s = execPfFlr port s := rfl
@[simp] theorem exec_vfFlr (port : Nat) (vf : Nat) (s : State) : exec (.vfFlr port vf) s = execVfFlr port vf s := rfl
@[simp] theorem exec_l1Entry (port : Nat) (s : State) : exec (.l1Entry port) s = execL1Entry port s := rfl
@[simp] theorem exec_data (p : Nat) (k : Pkt) (s : State) : exec (.data p k) s = execData p k s := rfl
@[simp] theorem exec_landingComplete (k : Nat) (s : State) : exec (.landingComplete k) s = execLandingComplete k s := rfl
@[simp] theorem exec_landed (p : Nat) (k : Pkt) (s : State) : exec (.landed p k) s = execLanded p k s := rfl
@[simp] theorem exec_commitToken (p : Nat) (k : Pkt) (s : State) : exec (.commitToken p k) s = execCommitToken p k s := rfl
@[simp] theorem exec_abortMarker (p : Nat) (k : Pkt) (s : State) : exec (.abortMarker p k) s = execAbortMarker p k s := rfl
@[simp] theorem exec_slotFree (p : Nat) (k : Pkt) (s : State) : exec (.slotFree p k) s = execSlotFree p k s := rfl
@[simp] theorem exec_ctrl (p : Nat) (k : Pkt) (s : State) : exec (.ctrl p k) s = execCtrl p k s := rfl
@[simp] theorem exec_hello (p : Nat) (k : Pkt) (ok : Bool) (s : State) : exec (.hello p k ok) s = execHello p k ok s := rfl
@[simp] theorem exec_rekey (p : Nat) (k : Pkt) (ok : Bool) (s : State) : exec (.rekey p k ok) s = execRekey p k ok s := rfl
@[simp] theorem exec_rekeyTrigger (p : Nat) (s : State) : exec (.rekeyTrigger p) s = execRekeyTrigger p s := rfl
@[simp] theorem exec_lane (p : Nat) (k : Pkt) (s : State) : exec (.lane p k) s = execLane p k s := rfl
@[simp] theorem exec_retryTimeout (p : Nat) (s : State) : exec (.retryTimeout p) s = execRetryTimeout p s := rfl
@[simp] theorem exec_busyResend (p : Nat) (t : Nat) (s : State) : exec (.busyResend p t) s = execBusyResend p t s := rfl
@[simp] theorem exec_landedTimeout (p : Nat) (t : Nat) (s : State) : exec (.landedTimeout p t) s = execLandedTimeout p t s := rfl
@[simp] theorem exec_slotZeroed (i : Nat) (j : Nat) (s : State) : exec (.slotZeroed i j) s = execSlotZeroed i j s := rfl
@[simp] theorem exec_laneCheck (p : Nat) (counts : List Nat) (lost : List Nat) (s : State) : exec (.laneCheck p counts lost) s = execLaneCheck p counts lost s := rfl
@[simp] theorem exec_portTraining (p : Nat) (good : List Nat) (session : Bool) (credits : Nat) (s : State) : exec (.portTraining p good session credits) s = execPortTraining p good session credits s := rfl
@[simp] theorem exec_fabEnable (src : Source) (p : Nat) (s : State) : exec (.fabEnable src p) s = execFabEnable src p s := rfl
@[simp] theorem exec_retrainAll (src : Source) (s : State) : exec (.retrainAll src) s = execRetrainAll src s := rfl
@[simp] theorem exec_minsenseFrame (s : State) : exec (.minsenseFrame readings fall rise) s = execMinsenseFrame readings fall rise s := rfl
@[simp] theorem exec_fastGuard (ma : Nat) (dist : List Nat) (uj : Nat) (s : State) : exec (.fastGuard ma dist uj) s = execFastGuard ma dist uj s := rfl
@[simp] theorem exec_limiterWindow (rails : List Nat) (doms : List Nat) (mw : Nat) (s : State) : exec (.limiterWindow rails doms mw) s = execLimiterWindow rails doms mw s := rfl
@[simp] theorem exec_cellFail (d : Nat) (c : Nat) (s : State) : exec (.cellFail d c) s = execCellFail d c s := rfl
@[simp] theorem exec_domainRequest (src : Source) (n : Nat) (v : Word) (s : State) : exec (.domainRequest src n v) s = execDomainRequest src n v s := rfl
@[simp] theorem exec_switchStep (n : Nat) (s : State) : exec (.switchStep n) s = execSwitchStep n s := rfl
@[simp] theorem exec_switchDone (n : Nat) (fails : List Nat) (s : State) : exec (.switchDone n fails) s = execSwitchDone n fails s := rfl
@[simp] theorem exec_voltageRaised (s : State) : exec .voltageRaised s = execVoltageRaised s := rfl
@[simp] theorem exec_hkChannel (v : Option Int) (s : State) : exec (.hkChannel v) s = execHkChannel v s := rfl
@[simp] theorem exec_roundEnd (s : State) : exec .roundEnd s = execRoundEnd s := rfl
@[simp] theorem exec_logAppend (s : State) : exec .logAppend s = execLogAppend s := rfl
@[simp] theorem exec_powerOn (s : State) : exec .powerOn s = execPowerOn s := rfl
@[simp] theorem exec_powerDown (s : State) : exec .powerDown s = execPowerDown s := rfl
@[simp] theorem exec_sysReset (s : State) : exec .sysReset s = execSysReset s := rfl
@[simp] theorem exec_resetKey (src : Source) (v : Word) (s : State) : exec (.resetKey src v) s = execResetKey src v s := rfl
@[simp] theorem exec_refclkLost (k : Nat) (s : State) : exec (.refclkLost k) s = execRefclkLost k s := rfl
@[simp] theorem exec_bootRom (fails : List Nat) (flash : Bool) (s : State) : exec (.bootRom fails flash) s = execBootRom fails flash s := rfl
@[simp] theorem exec_bringUp (s : State) : exec .bringUp s = execBringUp s := rfl
@[simp] theorem exec_bondFieldTraining (s : State) : exec (.bondFieldTraining bad) s = execBondFieldTraining bad s := rfl
@[simp] theorem exec_externalMemoryTest (s : State) : exec (.externalMemoryTest single multi) s = execExternalMemoryTest single multi s := rfl
@[simp] theorem exec_cardamom (sites : List Nat) (slices : List Nat) (cause : Nat) (s : State) : exec (.cardamom sites slices cause) s = execCardamom sites slices cause s := rfl
@[simp] theorem exec_interruptDelivery (s : State) : exec .interruptDelivery s = execInterruptDelivery s := rfl
@[simp] theorem exec_ack (src : Source) (c : Nat) (v : Word) (s : State) : exec (.ack src c v) s = execAck src c v s := rfl
@[simp] theorem exec_stopReq (src : Source) (page : Nat) (s : State) : exec (.stopReq src page) s = execStopReq src page s := rfl
@[simp] theorem exec_softReset (src : Source) (page : Nat) (s : State) : exec (.softReset src page) s = execSoftReset src page s := rfl
@[simp] theorem exec_tickCtrlEnable (src : Source) (v : Bool) (s : State) : exec (.tickCtrlEnable src v) s = execTickCtrlEnable src v s := rfl
@[simp] theorem exec_evtClear (src : Source) (page : Nat) (v : Word) (s : State) : exec (.evtClear src page v) s = execEvtClear src page v s := rfl
@[simp] theorem exec_retire (src : Source) (d : Nat) (v : Word) (s : State) : exec (.retire src d v) s = execRetire src d v s := rfl
@[simp] theorem exec_imemData (src : Source) (p : Nat) (v : Option Word) (s : State) : exec (.imemData src p v) s = execImemData src p v s := rfl
@[simp] theorem exec_rcRead (src : Source) (off : Nat) (s : State) : exec (.rcRead src off) s = execRcRead src off s := rfl
@[simp] theorem exec_registerWrite (src : Source) (off : Nat) (size : Nat) (v : DWord) (s : State) : exec (.registerWrite src off size v) s = execRegisterWrite src off size v s := rfl
@[simp] theorem exec_illegalInstruction (p : Nat) (s : State) : exec (.illegalInstruction p) s = execIllegalInstruction p s := rfl
@[simp] theorem exec_illegalVectorEncoding (p : Nat) (g : Nat) (s : State) : exec (.illegalVectorEncoding p g) s = execIllegalVectorEncoding p g s := rfl
@[simp] theorem exec_linkUp (port : Nat) (rate : Nat) (width : Nat) (s : State) : exec (.linkUp port rate width) s = execLinkUp port rate width s := rfl
@[simp] theorem exec_refclkReturn (k : Nat) (s : State) : exec (.refclkReturn k) s = execRefclkReturn k s := rfl
@[simp] theorem exec_channelRetrain (d : Nat) (c : Nat) (ok : Bool) (s : State) : exec (.channelRetrain d c ok) s = execChannelRetrain d c ok s := rfl
@[simp] theorem exec_backgroundLaneRetrain (p : Nat) (ok : Bool) (s : State) : exec (.backgroundLaneRetrain p ok) s = execBackgroundLaneRetrain p ok s := rfl
@[simp] theorem exec_badPacket (p : Nat) (why : Nat) (k : Pkt) (s : State) : exec (.badPacket p why k) s = execBadPacket p why k s := rfl
@[simp] theorem exec_rowIdleClose (d : Nat) (bank : Nat) (s : State) : exec (.rowIdleClose d bank) s = execRowIdleClose d bank s := rfl
@[simp] theorem exec_sidebandWrite (a : Nat) (bytes : List Byte) (s : State) : exec (.sidebandWrite a bytes) s = execSidebandWrite a bytes s := rfl
@[simp] theorem exec_configurationRequest (port : Nat) (fn : Nat) (what : Nat) (v : Nat) (s : State) : exec (.configurationRequest port fn what v) s = execConfigurationRequest port fn what v s := rfl
@[simp] theorem exec_registerRead (src : Source) (off : Nat) (size : Nat) (s : State) : exec (.registerRead src off size) s = execRegisterRead src off size s := rfl

end Sys2Proof.Machine
end

