-- ==== Sys2Proof/Laws/Memory.lean ====
section
/-! SUPPORT. External memory: every write keeps the canonical form, a read after a write gives the byte, other bytes stay. -/

namespace Sys2Proof.Machine
open Sys2Proof

theorem memFrom_mono {m n : Nat} (h : m ≤ n) {l : List Host.Cell} (hl : memFrom n l = true) : memFrom m l = true := by
  cases l with
  | nil => rfl
  | cons c l =>
    obtain ⟨a, b⟩ := c
    simp only [memFrom, Bool.and_eq_true, decide_eq_true_eq] at hl ⊢
    exact ⟨⟨le_trans h hl.1.1, hl.1.2⟩, hl.2⟩

theorem memFrom_memWrite (l : List Host.Cell) : ∀ (n x : Nat) (v : Byte), n ≤ x → memFrom n l = true → memFrom n (memWrite l x v) = true := by
  induction l with
  | nil =>
    intro n x v h _
    simp only [memWrite]
    split
    · rfl
    · rename_i hv
      simp only [memFrom, Bool.and_eq_true, decide_eq_true_eq]
      exact ⟨⟨h, hv⟩, trivial⟩
  | cons c l ih =>
    obtain ⟨a, b⟩ := c
    intro n x v h hl
    simp only [memFrom, Bool.and_eq_true, decide_eq_true_eq] at hl
    obtain ⟨⟨hna, hb⟩, hl⟩ := hl
    simp only [memWrite]
    split
    · rename_i hx
      split
      · simp only [memFrom, Bool.and_eq_true, decide_eq_true_eq]
        exact ⟨⟨hna, hb⟩, hl⟩
      · rename_i hv
        simp only [memFrom, Bool.and_eq_true, decide_eq_true_eq]
        exact ⟨⟨h, hv⟩, ⟨Nat.succ_le_of_lt hx, hb⟩, hl⟩
    · rename_i hx
      split
      · rename_i hax
        subst hax
        split
        · exact memFrom_mono (Nat.le_succ_of_le hna) hl
        · rename_i hv
          simp only [memFrom, Bool.and_eq_true, decide_eq_true_eq]
          exact ⟨⟨hna, hv⟩, hl⟩
      · rename_i hax
        simp only [memFrom, Bool.and_eq_true, decide_eq_true_eq]
        exact ⟨⟨hna, hb⟩, ih (a + 1) x v (by omega) hl⟩

/-- A write keeps the canonical form. -/
theorem Memory.wf_memWrite {l : List Host.Cell} (h : Memory.wf l = true) (x : Nat) (v : Byte) : Memory.wf (memWrite l x v) = true :=
  memFrom_memWrite l 0 x v (Nat.zero_le x) h

/-- A write of several bytes keeps the canonical form. -/
theorem Memory.wf_memWrites (bs : List Byte) : ∀ {l : List Host.Cell} (_ : Memory.wf l = true) (x : Nat), Memory.wf (memWrites l x bs) = true := by
  induction bs with
  | nil => intro l h x; exact h
  | cons b bs ih => intro l h x; exact ih (Memory.wf_memWrite h x b) (x + 1)

theorem memRead_below (l : List Host.Cell) : ∀ (n x : Nat), memFrom n l = true → x < n → memRead l x = 0 := by
  induction l with
  | nil => intros; rfl
  | cons c l ih =>
    obtain ⟨a, b⟩ := c
    intro n x hl hx
    simp only [memFrom, Bool.and_eq_true, decide_eq_true_eq] at hl
    have : a ≠ x := by omega
    simp [memRead, this]
    exact ih (a + 1) x hl.2 (by omega)

theorem memRead_memWrite_from (l : List Host.Cell) : ∀ (n x y : Nat) (v : Byte), memFrom n l = true →
    memRead (memWrite l x v) y = if y = x then v else memRead l y := by
  induction l with
  | nil =>
    intro n x y v _
    by_cases hv : v = 0
    · simp [memWrite, hv, memRead]
    · simp only [memWrite, hv, if_false, memRead]
      by_cases h : x = y <;> simp [h, eq_comm]
  | cons c l ih =>
    obtain ⟨a, b⟩ := c
    intro n x y v hl
    simp only [memFrom, Bool.and_eq_true, decide_eq_true_eq] at hl
    obtain ⟨⟨hna, hb⟩, hl⟩ := hl
    simp only [memWrite]
    split
    · rename_i hx
      by_cases hv : v = 0
      · simp only [hv, if_true]
        by_cases hy : y = x
        · subst hy
          have : a ≠ y := by omega
          simp [memRead, this, memRead_below l (a + 1) y hl (by omega)]
        · simp [hy]
      · simp only [hv, if_false]
        by_cases hy : x = y
        · subst hy; simp [memRead]
        · rw [if_neg (Ne.symm hy)]
          conv => lhs; rw [memRead, if_neg hy]
    · rename_i hx
      split
      · rename_i hax
        subst hax
        by_cases hv : v = 0
        · simp only [hv, if_true]
          by_cases hy : y = a
          · subst hy; simp [memRead_below l (y + 1) y hl (Nat.lt_succ_self y)]
          · simp [hy, memRead, Ne.symm hy]
        · simp only [hv, if_false, memRead]
          by_cases hy : a = y <;> simp [hy, eq_comm]
      · rename_i hax
        simp only [memRead]
        rw [ih (a + 1) x y v hl]
        by_cases hy : a = y
        · subst hy; simp [hax]
        · simp [hy]

/-- A read after a write: the byte written at its address, the old byte elsewhere. -/
theorem memRead_memWrite {l : List Host.Cell} (h : Memory.wf l = true) (x y : Nat) (v : Byte) :
    memRead (memWrite l x v) y = if y = x then v else memRead l y :=
  memRead_memWrite_from l 0 x y v h

/-- A read after a write of several bytes, outside them. -/
theorem memRead_memWrites_out (bs : List Byte) : ∀ {l : List Host.Cell} (_ : Memory.wf l = true) (x y : Nat), y < x ∨ x + bs.length ≤ y →
    memRead (memWrites l x bs) y = memRead l y := by
  induction bs with
  | nil => intros; rfl
  | cons b bs ih =>
    intro l h x y hy
    simp only [List.length_cons] at hy
    rw [memWrites, ih (Memory.wf_memWrite h x b) (x + 1) y (by omega), memRead_memWrite h]
    have : y ≠ x := by omega
    simp [this]

/-- A read after a write of several bytes, at the k-th of them. -/
theorem memRead_memWrites_in (bs : List Byte) : ∀ {l : List Host.Cell} (_ : Memory.wf l = true) (x k : Nat) (hk : k < bs.length),
    memRead (memWrites l x bs) (x + k) = bs[k] := by
  induction bs with
  | nil => intro l _ x k hk; exact absurd hk (Nat.not_lt_zero k)
  | cons b bs ih =>
    intro l h x k hk
    cases k with
    | zero =>
      show memRead (memWrites l x (b :: bs)) x = (b :: bs)[0]
      rw [memWrites, memRead_memWrites_out bs (Memory.wf_memWrite h x b) (x + 1) x (Or.inl (Nat.lt_succ_self x)), memRead_memWrite h]
      simp
    | succ k =>
      have := ih (Memory.wf_memWrite h x b) (x + 1) k (by simpa using hk)
      rw [memWrites, show x + (k + 1) = x + 1 + k by omega, this]
      simp

/-- Memory after reset has the canonical form. -/
theorem reset_memory_wf : Memory.wf State.reset.dram = true := rfl

/-- A sector written keeps the canonical form. -/
theorem State.writeSector_wf (s : State) (q h : Nat) (d : BitVec 256) (err : Nat) (hs : Memory.wf s.dram = true) :
    Memory.wf (s.writeSector q h d err).dram = true := by
  simp only [State.writeSector]
  exact Memory.wf_memWrites _ hs _

end Sys2Proof.Machine
end

