-- ==== Sys2Proof/Laws/PerInstr.lean ====
section
/-! SUPPORT. What holds of every command as syntax, one lemma for each constructor. -/

namespace Sys2Proof.Laws.WellFormed
open Sys2Proof

/-- Every command names one of at least one and at most 1,024 units, and it is well formed exactly when the number that it names and
the source that it comes from exist. -/
def Statement (i : Instr) : Prop :=
  0 < i.unit.2 ∧ i.unit.2 ≤ 1024 ∧ (i.wellFormed = true ↔ i.unit.1 < i.unit.2 ∧ sourceExists i.source = true)

theorem of_bounds {i : Instr} (h : Nat.ble 1 i.unit.2 = true) (h' : Nat.ble i.unit.2 1024 = true) : Statement i :=
  ⟨Nat.le_of_ble_eq_true h, Nat.le_of_ble_eq_true h', by simp [Instr.wellFormed]⟩

theorem tick : ∀ bad, Statement (.tick bad) := fun _ => of_bounds rfl rfl
theorem time : ∀ p k, Statement (.time p k) := fun _ _ => of_bounds rfl rfl
theorem tickIn : Statement .tickIn := of_bounds rfl rfl
theorem tickLost : Statement .tickLost := of_bounds rfl rfl
theorem frameEnded : Statement .frameEnded := of_bounds rfl rfl
theorem activate : ∀ src n, Statement (.activate src n) := fun _ _ => of_bounds rfl rfl
theorem stop : ∀ src n, Statement (.stop src n) := fun _ _ => of_bounds rfl rfl
theorem abort : ∀ src n, Statement (.abort src n) := fun _ _ => of_bounds rfl rfl
theorem resume : ∀ src n, Statement (.resume src n) := fun _ _ => of_bounds rfl rfl
theorem release : ∀ src n, Statement (.release src n) := fun _ _ => of_bounds rfl rfl
theorem contextEntryWrite : ∀ src n off bytes, Statement (.contextEntryWrite src n off bytes) := fun _ _ _ _ => of_bounds rfl rfl
theorem residentLoad : ∀ n, Statement (.residentLoad n) := fun _ => of_bounds rfl rfl
theorem tailValue : ∀ h v, Statement (.tailValue h v) := fun _ _ => of_bounds rfl rfl
theorem dueRead : ∀ h v, Statement (.dueRead h v) := fun _ _ => of_bounds rfl rfl
theorem intakeFetch : ∀ reads whole, Statement (.intakeFetch reads whole) := fun _ _ => of_bounds rfl rfl
theorem imemLoad : ∀ p, Statement (.imemLoad p) := fun _ => of_bounds rfl rfl
theorem outputDelivery : ∀ h, Statement (.outputDelivery h) := fun _ => of_bounds rfl rfl
theorem add : ∀ p, Statement (.add p) := fun _ => of_bounds rfl rfl
theorem sub : ∀ p, Statement (.sub p) := fun _ => of_bounds rfl rfl
theorem and : ∀ p, Statement (.and p) := fun _ => of_bounds rfl rfl
theorem or : ∀ p, Statement (.or p) := fun _ => of_bounds rfl rfl
theorem xor : ∀ p, Statement (.xor p) := fun _ => of_bounds rfl rfl
theorem andn : ∀ p, Statement (.andn p) := fun _ => of_bounds rfl rfl
theorem sll : ∀ p, Statement (.sll p) := fun _ => of_bounds rfl rfl
theorem srl : ∀ p, Statement (.srl p) := fun _ => of_bounds rfl rfl
theorem sra : ∀ p, Statement (.sra p) := fun _ => of_bounds rfl rfl
theorem mul : ∀ p, Statement (.mul p) := fun _ => of_bounds rfl rfl
theorem mulhu : ∀ p, Statement (.mulhu p) := fun _ => of_bounds rfl rfl
theorem divu : ∀ p, Statement (.divu p) := fun _ => of_bounds rfl rfl
theorem remu : ∀ p, Statement (.remu p) := fun _ => of_bounds rfl rfl
theorem min : ∀ p, Statement (.min p) := fun _ => of_bounds rfl rfl
theorem max : ∀ p, Statement (.max p) := fun _ => of_bounds rfl rfl
theorem minu : ∀ p, Statement (.minu p) := fun _ => of_bounds rfl rfl
theorem maxu : ∀ p, Statement (.maxu p) := fun _ => of_bounds rfl rfl
theorem cmp : ∀ p, Statement (.cmp p) := fun _ => of_bounds rfl rfl
theorem pand : ∀ p, Statement (.pand p) := fun _ => of_bounds rfl rfl
theorem por : ∀ p, Statement (.por p) := fun _ => of_bounds rfl rfl
theorem pxor : ∀ p, Statement (.pxor p) := fun _ => of_bounds rfl rfl
theorem pandn : ∀ p, Statement (.pandn p) := fun _ => of_bounds rfl rfl
theorem pnot : ∀ p, Statement (.pnot p) := fun _ => of_bounds rfl rfl
theorem ptos : ∀ p, Statement (.ptos p) := fun _ => of_bounds rfl rfl
theorem aluStop : ∀ p, Statement (.aluStop p) := fun _ => of_bounds rfl rfl
theorem mflc : ∀ p, Statement (.mflc p) := fun _ => of_bounds rfl rfl
theorem mfcb : ∀ p, Statement (.mfcb p) := fun _ => of_bounds rfl rfl
theorem rdid : ∀ p, Statement (.rdid p) := fun _ => of_bounds rfl rfl
theorem rdtime : ∀ p, Statement (.rdtime p) := fun _ => of_bounds rfl rfl
theorem rdframe : ∀ p, Statement (.rdframe p) := fun _ => of_bounds rfl rfl
theorem setcls : ∀ p, Statement (.setcls p) := fun _ => of_bounds rfl rfl
theorem jr : ∀ p, Statement (.jr p) := fun _ => of_bounds rfl rfl
theorem jrl : ∀ p, Statement (.jrl p) := fun _ => of_bounds rfl rfl
theorem fence : ∀ p, Statement (.fence p) := fun _ => of_bounds rfl rfl
theorem halt : ∀ p, Statement (.halt p) := fun _ => of_bounds rfl rfl
theorem addi : ∀ p, Statement (.addi p) := fun _ => of_bounds rfl rfl
theorem andi : ∀ p, Statement (.andi p) := fun _ => of_bounds rfl rfl
theorem ori : ∀ p, Statement (.ori p) := fun _ => of_bounds rfl rfl
theorem xori : ∀ p, Statement (.xori p) := fun _ => of_bounds rfl rfl
theorem shi : ∀ p, Statement (.shi p) := fun _ => of_bounds rfl rfl
theorem cmpi : ∀ p, Statement (.cmpi p) := fun _ => of_bounds rfl rfl
theorem cmpiu : ∀ p, Statement (.cmpiu p) := fun _ => of_bounds rfl rfl
theorem movi : ∀ p, Statement (.movi p) := fun _ => of_bounds rfl rfl
theorem insi : ∀ p, Statement (.insi p) := fun _ => of_bounds rfl rfl
theorem ld : ∀ p, Statement (.ld p) := fun _ => of_bounds rfl rfl
theorem st : ∀ p, Statement (.st p) := fun _ => of_bounds rfl rfl
theorem lds : ∀ p, Statement (.lds p) := fun _ => of_bounds rfl rfl
theorem sts : ∀ p, Statement (.sts p) := fun _ => of_bounds rfl rfl
theorem loadReturn : ∀ p k, Statement (.loadReturn p k) := fun _ _ => of_bounds rfl rfl
theorem storeAck : ∀ p k, Statement (.storeAck p k) := fun _ _ => of_bounds rfl rfl
theorem br : ∀ p, Statement (.br p) := fun _ => of_bounds rfl rfl
theorem brl : ∀ p, Statement (.brl p) := fun _ => of_bounds rfl rfl
theorem cskip : ∀ p, Statement (.cskip p) := fun _ => of_bounds rfl rfl
theorem loop : ∀ p, Statement (.loop p) := fun _ => of_bounds rfl rfl
theorem loopi : ∀ p, Statement (.loopi p) := fun _ => of_bounds rfl rfl
theorem cbw : ∀ p, Statement (.cbw p) := fun _ => of_bounds rfl rfl
theorem cbwh : ∀ p, Statement (.cbwh p) := fun _ => of_bounds rfl rfl
theorem cbins : ∀ p, Statement (.cbins p) := fun _ => of_bounds rfl rfl
theorem qsend : ∀ p, Statement (.qsend p) := fun _ => of_bounds rfl rfl
theorem qsendm : ∀ p, Statement (.qsendm p) := fun _ => of_bounds rfl rfl
theorem qfree : ∀ p, Statement (.qfree p) := fun _ => of_bounds rfl rfl
theorem mload : ∀ p, Statement (.mload p) := fun _ => of_bounds rfl rfl
theorem mloadStart : ∀ p, Statement (.mloadStart p) := fun _ => of_bounds rfl rfl
theorem mpass : ∀ p, Statement (.mpass p) := fun _ => of_bounds rfl rfl
theorem mpassStart : ∀ p, Statement (.mpassStart p) := fun _ => of_bounds rfl rfl
theorem mdrain : ∀ p, Statement (.mdrain p) := fun _ => of_bounds rfl rfl
theorem mdrainStart : ∀ p, Statement (.mdrainStart p) := fun _ => of_bounds rfl rfl
theorem rampStep : ∀ p, Statement (.rampStep p) := fun _ => of_bounds rfl rfl
theorem holdExpiry : ∀ p, Statement (.holdExpiry p) := fun _ => of_bounds rfl rfl
theorem gateBoundary : ∀ d, Statement (.gateBoundary d) := fun _ => of_bounds rfl rfl
theorem vlaunch : ∀ p, Statement (.vlaunch p) := fun _ => of_bounds rfl rfl
theorem dcopy : ∀ p, Statement (.dcopy p) := fun _ => of_bounds rfl rfl
theorem dgather : ∀ p, Statement (.dgather p) := fun _ => of_bounds rfl rfl
theorem fsend : ∀ p, Statement (.fsend p) := fun _ => of_bounds rfl rfl
theorem xdispatch : ∀ p, Statement (.xdispatch p) := fun _ => of_bounds rfl rfl
theorem countTable : ∀ d k, Statement (.countTable d k) := fun _ _ => of_bounds rfl rfl
theorem placement : ∀ d k, Statement (.placement d k) := fun _ _ => of_bounds rfl rfl
theorem xcombine : ∀ p, Statement (.xcombine p) := fun _ => of_bounds rfl rfl
theorem sfence : ∀ p, Statement (.sfence p) := fun _ => of_bounds rfl rfl
theorem barrier : ∀ p, Statement (.barrier p) := fun _ => of_bounds rfl rfl
theorem barrierRelease : ∀ chip d, Statement (.barrierRelease chip d) := fun _ _ => of_bounds rfl rfl
theorem frameEnd : ∀ p, Statement (.frameEnd p) := fun _ => of_bounds rfl rfl
theorem commandComplete : ∀ p k, Statement (.commandComplete p k) := fun _ _ => of_bounds rfl rfl
theorem iadd : ∀ p g, Statement (.iadd p g) := fun _ _ => of_bounds rfl rfl
theorem isub : ∀ p g, Statement (.isub p g) := fun _ _ => of_bounds rfl rfl
theorem imul : ∀ p g, Statement (.imul p g) := fun _ _ => of_bounds rfl rfl
theorem imad : ∀ p g, Statement (.imad p g) := fun _ _ => of_bounds rfl rfl
theorem vxAnd : ∀ p g, Statement (.vxAnd p g) := fun _ _ => of_bounds rfl rfl
theorem vxOr : ∀ p g, Statement (.vxOr p g) := fun _ _ => of_bounds rfl rfl
theorem vxXor : ∀ p g, Statement (.vxXor p g) := fun _ _ => of_bounds rfl rfl
theorem shl : ∀ p g, Statement (.shl p g) := fun _ _ => of_bounds rfl rfl
theorem shr : ∀ p g, Statement (.shr p g) := fun _ _ => of_bounds rfl rfl
theorem vxMin : ∀ p g, Statement (.vxMin p g) := fun _ _ => of_bounds rfl rfl
theorem vxMax : ∀ p g, Statement (.vxMax p g) := fun _ _ => of_bounds rfl rfl
theorem sel : ∀ p g, Statement (.sel p g) := fun _ _ => of_bounds rfl rfl
theorem vxMovi : ∀ p g, Statement (.vxMovi p g) := fun _ _ => of_bounds rfl rfl
theorem iaddi : ∀ p g, Statement (.iaddi p g) := fun _ _ => of_bounds rfl rfl
theorem fadd : ∀ p g, Statement (.fadd p g) := fun _ _ => of_bounds rfl rfl
theorem fmul : ∀ p g, Statement (.fmul p g) := fun _ _ => of_bounds rfl rfl
theorem ffma : ∀ p g, Statement (.ffma p g) := fun _ _ => of_bounds rfl rfl
theorem fmin : ∀ p g, Statement (.fmin p g) := fun _ _ => of_bounds rfl rfl
theorem fmax : ∀ p g, Statement (.fmax p g) := fun _ _ => of_bounds rfl rfl
theorem frcp : ∀ p g, Statement (.frcp p g) := fun _ _ => of_bounds rfl rfl
theorem frsq : ∀ p g, Statement (.frsq p g) := fun _ _ => of_bounds rfl rfl
theorem fexp2 : ∀ p g, Statement (.fexp2 p g) := fun _ _ => of_bounds rfl rfl
theorem flog2 : ∀ p g, Statement (.flog2 p g) := fun _ _ => of_bounds rfl rfl
theorem cvt : ∀ p g, Statement (.cvt p g) := fun _ _ => of_bounds rfl rfl
theorem setp : ∀ p g, Statement (.setp p g) := fun _ _ => of_bounds rfl rfl
theorem plop : ∀ p g, Statement (.plop p g) := fun _ _ => of_bounds rfl rfl
theorem vote : ∀ p g, Statement (.vote p g) := fun _ _ => of_bounds rfl rfl
theorem shfl : ∀ p g, Statement (.shfl p g) := fun _ _ => of_bounds rfl rfl
theorem vxLd : ∀ p g, Statement (.vxLd p g) := fun _ _ => of_bounds rfl rfl
theorem vxSt : ∀ p g, Statement (.vxSt p g) := fun _ _ => of_bounds rfl rfl
theorem red : ∀ p g, Statement (.red p g) := fun _ _ => of_bounds rfl rfl
theorem bra : ∀ p g, Statement (.bra p g) := fun _ _ => of_bounds rfl rfl
theorem join : ∀ p g, Statement (.join p g) := fun _ _ => of_bounds rfl rfl
theorem barG : ∀ p g, Statement (.barG p g) := fun _ _ => of_bounds rfl rfl
theorem barB : ∀ p g, Statement (.barB p g) := fun _ _ => of_bounds rfl rfl
theorem exit : ∀ p g, Statement (.exit p g) := fun _ _ => of_bounds rfl rfl
theorem rdsr : ∀ p g, Statement (.rdsr p g) := fun _ _ => of_bounds rfl rfl
theorem gmma : ∀ p g, Statement (.gmma p g) := fun _ _ => of_bounds rfl rfl
theorem vxLoadReturn : ∀ p g k, Statement (.vxLoadReturn p g k) := fun _ _ _ => of_bounds rfl rfl
theorem groupRetire : ∀ p g, Statement (.groupRetire p g) := fun _ _ => of_bounds rfl rfl
theorem bankWake : ∀ p b, Statement (.bankWake p b) := fun _ _ => of_bounds rfl rfl
theorem spOwnWrite : ∀ src p b v, Statement (.spOwnWrite src p b v) := fun _ _ _ _ => of_bounds rfl rfl
theorem cloveStart : ∀ src p v, Statement (.cloveStart src p v) := fun _ _ _ => of_bounds rfl rfl
theorem cloveDone : ∀ slice n fail row, Statement (.cloveDone slice n fail row) := fun slice _ _ _ => by cases slice <;> exact of_bounds rfl rfl
theorem sliceRequest : ∀ n wires, Statement (.sliceRequest n wires) := fun _ _ => of_bounds rfl rfl
theorem lineFill : ∀ n k, Statement (.lineFill n k) := fun _ _ => of_bounds rfl rfl
theorem resolve : ∀ n k, Statement (.resolve n k) := fun _ _ => of_bounds rfl rfl
theorem inv : ∀ p, Statement (.inv p) := fun _ => of_bounds rfl rfl
theorem invAck : ∀ n, Statement (.invAck n) := fun _ => of_bounds rfl rfl
theorem prefetch : ∀ n, Statement (.prefetch n) := fun _ => of_bounds rfl rfl
theorem requestRetry : ∀ n, Statement (.requestRetry n) := fun _ => of_bounds rfl rfl
theorem heldAdmit : ∀ d bank, Statement (.heldAdmit d bank) := fun _ _ => of_bounds rfl rfl
theorem pin : ∀ src d v, Statement (.pin src d v) := fun _ _ _ => of_bounds rfl rfl
theorem unpin : ∀ src d v, Statement (.unpin src d v) := fun _ _ _ => of_bounds rfl rfl
theorem pinDone : ∀ d e, Statement (.pinDone d e) := fun _ _ => of_bounds rfl rfl
theorem sweepEnd : ∀ n, Statement (.sweepEnd n) := fun _ => of_bounds rfl rfl
theorem retired : ∀ n unreadable, Statement (.retired n unreadable) := fun _ _ => of_bounds rfl rfl
theorem scrubVisit : ∀ memc n, Statement (.scrubVisit memc n) := fun memc _ => by cases memc <;> exact of_bounds rfl rfl
theorem lineRequest : ∀ d, Statement (.lineRequest d) := fun _ => of_bounds rfl rfl
theorem keyFetch : ∀ d h, Statement (.keyFetch d h) := fun _ _ => of_bounds rfl rfl
theorem checkMiss : ∀ d, Statement (.checkMiss d) := fun _ => of_bounds rfl rfl
theorem refresh : ∀ d c, Statement (.refresh d c) := fun _ _ => of_bounds rfl rfl
theorem mr4Read : ∀ d mults hot, Statement (.mr4Read d mults hot) := fun _ _ _ => of_bounds rfl rfl
theorem driftTrack : ∀ d c exceeds, Statement (.driftTrack d c exceeds) := fun _ _ _ => of_bounds rfl rfl
theorem channelTraining : ∀ d pass, Statement (.channelTraining d pass) := fun _ _ => of_bounds rfl rfl
theorem lock : ∀ src, Statement (.lock src) := fun _ => of_bounds rfl rfl
theorem hostWindowAccess : ∀ port w data len, Statement (.hostWindowAccess port w data len) := fun _ _ _ _ => of_bounds rfl rfl
theorem errorReport : ∀ r, Statement (.errorReport r) := fun _ => of_bounds rfl rfl
theorem ceTableUpdate : ∀ c unit addr syndrome, Statement (.ceTableUpdate c unit addr syndrome) := fun _ _ _ _ => of_bounds rfl rfl
theorem pop : ∀ src, Statement (.pop src) := fun _ => of_bounds rfl rfl
theorem fatalSet : ∀ src, Statement (.fatalSet src) := fun _ => of_bounds rfl rfl
theorem errorInject : ∀ src v, Statement (.errorInject src v) := fun _ _ => of_bounds rfl rfl
theorem bondWindow : ∀ n wires, Statement (.bondWindow n wires) := fun _ _ => of_bounds rfl rfl
theorem provOpen : ∀ m, Statement (.provOpen m) := fun _ => of_bounds rfl rfl
theorem provImport : ∀ m, Statement (.provImport m) := fun _ => of_bounds rfl rfl
theorem sessionTimeout : ∀ k, Statement (.sessionTimeout k) := fun _ => of_bounds rfl rfl
theorem revoke : ∀ m, Statement (.revoke m) := fun _ => of_bounds rfl rfl
theorem bindReq : ∀ src v, Statement (.bindReq src v) := fun _ _ => of_bounds rfl rfl
theorem entropyFail : ∀ ok, Statement (.entropyFail ok) := fun _ => of_bounds rfl rfl
theorem attest : ∀ m, Statement (.attest m) := fun _ => of_bounds rfl rfl
theorem getCerts : ∀ m, Statement (.getCerts m) := fun _ => of_bounds rfl rfl
theorem getInfo : ∀ m, Statement (.getInfo m) := fun _ => of_bounds rfl rfl
theorem respRead : ∀ m, Statement (.respRead m) := fun _ => of_bounds rfl rfl
theorem fwLoadBegin : ∀ m, Statement (.fwLoadBegin m) := fun _ => of_bounds rfl rfl
theorem fwLoadData : ∀ m, Statement (.fwLoadData m) := fun _ => of_bounds rfl rfl
theorem fwLoadDma : ∀ m data, Statement (.fwLoadDma m data) := fun _ _ => of_bounds rfl rfl
theorem fwLoadEnd : ∀ m, Statement (.fwLoadEnd m) := fun _ => of_bounds rfl rfl
theorem fwFlashWrite : ∀ m, Statement (.fwFlashWrite m) := fun _ => of_bounds rfl rfl
theorem svnCommit : ∀ m, Statement (.svnCommit m) := fun _ => of_bounds rfl rfl
theorem authHandover : ∀ m, Statement (.authHandover m) := fun _ => of_bounds rfl rfl
theorem authClaim : ∀ m, Statement (.authClaim m) := fun _ => of_bounds rfl rfl
theorem telemetryRead : ∀ m, Statement (.telemetryRead m) := fun _ => of_bounds rfl rfl
theorem logRead : ∀ m, Statement (.logRead m) := fun _ => of_bounds rfl rfl
theorem deviceReset : ∀ m, Statement (.deviceReset m) := fun _ => of_bounds rfl rfl
theorem sidebandRead : ∀ a n, Statement (.sidebandRead a n) := fun _ _ => of_bounds rfl rfl
theorem channelEnable : ∀ src h v, Statement (.channelEnable src h v) := fun _ _ _ => of_bounds rfl rfl
theorem channelReset : ∀ src h, Statement (.channelReset src h) := fun _ _ => of_bounds rfl rfl
theorem chanOwner : ∀ src port j v, Statement (.chanOwner src port j v) := fun _ _ _ _ => of_bounds rfl rfl
theorem linkDown : ∀ port, Statement (.linkDown port) := fun _ => of_bounds rfl rfl
theorem hotReset : ∀ port, Statement (.hotReset port) := fun _ => of_bounds rfl rfl
theorem perst : ∀ port, Statement (.perst port) := fun _ => of_bounds rfl rfl
theorem pfFlr : ∀ port, Statement (.pfFlr port) := fun _ => of_bounds rfl rfl
theorem vfFlr : ∀ port vf, Statement (.vfFlr port vf) := fun _ _ => of_bounds rfl rfl
theorem l1Entry : ∀ port, Statement (.l1Entry port) := fun _ => of_bounds rfl rfl
theorem data : ∀ p k, Statement (.data p k) := fun _ _ => of_bounds rfl rfl
theorem landingComplete : ∀ k, Statement (.landingComplete k) := fun _ => of_bounds rfl rfl
theorem landed : ∀ p k, Statement (.landed p k) := fun _ _ => of_bounds rfl rfl
theorem commitToken : ∀ p k, Statement (.commitToken p k) := fun _ _ => of_bounds rfl rfl
theorem abortMarker : ∀ p k, Statement (.abortMarker p k) := fun _ _ => of_bounds rfl rfl
theorem slotFree : ∀ p k, Statement (.slotFree p k) := fun _ _ => of_bounds rfl rfl
theorem ctrl : ∀ p k, Statement (.ctrl p k) := fun _ _ => of_bounds rfl rfl
theorem hello : ∀ p k ok, Statement (.hello p k ok) := fun _ _ _ => of_bounds rfl rfl
theorem rekey : ∀ p k ok, Statement (.rekey p k ok) := fun _ _ _ => of_bounds rfl rfl
theorem rekeyTrigger : ∀ p, Statement (.rekeyTrigger p) := fun _ => of_bounds rfl rfl
theorem lane : ∀ p k, Statement (.lane p k) := fun _ _ => of_bounds rfl rfl
theorem retryTimeout : ∀ p, Statement (.retryTimeout p) := fun _ => of_bounds rfl rfl
theorem busyResend : ∀ p t, Statement (.busyResend p t) := fun _ _ => of_bounds rfl rfl
theorem landedTimeout : ∀ p t, Statement (.landedTimeout p t) := fun _ _ => of_bounds rfl rfl
theorem slotZeroed : ∀ i j, Statement (.slotZeroed i j) := fun _ _ => of_bounds rfl rfl
theorem laneCheck : ∀ p counts lost, Statement (.laneCheck p counts lost) := fun _ _ _ => of_bounds rfl rfl
theorem portTraining : ∀ p good session credits, Statement (.portTraining p good session credits) := fun _ _ _ _ => of_bounds rfl rfl
theorem fabEnable : ∀ src p, Statement (.fabEnable src p) := fun _ _ => of_bounds rfl rfl
theorem retrainAll : ∀ src, Statement (.retrainAll src) := fun _ => of_bounds rfl rfl
theorem minsenseFrame : ∀ readings fall rise, Statement (.minsenseFrame readings fall rise) := fun _ _ _ => of_bounds rfl rfl
theorem fastGuard : ∀ ma dist uj, Statement (.fastGuard ma dist uj) := fun _ _ _ => of_bounds rfl rfl
theorem limiterWindow : ∀ rails doms mw, Statement (.limiterWindow rails doms mw) := fun _ _ _ => of_bounds rfl rfl
theorem cellFail : ∀ d c, Statement (.cellFail d c) := fun _ _ => of_bounds rfl rfl
theorem domainRequest : ∀ src n v, Statement (.domainRequest src n v) := fun _ _ _ => of_bounds rfl rfl
theorem switchStep : ∀ n, Statement (.switchStep n) := fun _ => of_bounds rfl rfl
theorem switchDone : ∀ n fails, Statement (.switchDone n fails) := fun _ _ => of_bounds rfl rfl
theorem voltageRaised : Statement .voltageRaised := of_bounds rfl rfl
theorem hkChannel : ∀ v, Statement (.hkChannel v) := fun _ => of_bounds rfl rfl
theorem roundEnd : Statement .roundEnd := of_bounds rfl rfl
theorem logAppend : Statement .logAppend := of_bounds rfl rfl
theorem powerOn : Statement .powerOn := of_bounds rfl rfl
theorem powerDown : Statement .powerDown := of_bounds rfl rfl
theorem sysReset : Statement .sysReset := of_bounds rfl rfl
theorem resetKey : ∀ src v, Statement (.resetKey src v) := fun _ _ => of_bounds rfl rfl
theorem refclkLost : ∀ k, Statement (.refclkLost k) := fun _ => of_bounds rfl rfl
theorem bootRom : ∀ fails flash, Statement (.bootRom fails flash) := fun _ _ => of_bounds rfl rfl
theorem bringUp : Statement .bringUp := of_bounds rfl rfl
theorem bondFieldTraining : ∀ bad, Statement (.bondFieldTraining bad) := fun _ => of_bounds rfl rfl
theorem externalMemoryTest : ∀ single multi, Statement (.externalMemoryTest single multi) := fun _ _ => of_bounds rfl rfl
theorem cardamom : ∀ sites slices cause, Statement (.cardamom sites slices cause) := fun _ _ _ => of_bounds rfl rfl
theorem interruptDelivery : Statement .interruptDelivery := of_bounds rfl rfl
theorem ack : ∀ src c v, Statement (.ack src c v) := fun _ _ _ => of_bounds rfl rfl
theorem stopReq : ∀ src page, Statement (.stopReq src page) := fun _ _ => of_bounds rfl rfl
theorem softReset : ∀ src page, Statement (.softReset src page) := fun _ _ => of_bounds rfl rfl
theorem tickCtrlEnable : ∀ src v, Statement (.tickCtrlEnable src v) := fun _ _ => of_bounds rfl rfl
theorem evtClear : ∀ src page v, Statement (.evtClear src page v) := fun _ _ _ => of_bounds rfl rfl
theorem retire : ∀ src d v, Statement (.retire src d v) := fun _ _ _ => of_bounds rfl rfl
theorem imemData : ∀ src p v, Statement (.imemData src p v) := fun _ _ _ => of_bounds rfl rfl
theorem rcRead : ∀ src off, Statement (.rcRead src off) := fun _ _ => of_bounds rfl rfl
theorem registerWrite : ∀ src off size v, Statement (.registerWrite src off size v) := fun _ _ _ _ => of_bounds rfl rfl
theorem illegalInstruction : ∀ p, Statement (.illegalInstruction p) := fun _ => of_bounds rfl rfl
theorem illegalVectorEncoding : ∀ p g, Statement (.illegalVectorEncoding p g) := fun _ _ => of_bounds rfl rfl
theorem linkUp : ∀ port rate width, Statement (.linkUp port rate width) := fun _ _ _ => of_bounds rfl rfl
theorem refclkReturn : ∀ k, Statement (.refclkReturn k) := fun _ => of_bounds rfl rfl
theorem channelRetrain : ∀ d c ok, Statement (.channelRetrain d c ok) := fun _ _ _ => of_bounds rfl rfl
theorem backgroundLaneRetrain : ∀ p ok, Statement (.backgroundLaneRetrain p ok) := fun _ _ => of_bounds rfl rfl
theorem badPacket : ∀ p why k, Statement (.badPacket p why k) := fun _ _ _ => of_bounds rfl rfl
theorem rowIdleClose : ∀ d bank, Statement (.rowIdleClose d bank) := fun _ _ => of_bounds rfl rfl
theorem sidebandWrite : ∀ a bytes, Statement (.sidebandWrite a bytes) := fun _ _ => of_bounds rfl rfl
theorem configurationRequest : ∀ port fn what v, Statement (.configurationRequest port fn what v) := fun _ _ _ _ => of_bounds rfl rfl
theorem registerRead : ∀ src off size, Statement (.registerRead src off size) := fun _ _ _ => of_bounds rfl rfl

end Sys2Proof.Laws.WellFormed
end

