-- ==== Sys2Proof/Laws/State.lean ====
section
/-! SUPPORT. What each update of the state leaves alone: one lemma per field, and per reader, of every update; and what each
update makes of its own field. -/

namespace Sys2Proof.Machine
open Sys2Proof

@[simp] theorem State.wrAt_pending (s : State) (pg : Page) (u : Nat) (f : Fld) (i v : Nat) : (s.wrAt pg u f i v).pending = s.pending := rfl
@[simp] theorem State.wrAt_time (s : State) (pg : Page) (u : Nat) (f : Fld) (i v : Nat) : (s.wrAt pg u f i v).time = s.time := rfl
@[simp] theorem State.wrAt_free (s : State) (pg : Page) (u : Nat) (f : Fld) (i v : Nat) : (s.wrAt pg u f i v).free = s.free := rfl
@[simp] theorem State.wrAt_nextReq (s : State) (pg : Page) (u : Nat) (f : Fld) (i v : Nat) : (s.wrAt pg u f i v).nextReq = s.nextReq := rfl
@[simp] theorem State.wrAt_out (s : State) (pg : Page) (u : Nat) (f : Fld) (i v : Nat) : (s.wrAt pg u f i v).out = s.out := rfl
@[simp] theorem State.wrAt_told (s : State) (pg : Page) (u : Nat) (f : Fld) (i v : Nat) : (s.wrAt pg u f i v).told = s.told := rfl
@[simp] theorem State.wrAt_blks (s : State) (pg : Page) (u : Nat) (f : Fld) (i v : Nat) : (s.wrAt pg u f i v).blks = s.blks := rfl
@[simp] theorem State.wrAt_slices (s : State) (pg : Page) (u : Nat) (f : Fld) (i v : Nat) : (s.wrAt pg u f i v).slices = s.slices := rfl
@[simp] theorem State.wrAt_pins (s : State) (pg : Page) (u : Nat) (f : Fld) (i v : Nat) : (s.wrAt pg u f i v).pins = s.pins := rfl
@[simp] theorem State.wrAt_memcs (s : State) (pg : Page) (u : Nat) (f : Fld) (i v : Nat) : (s.wrAt pg u f i v).memcs = s.memcs := rfl
@[simp] theorem State.wrAt_dram (s : State) (pg : Page) (u : Nat) (f : Fld) (i v : Nat) : (s.wrAt pg u f i v).dram = s.dram := rfl
@[simp] theorem State.wrAt_sectors (s : State) (pg : Page) (u : Nat) (f : Fld) (i v : Nat) : (s.wrAt pg u f i v).sectors = s.sectors := rfl
@[simp] theorem State.wrAt_reqs (s : State) (pg : Page) (u : Nat) (f : Fld) (i v : Nat) : (s.wrAt pg u f i v).reqs = s.reqs := rfl
@[simp] theorem State.wrAt_resps (s : State) (pg : Page) (u : Nat) (f : Fld) (i v : Nat) : (s.wrAt pg u f i v).resps = s.resps := rfl
@[simp] theorem State.wrAt_invs (s : State) (pg : Page) (u : Nat) (f : Fld) (i v : Nat) : (s.wrAt pg u f i v).invs = s.invs := rfl
@[simp] theorem State.wrAt_gaths (s : State) (pg : Page) (u : Nat) (f : Fld) (i v : Nat) : (s.wrAt pg u f i v).gaths = s.gaths := rfl
@[simp] theorem State.wrAt_ctxs (s : State) (pg : Page) (u : Nat) (f : Fld) (i v : Nat) : (s.wrAt pg u f i v).ctxs = s.ctxs := rfl
@[simp] theorem State.wrAt_plaza (s : State) (pg : Page) (u : Nat) (f : Fld) (i v : Nat) : (s.wrAt pg u f i v).plaza = s.plaza := rfl
@[simp] theorem State.wrAt_errq (s : State) (pg : Page) (u : Nat) (f : Fld) (i v : Nat) : (s.wrAt pg u f i v).errq = s.errq := rfl
@[simp] theorem State.wrAt_keys (s : State) (pg : Page) (u : Nat) (f : Fld) (i v : Nat) : (s.wrAt pg u f i v).keys = s.keys := rfl
@[simp] theorem State.wrAt_ports (s : State) (pg : Page) (u : Nat) (f : Fld) (i v : Nat) : (s.wrAt pg u f i v).ports = s.ports := rfl
@[simp] theorem State.wrAt_chans (s : State) (pg : Page) (u : Nat) (f : Fld) (i v : Nat) : (s.wrAt pg u f i v).chans = s.chans := rfl
@[simp] theorem State.wrAt_fab (s : State) (pg : Page) (u : Nat) (f : Fld) (i v : Nat) : (s.wrAt pg u f i v).fab = s.fab := rfl
@[simp] theorem State.wrAt_pwr (s : State) (pg : Page) (u : Nat) (f : Fld) (i v : Nat) : (s.wrAt pg u f i v).pwr = s.pwr := rfl
@[simp] theorem State.wrAt_thm (s : State) (pg : Page) (u : Nat) (f : Fld) (i v : Nat) : (s.wrAt pg u f i v).thm = s.thm := rfl
@[simp] theorem State.wrAt_nvm (s : State) (pg : Page) (u : Nat) (f : Fld) (i v : Nat) : (s.wrAt pg u f i v).nvm = s.nvm := rfl
@[simp] theorem State.wrAt_later (s : State) (pg : Page) (u : Nat) (f : Fld) (i v : Nat) : (s.wrAt pg u f i v).later = s.later := rfl
@[simp] theorem State.wrAt_mbs (s : State) (pg : Page) (u : Nat) (f : Fld) (i v : Nat) : (s.wrAt pg u f i v).mbs = s.mbs := rfl
@[simp] theorem State.wrAt_sec (s : State) (pg : Page) (u : Nat) (f : Fld) (i v : Nat) : (s.wrAt pg u f i v).sec = s.sec := rfl
@[simp] theorem State.wrAt_mgmt (s : State) (pg : Page) (u : Nat) (f : Fld) (i v : Nat) : (s.wrAt pg u f i v).mgmt = s.mgmt := rfl
@[simp] theorem State.wrAt_parity (s : State) (pg : Page) (u : Nat) (f : Fld) (i v : Nat) : (s.wrAt pg u f i v).parity = s.parity := rfl
@[simp] theorem State.wrAt_windows (s : State) (pg : Page) (u : Nat) (f : Fld) (i v : Nat) : (s.wrAt pg u f i v).windows = s.windows := rfl
@[simp] theorem State.wrAt_winWait (s : State) (pg : Page) (u : Nat) (f : Fld) (i v : Nat) : (s.wrAt pg u f i v).winWait = s.winWait := rfl
@[simp] theorem State.wrAt_latched (s : State) (pg : Page) (u : Nat) (f : Fld) (i v : Nat) : (s.wrAt pg u f i v).latched = s.latched := rfl
@[simp] theorem State.wrAt_powered (s : State) (pg : Page) (u : Nat) (f : Fld) (i v : Nat) : (s.wrAt pg u f i v).powered = s.powered := rfl
@[simp] theorem State.wrAt_clkLost (s : State) (pg : Page) (u : Nat) (f : Fld) (i v : Nat) : (s.wrAt pg u f i v).clkLost = s.clkLost := rfl
@[simp] theorem State.wrAt_blk (s : State) (pg : Page) (u : Nat) (f : Fld) (i v : Nat) (q : Nat) : (s.wrAt pg u f i v).blk q = s.blk q := rfl
@[simp] theorem State.wrAt_slc (s : State) (pg : Page) (u : Nat) (f : Fld) (i v : Nat) (q : Nat) : (s.wrAt pg u f i v).slc q = s.slc q := rfl
@[simp] theorem State.wrAt_mem (s : State) (pg : Page) (u : Nat) (f : Fld) (i v : Nat) (q : Nat) : (s.wrAt pg u f i v).mem q = s.mem q := rfl
@[simp] theorem State.wrAt_gath (s : State) (pg : Page) (u : Nat) (f : Fld) (i v : Nat) (q : Nat) : (s.wrAt pg u f i v).gath q = s.gath q := rfl
@[simp] theorem State.wrAt_ctx (s : State) (pg : Page) (u : Nat) (f : Fld) (i v : Nat) (q : Nat) : (s.wrAt pg u f i v).ctx q = s.ctx q := rfl
@[simp] theorem State.wrAt_port (s : State) (pg : Page) (u : Nat) (f : Fld) (i v : Nat) (q : Nat) : (s.wrAt pg u f i v).port q = s.port q := rfl
@[simp] theorem State.wrAt_chan (s : State) (pg : Page) (u : Nat) (f : Fld) (i v : Nat) (q : Nat) : (s.wrAt pg u f i v).chan q = s.chan q := rfl
@[simp] theorem State.wrAt_mb (s : State) (pg : Page) (u : Nat) (f : Fld) (i v : Nat) (q : Nat) : (s.wrAt pg u f i v).mb q = s.mb q := rfl
@[simp] theorem State.wrAt_tenant (s : State) (pg : Page) (u : Nat) (f : Fld) (i v : Nat) (q : Nat) : (s.wrAt pg u f i v).tenant q = s.tenant q := rfl
@[simp] theorem State.wrAt_fport (s : State) (pg : Page) (u : Nat) (f : Fld) (i v : Nat) (q : Nat) : (s.wrAt pg u f i v).fport q = s.fport q := rfl
@[simp] theorem State.wrAt_dom (s : State) (pg : Page) (u : Nat) (f : Fld) (i v : Nat) (q : Nat) : (s.wrAt pg u f i v).dom q = s.dom q := rfl

@[simp] theorem State.wr_pending (s : State) (f : Fld) (u i v : Nat) : (s.wr f u i v).pending = s.pending := rfl
@[simp] theorem State.wr_time (s : State) (f : Fld) (u i v : Nat) : (s.wr f u i v).time = s.time := rfl
@[simp] theorem State.wr_free (s : State) (f : Fld) (u i v : Nat) : (s.wr f u i v).free = s.free := rfl
@[simp] theorem State.wr_nextReq (s : State) (f : Fld) (u i v : Nat) : (s.wr f u i v).nextReq = s.nextReq := rfl
@[simp] theorem State.wr_out (s : State) (f : Fld) (u i v : Nat) : (s.wr f u i v).out = s.out := rfl
@[simp] theorem State.wr_told (s : State) (f : Fld) (u i v : Nat) : (s.wr f u i v).told = s.told := rfl
@[simp] theorem State.wr_blks (s : State) (f : Fld) (u i v : Nat) : (s.wr f u i v).blks = s.blks := rfl
@[simp] theorem State.wr_slices (s : State) (f : Fld) (u i v : Nat) : (s.wr f u i v).slices = s.slices := rfl
@[simp] theorem State.wr_pins (s : State) (f : Fld) (u i v : Nat) : (s.wr f u i v).pins = s.pins := rfl
@[simp] theorem State.wr_memcs (s : State) (f : Fld) (u i v : Nat) : (s.wr f u i v).memcs = s.memcs := rfl
@[simp] theorem State.wr_dram (s : State) (f : Fld) (u i v : Nat) : (s.wr f u i v).dram = s.dram := rfl
@[simp] theorem State.wr_sectors (s : State) (f : Fld) (u i v : Nat) : (s.wr f u i v).sectors = s.sectors := rfl
@[simp] theorem State.wr_reqs (s : State) (f : Fld) (u i v : Nat) : (s.wr f u i v).reqs = s.reqs := rfl
@[simp] theorem State.wr_resps (s : State) (f : Fld) (u i v : Nat) : (s.wr f u i v).resps = s.resps := rfl
@[simp] theorem State.wr_invs (s : State) (f : Fld) (u i v : Nat) : (s.wr f u i v).invs = s.invs := rfl
@[simp] theorem State.wr_gaths (s : State) (f : Fld) (u i v : Nat) : (s.wr f u i v).gaths = s.gaths := rfl
@[simp] theorem State.wr_ctxs (s : State) (f : Fld) (u i v : Nat) : (s.wr f u i v).ctxs = s.ctxs := rfl
@[simp] theorem State.wr_plaza (s : State) (f : Fld) (u i v : Nat) : (s.wr f u i v).plaza = s.plaza := rfl
@[simp] theorem State.wr_errq (s : State) (f : Fld) (u i v : Nat) : (s.wr f u i v).errq = s.errq := rfl
@[simp] theorem State.wr_keys (s : State) (f : Fld) (u i v : Nat) : (s.wr f u i v).keys = s.keys := rfl
@[simp] theorem State.wr_ports (s : State) (f : Fld) (u i v : Nat) : (s.wr f u i v).ports = s.ports := rfl
@[simp] theorem State.wr_chans (s : State) (f : Fld) (u i v : Nat) : (s.wr f u i v).chans = s.chans := rfl
@[simp] theorem State.wr_fab (s : State) (f : Fld) (u i v : Nat) : (s.wr f u i v).fab = s.fab := rfl
@[simp] theorem State.wr_pwr (s : State) (f : Fld) (u i v : Nat) : (s.wr f u i v).pwr = s.pwr := rfl
@[simp] theorem State.wr_thm (s : State) (f : Fld) (u i v : Nat) : (s.wr f u i v).thm = s.thm := rfl
@[simp] theorem State.wr_nvm (s : State) (f : Fld) (u i v : Nat) : (s.wr f u i v).nvm = s.nvm := rfl
@[simp] theorem State.wr_later (s : State) (f : Fld) (u i v : Nat) : (s.wr f u i v).later = s.later := rfl
@[simp] theorem State.wr_mbs (s : State) (f : Fld) (u i v : Nat) : (s.wr f u i v).mbs = s.mbs := rfl
@[simp] theorem State.wr_sec (s : State) (f : Fld) (u i v : Nat) : (s.wr f u i v).sec = s.sec := rfl
@[simp] theorem State.wr_mgmt (s : State) (f : Fld) (u i v : Nat) : (s.wr f u i v).mgmt = s.mgmt := rfl
@[simp] theorem State.wr_parity (s : State) (f : Fld) (u i v : Nat) : (s.wr f u i v).parity = s.parity := rfl
@[simp] theorem State.wr_windows (s : State) (f : Fld) (u i v : Nat) : (s.wr f u i v).windows = s.windows := rfl
@[simp] theorem State.wr_winWait (s : State) (f : Fld) (u i v : Nat) : (s.wr f u i v).winWait = s.winWait := rfl
@[simp] theorem State.wr_latched (s : State) (f : Fld) (u i v : Nat) : (s.wr f u i v).latched = s.latched := rfl
@[simp] theorem State.wr_powered (s : State) (f : Fld) (u i v : Nat) : (s.wr f u i v).powered = s.powered := rfl
@[simp] theorem State.wr_clkLost (s : State) (f : Fld) (u i v : Nat) : (s.wr f u i v).clkLost = s.clkLost := rfl
@[simp] theorem State.wr_blk (s : State) (f : Fld) (u i v : Nat) (q : Nat) : (s.wr f u i v).blk q = s.blk q := rfl
@[simp] theorem State.wr_slc (s : State) (f : Fld) (u i v : Nat) (q : Nat) : (s.wr f u i v).slc q = s.slc q := rfl
@[simp] theorem State.wr_mem (s : State) (f : Fld) (u i v : Nat) (q : Nat) : (s.wr f u i v).mem q = s.mem q := rfl
@[simp] theorem State.wr_gath (s : State) (f : Fld) (u i v : Nat) (q : Nat) : (s.wr f u i v).gath q = s.gath q := rfl
@[simp] theorem State.wr_ctx (s : State) (f : Fld) (u i v : Nat) (q : Nat) : (s.wr f u i v).ctx q = s.ctx q := rfl
@[simp] theorem State.wr_port (s : State) (f : Fld) (u i v : Nat) (q : Nat) : (s.wr f u i v).port q = s.port q := rfl
@[simp] theorem State.wr_chan (s : State) (f : Fld) (u i v : Nat) (q : Nat) : (s.wr f u i v).chan q = s.chan q := rfl
@[simp] theorem State.wr_mb (s : State) (f : Fld) (u i v : Nat) (q : Nat) : (s.wr f u i v).mb q = s.mb q := rfl
@[simp] theorem State.wr_tenant (s : State) (f : Fld) (u i v : Nat) (q : Nat) : (s.wr f u i v).tenant q = s.tenant q := rfl
@[simp] theorem State.wr_fport (s : State) (f : Fld) (u i v : Nat) (q : Nat) : (s.wr f u i v).fport q = s.fport q := rfl
@[simp] theorem State.wr_dom (s : State) (f : Fld) (u i v : Nat) (q : Nat) : (s.wr f u i v).dom q = s.dom q := rfl

@[simp] theorem State.inc_pending (s : State) (f : Fld) (u i n : Nat) : (s.inc f u i n).pending = s.pending := rfl
@[simp] theorem State.inc_time (s : State) (f : Fld) (u i n : Nat) : (s.inc f u i n).time = s.time := rfl
@[simp] theorem State.inc_free (s : State) (f : Fld) (u i n : Nat) : (s.inc f u i n).free = s.free := rfl
@[simp] theorem State.inc_nextReq (s : State) (f : Fld) (u i n : Nat) : (s.inc f u i n).nextReq = s.nextReq := rfl
@[simp] theorem State.inc_out (s : State) (f : Fld) (u i n : Nat) : (s.inc f u i n).out = s.out := rfl
@[simp] theorem State.inc_told (s : State) (f : Fld) (u i n : Nat) : (s.inc f u i n).told = s.told := rfl
@[simp] theorem State.inc_blks (s : State) (f : Fld) (u i n : Nat) : (s.inc f u i n).blks = s.blks := rfl
@[simp] theorem State.inc_slices (s : State) (f : Fld) (u i n : Nat) : (s.inc f u i n).slices = s.slices := rfl
@[simp] theorem State.inc_pins (s : State) (f : Fld) (u i n : Nat) : (s.inc f u i n).pins = s.pins := rfl
@[simp] theorem State.inc_memcs (s : State) (f : Fld) (u i n : Nat) : (s.inc f u i n).memcs = s.memcs := rfl
@[simp] theorem State.inc_dram (s : State) (f : Fld) (u i n : Nat) : (s.inc f u i n).dram = s.dram := rfl
@[simp] theorem State.inc_sectors (s : State) (f : Fld) (u i n : Nat) : (s.inc f u i n).sectors = s.sectors := rfl
@[simp] theorem State.inc_reqs (s : State) (f : Fld) (u i n : Nat) : (s.inc f u i n).reqs = s.reqs := rfl
@[simp] theorem State.inc_resps (s : State) (f : Fld) (u i n : Nat) : (s.inc f u i n).resps = s.resps := rfl
@[simp] theorem State.inc_invs (s : State) (f : Fld) (u i n : Nat) : (s.inc f u i n).invs = s.invs := rfl
@[simp] theorem State.inc_gaths (s : State) (f : Fld) (u i n : Nat) : (s.inc f u i n).gaths = s.gaths := rfl
@[simp] theorem State.inc_ctxs (s : State) (f : Fld) (u i n : Nat) : (s.inc f u i n).ctxs = s.ctxs := rfl
@[simp] theorem State.inc_plaza (s : State) (f : Fld) (u i n : Nat) : (s.inc f u i n).plaza = s.plaza := rfl
@[simp] theorem State.inc_errq (s : State) (f : Fld) (u i n : Nat) : (s.inc f u i n).errq = s.errq := rfl
@[simp] theorem State.inc_keys (s : State) (f : Fld) (u i n : Nat) : (s.inc f u i n).keys = s.keys := rfl
@[simp] theorem State.inc_ports (s : State) (f : Fld) (u i n : Nat) : (s.inc f u i n).ports = s.ports := rfl
@[simp] theorem State.inc_chans (s : State) (f : Fld) (u i n : Nat) : (s.inc f u i n).chans = s.chans := rfl
@[simp] theorem State.inc_fab (s : State) (f : Fld) (u i n : Nat) : (s.inc f u i n).fab = s.fab := rfl
@[simp] theorem State.inc_pwr (s : State) (f : Fld) (u i n : Nat) : (s.inc f u i n).pwr = s.pwr := rfl
@[simp] theorem State.inc_thm (s : State) (f : Fld) (u i n : Nat) : (s.inc f u i n).thm = s.thm := rfl
@[simp] theorem State.inc_nvm (s : State) (f : Fld) (u i n : Nat) : (s.inc f u i n).nvm = s.nvm := rfl
@[simp] theorem State.inc_later (s : State) (f : Fld) (u i n : Nat) : (s.inc f u i n).later = s.later := rfl
@[simp] theorem State.inc_mbs (s : State) (f : Fld) (u i n : Nat) : (s.inc f u i n).mbs = s.mbs := rfl
@[simp] theorem State.inc_sec (s : State) (f : Fld) (u i n : Nat) : (s.inc f u i n).sec = s.sec := rfl
@[simp] theorem State.inc_mgmt (s : State) (f : Fld) (u i n : Nat) : (s.inc f u i n).mgmt = s.mgmt := rfl
@[simp] theorem State.inc_parity (s : State) (f : Fld) (u i n : Nat) : (s.inc f u i n).parity = s.parity := rfl
@[simp] theorem State.inc_windows (s : State) (f : Fld) (u i n : Nat) : (s.inc f u i n).windows = s.windows := rfl
@[simp] theorem State.inc_winWait (s : State) (f : Fld) (u i n : Nat) : (s.inc f u i n).winWait = s.winWait := rfl
@[simp] theorem State.inc_latched (s : State) (f : Fld) (u i n : Nat) : (s.inc f u i n).latched = s.latched := rfl
@[simp] theorem State.inc_powered (s : State) (f : Fld) (u i n : Nat) : (s.inc f u i n).powered = s.powered := rfl
@[simp] theorem State.inc_clkLost (s : State) (f : Fld) (u i n : Nat) : (s.inc f u i n).clkLost = s.clkLost := rfl
@[simp] theorem State.inc_blk (s : State) (f : Fld) (u i n : Nat) (q : Nat) : (s.inc f u i n).blk q = s.blk q := rfl
@[simp] theorem State.inc_slc (s : State) (f : Fld) (u i n : Nat) (q : Nat) : (s.inc f u i n).slc q = s.slc q := rfl
@[simp] theorem State.inc_mem (s : State) (f : Fld) (u i n : Nat) (q : Nat) : (s.inc f u i n).mem q = s.mem q := rfl
@[simp] theorem State.inc_gath (s : State) (f : Fld) (u i n : Nat) (q : Nat) : (s.inc f u i n).gath q = s.gath q := rfl
@[simp] theorem State.inc_ctx (s : State) (f : Fld) (u i n : Nat) (q : Nat) : (s.inc f u i n).ctx q = s.ctx q := rfl
@[simp] theorem State.inc_port (s : State) (f : Fld) (u i n : Nat) (q : Nat) : (s.inc f u i n).port q = s.port q := rfl
@[simp] theorem State.inc_chan (s : State) (f : Fld) (u i n : Nat) (q : Nat) : (s.inc f u i n).chan q = s.chan q := rfl
@[simp] theorem State.inc_mb (s : State) (f : Fld) (u i n : Nat) (q : Nat) : (s.inc f u i n).mb q = s.mb q := rfl
@[simp] theorem State.inc_tenant (s : State) (f : Fld) (u i n : Nat) (q : Nat) : (s.inc f u i n).tenant q = s.tenant q := rfl
@[simp] theorem State.inc_fport (s : State) (f : Fld) (u i n : Nat) (q : Nat) : (s.inc f u i n).fport q = s.fport q := rfl
@[simp] theorem State.inc_dom (s : State) (f : Fld) (u i n : Nat) (q : Nat) : (s.inc f u i n).dom q = s.dom q := rfl

@[simp] theorem State.setEvt_pending (s : State) (pg : Page) (u b : Nat) : (s.setEvt pg u b).pending = s.pending := rfl
@[simp] theorem State.setEvt_time (s : State) (pg : Page) (u b : Nat) : (s.setEvt pg u b).time = s.time := rfl
@[simp] theorem State.setEvt_free (s : State) (pg : Page) (u b : Nat) : (s.setEvt pg u b).free = s.free := rfl
@[simp] theorem State.setEvt_nextReq (s : State) (pg : Page) (u b : Nat) : (s.setEvt pg u b).nextReq = s.nextReq := rfl
@[simp] theorem State.setEvt_out (s : State) (pg : Page) (u b : Nat) : (s.setEvt pg u b).out = s.out := rfl
@[simp] theorem State.setEvt_told (s : State) (pg : Page) (u b : Nat) : (s.setEvt pg u b).told = s.told := rfl
@[simp] theorem State.setEvt_blks (s : State) (pg : Page) (u b : Nat) : (s.setEvt pg u b).blks = s.blks := rfl
@[simp] theorem State.setEvt_slices (s : State) (pg : Page) (u b : Nat) : (s.setEvt pg u b).slices = s.slices := rfl
@[simp] theorem State.setEvt_pins (s : State) (pg : Page) (u b : Nat) : (s.setEvt pg u b).pins = s.pins := rfl
@[simp] theorem State.setEvt_memcs (s : State) (pg : Page) (u b : Nat) : (s.setEvt pg u b).memcs = s.memcs := rfl
@[simp] theorem State.setEvt_dram (s : State) (pg : Page) (u b : Nat) : (s.setEvt pg u b).dram = s.dram := rfl
@[simp] theorem State.setEvt_sectors (s : State) (pg : Page) (u b : Nat) : (s.setEvt pg u b).sectors = s.sectors := rfl
@[simp] theorem State.setEvt_reqs (s : State) (pg : Page) (u b : Nat) : (s.setEvt pg u b).reqs = s.reqs := rfl
@[simp] theorem State.setEvt_resps (s : State) (pg : Page) (u b : Nat) : (s.setEvt pg u b).resps = s.resps := rfl
@[simp] theorem State.setEvt_invs (s : State) (pg : Page) (u b : Nat) : (s.setEvt pg u b).invs = s.invs := rfl
@[simp] theorem State.setEvt_gaths (s : State) (pg : Page) (u b : Nat) : (s.setEvt pg u b).gaths = s.gaths := rfl
@[simp] theorem State.setEvt_ctxs (s : State) (pg : Page) (u b : Nat) : (s.setEvt pg u b).ctxs = s.ctxs := rfl
@[simp] theorem State.setEvt_plaza (s : State) (pg : Page) (u b : Nat) : (s.setEvt pg u b).plaza = s.plaza := rfl
@[simp] theorem State.setEvt_errq (s : State) (pg : Page) (u b : Nat) : (s.setEvt pg u b).errq = s.errq := rfl
@[simp] theorem State.setEvt_keys (s : State) (pg : Page) (u b : Nat) : (s.setEvt pg u b).keys = s.keys := rfl
@[simp] theorem State.setEvt_ports (s : State) (pg : Page) (u b : Nat) : (s.setEvt pg u b).ports = s.ports := rfl
@[simp] theorem State.setEvt_chans (s : State) (pg : Page) (u b : Nat) : (s.setEvt pg u b).chans = s.chans := rfl
@[simp] theorem State.setEvt_fab (s : State) (pg : Page) (u b : Nat) : (s.setEvt pg u b).fab = s.fab := rfl
@[simp] theorem State.setEvt_pwr (s : State) (pg : Page) (u b : Nat) : (s.setEvt pg u b).pwr = s.pwr := rfl
@[simp] theorem State.setEvt_thm (s : State) (pg : Page) (u b : Nat) : (s.setEvt pg u b).thm = s.thm := rfl
@[simp] theorem State.setEvt_nvm (s : State) (pg : Page) (u b : Nat) : (s.setEvt pg u b).nvm = s.nvm := rfl
@[simp] theorem State.setEvt_later (s : State) (pg : Page) (u b : Nat) : (s.setEvt pg u b).later = s.later := rfl
@[simp] theorem State.setEvt_mbs (s : State) (pg : Page) (u b : Nat) : (s.setEvt pg u b).mbs = s.mbs := rfl
@[simp] theorem State.setEvt_sec (s : State) (pg : Page) (u b : Nat) : (s.setEvt pg u b).sec = s.sec := rfl
@[simp] theorem State.setEvt_mgmt (s : State) (pg : Page) (u b : Nat) : (s.setEvt pg u b).mgmt = s.mgmt := rfl
@[simp] theorem State.setEvt_parity (s : State) (pg : Page) (u b : Nat) : (s.setEvt pg u b).parity = s.parity := rfl
@[simp] theorem State.setEvt_windows (s : State) (pg : Page) (u b : Nat) : (s.setEvt pg u b).windows = s.windows := rfl
@[simp] theorem State.setEvt_winWait (s : State) (pg : Page) (u b : Nat) : (s.setEvt pg u b).winWait = s.winWait := rfl
@[simp] theorem State.setEvt_latched (s : State) (pg : Page) (u b : Nat) : (s.setEvt pg u b).latched = s.latched := rfl
@[simp] theorem State.setEvt_powered (s : State) (pg : Page) (u b : Nat) : (s.setEvt pg u b).powered = s.powered := rfl
@[simp] theorem State.setEvt_clkLost (s : State) (pg : Page) (u b : Nat) : (s.setEvt pg u b).clkLost = s.clkLost := rfl
@[simp] theorem State.setEvt_blk (s : State) (pg : Page) (u b : Nat) (q : Nat) : (s.setEvt pg u b).blk q = s.blk q := rfl
@[simp] theorem State.setEvt_slc (s : State) (pg : Page) (u b : Nat) (q : Nat) : (s.setEvt pg u b).slc q = s.slc q := rfl
@[simp] theorem State.setEvt_mem (s : State) (pg : Page) (u b : Nat) (q : Nat) : (s.setEvt pg u b).mem q = s.mem q := rfl
@[simp] theorem State.setEvt_gath (s : State) (pg : Page) (u b : Nat) (q : Nat) : (s.setEvt pg u b).gath q = s.gath q := rfl
@[simp] theorem State.setEvt_ctx (s : State) (pg : Page) (u b : Nat) (q : Nat) : (s.setEvt pg u b).ctx q = s.ctx q := rfl
@[simp] theorem State.setEvt_port (s : State) (pg : Page) (u b : Nat) (q : Nat) : (s.setEvt pg u b).port q = s.port q := rfl
@[simp] theorem State.setEvt_chan (s : State) (pg : Page) (u b : Nat) (q : Nat) : (s.setEvt pg u b).chan q = s.chan q := rfl
@[simp] theorem State.setEvt_mb (s : State) (pg : Page) (u b : Nat) (q : Nat) : (s.setEvt pg u b).mb q = s.mb q := rfl
@[simp] theorem State.setEvt_tenant (s : State) (pg : Page) (u b : Nat) (q : Nat) : (s.setEvt pg u b).tenant q = s.tenant q := rfl
@[simp] theorem State.setEvt_fport (s : State) (pg : Page) (u b : Nat) (q : Nat) : (s.setEvt pg u b).fport q = s.fport q := rfl
@[simp] theorem State.setEvt_dom (s : State) (pg : Page) (u b : Nat) (q : Nat) : (s.setEvt pg u b).dom q = s.dom q := rfl

@[simp] theorem State.used_pending (s : State) : (s.used).pending = s.pending := rfl
@[simp] theorem State.used_regs (s : State) : (s.used).regs = s.regs := rfl
@[simp] theorem State.used_time (s : State) : (s.used).time = s.time := rfl
@[simp] theorem State.used_nextReq (s : State) : (s.used).nextReq = s.nextReq := rfl
@[simp] theorem State.used_out (s : State) : (s.used).out = s.out := rfl
@[simp] theorem State.used_told (s : State) : (s.used).told = s.told := rfl
@[simp] theorem State.used_blks (s : State) : (s.used).blks = s.blks := rfl
@[simp] theorem State.used_slices (s : State) : (s.used).slices = s.slices := rfl
@[simp] theorem State.used_pins (s : State) : (s.used).pins = s.pins := rfl
@[simp] theorem State.used_memcs (s : State) : (s.used).memcs = s.memcs := rfl
@[simp] theorem State.used_dram (s : State) : (s.used).dram = s.dram := rfl
@[simp] theorem State.used_sectors (s : State) : (s.used).sectors = s.sectors := rfl
@[simp] theorem State.used_reqs (s : State) : (s.used).reqs = s.reqs := rfl
@[simp] theorem State.used_resps (s : State) : (s.used).resps = s.resps := rfl
@[simp] theorem State.used_invs (s : State) : (s.used).invs = s.invs := rfl
@[simp] theorem State.used_gaths (s : State) : (s.used).gaths = s.gaths := rfl
@[simp] theorem State.used_ctxs (s : State) : (s.used).ctxs = s.ctxs := rfl
@[simp] theorem State.used_plaza (s : State) : (s.used).plaza = s.plaza := rfl
@[simp] theorem State.used_errq (s : State) : (s.used).errq = s.errq := rfl
@[simp] theorem State.used_keys (s : State) : (s.used).keys = s.keys := rfl
@[simp] theorem State.used_ports (s : State) : (s.used).ports = s.ports := rfl
@[simp] theorem State.used_chans (s : State) : (s.used).chans = s.chans := rfl
@[simp] theorem State.used_fab (s : State) : (s.used).fab = s.fab := rfl
@[simp] theorem State.used_pwr (s : State) : (s.used).pwr = s.pwr := rfl
@[simp] theorem State.used_thm (s : State) : (s.used).thm = s.thm := rfl
@[simp] theorem State.used_nvm (s : State) : (s.used).nvm = s.nvm := rfl
@[simp] theorem State.used_later (s : State) : (s.used).later = s.later := rfl
@[simp] theorem State.used_mbs (s : State) : (s.used).mbs = s.mbs := rfl
@[simp] theorem State.used_sec (s : State) : (s.used).sec = s.sec := rfl
@[simp] theorem State.used_mgmt (s : State) : (s.used).mgmt = s.mgmt := rfl
@[simp] theorem State.used_parity (s : State) : (s.used).parity = s.parity := rfl
@[simp] theorem State.used_windows (s : State) : (s.used).windows = s.windows := rfl
@[simp] theorem State.used_winWait (s : State) : (s.used).winWait = s.winWait := rfl
@[simp] theorem State.used_latched (s : State) : (s.used).latched = s.latched := rfl
@[simp] theorem State.used_powered (s : State) : (s.used).powered = s.powered := rfl
@[simp] theorem State.used_clkLost (s : State) : (s.used).clkLost = s.clkLost := rfl
@[simp] theorem State.used_rdAt (s : State) (qg : Page) (w : Nat) (h : Fld) (j : Nat) : (s.used).rdAt qg w h j = s.rdAt qg w h j := rfl
@[simp] theorem State.used_rd (s : State) (h : Fld) (w j : Nat) : (s.used).rd h w j = s.rd h w j := rfl
@[simp] theorem State.used_blk (s : State) (q : Nat) : (s.used).blk q = s.blk q := rfl
@[simp] theorem State.used_slc (s : State) (q : Nat) : (s.used).slc q = s.slc q := rfl
@[simp] theorem State.used_mem (s : State) (q : Nat) : (s.used).mem q = s.mem q := rfl
@[simp] theorem State.used_gath (s : State) (q : Nat) : (s.used).gath q = s.gath q := rfl
@[simp] theorem State.used_ctx (s : State) (q : Nat) : (s.used).ctx q = s.ctx q := rfl
@[simp] theorem State.used_port (s : State) (q : Nat) : (s.used).port q = s.port q := rfl
@[simp] theorem State.used_chan (s : State) (q : Nat) : (s.used).chan q = s.chan q := rfl
@[simp] theorem State.used_mb (s : State) (q : Nat) : (s.used).mb q = s.mb q := rfl
@[simp] theorem State.used_tenant (s : State) (q : Nat) : (s.used).tenant q = s.tenant q := rfl
@[simp] theorem State.used_fport (s : State) (q : Nat) : (s.used).fport q = s.fport q := rfl
@[simp] theorem State.used_dom (s : State) (q : Nat) : (s.used).dom q = s.dom q := rfl

@[simp] theorem State.emit_pending (s : State) (k : String) (as : List Nat) (bs : List Byte) : (s.emit k as bs).pending = s.pending := rfl
@[simp] theorem State.emit_regs (s : State) (k : String) (as : List Nat) (bs : List Byte) : (s.emit k as bs).regs = s.regs := rfl
@[simp] theorem State.emit_time (s : State) (k : String) (as : List Nat) (bs : List Byte) : (s.emit k as bs).time = s.time := rfl
@[simp] theorem State.emit_free (s : State) (k : String) (as : List Nat) (bs : List Byte) : (s.emit k as bs).free = s.free := rfl
@[simp] theorem State.emit_nextReq (s : State) (k : String) (as : List Nat) (bs : List Byte) : (s.emit k as bs).nextReq = s.nextReq := rfl
@[simp] theorem State.emit_told (s : State) (k : String) (as : List Nat) (bs : List Byte) : (s.emit k as bs).told = s.told := rfl
@[simp] theorem State.emit_blks (s : State) (k : String) (as : List Nat) (bs : List Byte) : (s.emit k as bs).blks = s.blks := rfl
@[simp] theorem State.emit_slices (s : State) (k : String) (as : List Nat) (bs : List Byte) : (s.emit k as bs).slices = s.slices := rfl
@[simp] theorem State.emit_pins (s : State) (k : String) (as : List Nat) (bs : List Byte) : (s.emit k as bs).pins = s.pins := rfl
@[simp] theorem State.emit_memcs (s : State) (k : String) (as : List Nat) (bs : List Byte) : (s.emit k as bs).memcs = s.memcs := rfl
@[simp] theorem State.emit_dram (s : State) (k : String) (as : List Nat) (bs : List Byte) : (s.emit k as bs).dram = s.dram := rfl
@[simp] theorem State.emit_sectors (s : State) (k : String) (as : List Nat) (bs : List Byte) : (s.emit k as bs).sectors = s.sectors := rfl
@[simp] theorem State.emit_reqs (s : State) (k : String) (as : List Nat) (bs : List Byte) : (s.emit k as bs).reqs = s.reqs := rfl
@[simp] theorem State.emit_resps (s : State) (k : String) (as : List Nat) (bs : List Byte) : (s.emit k as bs).resps = s.resps := rfl
@[simp] theorem State.emit_invs (s : State) (k : String) (as : List Nat) (bs : List Byte) : (s.emit k as bs).invs = s.invs := rfl
@[simp] theorem State.emit_gaths (s : State) (k : String) (as : List Nat) (bs : List Byte) : (s.emit k as bs).gaths = s.gaths := rfl
@[simp] theorem State.emit_ctxs (s : State) (k : String) (as : List Nat) (bs : List Byte) : (s.emit k as bs).ctxs = s.ctxs := rfl
@[simp] theorem State.emit_plaza (s : State) (k : String) (as : List Nat) (bs : List Byte) : (s.emit k as bs).plaza = s.plaza := rfl
@[simp] theorem State.emit_errq (s : State) (k : String) (as : List Nat) (bs : List Byte) : (s.emit k as bs).errq = s.errq := rfl
@[simp] theorem State.emit_keys (s : State) (k : String) (as : List Nat) (bs : List Byte) : (s.emit k as bs).keys = s.keys := rfl
@[simp] theorem State.emit_ports (s : State) (k : String) (as : List Nat) (bs : List Byte) : (s.emit k as bs).ports = s.ports := rfl
@[simp] theorem State.emit_chans (s : State) (k : String) (as : List Nat) (bs : List Byte) : (s.emit k as bs).chans = s.chans := rfl
@[simp] theorem State.emit_fab (s : State) (k : String) (as : List Nat) (bs : List Byte) : (s.emit k as bs).fab = s.fab := rfl
@[simp] theorem State.emit_pwr (s : State) (k : String) (as : List Nat) (bs : List Byte) : (s.emit k as bs).pwr = s.pwr := rfl
@[simp] theorem State.emit_thm (s : State) (k : String) (as : List Nat) (bs : List Byte) : (s.emit k as bs).thm = s.thm := rfl
@[simp] theorem State.emit_nvm (s : State) (k : String) (as : List Nat) (bs : List Byte) : (s.emit k as bs).nvm = s.nvm := rfl
@[simp] theorem State.emit_later (s : State) (k : String) (as : List Nat) (bs : List Byte) : (s.emit k as bs).later = s.later := rfl
@[simp] theorem State.emit_mbs (s : State) (k : String) (as : List Nat) (bs : List Byte) : (s.emit k as bs).mbs = s.mbs := rfl
@[simp] theorem State.emit_sec (s : State) (k : String) (as : List Nat) (bs : List Byte) : (s.emit k as bs).sec = s.sec := rfl
@[simp] theorem State.emit_mgmt (s : State) (k : String) (as : List Nat) (bs : List Byte) : (s.emit k as bs).mgmt = s.mgmt := rfl
@[simp] theorem State.emit_parity (s : State) (k : String) (as : List Nat) (bs : List Byte) : (s.emit k as bs).parity = s.parity := rfl
@[simp] theorem State.emit_windows (s : State) (k : String) (as : List Nat) (bs : List Byte) : (s.emit k as bs).windows = s.windows := rfl
@[simp] theorem State.emit_winWait (s : State) (k : String) (as : List Nat) (bs : List Byte) : (s.emit k as bs).winWait = s.winWait := rfl
@[simp] theorem State.emit_latched (s : State) (k : String) (as : List Nat) (bs : List Byte) : (s.emit k as bs).latched = s.latched := rfl
@[simp] theorem State.emit_powered (s : State) (k : String) (as : List Nat) (bs : List Byte) : (s.emit k as bs).powered = s.powered := rfl
@[simp] theorem State.emit_clkLost (s : State) (k : String) (as : List Nat) (bs : List Byte) : (s.emit k as bs).clkLost = s.clkLost := rfl
@[simp] theorem State.emit_rdAt (s : State) (k : String) (as : List Nat) (bs : List Byte) (qg : Page) (w : Nat) (h : Fld) (j : Nat) : (s.emit k as bs).rdAt qg w h j = s.rdAt qg w h j := rfl
@[simp] theorem State.emit_rd (s : State) (k : String) (as : List Nat) (bs : List Byte) (h : Fld) (w j : Nat) : (s.emit k as bs).rd h w j = s.rd h w j := rfl
@[simp] theorem State.emit_blk (s : State) (k : String) (as : List Nat) (bs : List Byte) (q : Nat) : (s.emit k as bs).blk q = s.blk q := rfl
@[simp] theorem State.emit_slc (s : State) (k : String) (as : List Nat) (bs : List Byte) (q : Nat) : (s.emit k as bs).slc q = s.slc q := rfl
@[simp] theorem State.emit_mem (s : State) (k : String) (as : List Nat) (bs : List Byte) (q : Nat) : (s.emit k as bs).mem q = s.mem q := rfl
@[simp] theorem State.emit_gath (s : State) (k : String) (as : List Nat) (bs : List Byte) (q : Nat) : (s.emit k as bs).gath q = s.gath q := rfl
@[simp] theorem State.emit_ctx (s : State) (k : String) (as : List Nat) (bs : List Byte) (q : Nat) : (s.emit k as bs).ctx q = s.ctx q := rfl
@[simp] theorem State.emit_port (s : State) (k : String) (as : List Nat) (bs : List Byte) (q : Nat) : (s.emit k as bs).port q = s.port q := rfl
@[simp] theorem State.emit_chan (s : State) (k : String) (as : List Nat) (bs : List Byte) (q : Nat) : (s.emit k as bs).chan q = s.chan q := rfl
@[simp] theorem State.emit_mb (s : State) (k : String) (as : List Nat) (bs : List Byte) (q : Nat) : (s.emit k as bs).mb q = s.mb q := rfl
@[simp] theorem State.emit_tenant (s : State) (k : String) (as : List Nat) (bs : List Byte) (q : Nat) : (s.emit k as bs).tenant q = s.tenant q := rfl
@[simp] theorem State.emit_fport (s : State) (k : String) (as : List Nat) (bs : List Byte) (q : Nat) : (s.emit k as bs).fport q = s.fport q := rfl
@[simp] theorem State.emit_dom (s : State) (k : String) (as : List Nat) (bs : List Byte) (q : Nat) : (s.emit k as bs).dom q = s.dom q := rfl

@[simp] theorem State.onBlk_pending (s : State) (p : Nat) (f : Block → Block) : (s.onBlk p f).pending = s.pending := rfl
@[simp] theorem State.onBlk_regs (s : State) (p : Nat) (f : Block → Block) : (s.onBlk p f).regs = s.regs := rfl
@[simp] theorem State.onBlk_time (s : State) (p : Nat) (f : Block → Block) : (s.onBlk p f).time = s.time := rfl
@[simp] theorem State.onBlk_free (s : State) (p : Nat) (f : Block → Block) : (s.onBlk p f).free = s.free := rfl
@[simp] theorem State.onBlk_nextReq (s : State) (p : Nat) (f : Block → Block) : (s.onBlk p f).nextReq = s.nextReq := rfl
@[simp] theorem State.onBlk_out (s : State) (p : Nat) (f : Block → Block) : (s.onBlk p f).out = s.out := rfl
@[simp] theorem State.onBlk_told (s : State) (p : Nat) (f : Block → Block) : (s.onBlk p f).told = s.told := rfl
@[simp] theorem State.onBlk_slices (s : State) (p : Nat) (f : Block → Block) : (s.onBlk p f).slices = s.slices := rfl
@[simp] theorem State.onBlk_pins (s : State) (p : Nat) (f : Block → Block) : (s.onBlk p f).pins = s.pins := rfl
@[simp] theorem State.onBlk_memcs (s : State) (p : Nat) (f : Block → Block) : (s.onBlk p f).memcs = s.memcs := rfl
@[simp] theorem State.onBlk_dram (s : State) (p : Nat) (f : Block → Block) : (s.onBlk p f).dram = s.dram := rfl
@[simp] theorem State.onBlk_sectors (s : State) (p : Nat) (f : Block → Block) : (s.onBlk p f).sectors = s.sectors := rfl
@[simp] theorem State.onBlk_reqs (s : State) (p : Nat) (f : Block → Block) : (s.onBlk p f).reqs = s.reqs := rfl
@[simp] theorem State.onBlk_resps (s : State) (p : Nat) (f : Block → Block) : (s.onBlk p f).resps = s.resps := rfl
@[simp] theorem State.onBlk_invs (s : State) (p : Nat) (f : Block → Block) : (s.onBlk p f).invs = s.invs := rfl
@[simp] theorem State.onBlk_gaths (s : State) (p : Nat) (f : Block → Block) : (s.onBlk p f).gaths = s.gaths := rfl
@[simp] theorem State.onBlk_ctxs (s : State) (p : Nat) (f : Block → Block) : (s.onBlk p f).ctxs = s.ctxs := rfl
@[simp] theorem State.onBlk_plaza (s : State) (p : Nat) (f : Block → Block) : (s.onBlk p f).plaza = s.plaza := rfl
@[simp] theorem State.onBlk_errq (s : State) (p : Nat) (f : Block → Block) : (s.onBlk p f).errq = s.errq := rfl
@[simp] theorem State.onBlk_keys (s : State) (p : Nat) (f : Block → Block) : (s.onBlk p f).keys = s.keys := rfl
@[simp] theorem State.onBlk_ports (s : State) (p : Nat) (f : Block → Block) : (s.onBlk p f).ports = s.ports := rfl
@[simp] theorem State.onBlk_chans (s : State) (p : Nat) (f : Block → Block) : (s.onBlk p f).chans = s.chans := rfl
@[simp] theorem State.onBlk_fab (s : State) (p : Nat) (f : Block → Block) : (s.onBlk p f).fab = s.fab := rfl
@[simp] theorem State.onBlk_pwr (s : State) (p : Nat) (f : Block → Block) : (s.onBlk p f).pwr = s.pwr := rfl
@[simp] theorem State.onBlk_thm (s : State) (p : Nat) (f : Block → Block) : (s.onBlk p f).thm = s.thm := rfl
@[simp] theorem State.onBlk_nvm (s : State) (p : Nat) (f : Block → Block) : (s.onBlk p f).nvm = s.nvm := rfl
@[simp] theorem State.onBlk_later (s : State) (p : Nat) (f : Block → Block) : (s.onBlk p f).later = s.later := rfl
@[simp] theorem State.onBlk_mbs (s : State) (p : Nat) (f : Block → Block) : (s.onBlk p f).mbs = s.mbs := rfl
@[simp] theorem State.onBlk_sec (s : State) (p : Nat) (f : Block → Block) : (s.onBlk p f).sec = s.sec := rfl
@[simp] theorem State.onBlk_mgmt (s : State) (p : Nat) (f : Block → Block) : (s.onBlk p f).mgmt = s.mgmt := rfl
@[simp] theorem State.onBlk_parity (s : State) (p : Nat) (f : Block → Block) : (s.onBlk p f).parity = s.parity := rfl
@[simp] theorem State.onBlk_windows (s : State) (p : Nat) (f : Block → Block) : (s.onBlk p f).windows = s.windows := rfl
@[simp] theorem State.onBlk_winWait (s : State) (p : Nat) (f : Block → Block) : (s.onBlk p f).winWait = s.winWait := rfl
@[simp] theorem State.onBlk_latched (s : State) (p : Nat) (f : Block → Block) : (s.onBlk p f).latched = s.latched := rfl
@[simp] theorem State.onBlk_powered (s : State) (p : Nat) (f : Block → Block) : (s.onBlk p f).powered = s.powered := rfl
@[simp] theorem State.onBlk_clkLost (s : State) (p : Nat) (f : Block → Block) : (s.onBlk p f).clkLost = s.clkLost := rfl
@[simp] theorem State.onBlk_rdAt (s : State) (p : Nat) (f : Block → Block) (qg : Page) (w : Nat) (h : Fld) (j : Nat) : (s.onBlk p f).rdAt qg w h j = s.rdAt qg w h j := rfl
@[simp] theorem State.onBlk_rd (s : State) (p : Nat) (f : Block → Block) (h : Fld) (w j : Nat) : (s.onBlk p f).rd h w j = s.rd h w j := rfl
@[simp] theorem State.onBlk_slc (s : State) (p : Nat) (f : Block → Block) (q : Nat) : (s.onBlk p f).slc q = s.slc q := rfl
@[simp] theorem State.onBlk_mem (s : State) (p : Nat) (f : Block → Block) (q : Nat) : (s.onBlk p f).mem q = s.mem q := rfl
@[simp] theorem State.onBlk_gath (s : State) (p : Nat) (f : Block → Block) (q : Nat) : (s.onBlk p f).gath q = s.gath q := rfl
@[simp] theorem State.onBlk_ctx (s : State) (p : Nat) (f : Block → Block) (q : Nat) : (s.onBlk p f).ctx q = s.ctx q := rfl
@[simp] theorem State.onBlk_port (s : State) (p : Nat) (f : Block → Block) (q : Nat) : (s.onBlk p f).port q = s.port q := rfl
@[simp] theorem State.onBlk_chan (s : State) (p : Nat) (f : Block → Block) (q : Nat) : (s.onBlk p f).chan q = s.chan q := rfl
@[simp] theorem State.onBlk_mb (s : State) (p : Nat) (f : Block → Block) (q : Nat) : (s.onBlk p f).mb q = s.mb q := rfl
@[simp] theorem State.onBlk_tenant (s : State) (p : Nat) (f : Block → Block) (q : Nat) : (s.onBlk p f).tenant q = s.tenant q := rfl
@[simp] theorem State.onBlk_fport (s : State) (p : Nat) (f : Block → Block) (q : Nat) : (s.onBlk p f).fport q = s.fport q := rfl
@[simp] theorem State.onBlk_dom (s : State) (p : Nat) (f : Block → Block) (q : Nat) : (s.onBlk p f).dom q = s.dom q := rfl

@[simp] theorem State.onSlc_pending (s : State) (n : Nat) (f : Slice → Slice) : (s.onSlc n f).pending = s.pending := rfl
@[simp] theorem State.onSlc_regs (s : State) (n : Nat) (f : Slice → Slice) : (s.onSlc n f).regs = s.regs := rfl
@[simp] theorem State.onSlc_time (s : State) (n : Nat) (f : Slice → Slice) : (s.onSlc n f).time = s.time := rfl
@[simp] theorem State.onSlc_free (s : State) (n : Nat) (f : Slice → Slice) : (s.onSlc n f).free = s.free := rfl
@[simp] theorem State.onSlc_nextReq (s : State) (n : Nat) (f : Slice → Slice) : (s.onSlc n f).nextReq = s.nextReq := rfl
@[simp] theorem State.onSlc_out (s : State) (n : Nat) (f : Slice → Slice) : (s.onSlc n f).out = s.out := rfl
@[simp] theorem State.onSlc_told (s : State) (n : Nat) (f : Slice → Slice) : (s.onSlc n f).told = s.told := rfl
@[simp] theorem State.onSlc_blks (s : State) (n : Nat) (f : Slice → Slice) : (s.onSlc n f).blks = s.blks := rfl
@[simp] theorem State.onSlc_pins (s : State) (n : Nat) (f : Slice → Slice) : (s.onSlc n f).pins = s.pins := rfl
@[simp] theorem State.onSlc_memcs (s : State) (n : Nat) (f : Slice → Slice) : (s.onSlc n f).memcs = s.memcs := rfl
@[simp] theorem State.onSlc_dram (s : State) (n : Nat) (f : Slice → Slice) : (s.onSlc n f).dram = s.dram := rfl
@[simp] theorem State.onSlc_sectors (s : State) (n : Nat) (f : Slice → Slice) : (s.onSlc n f).sectors = s.sectors := rfl
@[simp] theorem State.onSlc_reqs (s : State) (n : Nat) (f : Slice → Slice) : (s.onSlc n f).reqs = s.reqs := rfl
@[simp] theorem State.onSlc_resps (s : State) (n : Nat) (f : Slice → Slice) : (s.onSlc n f).resps = s.resps := rfl
@[simp] theorem State.onSlc_invs (s : State) (n : Nat) (f : Slice → Slice) : (s.onSlc n f).invs = s.invs := rfl
@[simp] theorem State.onSlc_gaths (s : State) (n : Nat) (f : Slice → Slice) : (s.onSlc n f).gaths = s.gaths := rfl
@[simp] theorem State.onSlc_ctxs (s : State) (n : Nat) (f : Slice → Slice) : (s.onSlc n f).ctxs = s.ctxs := rfl
@[simp] theorem State.onSlc_plaza (s : State) (n : Nat) (f : Slice → Slice) : (s.onSlc n f).plaza = s.plaza := rfl
@[simp] theorem State.onSlc_errq (s : State) (n : Nat) (f : Slice → Slice) : (s.onSlc n f).errq = s.errq := rfl
@[simp] theorem State.onSlc_keys (s : State) (n : Nat) (f : Slice → Slice) : (s.onSlc n f).keys = s.keys := rfl
@[simp] theorem State.onSlc_ports (s : State) (n : Nat) (f : Slice → Slice) : (s.onSlc n f).ports = s.ports := rfl
@[simp] theorem State.onSlc_chans (s : State) (n : Nat) (f : Slice → Slice) : (s.onSlc n f).chans = s.chans := rfl
@[simp] theorem State.onSlc_fab (s : State) (n : Nat) (f : Slice → Slice) : (s.onSlc n f).fab = s.fab := rfl
@[simp] theorem State.onSlc_pwr (s : State) (n : Nat) (f : Slice → Slice) : (s.onSlc n f).pwr = s.pwr := rfl
@[simp] theorem State.onSlc_thm (s : State) (n : Nat) (f : Slice → Slice) : (s.onSlc n f).thm = s.thm := rfl
@[simp] theorem State.onSlc_nvm (s : State) (n : Nat) (f : Slice → Slice) : (s.onSlc n f).nvm = s.nvm := rfl
@[simp] theorem State.onSlc_later (s : State) (n : Nat) (f : Slice → Slice) : (s.onSlc n f).later = s.later := rfl
@[simp] theorem State.onSlc_mbs (s : State) (n : Nat) (f : Slice → Slice) : (s.onSlc n f).mbs = s.mbs := rfl
@[simp] theorem State.onSlc_sec (s : State) (n : Nat) (f : Slice → Slice) : (s.onSlc n f).sec = s.sec := rfl
@[simp] theorem State.onSlc_mgmt (s : State) (n : Nat) (f : Slice → Slice) : (s.onSlc n f).mgmt = s.mgmt := rfl
@[simp] theorem State.onSlc_parity (s : State) (n : Nat) (f : Slice → Slice) : (s.onSlc n f).parity = s.parity := rfl
@[simp] theorem State.onSlc_windows (s : State) (n : Nat) (f : Slice → Slice) : (s.onSlc n f).windows = s.windows := rfl
@[simp] theorem State.onSlc_winWait (s : State) (n : Nat) (f : Slice → Slice) : (s.onSlc n f).winWait = s.winWait := rfl
@[simp] theorem State.onSlc_latched (s : State) (n : Nat) (f : Slice → Slice) : (s.onSlc n f).latched = s.latched := rfl
@[simp] theorem State.onSlc_powered (s : State) (n : Nat) (f : Slice → Slice) : (s.onSlc n f).powered = s.powered := rfl
@[simp] theorem State.onSlc_clkLost (s : State) (n : Nat) (f : Slice → Slice) : (s.onSlc n f).clkLost = s.clkLost := rfl
@[simp] theorem State.onSlc_rdAt (s : State) (n : Nat) (f : Slice → Slice) (qg : Page) (w : Nat) (h : Fld) (j : Nat) : (s.onSlc n f).rdAt qg w h j = s.rdAt qg w h j := rfl
@[simp] theorem State.onSlc_rd (s : State) (n : Nat) (f : Slice → Slice) (h : Fld) (w j : Nat) : (s.onSlc n f).rd h w j = s.rd h w j := rfl
@[simp] theorem State.onSlc_blk (s : State) (n : Nat) (f : Slice → Slice) (q : Nat) : (s.onSlc n f).blk q = s.blk q := rfl
@[simp] theorem State.onSlc_mem (s : State) (n : Nat) (f : Slice → Slice) (q : Nat) : (s.onSlc n f).mem q = s.mem q := rfl
@[simp] theorem State.onSlc_gath (s : State) (n : Nat) (f : Slice → Slice) (q : Nat) : (s.onSlc n f).gath q = s.gath q := rfl
@[simp] theorem State.onSlc_ctx (s : State) (n : Nat) (f : Slice → Slice) (q : Nat) : (s.onSlc n f).ctx q = s.ctx q := rfl
@[simp] theorem State.onSlc_port (s : State) (n : Nat) (f : Slice → Slice) (q : Nat) : (s.onSlc n f).port q = s.port q := rfl
@[simp] theorem State.onSlc_chan (s : State) (n : Nat) (f : Slice → Slice) (q : Nat) : (s.onSlc n f).chan q = s.chan q := rfl
@[simp] theorem State.onSlc_mb (s : State) (n : Nat) (f : Slice → Slice) (q : Nat) : (s.onSlc n f).mb q = s.mb q := rfl
@[simp] theorem State.onSlc_tenant (s : State) (n : Nat) (f : Slice → Slice) (q : Nat) : (s.onSlc n f).tenant q = s.tenant q := rfl
@[simp] theorem State.onSlc_fport (s : State) (n : Nat) (f : Slice → Slice) (q : Nat) : (s.onSlc n f).fport q = s.fport q := rfl
@[simp] theorem State.onSlc_dom (s : State) (n : Nat) (f : Slice → Slice) (q : Nat) : (s.onSlc n f).dom q = s.dom q := rfl

@[simp] theorem State.onMem_pending (s : State) (g : Nat) (f : Memc → Memc) : (s.onMem g f).pending = s.pending := rfl
@[simp] theorem State.onMem_regs (s : State) (g : Nat) (f : Memc → Memc) : (s.onMem g f).regs = s.regs := rfl
@[simp] theorem State.onMem_time (s : State) (g : Nat) (f : Memc → Memc) : (s.onMem g f).time = s.time := rfl
@[simp] theorem State.onMem_free (s : State) (g : Nat) (f : Memc → Memc) : (s.onMem g f).free = s.free := rfl
@[simp] theorem State.onMem_nextReq (s : State) (g : Nat) (f : Memc → Memc) : (s.onMem g f).nextReq = s.nextReq := rfl
@[simp] theorem State.onMem_out (s : State) (g : Nat) (f : Memc → Memc) : (s.onMem g f).out = s.out := rfl
@[simp] theorem State.onMem_told (s : State) (g : Nat) (f : Memc → Memc) : (s.onMem g f).told = s.told := rfl
@[simp] theorem State.onMem_blks (s : State) (g : Nat) (f : Memc → Memc) : (s.onMem g f).blks = s.blks := rfl
@[simp] theorem State.onMem_slices (s : State) (g : Nat) (f : Memc → Memc) : (s.onMem g f).slices = s.slices := rfl
@[simp] theorem State.onMem_pins (s : State) (g : Nat) (f : Memc → Memc) : (s.onMem g f).pins = s.pins := rfl
@[simp] theorem State.onMem_dram (s : State) (g : Nat) (f : Memc → Memc) : (s.onMem g f).dram = s.dram := rfl
@[simp] theorem State.onMem_sectors (s : State) (g : Nat) (f : Memc → Memc) : (s.onMem g f).sectors = s.sectors := rfl
@[simp] theorem State.onMem_reqs (s : State) (g : Nat) (f : Memc → Memc) : (s.onMem g f).reqs = s.reqs := rfl
@[simp] theorem State.onMem_resps (s : State) (g : Nat) (f : Memc → Memc) : (s.onMem g f).resps = s.resps := rfl
@[simp] theorem State.onMem_invs (s : State) (g : Nat) (f : Memc → Memc) : (s.onMem g f).invs = s.invs := rfl
@[simp] theorem State.onMem_gaths (s : State) (g : Nat) (f : Memc → Memc) : (s.onMem g f).gaths = s.gaths := rfl
@[simp] theorem State.onMem_ctxs (s : State) (g : Nat) (f : Memc → Memc) : (s.onMem g f).ctxs = s.ctxs := rfl
@[simp] theorem State.onMem_plaza (s : State) (g : Nat) (f : Memc → Memc) : (s.onMem g f).plaza = s.plaza := rfl
@[simp] theorem State.onMem_errq (s : State) (g : Nat) (f : Memc → Memc) : (s.onMem g f).errq = s.errq := rfl
@[simp] theorem State.onMem_keys (s : State) (g : Nat) (f : Memc → Memc) : (s.onMem g f).keys = s.keys := rfl
@[simp] theorem State.onMem_ports (s : State) (g : Nat) (f : Memc → Memc) : (s.onMem g f).ports = s.ports := rfl
@[simp] theorem State.onMem_chans (s : State) (g : Nat) (f : Memc → Memc) : (s.onMem g f).chans = s.chans := rfl
@[simp] theorem State.onMem_fab (s : State) (g : Nat) (f : Memc → Memc) : (s.onMem g f).fab = s.fab := rfl
@[simp] theorem State.onMem_pwr (s : State) (g : Nat) (f : Memc → Memc) : (s.onMem g f).pwr = s.pwr := rfl
@[simp] theorem State.onMem_thm (s : State) (g : Nat) (f : Memc → Memc) : (s.onMem g f).thm = s.thm := rfl
@[simp] theorem State.onMem_nvm (s : State) (g : Nat) (f : Memc → Memc) : (s.onMem g f).nvm = s.nvm := rfl
@[simp] theorem State.onMem_later (s : State) (g : Nat) (f : Memc → Memc) : (s.onMem g f).later = s.later := rfl
@[simp] theorem State.onMem_mbs (s : State) (g : Nat) (f : Memc → Memc) : (s.onMem g f).mbs = s.mbs := rfl
@[simp] theorem State.onMem_sec (s : State) (g : Nat) (f : Memc → Memc) : (s.onMem g f).sec = s.sec := rfl
@[simp] theorem State.onMem_mgmt (s : State) (g : Nat) (f : Memc → Memc) : (s.onMem g f).mgmt = s.mgmt := rfl
@[simp] theorem State.onMem_parity (s : State) (g : Nat) (f : Memc → Memc) : (s.onMem g f).parity = s.parity := rfl
@[simp] theorem State.onMem_windows (s : State) (g : Nat) (f : Memc → Memc) : (s.onMem g f).windows = s.windows := rfl
@[simp] theorem State.onMem_winWait (s : State) (g : Nat) (f : Memc → Memc) : (s.onMem g f).winWait = s.winWait := rfl
@[simp] theorem State.onMem_latched (s : State) (g : Nat) (f : Memc → Memc) : (s.onMem g f).latched = s.latched := rfl
@[simp] theorem State.onMem_powered (s : State) (g : Nat) (f : Memc → Memc) : (s.onMem g f).powered = s.powered := rfl
@[simp] theorem State.onMem_clkLost (s : State) (g : Nat) (f : Memc → Memc) : (s.onMem g f).clkLost = s.clkLost := rfl
@[simp] theorem State.onMem_rdAt (s : State) (g : Nat) (f : Memc → Memc) (qg : Page) (w : Nat) (h : Fld) (j : Nat) : (s.onMem g f).rdAt qg w h j = s.rdAt qg w h j := rfl
@[simp] theorem State.onMem_rd (s : State) (g : Nat) (f : Memc → Memc) (h : Fld) (w j : Nat) : (s.onMem g f).rd h w j = s.rd h w j := rfl
@[simp] theorem State.onMem_blk (s : State) (g : Nat) (f : Memc → Memc) (q : Nat) : (s.onMem g f).blk q = s.blk q := rfl
@[simp] theorem State.onMem_slc (s : State) (g : Nat) (f : Memc → Memc) (q : Nat) : (s.onMem g f).slc q = s.slc q := rfl
@[simp] theorem State.onMem_gath (s : State) (g : Nat) (f : Memc → Memc) (q : Nat) : (s.onMem g f).gath q = s.gath q := rfl
@[simp] theorem State.onMem_ctx (s : State) (g : Nat) (f : Memc → Memc) (q : Nat) : (s.onMem g f).ctx q = s.ctx q := rfl
@[simp] theorem State.onMem_port (s : State) (g : Nat) (f : Memc → Memc) (q : Nat) : (s.onMem g f).port q = s.port q := rfl
@[simp] theorem State.onMem_chan (s : State) (g : Nat) (f : Memc → Memc) (q : Nat) : (s.onMem g f).chan q = s.chan q := rfl
@[simp] theorem State.onMem_mb (s : State) (g : Nat) (f : Memc → Memc) (q : Nat) : (s.onMem g f).mb q = s.mb q := rfl
@[simp] theorem State.onMem_tenant (s : State) (g : Nat) (f : Memc → Memc) (q : Nat) : (s.onMem g f).tenant q = s.tenant q := rfl
@[simp] theorem State.onMem_fport (s : State) (g : Nat) (f : Memc → Memc) (q : Nat) : (s.onMem g f).fport q = s.fport q := rfl
@[simp] theorem State.onMem_dom (s : State) (g : Nat) (f : Memc → Memc) (q : Nat) : (s.onMem g f).dom q = s.dom q := rfl

@[simp] theorem State.onGath_pending (s : State) (d : Nat) (f : Gather → Gather) : (s.onGath d f).pending = s.pending := rfl
@[simp] theorem State.onGath_regs (s : State) (d : Nat) (f : Gather → Gather) : (s.onGath d f).regs = s.regs := rfl
@[simp] theorem State.onGath_time (s : State) (d : Nat) (f : Gather → Gather) : (s.onGath d f).time = s.time := rfl
@[simp] theorem State.onGath_free (s : State) (d : Nat) (f : Gather → Gather) : (s.onGath d f).free = s.free := rfl
@[simp] theorem State.onGath_nextReq (s : State) (d : Nat) (f : Gather → Gather) : (s.onGath d f).nextReq = s.nextReq := rfl
@[simp] theorem State.onGath_out (s : State) (d : Nat) (f : Gather → Gather) : (s.onGath d f).out = s.out := rfl
@[simp] theorem State.onGath_told (s : State) (d : Nat) (f : Gather → Gather) : (s.onGath d f).told = s.told := rfl
@[simp] theorem State.onGath_blks (s : State) (d : Nat) (f : Gather → Gather) : (s.onGath d f).blks = s.blks := rfl
@[simp] theorem State.onGath_slices (s : State) (d : Nat) (f : Gather → Gather) : (s.onGath d f).slices = s.slices := rfl
@[simp] theorem State.onGath_pins (s : State) (d : Nat) (f : Gather → Gather) : (s.onGath d f).pins = s.pins := rfl
@[simp] theorem State.onGath_memcs (s : State) (d : Nat) (f : Gather → Gather) : (s.onGath d f).memcs = s.memcs := rfl
@[simp] theorem State.onGath_dram (s : State) (d : Nat) (f : Gather → Gather) : (s.onGath d f).dram = s.dram := rfl
@[simp] theorem State.onGath_sectors (s : State) (d : Nat) (f : Gather → Gather) : (s.onGath d f).sectors = s.sectors := rfl
@[simp] theorem State.onGath_reqs (s : State) (d : Nat) (f : Gather → Gather) : (s.onGath d f).reqs = s.reqs := rfl
@[simp] theorem State.onGath_resps (s : State) (d : Nat) (f : Gather → Gather) : (s.onGath d f).resps = s.resps := rfl
@[simp] theorem State.onGath_invs (s : State) (d : Nat) (f : Gather → Gather) : (s.onGath d f).invs = s.invs := rfl
@[simp] theorem State.onGath_ctxs (s : State) (d : Nat) (f : Gather → Gather) : (s.onGath d f).ctxs = s.ctxs := rfl
@[simp] theorem State.onGath_plaza (s : State) (d : Nat) (f : Gather → Gather) : (s.onGath d f).plaza = s.plaza := rfl
@[simp] theorem State.onGath_errq (s : State) (d : Nat) (f : Gather → Gather) : (s.onGath d f).errq = s.errq := rfl
@[simp] theorem State.onGath_keys (s : State) (d : Nat) (f : Gather → Gather) : (s.onGath d f).keys = s.keys := rfl
@[simp] theorem State.onGath_ports (s : State) (d : Nat) (f : Gather → Gather) : (s.onGath d f).ports = s.ports := rfl
@[simp] theorem State.onGath_chans (s : State) (d : Nat) (f : Gather → Gather) : (s.onGath d f).chans = s.chans := rfl
@[simp] theorem State.onGath_fab (s : State) (d : Nat) (f : Gather → Gather) : (s.onGath d f).fab = s.fab := rfl
@[simp] theorem State.onGath_pwr (s : State) (d : Nat) (f : Gather → Gather) : (s.onGath d f).pwr = s.pwr := rfl
@[simp] theorem State.onGath_thm (s : State) (d : Nat) (f : Gather → Gather) : (s.onGath d f).thm = s.thm := rfl
@[simp] theorem State.onGath_nvm (s : State) (d : Nat) (f : Gather → Gather) : (s.onGath d f).nvm = s.nvm := rfl
@[simp] theorem State.onGath_later (s : State) (d : Nat) (f : Gather → Gather) : (s.onGath d f).later = s.later := rfl
@[simp] theorem State.onGath_mbs (s : State) (d : Nat) (f : Gather → Gather) : (s.onGath d f).mbs = s.mbs := rfl
@[simp] theorem State.onGath_sec (s : State) (d : Nat) (f : Gather → Gather) : (s.onGath d f).sec = s.sec := rfl
@[simp] theorem State.onGath_mgmt (s : State) (d : Nat) (f : Gather → Gather) : (s.onGath d f).mgmt = s.mgmt := rfl
@[simp] theorem State.onGath_parity (s : State) (d : Nat) (f : Gather → Gather) : (s.onGath d f).parity = s.parity := rfl
@[simp] theorem State.onGath_windows (s : State) (d : Nat) (f : Gather → Gather) : (s.onGath d f).windows = s.windows := rfl
@[simp] theorem State.onGath_winWait (s : State) (d : Nat) (f : Gather → Gather) : (s.onGath d f).winWait = s.winWait := rfl
@[simp] theorem State.onGath_latched (s : State) (d : Nat) (f : Gather → Gather) : (s.onGath d f).latched = s.latched := rfl
@[simp] theorem State.onGath_powered (s : State) (d : Nat) (f : Gather → Gather) : (s.onGath d f).powered = s.powered := rfl
@[simp] theorem State.onGath_clkLost (s : State) (d : Nat) (f : Gather → Gather) : (s.onGath d f).clkLost = s.clkLost := rfl
@[simp] theorem State.onGath_rdAt (s : State) (d : Nat) (f : Gather → Gather) (qg : Page) (w : Nat) (h : Fld) (j : Nat) : (s.onGath d f).rdAt qg w h j = s.rdAt qg w h j := rfl
@[simp] theorem State.onGath_rd (s : State) (d : Nat) (f : Gather → Gather) (h : Fld) (w j : Nat) : (s.onGath d f).rd h w j = s.rd h w j := rfl
@[simp] theorem State.onGath_blk (s : State) (d : Nat) (f : Gather → Gather) (q : Nat) : (s.onGath d f).blk q = s.blk q := rfl
@[simp] theorem State.onGath_slc (s : State) (d : Nat) (f : Gather → Gather) (q : Nat) : (s.onGath d f).slc q = s.slc q := rfl
@[simp] theorem State.onGath_mem (s : State) (d : Nat) (f : Gather → Gather) (q : Nat) : (s.onGath d f).mem q = s.mem q := rfl
@[simp] theorem State.onGath_ctx (s : State) (d : Nat) (f : Gather → Gather) (q : Nat) : (s.onGath d f).ctx q = s.ctx q := rfl
@[simp] theorem State.onGath_port (s : State) (d : Nat) (f : Gather → Gather) (q : Nat) : (s.onGath d f).port q = s.port q := rfl
@[simp] theorem State.onGath_chan (s : State) (d : Nat) (f : Gather → Gather) (q : Nat) : (s.onGath d f).chan q = s.chan q := rfl
@[simp] theorem State.onGath_mb (s : State) (d : Nat) (f : Gather → Gather) (q : Nat) : (s.onGath d f).mb q = s.mb q := rfl
@[simp] theorem State.onGath_tenant (s : State) (d : Nat) (f : Gather → Gather) (q : Nat) : (s.onGath d f).tenant q = s.tenant q := rfl
@[simp] theorem State.onGath_fport (s : State) (d : Nat) (f : Gather → Gather) (q : Nat) : (s.onGath d f).fport q = s.fport q := rfl
@[simp] theorem State.onGath_dom (s : State) (d : Nat) (f : Gather → Gather) (q : Nat) : (s.onGath d f).dom q = s.dom q := rfl

@[simp] theorem State.onCtx_pending (s : State) (n : Nat) (f : Ctx → Ctx) : (s.onCtx n f).pending = s.pending := rfl
@[simp] theorem State.onCtx_regs (s : State) (n : Nat) (f : Ctx → Ctx) : (s.onCtx n f).regs = s.regs := rfl
@[simp] theorem State.onCtx_time (s : State) (n : Nat) (f : Ctx → Ctx) : (s.onCtx n f).time = s.time := rfl
@[simp] theorem State.onCtx_free (s : State) (n : Nat) (f : Ctx → Ctx) : (s.onCtx n f).free = s.free := rfl
@[simp] theorem State.onCtx_nextReq (s : State) (n : Nat) (f : Ctx → Ctx) : (s.onCtx n f).nextReq = s.nextReq := rfl
@[simp] theorem State.onCtx_out (s : State) (n : Nat) (f : Ctx → Ctx) : (s.onCtx n f).out = s.out := rfl
@[simp] theorem State.onCtx_told (s : State) (n : Nat) (f : Ctx → Ctx) : (s.onCtx n f).told = s.told := rfl
@[simp] theorem State.onCtx_blks (s : State) (n : Nat) (f : Ctx → Ctx) : (s.onCtx n f).blks = s.blks := rfl
@[simp] theorem State.onCtx_slices (s : State) (n : Nat) (f : Ctx → Ctx) : (s.onCtx n f).slices = s.slices := rfl
@[simp] theorem State.onCtx_pins (s : State) (n : Nat) (f : Ctx → Ctx) : (s.onCtx n f).pins = s.pins := rfl
@[simp] theorem State.onCtx_memcs (s : State) (n : Nat) (f : Ctx → Ctx) : (s.onCtx n f).memcs = s.memcs := rfl
@[simp] theorem State.onCtx_dram (s : State) (n : Nat) (f : Ctx → Ctx) : (s.onCtx n f).dram = s.dram := rfl
@[simp] theorem State.onCtx_sectors (s : State) (n : Nat) (f : Ctx → Ctx) : (s.onCtx n f).sectors = s.sectors := rfl
@[simp] theorem State.onCtx_reqs (s : State) (n : Nat) (f : Ctx → Ctx) : (s.onCtx n f).reqs = s.reqs := rfl
@[simp] theorem State.onCtx_resps (s : State) (n : Nat) (f : Ctx → Ctx) : (s.onCtx n f).resps = s.resps := rfl
@[simp] theorem State.onCtx_invs (s : State) (n : Nat) (f : Ctx → Ctx) : (s.onCtx n f).invs = s.invs := rfl
@[simp] theorem State.onCtx_gaths (s : State) (n : Nat) (f : Ctx → Ctx) : (s.onCtx n f).gaths = s.gaths := rfl
@[simp] theorem State.onCtx_plaza (s : State) (n : Nat) (f : Ctx → Ctx) : (s.onCtx n f).plaza = s.plaza := rfl
@[simp] theorem State.onCtx_errq (s : State) (n : Nat) (f : Ctx → Ctx) : (s.onCtx n f).errq = s.errq := rfl
@[simp] theorem State.onCtx_keys (s : State) (n : Nat) (f : Ctx → Ctx) : (s.onCtx n f).keys = s.keys := rfl
@[simp] theorem State.onCtx_ports (s : State) (n : Nat) (f : Ctx → Ctx) : (s.onCtx n f).ports = s.ports := rfl
@[simp] theorem State.onCtx_chans (s : State) (n : Nat) (f : Ctx → Ctx) : (s.onCtx n f).chans = s.chans := rfl
@[simp] theorem State.onCtx_fab (s : State) (n : Nat) (f : Ctx → Ctx) : (s.onCtx n f).fab = s.fab := rfl
@[simp] theorem State.onCtx_pwr (s : State) (n : Nat) (f : Ctx → Ctx) : (s.onCtx n f).pwr = s.pwr := rfl
@[simp] theorem State.onCtx_thm (s : State) (n : Nat) (f : Ctx → Ctx) : (s.onCtx n f).thm = s.thm := rfl
@[simp] theorem State.onCtx_nvm (s : State) (n : Nat) (f : Ctx → Ctx) : (s.onCtx n f).nvm = s.nvm := rfl
@[simp] theorem State.onCtx_later (s : State) (n : Nat) (f : Ctx → Ctx) : (s.onCtx n f).later = s.later := rfl
@[simp] theorem State.onCtx_mbs (s : State) (n : Nat) (f : Ctx → Ctx) : (s.onCtx n f).mbs = s.mbs := rfl
@[simp] theorem State.onCtx_sec (s : State) (n : Nat) (f : Ctx → Ctx) : (s.onCtx n f).sec = s.sec := rfl
@[simp] theorem State.onCtx_mgmt (s : State) (n : Nat) (f : Ctx → Ctx) : (s.onCtx n f).mgmt = s.mgmt := rfl
@[simp] theorem State.onCtx_parity (s : State) (n : Nat) (f : Ctx → Ctx) : (s.onCtx n f).parity = s.parity := rfl
@[simp] theorem State.onCtx_windows (s : State) (n : Nat) (f : Ctx → Ctx) : (s.onCtx n f).windows = s.windows := rfl
@[simp] theorem State.onCtx_winWait (s : State) (n : Nat) (f : Ctx → Ctx) : (s.onCtx n f).winWait = s.winWait := rfl
@[simp] theorem State.onCtx_latched (s : State) (n : Nat) (f : Ctx → Ctx) : (s.onCtx n f).latched = s.latched := rfl
@[simp] theorem State.onCtx_powered (s : State) (n : Nat) (f : Ctx → Ctx) : (s.onCtx n f).powered = s.powered := rfl
@[simp] theorem State.onCtx_clkLost (s : State) (n : Nat) (f : Ctx → Ctx) : (s.onCtx n f).clkLost = s.clkLost := rfl
@[simp] theorem State.onCtx_rdAt (s : State) (n : Nat) (f : Ctx → Ctx) (qg : Page) (w : Nat) (h : Fld) (j : Nat) : (s.onCtx n f).rdAt qg w h j = s.rdAt qg w h j := rfl
@[simp] theorem State.onCtx_rd (s : State) (n : Nat) (f : Ctx → Ctx) (h : Fld) (w j : Nat) : (s.onCtx n f).rd h w j = s.rd h w j := rfl
@[simp] theorem State.onCtx_blk (s : State) (n : Nat) (f : Ctx → Ctx) (q : Nat) : (s.onCtx n f).blk q = s.blk q := rfl
@[simp] theorem State.onCtx_slc (s : State) (n : Nat) (f : Ctx → Ctx) (q : Nat) : (s.onCtx n f).slc q = s.slc q := rfl
@[simp] theorem State.onCtx_mem (s : State) (n : Nat) (f : Ctx → Ctx) (q : Nat) : (s.onCtx n f).mem q = s.mem q := rfl
@[simp] theorem State.onCtx_gath (s : State) (n : Nat) (f : Ctx → Ctx) (q : Nat) : (s.onCtx n f).gath q = s.gath q := rfl
@[simp] theorem State.onCtx_port (s : State) (n : Nat) (f : Ctx → Ctx) (q : Nat) : (s.onCtx n f).port q = s.port q := rfl
@[simp] theorem State.onCtx_chan (s : State) (n : Nat) (f : Ctx → Ctx) (q : Nat) : (s.onCtx n f).chan q = s.chan q := rfl
@[simp] theorem State.onCtx_mb (s : State) (n : Nat) (f : Ctx → Ctx) (q : Nat) : (s.onCtx n f).mb q = s.mb q := rfl
@[simp] theorem State.onCtx_tenant (s : State) (n : Nat) (f : Ctx → Ctx) (q : Nat) : (s.onCtx n f).tenant q = s.tenant q := rfl
@[simp] theorem State.onCtx_fport (s : State) (n : Nat) (f : Ctx → Ctx) (q : Nat) : (s.onCtx n f).fport q = s.fport q := rfl
@[simp] theorem State.onCtx_dom (s : State) (n : Nat) (f : Ctx → Ctx) (q : Nat) : (s.onCtx n f).dom q = s.dom q := rfl

@[simp] theorem State.onPort_pending (s : State) (n : Nat) (f : Port → Port) : (s.onPort n f).pending = s.pending := rfl
@[simp] theorem State.onPort_regs (s : State) (n : Nat) (f : Port → Port) : (s.onPort n f).regs = s.regs := rfl
@[simp] theorem State.onPort_time (s : State) (n : Nat) (f : Port → Port) : (s.onPort n f).time = s.time := rfl
@[simp] theorem State.onPort_free (s : State) (n : Nat) (f : Port → Port) : (s.onPort n f).free = s.free := rfl
@[simp] theorem State.onPort_nextReq (s : State) (n : Nat) (f : Port → Port) : (s.onPort n f).nextReq = s.nextReq := rfl
@[simp] theorem State.onPort_out (s : State) (n : Nat) (f : Port → Port) : (s.onPort n f).out = s.out := rfl
@[simp] theorem State.onPort_told (s : State) (n : Nat) (f : Port → Port) : (s.onPort n f).told = s.told := rfl
@[simp] theorem State.onPort_blks (s : State) (n : Nat) (f : Port → Port) : (s.onPort n f).blks = s.blks := rfl
@[simp] theorem State.onPort_slices (s : State) (n : Nat) (f : Port → Port) : (s.onPort n f).slices = s.slices := rfl
@[simp] theorem State.onPort_pins (s : State) (n : Nat) (f : Port → Port) : (s.onPort n f).pins = s.pins := rfl
@[simp] theorem State.onPort_memcs (s : State) (n : Nat) (f : Port → Port) : (s.onPort n f).memcs = s.memcs := rfl
@[simp] theorem State.onPort_dram (s : State) (n : Nat) (f : Port → Port) : (s.onPort n f).dram = s.dram := rfl
@[simp] theorem State.onPort_sectors (s : State) (n : Nat) (f : Port → Port) : (s.onPort n f).sectors = s.sectors := rfl
@[simp] theorem State.onPort_reqs (s : State) (n : Nat) (f : Port → Port) : (s.onPort n f).reqs = s.reqs := rfl
@[simp] theorem State.onPort_resps (s : State) (n : Nat) (f : Port → Port) : (s.onPort n f).resps = s.resps := rfl
@[simp] theorem State.onPort_invs (s : State) (n : Nat) (f : Port → Port) : (s.onPort n f).invs = s.invs := rfl
@[simp] theorem State.onPort_gaths (s : State) (n : Nat) (f : Port → Port) : (s.onPort n f).gaths = s.gaths := rfl
@[simp] theorem State.onPort_ctxs (s : State) (n : Nat) (f : Port → Port) : (s.onPort n f).ctxs = s.ctxs := rfl
@[simp] theorem State.onPort_plaza (s : State) (n : Nat) (f : Port → Port) : (s.onPort n f).plaza = s.plaza := rfl
@[simp] theorem State.onPort_errq (s : State) (n : Nat) (f : Port → Port) : (s.onPort n f).errq = s.errq := rfl
@[simp] theorem State.onPort_keys (s : State) (n : Nat) (f : Port → Port) : (s.onPort n f).keys = s.keys := rfl
@[simp] theorem State.onPort_chans (s : State) (n : Nat) (f : Port → Port) : (s.onPort n f).chans = s.chans := rfl
@[simp] theorem State.onPort_fab (s : State) (n : Nat) (f : Port → Port) : (s.onPort n f).fab = s.fab := rfl
@[simp] theorem State.onPort_pwr (s : State) (n : Nat) (f : Port → Port) : (s.onPort n f).pwr = s.pwr := rfl
@[simp] theorem State.onPort_thm (s : State) (n : Nat) (f : Port → Port) : (s.onPort n f).thm = s.thm := rfl
@[simp] theorem State.onPort_nvm (s : State) (n : Nat) (f : Port → Port) : (s.onPort n f).nvm = s.nvm := rfl
@[simp] theorem State.onPort_later (s : State) (n : Nat) (f : Port → Port) : (s.onPort n f).later = s.later := rfl
@[simp] theorem State.onPort_mbs (s : State) (n : Nat) (f : Port → Port) : (s.onPort n f).mbs = s.mbs := rfl
@[simp] theorem State.onPort_sec (s : State) (n : Nat) (f : Port → Port) : (s.onPort n f).sec = s.sec := rfl
@[simp] theorem State.onPort_mgmt (s : State) (n : Nat) (f : Port → Port) : (s.onPort n f).mgmt = s.mgmt := rfl
@[simp] theorem State.onPort_parity (s : State) (n : Nat) (f : Port → Port) : (s.onPort n f).parity = s.parity := rfl
@[simp] theorem State.onPort_windows (s : State) (n : Nat) (f : Port → Port) : (s.onPort n f).windows = s.windows := rfl
@[simp] theorem State.onPort_winWait (s : State) (n : Nat) (f : Port → Port) : (s.onPort n f).winWait = s.winWait := rfl
@[simp] theorem State.onPort_latched (s : State) (n : Nat) (f : Port → Port) : (s.onPort n f).latched = s.latched := rfl
@[simp] theorem State.onPort_powered (s : State) (n : Nat) (f : Port → Port) : (s.onPort n f).powered = s.powered := rfl
@[simp] theorem State.onPort_clkLost (s : State) (n : Nat) (f : Port → Port) : (s.onPort n f).clkLost = s.clkLost := rfl
@[simp] theorem State.onPort_rdAt (s : State) (n : Nat) (f : Port → Port) (qg : Page) (w : Nat) (h : Fld) (j : Nat) : (s.onPort n f).rdAt qg w h j = s.rdAt qg w h j := rfl
@[simp] theorem State.onPort_rd (s : State) (n : Nat) (f : Port → Port) (h : Fld) (w j : Nat) : (s.onPort n f).rd h w j = s.rd h w j := rfl
@[simp] theorem State.onPort_blk (s : State) (n : Nat) (f : Port → Port) (q : Nat) : (s.onPort n f).blk q = s.blk q := rfl
@[simp] theorem State.onPort_slc (s : State) (n : Nat) (f : Port → Port) (q : Nat) : (s.onPort n f).slc q = s.slc q := rfl
@[simp] theorem State.onPort_mem (s : State) (n : Nat) (f : Port → Port) (q : Nat) : (s.onPort n f).mem q = s.mem q := rfl
@[simp] theorem State.onPort_gath (s : State) (n : Nat) (f : Port → Port) (q : Nat) : (s.onPort n f).gath q = s.gath q := rfl
@[simp] theorem State.onPort_ctx (s : State) (n : Nat) (f : Port → Port) (q : Nat) : (s.onPort n f).ctx q = s.ctx q := rfl
@[simp] theorem State.onPort_chan (s : State) (n : Nat) (f : Port → Port) (q : Nat) : (s.onPort n f).chan q = s.chan q := rfl
@[simp] theorem State.onPort_mb (s : State) (n : Nat) (f : Port → Port) (q : Nat) : (s.onPort n f).mb q = s.mb q := rfl
@[simp] theorem State.onPort_tenant (s : State) (n : Nat) (f : Port → Port) (q : Nat) : (s.onPort n f).tenant q = s.tenant q := rfl
@[simp] theorem State.onPort_fport (s : State) (n : Nat) (f : Port → Port) (q : Nat) : (s.onPort n f).fport q = s.fport q := rfl
@[simp] theorem State.onPort_dom (s : State) (n : Nat) (f : Port → Port) (q : Nat) : (s.onPort n f).dom q = s.dom q := rfl

@[simp] theorem State.onChan_pending (s : State) (n : Nat) (f : Chan → Chan) : (s.onChan n f).pending = s.pending := rfl
@[simp] theorem State.onChan_regs (s : State) (n : Nat) (f : Chan → Chan) : (s.onChan n f).regs = s.regs := rfl
@[simp] theorem State.onChan_time (s : State) (n : Nat) (f : Chan → Chan) : (s.onChan n f).time = s.time := rfl
@[simp] theorem State.onChan_free (s : State) (n : Nat) (f : Chan → Chan) : (s.onChan n f).free = s.free := rfl
@[simp] theorem State.onChan_nextReq (s : State) (n : Nat) (f : Chan → Chan) : (s.onChan n f).nextReq = s.nextReq := rfl
@[simp] theorem State.onChan_out (s : State) (n : Nat) (f : Chan → Chan) : (s.onChan n f).out = s.out := rfl
@[simp] theorem State.onChan_told (s : State) (n : Nat) (f : Chan → Chan) : (s.onChan n f).told = s.told := rfl
@[simp] theorem State.onChan_blks (s : State) (n : Nat) (f : Chan → Chan) : (s.onChan n f).blks = s.blks := rfl
@[simp] theorem State.onChan_slices (s : State) (n : Nat) (f : Chan → Chan) : (s.onChan n f).slices = s.slices := rfl
@[simp] theorem State.onChan_pins (s : State) (n : Nat) (f : Chan → Chan) : (s.onChan n f).pins = s.pins := rfl
@[simp] theorem State.onChan_memcs (s : State) (n : Nat) (f : Chan → Chan) : (s.onChan n f).memcs = s.memcs := rfl
@[simp] theorem State.onChan_dram (s : State) (n : Nat) (f : Chan → Chan) : (s.onChan n f).dram = s.dram := rfl
@[simp] theorem State.onChan_sectors (s : State) (n : Nat) (f : Chan → Chan) : (s.onChan n f).sectors = s.sectors := rfl
@[simp] theorem State.onChan_reqs (s : State) (n : Nat) (f : Chan → Chan) : (s.onChan n f).reqs = s.reqs := rfl
@[simp] theorem State.onChan_resps (s : State) (n : Nat) (f : Chan → Chan) : (s.onChan n f).resps = s.resps := rfl
@[simp] theorem State.onChan_invs (s : State) (n : Nat) (f : Chan → Chan) : (s.onChan n f).invs = s.invs := rfl
@[simp] theorem State.onChan_gaths (s : State) (n : Nat) (f : Chan → Chan) : (s.onChan n f).gaths = s.gaths := rfl
@[simp] theorem State.onChan_ctxs (s : State) (n : Nat) (f : Chan → Chan) : (s.onChan n f).ctxs = s.ctxs := rfl
@[simp] theorem State.onChan_plaza (s : State) (n : Nat) (f : Chan → Chan) : (s.onChan n f).plaza = s.plaza := rfl
@[simp] theorem State.onChan_errq (s : State) (n : Nat) (f : Chan → Chan) : (s.onChan n f).errq = s.errq := rfl
@[simp] theorem State.onChan_keys (s : State) (n : Nat) (f : Chan → Chan) : (s.onChan n f).keys = s.keys := rfl
@[simp] theorem State.onChan_ports (s : State) (n : Nat) (f : Chan → Chan) : (s.onChan n f).ports = s.ports := rfl
@[simp] theorem State.onChan_fab (s : State) (n : Nat) (f : Chan → Chan) : (s.onChan n f).fab = s.fab := rfl
@[simp] theorem State.onChan_pwr (s : State) (n : Nat) (f : Chan → Chan) : (s.onChan n f).pwr = s.pwr := rfl
@[simp] theorem State.onChan_thm (s : State) (n : Nat) (f : Chan → Chan) : (s.onChan n f).thm = s.thm := rfl
@[simp] theorem State.onChan_nvm (s : State) (n : Nat) (f : Chan → Chan) : (s.onChan n f).nvm = s.nvm := rfl
@[simp] theorem State.onChan_later (s : State) (n : Nat) (f : Chan → Chan) : (s.onChan n f).later = s.later := rfl
@[simp] theorem State.onChan_mbs (s : State) (n : Nat) (f : Chan → Chan) : (s.onChan n f).mbs = s.mbs := rfl
@[simp] theorem State.onChan_sec (s : State) (n : Nat) (f : Chan → Chan) : (s.onChan n f).sec = s.sec := rfl
@[simp] theorem State.onChan_mgmt (s : State) (n : Nat) (f : Chan → Chan) : (s.onChan n f).mgmt = s.mgmt := rfl
@[simp] theorem State.onChan_parity (s : State) (n : Nat) (f : Chan → Chan) : (s.onChan n f).parity = s.parity := rfl
@[simp] theorem State.onChan_windows (s : State) (n : Nat) (f : Chan → Chan) : (s.onChan n f).windows = s.windows := rfl
@[simp] theorem State.onChan_winWait (s : State) (n : Nat) (f : Chan → Chan) : (s.onChan n f).winWait = s.winWait := rfl
@[simp] theorem State.onChan_latched (s : State) (n : Nat) (f : Chan → Chan) : (s.onChan n f).latched = s.latched := rfl
@[simp] theorem State.onChan_powered (s : State) (n : Nat) (f : Chan → Chan) : (s.onChan n f).powered = s.powered := rfl
@[simp] theorem State.onChan_clkLost (s : State) (n : Nat) (f : Chan → Chan) : (s.onChan n f).clkLost = s.clkLost := rfl
@[simp] theorem State.onChan_rdAt (s : State) (n : Nat) (f : Chan → Chan) (qg : Page) (w : Nat) (h : Fld) (j : Nat) : (s.onChan n f).rdAt qg w h j = s.rdAt qg w h j := rfl
@[simp] theorem State.onChan_rd (s : State) (n : Nat) (f : Chan → Chan) (h : Fld) (w j : Nat) : (s.onChan n f).rd h w j = s.rd h w j := rfl
@[simp] theorem State.onChan_blk (s : State) (n : Nat) (f : Chan → Chan) (q : Nat) : (s.onChan n f).blk q = s.blk q := rfl
@[simp] theorem State.onChan_slc (s : State) (n : Nat) (f : Chan → Chan) (q : Nat) : (s.onChan n f).slc q = s.slc q := rfl
@[simp] theorem State.onChan_mem (s : State) (n : Nat) (f : Chan → Chan) (q : Nat) : (s.onChan n f).mem q = s.mem q := rfl
@[simp] theorem State.onChan_gath (s : State) (n : Nat) (f : Chan → Chan) (q : Nat) : (s.onChan n f).gath q = s.gath q := rfl
@[simp] theorem State.onChan_ctx (s : State) (n : Nat) (f : Chan → Chan) (q : Nat) : (s.onChan n f).ctx q = s.ctx q := rfl
@[simp] theorem State.onChan_port (s : State) (n : Nat) (f : Chan → Chan) (q : Nat) : (s.onChan n f).port q = s.port q := rfl
@[simp] theorem State.onChan_mb (s : State) (n : Nat) (f : Chan → Chan) (q : Nat) : (s.onChan n f).mb q = s.mb q := rfl
@[simp] theorem State.onChan_tenant (s : State) (n : Nat) (f : Chan → Chan) (q : Nat) : (s.onChan n f).tenant q = s.tenant q := rfl
@[simp] theorem State.onChan_fport (s : State) (n : Nat) (f : Chan → Chan) (q : Nat) : (s.onChan n f).fport q = s.fport q := rfl
@[simp] theorem State.onChan_dom (s : State) (n : Nat) (f : Chan → Chan) (q : Nat) : (s.onChan n f).dom q = s.dom q := rfl

@[simp] theorem State.onMb_pending (s : State) (m : Nat) (f : Mailbox → Mailbox) : (s.onMb m f).pending = s.pending := rfl
@[simp] theorem State.onMb_regs (s : State) (m : Nat) (f : Mailbox → Mailbox) : (s.onMb m f).regs = s.regs := rfl
@[simp] theorem State.onMb_time (s : State) (m : Nat) (f : Mailbox → Mailbox) : (s.onMb m f).time = s.time := rfl
@[simp] theorem State.onMb_free (s : State) (m : Nat) (f : Mailbox → Mailbox) : (s.onMb m f).free = s.free := rfl
@[simp] theorem State.onMb_nextReq (s : State) (m : Nat) (f : Mailbox → Mailbox) : (s.onMb m f).nextReq = s.nextReq := rfl
@[simp] theorem State.onMb_out (s : State) (m : Nat) (f : Mailbox → Mailbox) : (s.onMb m f).out = s.out := rfl
@[simp] theorem State.onMb_told (s : State) (m : Nat) (f : Mailbox → Mailbox) : (s.onMb m f).told = s.told := rfl
@[simp] theorem State.onMb_blks (s : State) (m : Nat) (f : Mailbox → Mailbox) : (s.onMb m f).blks = s.blks := rfl
@[simp] theorem State.onMb_slices (s : State) (m : Nat) (f : Mailbox → Mailbox) : (s.onMb m f).slices = s.slices := rfl
@[simp] theorem State.onMb_pins (s : State) (m : Nat) (f : Mailbox → Mailbox) : (s.onMb m f).pins = s.pins := rfl
@[simp] theorem State.onMb_memcs (s : State) (m : Nat) (f : Mailbox → Mailbox) : (s.onMb m f).memcs = s.memcs := rfl
@[simp] theorem State.onMb_dram (s : State) (m : Nat) (f : Mailbox → Mailbox) : (s.onMb m f).dram = s.dram := rfl
@[simp] theorem State.onMb_sectors (s : State) (m : Nat) (f : Mailbox → Mailbox) : (s.onMb m f).sectors = s.sectors := rfl
@[simp] theorem State.onMb_reqs (s : State) (m : Nat) (f : Mailbox → Mailbox) : (s.onMb m f).reqs = s.reqs := rfl
@[simp] theorem State.onMb_resps (s : State) (m : Nat) (f : Mailbox → Mailbox) : (s.onMb m f).resps = s.resps := rfl
@[simp] theorem State.onMb_invs (s : State) (m : Nat) (f : Mailbox → Mailbox) : (s.onMb m f).invs = s.invs := rfl
@[simp] theorem State.onMb_gaths (s : State) (m : Nat) (f : Mailbox → Mailbox) : (s.onMb m f).gaths = s.gaths := rfl
@[simp] theorem State.onMb_ctxs (s : State) (m : Nat) (f : Mailbox → Mailbox) : (s.onMb m f).ctxs = s.ctxs := rfl
@[simp] theorem State.onMb_plaza (s : State) (m : Nat) (f : Mailbox → Mailbox) : (s.onMb m f).plaza = s.plaza := rfl
@[simp] theorem State.onMb_errq (s : State) (m : Nat) (f : Mailbox → Mailbox) : (s.onMb m f).errq = s.errq := rfl
@[simp] theorem State.onMb_keys (s : State) (m : Nat) (f : Mailbox → Mailbox) : (s.onMb m f).keys = s.keys := rfl
@[simp] theorem State.onMb_ports (s : State) (m : Nat) (f : Mailbox → Mailbox) : (s.onMb m f).ports = s.ports := rfl
@[simp] theorem State.onMb_chans (s : State) (m : Nat) (f : Mailbox → Mailbox) : (s.onMb m f).chans = s.chans := rfl
@[simp] theorem State.onMb_fab (s : State) (m : Nat) (f : Mailbox → Mailbox) : (s.onMb m f).fab = s.fab := rfl
@[simp] theorem State.onMb_pwr (s : State) (m : Nat) (f : Mailbox → Mailbox) : (s.onMb m f).pwr = s.pwr := rfl
@[simp] theorem State.onMb_thm (s : State) (m : Nat) (f : Mailbox → Mailbox) : (s.onMb m f).thm = s.thm := rfl
@[simp] theorem State.onMb_nvm (s : State) (m : Nat) (f : Mailbox → Mailbox) : (s.onMb m f).nvm = s.nvm := rfl
@[simp] theorem State.onMb_later (s : State) (m : Nat) (f : Mailbox → Mailbox) : (s.onMb m f).later = s.later := rfl
@[simp] theorem State.onMb_sec (s : State) (m : Nat) (f : Mailbox → Mailbox) : (s.onMb m f).sec = s.sec := rfl
@[simp] theorem State.onMb_mgmt (s : State) (m : Nat) (f : Mailbox → Mailbox) : (s.onMb m f).mgmt = s.mgmt := rfl
@[simp] theorem State.onMb_parity (s : State) (m : Nat) (f : Mailbox → Mailbox) : (s.onMb m f).parity = s.parity := rfl
@[simp] theorem State.onMb_windows (s : State) (m : Nat) (f : Mailbox → Mailbox) : (s.onMb m f).windows = s.windows := rfl
@[simp] theorem State.onMb_winWait (s : State) (m : Nat) (f : Mailbox → Mailbox) : (s.onMb m f).winWait = s.winWait := rfl
@[simp] theorem State.onMb_latched (s : State) (m : Nat) (f : Mailbox → Mailbox) : (s.onMb m f).latched = s.latched := rfl
@[simp] theorem State.onMb_powered (s : State) (m : Nat) (f : Mailbox → Mailbox) : (s.onMb m f).powered = s.powered := rfl
@[simp] theorem State.onMb_clkLost (s : State) (m : Nat) (f : Mailbox → Mailbox) : (s.onMb m f).clkLost = s.clkLost := rfl
@[simp] theorem State.onMb_rdAt (s : State) (m : Nat) (f : Mailbox → Mailbox) (qg : Page) (w : Nat) (h : Fld) (j : Nat) : (s.onMb m f).rdAt qg w h j = s.rdAt qg w h j := rfl
@[simp] theorem State.onMb_rd (s : State) (m : Nat) (f : Mailbox → Mailbox) (h : Fld) (w j : Nat) : (s.onMb m f).rd h w j = s.rd h w j := rfl
@[simp] theorem State.onMb_blk (s : State) (m : Nat) (f : Mailbox → Mailbox) (q : Nat) : (s.onMb m f).blk q = s.blk q := rfl
@[simp] theorem State.onMb_slc (s : State) (m : Nat) (f : Mailbox → Mailbox) (q : Nat) : (s.onMb m f).slc q = s.slc q := rfl
@[simp] theorem State.onMb_mem (s : State) (m : Nat) (f : Mailbox → Mailbox) (q : Nat) : (s.onMb m f).mem q = s.mem q := rfl
@[simp] theorem State.onMb_gath (s : State) (m : Nat) (f : Mailbox → Mailbox) (q : Nat) : (s.onMb m f).gath q = s.gath q := rfl
@[simp] theorem State.onMb_ctx (s : State) (m : Nat) (f : Mailbox → Mailbox) (q : Nat) : (s.onMb m f).ctx q = s.ctx q := rfl
@[simp] theorem State.onMb_port (s : State) (m : Nat) (f : Mailbox → Mailbox) (q : Nat) : (s.onMb m f).port q = s.port q := rfl
@[simp] theorem State.onMb_chan (s : State) (m : Nat) (f : Mailbox → Mailbox) (q : Nat) : (s.onMb m f).chan q = s.chan q := rfl
@[simp] theorem State.onMb_tenant (s : State) (m : Nat) (f : Mailbox → Mailbox) (q : Nat) : (s.onMb m f).tenant q = s.tenant q := rfl
@[simp] theorem State.onMb_fport (s : State) (m : Nat) (f : Mailbox → Mailbox) (q : Nat) : (s.onMb m f).fport q = s.fport q := rfl
@[simp] theorem State.onMb_dom (s : State) (m : Nat) (f : Mailbox → Mailbox) (q : Nat) : (s.onMb m f).dom q = s.dom q := rfl

@[simp] theorem State.onTenant_pending (s : State) (t : Nat) (f : Tenant → Tenant) : (s.onTenant t f).pending = s.pending := rfl
@[simp] theorem State.onTenant_regs (s : State) (t : Nat) (f : Tenant → Tenant) : (s.onTenant t f).regs = s.regs := rfl
@[simp] theorem State.onTenant_time (s : State) (t : Nat) (f : Tenant → Tenant) : (s.onTenant t f).time = s.time := rfl
@[simp] theorem State.onTenant_free (s : State) (t : Nat) (f : Tenant → Tenant) : (s.onTenant t f).free = s.free := rfl
@[simp] theorem State.onTenant_nextReq (s : State) (t : Nat) (f : Tenant → Tenant) : (s.onTenant t f).nextReq = s.nextReq := rfl
@[simp] theorem State.onTenant_out (s : State) (t : Nat) (f : Tenant → Tenant) : (s.onTenant t f).out = s.out := rfl
@[simp] theorem State.onTenant_told (s : State) (t : Nat) (f : Tenant → Tenant) : (s.onTenant t f).told = s.told := rfl
@[simp] theorem State.onTenant_blks (s : State) (t : Nat) (f : Tenant → Tenant) : (s.onTenant t f).blks = s.blks := rfl
@[simp] theorem State.onTenant_slices (s : State) (t : Nat) (f : Tenant → Tenant) : (s.onTenant t f).slices = s.slices := rfl
@[simp] theorem State.onTenant_pins (s : State) (t : Nat) (f : Tenant → Tenant) : (s.onTenant t f).pins = s.pins := rfl
@[simp] theorem State.onTenant_memcs (s : State) (t : Nat) (f : Tenant → Tenant) : (s.onTenant t f).memcs = s.memcs := rfl
@[simp] theorem State.onTenant_dram (s : State) (t : Nat) (f : Tenant → Tenant) : (s.onTenant t f).dram = s.dram := rfl
@[simp] theorem State.onTenant_sectors (s : State) (t : Nat) (f : Tenant → Tenant) : (s.onTenant t f).sectors = s.sectors := rfl
@[simp] theorem State.onTenant_reqs (s : State) (t : Nat) (f : Tenant → Tenant) : (s.onTenant t f).reqs = s.reqs := rfl
@[simp] theorem State.onTenant_resps (s : State) (t : Nat) (f : Tenant → Tenant) : (s.onTenant t f).resps = s.resps := rfl
@[simp] theorem State.onTenant_invs (s : State) (t : Nat) (f : Tenant → Tenant) : (s.onTenant t f).invs = s.invs := rfl
@[simp] theorem State.onTenant_gaths (s : State) (t : Nat) (f : Tenant → Tenant) : (s.onTenant t f).gaths = s.gaths := rfl
@[simp] theorem State.onTenant_ctxs (s : State) (t : Nat) (f : Tenant → Tenant) : (s.onTenant t f).ctxs = s.ctxs := rfl
@[simp] theorem State.onTenant_plaza (s : State) (t : Nat) (f : Tenant → Tenant) : (s.onTenant t f).plaza = s.plaza := rfl
@[simp] theorem State.onTenant_errq (s : State) (t : Nat) (f : Tenant → Tenant) : (s.onTenant t f).errq = s.errq := rfl
@[simp] theorem State.onTenant_keys (s : State) (t : Nat) (f : Tenant → Tenant) : (s.onTenant t f).keys = s.keys := rfl
@[simp] theorem State.onTenant_ports (s : State) (t : Nat) (f : Tenant → Tenant) : (s.onTenant t f).ports = s.ports := rfl
@[simp] theorem State.onTenant_chans (s : State) (t : Nat) (f : Tenant → Tenant) : (s.onTenant t f).chans = s.chans := rfl
@[simp] theorem State.onTenant_fab (s : State) (t : Nat) (f : Tenant → Tenant) : (s.onTenant t f).fab = s.fab := rfl
@[simp] theorem State.onTenant_pwr (s : State) (t : Nat) (f : Tenant → Tenant) : (s.onTenant t f).pwr = s.pwr := rfl
@[simp] theorem State.onTenant_thm (s : State) (t : Nat) (f : Tenant → Tenant) : (s.onTenant t f).thm = s.thm := rfl
@[simp] theorem State.onTenant_nvm (s : State) (t : Nat) (f : Tenant → Tenant) : (s.onTenant t f).nvm = s.nvm := rfl
@[simp] theorem State.onTenant_later (s : State) (t : Nat) (f : Tenant → Tenant) : (s.onTenant t f).later = s.later := rfl
@[simp] theorem State.onTenant_mbs (s : State) (t : Nat) (f : Tenant → Tenant) : (s.onTenant t f).mbs = s.mbs := rfl
@[simp] theorem State.onTenant_mgmt (s : State) (t : Nat) (f : Tenant → Tenant) : (s.onTenant t f).mgmt = s.mgmt := rfl
@[simp] theorem State.onTenant_parity (s : State) (t : Nat) (f : Tenant → Tenant) : (s.onTenant t f).parity = s.parity := rfl
@[simp] theorem State.onTenant_windows (s : State) (t : Nat) (f : Tenant → Tenant) : (s.onTenant t f).windows = s.windows := rfl
@[simp] theorem State.onTenant_winWait (s : State) (t : Nat) (f : Tenant → Tenant) : (s.onTenant t f).winWait = s.winWait := rfl
@[simp] theorem State.onTenant_latched (s : State) (t : Nat) (f : Tenant → Tenant) : (s.onTenant t f).latched = s.latched := rfl
@[simp] theorem State.onTenant_powered (s : State) (t : Nat) (f : Tenant → Tenant) : (s.onTenant t f).powered = s.powered := rfl
@[simp] theorem State.onTenant_clkLost (s : State) (t : Nat) (f : Tenant → Tenant) : (s.onTenant t f).clkLost = s.clkLost := rfl
@[simp] theorem State.onTenant_rdAt (s : State) (t : Nat) (f : Tenant → Tenant) (qg : Page) (w : Nat) (h : Fld) (j : Nat) : (s.onTenant t f).rdAt qg w h j = s.rdAt qg w h j := rfl
@[simp] theorem State.onTenant_rd (s : State) (t : Nat) (f : Tenant → Tenant) (h : Fld) (w j : Nat) : (s.onTenant t f).rd h w j = s.rd h w j := rfl
@[simp] theorem State.onTenant_blk (s : State) (t : Nat) (f : Tenant → Tenant) (q : Nat) : (s.onTenant t f).blk q = s.blk q := rfl
@[simp] theorem State.onTenant_slc (s : State) (t : Nat) (f : Tenant → Tenant) (q : Nat) : (s.onTenant t f).slc q = s.slc q := rfl
@[simp] theorem State.onTenant_mem (s : State) (t : Nat) (f : Tenant → Tenant) (q : Nat) : (s.onTenant t f).mem q = s.mem q := rfl
@[simp] theorem State.onTenant_gath (s : State) (t : Nat) (f : Tenant → Tenant) (q : Nat) : (s.onTenant t f).gath q = s.gath q := rfl
@[simp] theorem State.onTenant_ctx (s : State) (t : Nat) (f : Tenant → Tenant) (q : Nat) : (s.onTenant t f).ctx q = s.ctx q := rfl
@[simp] theorem State.onTenant_port (s : State) (t : Nat) (f : Tenant → Tenant) (q : Nat) : (s.onTenant t f).port q = s.port q := rfl
@[simp] theorem State.onTenant_chan (s : State) (t : Nat) (f : Tenant → Tenant) (q : Nat) : (s.onTenant t f).chan q = s.chan q := rfl
@[simp] theorem State.onTenant_mb (s : State) (t : Nat) (f : Tenant → Tenant) (q : Nat) : (s.onTenant t f).mb q = s.mb q := rfl
@[simp] theorem State.onTenant_fport (s : State) (t : Nat) (f : Tenant → Tenant) (q : Nat) : (s.onTenant t f).fport q = s.fport q := rfl
@[simp] theorem State.onTenant_dom (s : State) (t : Nat) (f : Tenant → Tenant) (q : Nat) : (s.onTenant t f).dom q = s.dom q := rfl

@[simp] theorem State.onFport_pending (s : State) (p : Nat) (f : FabPort → FabPort) : (s.onFport p f).pending = s.pending := rfl
@[simp] theorem State.onFport_regs (s : State) (p : Nat) (f : FabPort → FabPort) : (s.onFport p f).regs = s.regs := rfl
@[simp] theorem State.onFport_time (s : State) (p : Nat) (f : FabPort → FabPort) : (s.onFport p f).time = s.time := rfl
@[simp] theorem State.onFport_free (s : State) (p : Nat) (f : FabPort → FabPort) : (s.onFport p f).free = s.free := rfl
@[simp] theorem State.onFport_nextReq (s : State) (p : Nat) (f : FabPort → FabPort) : (s.onFport p f).nextReq = s.nextReq := rfl
@[simp] theorem State.onFport_out (s : State) (p : Nat) (f : FabPort → FabPort) : (s.onFport p f).out = s.out := rfl
@[simp] theorem State.onFport_told (s : State) (p : Nat) (f : FabPort → FabPort) : (s.onFport p f).told = s.told := rfl
@[simp] theorem State.onFport_blks (s : State) (p : Nat) (f : FabPort → FabPort) : (s.onFport p f).blks = s.blks := rfl
@[simp] theorem State.onFport_slices (s : State) (p : Nat) (f : FabPort → FabPort) : (s.onFport p f).slices = s.slices := rfl
@[simp] theorem State.onFport_pins (s : State) (p : Nat) (f : FabPort → FabPort) : (s.onFport p f).pins = s.pins := rfl
@[simp] theorem State.onFport_memcs (s : State) (p : Nat) (f : FabPort → FabPort) : (s.onFport p f).memcs = s.memcs := rfl
@[simp] theorem State.onFport_dram (s : State) (p : Nat) (f : FabPort → FabPort) : (s.onFport p f).dram = s.dram := rfl
@[simp] theorem State.onFport_sectors (s : State) (p : Nat) (f : FabPort → FabPort) : (s.onFport p f).sectors = s.sectors := rfl
@[simp] theorem State.onFport_reqs (s : State) (p : Nat) (f : FabPort → FabPort) : (s.onFport p f).reqs = s.reqs := rfl
@[simp] theorem State.onFport_resps (s : State) (p : Nat) (f : FabPort → FabPort) : (s.onFport p f).resps = s.resps := rfl
@[simp] theorem State.onFport_invs (s : State) (p : Nat) (f : FabPort → FabPort) : (s.onFport p f).invs = s.invs := rfl
@[simp] theorem State.onFport_gaths (s : State) (p : Nat) (f : FabPort → FabPort) : (s.onFport p f).gaths = s.gaths := rfl
@[simp] theorem State.onFport_ctxs (s : State) (p : Nat) (f : FabPort → FabPort) : (s.onFport p f).ctxs = s.ctxs := rfl
@[simp] theorem State.onFport_plaza (s : State) (p : Nat) (f : FabPort → FabPort) : (s.onFport p f).plaza = s.plaza := rfl
@[simp] theorem State.onFport_errq (s : State) (p : Nat) (f : FabPort → FabPort) : (s.onFport p f).errq = s.errq := rfl
@[simp] theorem State.onFport_keys (s : State) (p : Nat) (f : FabPort → FabPort) : (s.onFport p f).keys = s.keys := rfl
@[simp] theorem State.onFport_ports (s : State) (p : Nat) (f : FabPort → FabPort) : (s.onFport p f).ports = s.ports := rfl
@[simp] theorem State.onFport_chans (s : State) (p : Nat) (f : FabPort → FabPort) : (s.onFport p f).chans = s.chans := rfl
@[simp] theorem State.onFport_pwr (s : State) (p : Nat) (f : FabPort → FabPort) : (s.onFport p f).pwr = s.pwr := rfl
@[simp] theorem State.onFport_thm (s : State) (p : Nat) (f : FabPort → FabPort) : (s.onFport p f).thm = s.thm := rfl
@[simp] theorem State.onFport_nvm (s : State) (p : Nat) (f : FabPort → FabPort) : (s.onFport p f).nvm = s.nvm := rfl
@[simp] theorem State.onFport_later (s : State) (p : Nat) (f : FabPort → FabPort) : (s.onFport p f).later = s.later := rfl
@[simp] theorem State.onFport_mbs (s : State) (p : Nat) (f : FabPort → FabPort) : (s.onFport p f).mbs = s.mbs := rfl
@[simp] theorem State.onFport_sec (s : State) (p : Nat) (f : FabPort → FabPort) : (s.onFport p f).sec = s.sec := rfl
@[simp] theorem State.onFport_mgmt (s : State) (p : Nat) (f : FabPort → FabPort) : (s.onFport p f).mgmt = s.mgmt := rfl
@[simp] theorem State.onFport_parity (s : State) (p : Nat) (f : FabPort → FabPort) : (s.onFport p f).parity = s.parity := rfl
@[simp] theorem State.onFport_windows (s : State) (p : Nat) (f : FabPort → FabPort) : (s.onFport p f).windows = s.windows := rfl
@[simp] theorem State.onFport_winWait (s : State) (p : Nat) (f : FabPort → FabPort) : (s.onFport p f).winWait = s.winWait := rfl
@[simp] theorem State.onFport_latched (s : State) (p : Nat) (f : FabPort → FabPort) : (s.onFport p f).latched = s.latched := rfl
@[simp] theorem State.onFport_powered (s : State) (p : Nat) (f : FabPort → FabPort) : (s.onFport p f).powered = s.powered := rfl
@[simp] theorem State.onFport_clkLost (s : State) (p : Nat) (f : FabPort → FabPort) : (s.onFport p f).clkLost = s.clkLost := rfl
@[simp] theorem State.onFport_rdAt (s : State) (p : Nat) (f : FabPort → FabPort) (qg : Page) (w : Nat) (h : Fld) (j : Nat) : (s.onFport p f).rdAt qg w h j = s.rdAt qg w h j := rfl
@[simp] theorem State.onFport_rd (s : State) (p : Nat) (f : FabPort → FabPort) (h : Fld) (w j : Nat) : (s.onFport p f).rd h w j = s.rd h w j := rfl
@[simp] theorem State.onFport_blk (s : State) (p : Nat) (f : FabPort → FabPort) (q : Nat) : (s.onFport p f).blk q = s.blk q := rfl
@[simp] theorem State.onFport_slc (s : State) (p : Nat) (f : FabPort → FabPort) (q : Nat) : (s.onFport p f).slc q = s.slc q := rfl
@[simp] theorem State.onFport_mem (s : State) (p : Nat) (f : FabPort → FabPort) (q : Nat) : (s.onFport p f).mem q = s.mem q := rfl
@[simp] theorem State.onFport_gath (s : State) (p : Nat) (f : FabPort → FabPort) (q : Nat) : (s.onFport p f).gath q = s.gath q := rfl
@[simp] theorem State.onFport_ctx (s : State) (p : Nat) (f : FabPort → FabPort) (q : Nat) : (s.onFport p f).ctx q = s.ctx q := rfl
@[simp] theorem State.onFport_port (s : State) (p : Nat) (f : FabPort → FabPort) (q : Nat) : (s.onFport p f).port q = s.port q := rfl
@[simp] theorem State.onFport_chan (s : State) (p : Nat) (f : FabPort → FabPort) (q : Nat) : (s.onFport p f).chan q = s.chan q := rfl
@[simp] theorem State.onFport_mb (s : State) (p : Nat) (f : FabPort → FabPort) (q : Nat) : (s.onFport p f).mb q = s.mb q := rfl
@[simp] theorem State.onFport_tenant (s : State) (p : Nat) (f : FabPort → FabPort) (q : Nat) : (s.onFport p f).tenant q = s.tenant q := rfl
@[simp] theorem State.onFport_dom (s : State) (p : Nat) (f : FabPort → FabPort) (q : Nat) : (s.onFport p f).dom q = s.dom q := rfl

@[simp] theorem State.onDom_pending (s : State) (n : Nat) (f : Dom → Dom) : (s.onDom n f).pending = s.pending := rfl
@[simp] theorem State.onDom_regs (s : State) (n : Nat) (f : Dom → Dom) : (s.onDom n f).regs = s.regs := rfl
@[simp] theorem State.onDom_time (s : State) (n : Nat) (f : Dom → Dom) : (s.onDom n f).time = s.time := rfl
@[simp] theorem State.onDom_free (s : State) (n : Nat) (f : Dom → Dom) : (s.onDom n f).free = s.free := rfl
@[simp] theorem State.onDom_nextReq (s : State) (n : Nat) (f : Dom → Dom) : (s.onDom n f).nextReq = s.nextReq := rfl
@[simp] theorem State.onDom_out (s : State) (n : Nat) (f : Dom → Dom) : (s.onDom n f).out = s.out := rfl
@[simp] theorem State.onDom_told (s : State) (n : Nat) (f : Dom → Dom) : (s.onDom n f).told = s.told := rfl
@[simp] theorem State.onDom_blks (s : State) (n : Nat) (f : Dom → Dom) : (s.onDom n f).blks = s.blks := rfl
@[simp] theorem State.onDom_slices (s : State) (n : Nat) (f : Dom → Dom) : (s.onDom n f).slices = s.slices := rfl
@[simp] theorem State.onDom_pins (s : State) (n : Nat) (f : Dom → Dom) : (s.onDom n f).pins = s.pins := rfl
@[simp] theorem State.onDom_memcs (s : State) (n : Nat) (f : Dom → Dom) : (s.onDom n f).memcs = s.memcs := rfl
@[simp] theorem State.onDom_dram (s : State) (n : Nat) (f : Dom → Dom) : (s.onDom n f).dram = s.dram := rfl
@[simp] theorem State.onDom_sectors (s : State) (n : Nat) (f : Dom → Dom) : (s.onDom n f).sectors = s.sectors := rfl
@[simp] theorem State.onDom_reqs (s : State) (n : Nat) (f : Dom → Dom) : (s.onDom n f).reqs = s.reqs := rfl
@[simp] theorem State.onDom_resps (s : State) (n : Nat) (f : Dom → Dom) : (s.onDom n f).resps = s.resps := rfl
@[simp] theorem State.onDom_invs (s : State) (n : Nat) (f : Dom → Dom) : (s.onDom n f).invs = s.invs := rfl
@[simp] theorem State.onDom_gaths (s : State) (n : Nat) (f : Dom → Dom) : (s.onDom n f).gaths = s.gaths := rfl
@[simp] theorem State.onDom_ctxs (s : State) (n : Nat) (f : Dom → Dom) : (s.onDom n f).ctxs = s.ctxs := rfl
@[simp] theorem State.onDom_plaza (s : State) (n : Nat) (f : Dom → Dom) : (s.onDom n f).plaza = s.plaza := rfl
@[simp] theorem State.onDom_errq (s : State) (n : Nat) (f : Dom → Dom) : (s.onDom n f).errq = s.errq := rfl
@[simp] theorem State.onDom_keys (s : State) (n : Nat) (f : Dom → Dom) : (s.onDom n f).keys = s.keys := rfl
@[simp] theorem State.onDom_ports (s : State) (n : Nat) (f : Dom → Dom) : (s.onDom n f).ports = s.ports := rfl
@[simp] theorem State.onDom_chans (s : State) (n : Nat) (f : Dom → Dom) : (s.onDom n f).chans = s.chans := rfl
@[simp] theorem State.onDom_fab (s : State) (n : Nat) (f : Dom → Dom) : (s.onDom n f).fab = s.fab := rfl
@[simp] theorem State.onDom_thm (s : State) (n : Nat) (f : Dom → Dom) : (s.onDom n f).thm = s.thm := rfl
@[simp] theorem State.onDom_nvm (s : State) (n : Nat) (f : Dom → Dom) : (s.onDom n f).nvm = s.nvm := rfl
@[simp] theorem State.onDom_later (s : State) (n : Nat) (f : Dom → Dom) : (s.onDom n f).later = s.later := rfl
@[simp] theorem State.onDom_mbs (s : State) (n : Nat) (f : Dom → Dom) : (s.onDom n f).mbs = s.mbs := rfl
@[simp] theorem State.onDom_sec (s : State) (n : Nat) (f : Dom → Dom) : (s.onDom n f).sec = s.sec := rfl
@[simp] theorem State.onDom_mgmt (s : State) (n : Nat) (f : Dom → Dom) : (s.onDom n f).mgmt = s.mgmt := rfl
@[simp] theorem State.onDom_parity (s : State) (n : Nat) (f : Dom → Dom) : (s.onDom n f).parity = s.parity := rfl
@[simp] theorem State.onDom_windows (s : State) (n : Nat) (f : Dom → Dom) : (s.onDom n f).windows = s.windows := rfl
@[simp] theorem State.onDom_winWait (s : State) (n : Nat) (f : Dom → Dom) : (s.onDom n f).winWait = s.winWait := rfl
@[simp] theorem State.onDom_latched (s : State) (n : Nat) (f : Dom → Dom) : (s.onDom n f).latched = s.latched := rfl
@[simp] theorem State.onDom_powered (s : State) (n : Nat) (f : Dom → Dom) : (s.onDom n f).powered = s.powered := rfl
@[simp] theorem State.onDom_clkLost (s : State) (n : Nat) (f : Dom → Dom) : (s.onDom n f).clkLost = s.clkLost := rfl
@[simp] theorem State.onDom_rdAt (s : State) (n : Nat) (f : Dom → Dom) (qg : Page) (w : Nat) (h : Fld) (j : Nat) : (s.onDom n f).rdAt qg w h j = s.rdAt qg w h j := rfl
@[simp] theorem State.onDom_rd (s : State) (n : Nat) (f : Dom → Dom) (h : Fld) (w j : Nat) : (s.onDom n f).rd h w j = s.rd h w j := rfl
@[simp] theorem State.onDom_blk (s : State) (n : Nat) (f : Dom → Dom) (q : Nat) : (s.onDom n f).blk q = s.blk q := rfl
@[simp] theorem State.onDom_slc (s : State) (n : Nat) (f : Dom → Dom) (q : Nat) : (s.onDom n f).slc q = s.slc q := rfl
@[simp] theorem State.onDom_mem (s : State) (n : Nat) (f : Dom → Dom) (q : Nat) : (s.onDom n f).mem q = s.mem q := rfl
@[simp] theorem State.onDom_gath (s : State) (n : Nat) (f : Dom → Dom) (q : Nat) : (s.onDom n f).gath q = s.gath q := rfl
@[simp] theorem State.onDom_ctx (s : State) (n : Nat) (f : Dom → Dom) (q : Nat) : (s.onDom n f).ctx q = s.ctx q := rfl
@[simp] theorem State.onDom_port (s : State) (n : Nat) (f : Dom → Dom) (q : Nat) : (s.onDom n f).port q = s.port q := rfl
@[simp] theorem State.onDom_chan (s : State) (n : Nat) (f : Dom → Dom) (q : Nat) : (s.onDom n f).chan q = s.chan q := rfl
@[simp] theorem State.onDom_mb (s : State) (n : Nat) (f : Dom → Dom) (q : Nat) : (s.onDom n f).mb q = s.mb q := rfl
@[simp] theorem State.onDom_tenant (s : State) (n : Nat) (f : Dom → Dom) (q : Nat) : (s.onDom n f).tenant q = s.tenant q := rfl
@[simp] theorem State.onDom_fport (s : State) (n : Nat) (f : Dom → Dom) (q : Nat) : (s.onDom n f).fport q = s.fport q := rfl

@[simp] theorem State.onPlaza_pending (s : State) (f : Plaza → Plaza) : (s.onPlaza f).pending = s.pending := rfl
@[simp] theorem State.onPlaza_regs (s : State) (f : Plaza → Plaza) : (s.onPlaza f).regs = s.regs := rfl
@[simp] theorem State.onPlaza_time (s : State) (f : Plaza → Plaza) : (s.onPlaza f).time = s.time := rfl
@[simp] theorem State.onPlaza_free (s : State) (f : Plaza → Plaza) : (s.onPlaza f).free = s.free := rfl
@[simp] theorem State.onPlaza_nextReq (s : State) (f : Plaza → Plaza) : (s.onPlaza f).nextReq = s.nextReq := rfl
@[simp] theorem State.onPlaza_out (s : State) (f : Plaza → Plaza) : (s.onPlaza f).out = s.out := rfl
@[simp] theorem State.onPlaza_told (s : State) (f : Plaza → Plaza) : (s.onPlaza f).told = s.told := rfl
@[simp] theorem State.onPlaza_blks (s : State) (f : Plaza → Plaza) : (s.onPlaza f).blks = s.blks := rfl
@[simp] theorem State.onPlaza_slices (s : State) (f : Plaza → Plaza) : (s.onPlaza f).slices = s.slices := rfl
@[simp] theorem State.onPlaza_pins (s : State) (f : Plaza → Plaza) : (s.onPlaza f).pins = s.pins := rfl
@[simp] theorem State.onPlaza_memcs (s : State) (f : Plaza → Plaza) : (s.onPlaza f).memcs = s.memcs := rfl
@[simp] theorem State.onPlaza_dram (s : State) (f : Plaza → Plaza) : (s.onPlaza f).dram = s.dram := rfl
@[simp] theorem State.onPlaza_sectors (s : State) (f : Plaza → Plaza) : (s.onPlaza f).sectors = s.sectors := rfl
@[simp] theorem State.onPlaza_reqs (s : State) (f : Plaza → Plaza) : (s.onPlaza f).reqs = s.reqs := rfl
@[simp] theorem State.onPlaza_resps (s : State) (f : Plaza → Plaza) : (s.onPlaza f).resps = s.resps := rfl
@[simp] theorem State.onPlaza_invs (s : State) (f : Plaza → Plaza) : (s.onPlaza f).invs = s.invs := rfl
@[simp] theorem State.onPlaza_gaths (s : State) (f : Plaza → Plaza) : (s.onPlaza f).gaths = s.gaths := rfl
@[simp] theorem State.onPlaza_ctxs (s : State) (f : Plaza → Plaza) : (s.onPlaza f).ctxs = s.ctxs := rfl
@[simp] theorem State.onPlaza_errq (s : State) (f : Plaza → Plaza) : (s.onPlaza f).errq = s.errq := rfl
@[simp] theorem State.onPlaza_keys (s : State) (f : Plaza → Plaza) : (s.onPlaza f).keys = s.keys := rfl
@[simp] theorem State.onPlaza_ports (s : State) (f : Plaza → Plaza) : (s.onPlaza f).ports = s.ports := rfl
@[simp] theorem State.onPlaza_chans (s : State) (f : Plaza → Plaza) : (s.onPlaza f).chans = s.chans := rfl
@[simp] theorem State.onPlaza_fab (s : State) (f : Plaza → Plaza) : (s.onPlaza f).fab = s.fab := rfl
@[simp] theorem State.onPlaza_pwr (s : State) (f : Plaza → Plaza) : (s.onPlaza f).pwr = s.pwr := rfl
@[simp] theorem State.onPlaza_thm (s : State) (f : Plaza → Plaza) : (s.onPlaza f).thm = s.thm := rfl
@[simp] theorem State.onPlaza_nvm (s : State) (f : Plaza → Plaza) : (s.onPlaza f).nvm = s.nvm := rfl
@[simp] theorem State.onPlaza_later (s : State) (f : Plaza → Plaza) : (s.onPlaza f).later = s.later := rfl
@[simp] theorem State.onPlaza_mbs (s : State) (f : Plaza → Plaza) : (s.onPlaza f).mbs = s.mbs := rfl
@[simp] theorem State.onPlaza_sec (s : State) (f : Plaza → Plaza) : (s.onPlaza f).sec = s.sec := rfl
@[simp] theorem State.onPlaza_mgmt (s : State) (f : Plaza → Plaza) : (s.onPlaza f).mgmt = s.mgmt := rfl
@[simp] theorem State.onPlaza_parity (s : State) (f : Plaza → Plaza) : (s.onPlaza f).parity = s.parity := rfl
@[simp] theorem State.onPlaza_windows (s : State) (f : Plaza → Plaza) : (s.onPlaza f).windows = s.windows := rfl
@[simp] theorem State.onPlaza_winWait (s : State) (f : Plaza → Plaza) : (s.onPlaza f).winWait = s.winWait := rfl
@[simp] theorem State.onPlaza_latched (s : State) (f : Plaza → Plaza) : (s.onPlaza f).latched = s.latched := rfl
@[simp] theorem State.onPlaza_powered (s : State) (f : Plaza → Plaza) : (s.onPlaza f).powered = s.powered := rfl
@[simp] theorem State.onPlaza_clkLost (s : State) (f : Plaza → Plaza) : (s.onPlaza f).clkLost = s.clkLost := rfl
@[simp] theorem State.onPlaza_rdAt (s : State) (f : Plaza → Plaza) (qg : Page) (w : Nat) (h : Fld) (j : Nat) : (s.onPlaza f).rdAt qg w h j = s.rdAt qg w h j := rfl
@[simp] theorem State.onPlaza_rd (s : State) (f : Plaza → Plaza) (h : Fld) (w j : Nat) : (s.onPlaza f).rd h w j = s.rd h w j := rfl
@[simp] theorem State.onPlaza_blk (s : State) (f : Plaza → Plaza) (q : Nat) : (s.onPlaza f).blk q = s.blk q := rfl
@[simp] theorem State.onPlaza_slc (s : State) (f : Plaza → Plaza) (q : Nat) : (s.onPlaza f).slc q = s.slc q := rfl
@[simp] theorem State.onPlaza_mem (s : State) (f : Plaza → Plaza) (q : Nat) : (s.onPlaza f).mem q = s.mem q := rfl
@[simp] theorem State.onPlaza_gath (s : State) (f : Plaza → Plaza) (q : Nat) : (s.onPlaza f).gath q = s.gath q := rfl
@[simp] theorem State.onPlaza_ctx (s : State) (f : Plaza → Plaza) (q : Nat) : (s.onPlaza f).ctx q = s.ctx q := rfl
@[simp] theorem State.onPlaza_port (s : State) (f : Plaza → Plaza) (q : Nat) : (s.onPlaza f).port q = s.port q := rfl
@[simp] theorem State.onPlaza_chan (s : State) (f : Plaza → Plaza) (q : Nat) : (s.onPlaza f).chan q = s.chan q := rfl
@[simp] theorem State.onPlaza_mb (s : State) (f : Plaza → Plaza) (q : Nat) : (s.onPlaza f).mb q = s.mb q := rfl
@[simp] theorem State.onPlaza_tenant (s : State) (f : Plaza → Plaza) (q : Nat) : (s.onPlaza f).tenant q = s.tenant q := rfl
@[simp] theorem State.onPlaza_fport (s : State) (f : Plaza → Plaza) (q : Nat) : (s.onPlaza f).fport q = s.fport q := rfl
@[simp] theorem State.onPlaza_dom (s : State) (f : Plaza → Plaza) (q : Nat) : (s.onPlaza f).dom q = s.dom q := rfl

@[simp] theorem State.onLater_pending (s : State) (f : Later → Later) : (s.onLater f).pending = s.pending := rfl
@[simp] theorem State.onLater_regs (s : State) (f : Later → Later) : (s.onLater f).regs = s.regs := rfl
@[simp] theorem State.onLater_time (s : State) (f : Later → Later) : (s.onLater f).time = s.time := rfl
@[simp] theorem State.onLater_free (s : State) (f : Later → Later) : (s.onLater f).free = s.free := rfl
@[simp] theorem State.onLater_nextReq (s : State) (f : Later → Later) : (s.onLater f).nextReq = s.nextReq := rfl
@[simp] theorem State.onLater_out (s : State) (f : Later → Later) : (s.onLater f).out = s.out := rfl
@[simp] theorem State.onLater_told (s : State) (f : Later → Later) : (s.onLater f).told = s.told := rfl
@[simp] theorem State.onLater_blks (s : State) (f : Later → Later) : (s.onLater f).blks = s.blks := rfl
@[simp] theorem State.onLater_slices (s : State) (f : Later → Later) : (s.onLater f).slices = s.slices := rfl
@[simp] theorem State.onLater_pins (s : State) (f : Later → Later) : (s.onLater f).pins = s.pins := rfl
@[simp] theorem State.onLater_memcs (s : State) (f : Later → Later) : (s.onLater f).memcs = s.memcs := rfl
@[simp] theorem State.onLater_dram (s : State) (f : Later → Later) : (s.onLater f).dram = s.dram := rfl
@[simp] theorem State.onLater_sectors (s : State) (f : Later → Later) : (s.onLater f).sectors = s.sectors := rfl
@[simp] theorem State.onLater_reqs (s : State) (f : Later → Later) : (s.onLater f).reqs = s.reqs := rfl
@[simp] theorem State.onLater_resps (s : State) (f : Later → Later) : (s.onLater f).resps = s.resps := rfl
@[simp] theorem State.onLater_invs (s : State) (f : Later → Later) : (s.onLater f).invs = s.invs := rfl
@[simp] theorem State.onLater_gaths (s : State) (f : Later → Later) : (s.onLater f).gaths = s.gaths := rfl
@[simp] theorem State.onLater_ctxs (s : State) (f : Later → Later) : (s.onLater f).ctxs = s.ctxs := rfl
@[simp] theorem State.onLater_plaza (s : State) (f : Later → Later) : (s.onLater f).plaza = s.plaza := rfl
@[simp] theorem State.onLater_errq (s : State) (f : Later → Later) : (s.onLater f).errq = s.errq := rfl
@[simp] theorem State.onLater_keys (s : State) (f : Later → Later) : (s.onLater f).keys = s.keys := rfl
@[simp] theorem State.onLater_ports (s : State) (f : Later → Later) : (s.onLater f).ports = s.ports := rfl
@[simp] theorem State.onLater_chans (s : State) (f : Later → Later) : (s.onLater f).chans = s.chans := rfl
@[simp] theorem State.onLater_fab (s : State) (f : Later → Later) : (s.onLater f).fab = s.fab := rfl
@[simp] theorem State.onLater_pwr (s : State) (f : Later → Later) : (s.onLater f).pwr = s.pwr := rfl
@[simp] theorem State.onLater_thm (s : State) (f : Later → Later) : (s.onLater f).thm = s.thm := rfl
@[simp] theorem State.onLater_nvm (s : State) (f : Later → Later) : (s.onLater f).nvm = s.nvm := rfl
@[simp] theorem State.onLater_mbs (s : State) (f : Later → Later) : (s.onLater f).mbs = s.mbs := rfl
@[simp] theorem State.onLater_sec (s : State) (f : Later → Later) : (s.onLater f).sec = s.sec := rfl
@[simp] theorem State.onLater_mgmt (s : State) (f : Later → Later) : (s.onLater f).mgmt = s.mgmt := rfl
@[simp] theorem State.onLater_parity (s : State) (f : Later → Later) : (s.onLater f).parity = s.parity := rfl
@[simp] theorem State.onLater_windows (s : State) (f : Later → Later) : (s.onLater f).windows = s.windows := rfl
@[simp] theorem State.onLater_winWait (s : State) (f : Later → Later) : (s.onLater f).winWait = s.winWait := rfl
@[simp] theorem State.onLater_latched (s : State) (f : Later → Later) : (s.onLater f).latched = s.latched := rfl
@[simp] theorem State.onLater_powered (s : State) (f : Later → Later) : (s.onLater f).powered = s.powered := rfl
@[simp] theorem State.onLater_clkLost (s : State) (f : Later → Later) : (s.onLater f).clkLost = s.clkLost := rfl
@[simp] theorem State.onLater_rdAt (s : State) (f : Later → Later) (qg : Page) (w : Nat) (h : Fld) (j : Nat) : (s.onLater f).rdAt qg w h j = s.rdAt qg w h j := rfl
@[simp] theorem State.onLater_rd (s : State) (f : Later → Later) (h : Fld) (w j : Nat) : (s.onLater f).rd h w j = s.rd h w j := rfl
@[simp] theorem State.onLater_blk (s : State) (f : Later → Later) (q : Nat) : (s.onLater f).blk q = s.blk q := rfl
@[simp] theorem State.onLater_slc (s : State) (f : Later → Later) (q : Nat) : (s.onLater f).slc q = s.slc q := rfl
@[simp] theorem State.onLater_mem (s : State) (f : Later → Later) (q : Nat) : (s.onLater f).mem q = s.mem q := rfl
@[simp] theorem State.onLater_gath (s : State) (f : Later → Later) (q : Nat) : (s.onLater f).gath q = s.gath q := rfl
@[simp] theorem State.onLater_ctx (s : State) (f : Later → Later) (q : Nat) : (s.onLater f).ctx q = s.ctx q := rfl
@[simp] theorem State.onLater_port (s : State) (f : Later → Later) (q : Nat) : (s.onLater f).port q = s.port q := rfl
@[simp] theorem State.onLater_chan (s : State) (f : Later → Later) (q : Nat) : (s.onLater f).chan q = s.chan q := rfl
@[simp] theorem State.onLater_mb (s : State) (f : Later → Later) (q : Nat) : (s.onLater f).mb q = s.mb q := rfl
@[simp] theorem State.onLater_tenant (s : State) (f : Later → Later) (q : Nat) : (s.onLater f).tenant q = s.tenant q := rfl
@[simp] theorem State.onLater_fport (s : State) (f : Later → Later) (q : Nat) : (s.onLater f).fport q = s.fport q := rfl
@[simp] theorem State.onLater_dom (s : State) (f : Later → Later) (q : Nat) : (s.onLater f).dom q = s.dom q := rfl

@[simp] theorem State.onSec_pending (s : State) (f : Sec → Sec) : (s.onSec f).pending = s.pending := rfl
@[simp] theorem State.onSec_regs (s : State) (f : Sec → Sec) : (s.onSec f).regs = s.regs := rfl
@[simp] theorem State.onSec_time (s : State) (f : Sec → Sec) : (s.onSec f).time = s.time := rfl
@[simp] theorem State.onSec_free (s : State) (f : Sec → Sec) : (s.onSec f).free = s.free := rfl
@[simp] theorem State.onSec_nextReq (s : State) (f : Sec → Sec) : (s.onSec f).nextReq = s.nextReq := rfl
@[simp] theorem State.onSec_out (s : State) (f : Sec → Sec) : (s.onSec f).out = s.out := rfl
@[simp] theorem State.onSec_told (s : State) (f : Sec → Sec) : (s.onSec f).told = s.told := rfl
@[simp] theorem State.onSec_blks (s : State) (f : Sec → Sec) : (s.onSec f).blks = s.blks := rfl
@[simp] theorem State.onSec_slices (s : State) (f : Sec → Sec) : (s.onSec f).slices = s.slices := rfl
@[simp] theorem State.onSec_pins (s : State) (f : Sec → Sec) : (s.onSec f).pins = s.pins := rfl
@[simp] theorem State.onSec_memcs (s : State) (f : Sec → Sec) : (s.onSec f).memcs = s.memcs := rfl
@[simp] theorem State.onSec_dram (s : State) (f : Sec → Sec) : (s.onSec f).dram = s.dram := rfl
@[simp] theorem State.onSec_sectors (s : State) (f : Sec → Sec) : (s.onSec f).sectors = s.sectors := rfl
@[simp] theorem State.onSec_reqs (s : State) (f : Sec → Sec) : (s.onSec f).reqs = s.reqs := rfl
@[simp] theorem State.onSec_resps (s : State) (f : Sec → Sec) : (s.onSec f).resps = s.resps := rfl
@[simp] theorem State.onSec_invs (s : State) (f : Sec → Sec) : (s.onSec f).invs = s.invs := rfl
@[simp] theorem State.onSec_gaths (s : State) (f : Sec → Sec) : (s.onSec f).gaths = s.gaths := rfl
@[simp] theorem State.onSec_ctxs (s : State) (f : Sec → Sec) : (s.onSec f).ctxs = s.ctxs := rfl
@[simp] theorem State.onSec_plaza (s : State) (f : Sec → Sec) : (s.onSec f).plaza = s.plaza := rfl
@[simp] theorem State.onSec_errq (s : State) (f : Sec → Sec) : (s.onSec f).errq = s.errq := rfl
@[simp] theorem State.onSec_keys (s : State) (f : Sec → Sec) : (s.onSec f).keys = s.keys := rfl
@[simp] theorem State.onSec_ports (s : State) (f : Sec → Sec) : (s.onSec f).ports = s.ports := rfl
@[simp] theorem State.onSec_chans (s : State) (f : Sec → Sec) : (s.onSec f).chans = s.chans := rfl
@[simp] theorem State.onSec_fab (s : State) (f : Sec → Sec) : (s.onSec f).fab = s.fab := rfl
@[simp] theorem State.onSec_pwr (s : State) (f : Sec → Sec) : (s.onSec f).pwr = s.pwr := rfl
@[simp] theorem State.onSec_thm (s : State) (f : Sec → Sec) : (s.onSec f).thm = s.thm := rfl
@[simp] theorem State.onSec_nvm (s : State) (f : Sec → Sec) : (s.onSec f).nvm = s.nvm := rfl
@[simp] theorem State.onSec_later (s : State) (f : Sec → Sec) : (s.onSec f).later = s.later := rfl
@[simp] theorem State.onSec_mbs (s : State) (f : Sec → Sec) : (s.onSec f).mbs = s.mbs := rfl
@[simp] theorem State.onSec_mgmt (s : State) (f : Sec → Sec) : (s.onSec f).mgmt = s.mgmt := rfl
@[simp] theorem State.onSec_parity (s : State) (f : Sec → Sec) : (s.onSec f).parity = s.parity := rfl
@[simp] theorem State.onSec_windows (s : State) (f : Sec → Sec) : (s.onSec f).windows = s.windows := rfl
@[simp] theorem State.onSec_winWait (s : State) (f : Sec → Sec) : (s.onSec f).winWait = s.winWait := rfl
@[simp] theorem State.onSec_latched (s : State) (f : Sec → Sec) : (s.onSec f).latched = s.latched := rfl
@[simp] theorem State.onSec_powered (s : State) (f : Sec → Sec) : (s.onSec f).powered = s.powered := rfl
@[simp] theorem State.onSec_clkLost (s : State) (f : Sec → Sec) : (s.onSec f).clkLost = s.clkLost := rfl
@[simp] theorem State.onSec_rdAt (s : State) (f : Sec → Sec) (qg : Page) (w : Nat) (h : Fld) (j : Nat) : (s.onSec f).rdAt qg w h j = s.rdAt qg w h j := rfl
@[simp] theorem State.onSec_rd (s : State) (f : Sec → Sec) (h : Fld) (w j : Nat) : (s.onSec f).rd h w j = s.rd h w j := rfl
@[simp] theorem State.onSec_blk (s : State) (f : Sec → Sec) (q : Nat) : (s.onSec f).blk q = s.blk q := rfl
@[simp] theorem State.onSec_slc (s : State) (f : Sec → Sec) (q : Nat) : (s.onSec f).slc q = s.slc q := rfl
@[simp] theorem State.onSec_mem (s : State) (f : Sec → Sec) (q : Nat) : (s.onSec f).mem q = s.mem q := rfl
@[simp] theorem State.onSec_gath (s : State) (f : Sec → Sec) (q : Nat) : (s.onSec f).gath q = s.gath q := rfl
@[simp] theorem State.onSec_ctx (s : State) (f : Sec → Sec) (q : Nat) : (s.onSec f).ctx q = s.ctx q := rfl
@[simp] theorem State.onSec_port (s : State) (f : Sec → Sec) (q : Nat) : (s.onSec f).port q = s.port q := rfl
@[simp] theorem State.onSec_chan (s : State) (f : Sec → Sec) (q : Nat) : (s.onSec f).chan q = s.chan q := rfl
@[simp] theorem State.onSec_mb (s : State) (f : Sec → Sec) (q : Nat) : (s.onSec f).mb q = s.mb q := rfl
@[simp] theorem State.onSec_fport (s : State) (f : Sec → Sec) (q : Nat) : (s.onSec f).fport q = s.fport q := rfl
@[simp] theorem State.onSec_dom (s : State) (f : Sec → Sec) (q : Nat) : (s.onSec f).dom q = s.dom q := rfl

@[simp] theorem State.onPwr_pending (s : State) (f : Power → Power) : (s.onPwr f).pending = s.pending := rfl
@[simp] theorem State.onPwr_regs (s : State) (f : Power → Power) : (s.onPwr f).regs = s.regs := rfl
@[simp] theorem State.onPwr_time (s : State) (f : Power → Power) : (s.onPwr f).time = s.time := rfl
@[simp] theorem State.onPwr_free (s : State) (f : Power → Power) : (s.onPwr f).free = s.free := rfl
@[simp] theorem State.onPwr_nextReq (s : State) (f : Power → Power) : (s.onPwr f).nextReq = s.nextReq := rfl
@[simp] theorem State.onPwr_out (s : State) (f : Power → Power) : (s.onPwr f).out = s.out := rfl
@[simp] theorem State.onPwr_told (s : State) (f : Power → Power) : (s.onPwr f).told = s.told := rfl
@[simp] theorem State.onPwr_blks (s : State) (f : Power → Power) : (s.onPwr f).blks = s.blks := rfl
@[simp] theorem State.onPwr_slices (s : State) (f : Power → Power) : (s.onPwr f).slices = s.slices := rfl
@[simp] theorem State.onPwr_pins (s : State) (f : Power → Power) : (s.onPwr f).pins = s.pins := rfl
@[simp] theorem State.onPwr_memcs (s : State) (f : Power → Power) : (s.onPwr f).memcs = s.memcs := rfl
@[simp] theorem State.onPwr_dram (s : State) (f : Power → Power) : (s.onPwr f).dram = s.dram := rfl
@[simp] theorem State.onPwr_sectors (s : State) (f : Power → Power) : (s.onPwr f).sectors = s.sectors := rfl
@[simp] theorem State.onPwr_reqs (s : State) (f : Power → Power) : (s.onPwr f).reqs = s.reqs := rfl
@[simp] theorem State.onPwr_resps (s : State) (f : Power → Power) : (s.onPwr f).resps = s.resps := rfl
@[simp] theorem State.onPwr_invs (s : State) (f : Power → Power) : (s.onPwr f).invs = s.invs := rfl
@[simp] theorem State.onPwr_gaths (s : State) (f : Power → Power) : (s.onPwr f).gaths = s.gaths := rfl
@[simp] theorem State.onPwr_ctxs (s : State) (f : Power → Power) : (s.onPwr f).ctxs = s.ctxs := rfl
@[simp] theorem State.onPwr_plaza (s : State) (f : Power → Power) : (s.onPwr f).plaza = s.plaza := rfl
@[simp] theorem State.onPwr_errq (s : State) (f : Power → Power) : (s.onPwr f).errq = s.errq := rfl
@[simp] theorem State.onPwr_keys (s : State) (f : Power → Power) : (s.onPwr f).keys = s.keys := rfl
@[simp] theorem State.onPwr_ports (s : State) (f : Power → Power) : (s.onPwr f).ports = s.ports := rfl
@[simp] theorem State.onPwr_chans (s : State) (f : Power → Power) : (s.onPwr f).chans = s.chans := rfl
@[simp] theorem State.onPwr_fab (s : State) (f : Power → Power) : (s.onPwr f).fab = s.fab := rfl
@[simp] theorem State.onPwr_thm (s : State) (f : Power → Power) : (s.onPwr f).thm = s.thm := rfl
@[simp] theorem State.onPwr_nvm (s : State) (f : Power → Power) : (s.onPwr f).nvm = s.nvm := rfl
@[simp] theorem State.onPwr_later (s : State) (f : Power → Power) : (s.onPwr f).later = s.later := rfl
@[simp] theorem State.onPwr_mbs (s : State) (f : Power → Power) : (s.onPwr f).mbs = s.mbs := rfl
@[simp] theorem State.onPwr_sec (s : State) (f : Power → Power) : (s.onPwr f).sec = s.sec := rfl
@[simp] theorem State.onPwr_mgmt (s : State) (f : Power → Power) : (s.onPwr f).mgmt = s.mgmt := rfl
@[simp] theorem State.onPwr_parity (s : State) (f : Power → Power) : (s.onPwr f).parity = s.parity := rfl
@[simp] theorem State.onPwr_windows (s : State) (f : Power → Power) : (s.onPwr f).windows = s.windows := rfl
@[simp] theorem State.onPwr_winWait (s : State) (f : Power → Power) : (s.onPwr f).winWait = s.winWait := rfl
@[simp] theorem State.onPwr_latched (s : State) (f : Power → Power) : (s.onPwr f).latched = s.latched := rfl
@[simp] theorem State.onPwr_powered (s : State) (f : Power → Power) : (s.onPwr f).powered = s.powered := rfl
@[simp] theorem State.onPwr_clkLost (s : State) (f : Power → Power) : (s.onPwr f).clkLost = s.clkLost := rfl
@[simp] theorem State.onPwr_rdAt (s : State) (f : Power → Power) (qg : Page) (w : Nat) (h : Fld) (j : Nat) : (s.onPwr f).rdAt qg w h j = s.rdAt qg w h j := rfl
@[simp] theorem State.onPwr_rd (s : State) (f : Power → Power) (h : Fld) (w j : Nat) : (s.onPwr f).rd h w j = s.rd h w j := rfl
@[simp] theorem State.onPwr_blk (s : State) (f : Power → Power) (q : Nat) : (s.onPwr f).blk q = s.blk q := rfl
@[simp] theorem State.onPwr_slc (s : State) (f : Power → Power) (q : Nat) : (s.onPwr f).slc q = s.slc q := rfl
@[simp] theorem State.onPwr_mem (s : State) (f : Power → Power) (q : Nat) : (s.onPwr f).mem q = s.mem q := rfl
@[simp] theorem State.onPwr_gath (s : State) (f : Power → Power) (q : Nat) : (s.onPwr f).gath q = s.gath q := rfl
@[simp] theorem State.onPwr_ctx (s : State) (f : Power → Power) (q : Nat) : (s.onPwr f).ctx q = s.ctx q := rfl
@[simp] theorem State.onPwr_port (s : State) (f : Power → Power) (q : Nat) : (s.onPwr f).port q = s.port q := rfl
@[simp] theorem State.onPwr_chan (s : State) (f : Power → Power) (q : Nat) : (s.onPwr f).chan q = s.chan q := rfl
@[simp] theorem State.onPwr_mb (s : State) (f : Power → Power) (q : Nat) : (s.onPwr f).mb q = s.mb q := rfl
@[simp] theorem State.onPwr_tenant (s : State) (f : Power → Power) (q : Nat) : (s.onPwr f).tenant q = s.tenant q := rfl
@[simp] theorem State.onPwr_fport (s : State) (f : Power → Power) (q : Nat) : (s.onPwr f).fport q = s.fport q := rfl

@[simp] theorem State.onFab_pending (s : State) (f : Fabric → Fabric) : (s.onFab f).pending = s.pending := rfl
@[simp] theorem State.onFab_regs (s : State) (f : Fabric → Fabric) : (s.onFab f).regs = s.regs := rfl
@[simp] theorem State.onFab_time (s : State) (f : Fabric → Fabric) : (s.onFab f).time = s.time := rfl
@[simp] theorem State.onFab_free (s : State) (f : Fabric → Fabric) : (s.onFab f).free = s.free := rfl
@[simp] theorem State.onFab_nextReq (s : State) (f : Fabric → Fabric) : (s.onFab f).nextReq = s.nextReq := rfl
@[simp] theorem State.onFab_out (s : State) (f : Fabric → Fabric) : (s.onFab f).out = s.out := rfl
@[simp] theorem State.onFab_told (s : State) (f : Fabric → Fabric) : (s.onFab f).told = s.told := rfl
@[simp] theorem State.onFab_blks (s : State) (f : Fabric → Fabric) : (s.onFab f).blks = s.blks := rfl
@[simp] theorem State.onFab_slices (s : State) (f : Fabric → Fabric) : (s.onFab f).slices = s.slices := rfl
@[simp] theorem State.onFab_pins (s : State) (f : Fabric → Fabric) : (s.onFab f).pins = s.pins := rfl
@[simp] theorem State.onFab_memcs (s : State) (f : Fabric → Fabric) : (s.onFab f).memcs = s.memcs := rfl
@[simp] theorem State.onFab_dram (s : State) (f : Fabric → Fabric) : (s.onFab f).dram = s.dram := rfl
@[simp] theorem State.onFab_sectors (s : State) (f : Fabric → Fabric) : (s.onFab f).sectors = s.sectors := rfl
@[simp] theorem State.onFab_reqs (s : State) (f : Fabric → Fabric) : (s.onFab f).reqs = s.reqs := rfl
@[simp] theorem State.onFab_resps (s : State) (f : Fabric → Fabric) : (s.onFab f).resps = s.resps := rfl
@[simp] theorem State.onFab_invs (s : State) (f : Fabric → Fabric) : (s.onFab f).invs = s.invs := rfl
@[simp] theorem State.onFab_gaths (s : State) (f : Fabric → Fabric) : (s.onFab f).gaths = s.gaths := rfl
@[simp] theorem State.onFab_ctxs (s : State) (f : Fabric → Fabric) : (s.onFab f).ctxs = s.ctxs := rfl
@[simp] theorem State.onFab_plaza (s : State) (f : Fabric → Fabric) : (s.onFab f).plaza = s.plaza := rfl
@[simp] theorem State.onFab_errq (s : State) (f : Fabric → Fabric) : (s.onFab f).errq = s.errq := rfl
@[simp] theorem State.onFab_keys (s : State) (f : Fabric → Fabric) : (s.onFab f).keys = s.keys := rfl
@[simp] theorem State.onFab_ports (s : State) (f : Fabric → Fabric) : (s.onFab f).ports = s.ports := rfl
@[simp] theorem State.onFab_chans (s : State) (f : Fabric → Fabric) : (s.onFab f).chans = s.chans := rfl
@[simp] theorem State.onFab_pwr (s : State) (f : Fabric → Fabric) : (s.onFab f).pwr = s.pwr := rfl
@[simp] theorem State.onFab_thm (s : State) (f : Fabric → Fabric) : (s.onFab f).thm = s.thm := rfl
@[simp] theorem State.onFab_nvm (s : State) (f : Fabric → Fabric) : (s.onFab f).nvm = s.nvm := rfl
@[simp] theorem State.onFab_later (s : State) (f : Fabric → Fabric) : (s.onFab f).later = s.later := rfl
@[simp] theorem State.onFab_mbs (s : State) (f : Fabric → Fabric) : (s.onFab f).mbs = s.mbs := rfl
@[simp] theorem State.onFab_sec (s : State) (f : Fabric → Fabric) : (s.onFab f).sec = s.sec := rfl
@[simp] theorem State.onFab_mgmt (s : State) (f : Fabric → Fabric) : (s.onFab f).mgmt = s.mgmt := rfl
@[simp] theorem State.onFab_parity (s : State) (f : Fabric → Fabric) : (s.onFab f).parity = s.parity := rfl
@[simp] theorem State.onFab_windows (s : State) (f : Fabric → Fabric) : (s.onFab f).windows = s.windows := rfl
@[simp] theorem State.onFab_winWait (s : State) (f : Fabric → Fabric) : (s.onFab f).winWait = s.winWait := rfl
@[simp] theorem State.onFab_latched (s : State) (f : Fabric → Fabric) : (s.onFab f).latched = s.latched := rfl
@[simp] theorem State.onFab_powered (s : State) (f : Fabric → Fabric) : (s.onFab f).powered = s.powered := rfl
@[simp] theorem State.onFab_clkLost (s : State) (f : Fabric → Fabric) : (s.onFab f).clkLost = s.clkLost := rfl
@[simp] theorem State.onFab_rdAt (s : State) (f : Fabric → Fabric) (qg : Page) (w : Nat) (h : Fld) (j : Nat) : (s.onFab f).rdAt qg w h j = s.rdAt qg w h j := rfl
@[simp] theorem State.onFab_rd (s : State) (f : Fabric → Fabric) (h : Fld) (w j : Nat) : (s.onFab f).rd h w j = s.rd h w j := rfl
@[simp] theorem State.onFab_blk (s : State) (f : Fabric → Fabric) (q : Nat) : (s.onFab f).blk q = s.blk q := rfl
@[simp] theorem State.onFab_slc (s : State) (f : Fabric → Fabric) (q : Nat) : (s.onFab f).slc q = s.slc q := rfl
@[simp] theorem State.onFab_mem (s : State) (f : Fabric → Fabric) (q : Nat) : (s.onFab f).mem q = s.mem q := rfl
@[simp] theorem State.onFab_gath (s : State) (f : Fabric → Fabric) (q : Nat) : (s.onFab f).gath q = s.gath q := rfl
@[simp] theorem State.onFab_ctx (s : State) (f : Fabric → Fabric) (q : Nat) : (s.onFab f).ctx q = s.ctx q := rfl
@[simp] theorem State.onFab_port (s : State) (f : Fabric → Fabric) (q : Nat) : (s.onFab f).port q = s.port q := rfl
@[simp] theorem State.onFab_chan (s : State) (f : Fabric → Fabric) (q : Nat) : (s.onFab f).chan q = s.chan q := rfl
@[simp] theorem State.onFab_mb (s : State) (f : Fabric → Fabric) (q : Nat) : (s.onFab f).mb q = s.mb q := rfl
@[simp] theorem State.onFab_tenant (s : State) (f : Fabric → Fabric) (q : Nat) : (s.onFab f).tenant q = s.tenant q := rfl
@[simp] theorem State.onFab_dom (s : State) (f : Fabric → Fabric) (q : Nat) : (s.onFab f).dom q = s.dom q := rfl

/-! ### What an update makes of its own field -/

@[simp] theorem State.onBlk_blk_same (s : State) (n : Nat) (f : Block → Block) : (s.onBlk n f).blk n = f (s.blk n) := by
  simp [State.onBlk, State.blk, State.setBlk]
theorem State.onBlk_blk_ne (s : State) (m n : Nat) (f : Block → Block) (h : m ≠ n) : (s.onBlk n f).blk m = s.blk m := by
  simp [State.onBlk, State.blk, State.setBlk, SMap.get_put_ne h]
@[simp] theorem State.onSlc_slc_same (s : State) (n : Nat) (f : Slice → Slice) : (s.onSlc n f).slc n = f (s.slc n) := by
  simp [State.onSlc, State.slc, State.setSlc]
theorem State.onSlc_slc_ne (s : State) (m n : Nat) (f : Slice → Slice) (h : m ≠ n) : (s.onSlc n f).slc m = s.slc m := by
  simp [State.onSlc, State.slc, State.setSlc, SMap.get_put_ne h]
@[simp] theorem State.onMem_mem_same (s : State) (n : Nat) (f : Memc → Memc) : (s.onMem n f).mem n = f (s.mem n) := by
  simp [State.onMem, State.mem, State.setMem]
theorem State.onMem_mem_ne (s : State) (m n : Nat) (f : Memc → Memc) (h : m ≠ n) : (s.onMem n f).mem m = s.mem m := by
  simp [State.onMem, State.mem, State.setMem, SMap.get_put_ne h]
@[simp] theorem State.onGath_gath_same (s : State) (n : Nat) (f : Gather → Gather) : (s.onGath n f).gath n = f (s.gath n) := by
  simp [State.onGath, State.gath, State.setGath]
theorem State.onGath_gath_ne (s : State) (m n : Nat) (f : Gather → Gather) (h : m ≠ n) : (s.onGath n f).gath m = s.gath m := by
  simp [State.onGath, State.gath, State.setGath, SMap.get_put_ne h]
@[simp] theorem State.onCtx_ctx_same (s : State) (n : Nat) (f : Ctx → Ctx) : (s.onCtx n f).ctx n = f (s.ctx n) := by
  simp [State.onCtx, State.ctx, State.setCtx]
theorem State.onCtx_ctx_ne (s : State) (m n : Nat) (f : Ctx → Ctx) (h : m ≠ n) : (s.onCtx n f).ctx m = s.ctx m := by
  simp [State.onCtx, State.ctx, State.setCtx, SMap.get_put_ne h]
@[simp] theorem State.onPort_port_same (s : State) (n : Nat) (f : Port → Port) : (s.onPort n f).port n = f (s.port n) := by
  simp [State.onPort, State.port]
theorem State.onPort_port_ne (s : State) (m n : Nat) (f : Port → Port) (h : m ≠ n) : (s.onPort n f).port m = s.port m := by
  simp [State.onPort, State.port, SMap.get_put_ne h]
@[simp] theorem State.onChan_chan_same (s : State) (n : Nat) (f : Chan → Chan) : (s.onChan n f).chan n = f (s.chan n) := by
  simp [State.onChan, State.chan]
theorem State.onChan_chan_ne (s : State) (m n : Nat) (f : Chan → Chan) (h : m ≠ n) : (s.onChan n f).chan m = s.chan m := by
  simp [State.onChan, State.chan, SMap.get_put_ne h]
@[simp] theorem State.onMb_mb_same (s : State) (n : Nat) (f : Mailbox → Mailbox) : (s.onMb n f).mb n = f (s.mb n) := by
  simp [State.onMb, State.mb]
theorem State.onMb_mb_ne (s : State) (m n : Nat) (f : Mailbox → Mailbox) (h : m ≠ n) : (s.onMb n f).mb m = s.mb m := by
  simp [State.onMb, State.mb, SMap.get_put_ne h]
@[simp] theorem State.onTenant_tenant_same (s : State) (n : Nat) (f : Tenant → Tenant) : (s.onTenant n f).tenant n = f (s.tenant n) := by
  simp [State.onTenant, State.tenant]
theorem State.onTenant_tenant_ne (s : State) (m n : Nat) (f : Tenant → Tenant) (h : m ≠ n) : (s.onTenant n f).tenant m = s.tenant m := by
  simp [State.onTenant, State.tenant, SMap.get_put_ne h]
@[simp] theorem State.onFport_fport_same (s : State) (n : Nat) (f : FabPort → FabPort) : (s.onFport n f).fport n = f (s.fport n) := by
  simp [State.onFport, State.fport]
theorem State.onFport_fport_ne (s : State) (m n : Nat) (f : FabPort → FabPort) (h : m ≠ n) : (s.onFport n f).fport m = s.fport m := by
  simp [State.onFport, State.fport, SMap.get_put_ne h]
@[simp] theorem State.onDom_dom_same (s : State) (n : Nat) (f : Dom → Dom) : (s.onDom n f).dom n = f (s.dom n) := by
  simp [State.onDom, State.dom]
theorem State.onDom_dom_ne (s : State) (m n : Nat) (f : Dom → Dom) (h : m ≠ n) : (s.onDom n f).dom m = s.dom m := by
  simp [State.onDom, State.dom, SMap.get_put_ne h]

theorem State.rdAt_wrAt_same (s : State) (pg : Page) (u : Nat) (f : Fld) (i v : Nat) (h : f.width ≤ 64) :
    (s.wrAt pg u f i v).rdAt pg u f i = v % 2 ^ f.width := by
  have h2 : v % 2 ^ f.width < 2 ^ 64 :=
    lt_of_lt_of_le (Nat.mod_lt _ (Nat.two_pow_pos _)) (Nat.pow_le_pow_right (by decide) h)
  simpa [State.wrAt, State.rdAt, SMap.find_put_same] using h2

theorem State.rdAt_wrAt_ne (s : State) (pg qg : Page) (u w : Nat) (f h : Fld) (i j v : Nat) (hk : keyAt qg w h j ≠ keyAt pg u f i) :
    (s.wrAt pg u f i v).rdAt qg w h j = s.rdAt qg w h j := by
  simp [State.wrAt, State.rdAt, SMap.find_put_ne hk]

theorem State.rd_wr_same (s : State) (f : Fld) (u i v : Nat) (h : f.width ≤ 64) : (s.wr f u i v).rd f u i = v % 2 ^ f.width :=
  State.rdAt_wrAt_same s f.page u f i v h

theorem State.rd_wr_ne (s : State) (f h : Fld) (u w i j v : Nat) (hk : keyAt h.page w h j ≠ keyAt f.page u f i) :
    (s.wr f u i v).rd h w j = s.rd h w j :=
  State.rdAt_wrAt_ne s f.page h.page u w f h i j v hk

@[simp] theorem State.used_free (s : State) : s.used.free = s.free + 1 := rfl
@[simp] theorem State.emit_out (s : State) (k : String) (as : List Nat) (bs : List Byte) :
    (s.emit k as bs).out = ⟨k, as, bs⟩ :: s.out := rfl
@[simp] theorem State.onPlaza_plaza (s : State) (f : Plaza → Plaza) : (s.onPlaza f).plaza = f s.plaza := rfl
@[simp] theorem State.onLater_later (s : State) (f : Later → Later) : (s.onLater f).later = f s.later := rfl
@[simp] theorem State.onSec_sec (s : State) (f : Sec → Sec) : (s.onSec f).sec = f s.sec := rfl
@[simp] theorem State.onPwr_pwr (s : State) (f : Power → Power) : (s.onPwr f).pwr = f s.pwr := rfl
@[simp] theorem State.onFab_fab (s : State) (f : Fabric → Fabric) : (s.onFab f).fab = f s.fab := rfl

end Sys2Proof.Machine
end

