-- ==== Sys2Proof/Laws/Units.lean ====
section
/-! SUPPORT. What a command that names a unit or a source can answer. -/

namespace Sys2Proof.Machine
open Sys2Proof

@[simp] theorem onUnit_of_lt {b n : Nat} (h : n < b) (s : State) (t : State → State) : onUnit b n s t = .next (t s) := by
  simp [onUnit, h]

theorem onUnit_of_not_lt {b n : Nat} (h : ¬ n < b) (s : State) (t : State → State) : onUnit b n s t = .fault .noSuchUnit := by
  simp [onUnit, h]

@[simp] theorem onSrc_of_ok {src : Source} (h : sourceOk src = true) (o : Host.Outcome State Fault Refusal) : onSrc src o = o := by
  simp [onSrc, h]

theorem onSrc_of_bad {src : Source} (h : sourceOk src = false) (o : Host.Outcome State Fault Refusal) :
    onSrc src o = .fault .noSuchUnit := by
  simp [onSrc, h]

/-- Everything a command on a unit can do: act, or fault on a number that names no unit. -/
theorem onUnit_cases (b n : Nat) (s : State) (t : State → State) :
    (n < b ∧ onUnit b n s t = .next (t s)) ∨ (b ≤ n ∧ onUnit b n s t = .fault .noSuchUnit) := by
  by_cases h : n < b
  · exact .inl ⟨h, onUnit_of_lt h s t⟩
  · exact .inr ⟨Nat.le_of_not_lt h, onUnit_of_not_lt h s t⟩

@[simp] theorem sourceOk_mgmt : sourceOk .mgmt = true := rfl

end Sys2Proof.Machine
end

