-- ==== Sys2Proof/Tests/Slice0.lean ====
section
/-! SUPPORT. Tests of the model on small states, from values that the spec gives or that follow from its words by hand, and witnesses:
for each obligation with hypotheses, concrete states and operands that meet them. -/

namespace Sys2Proof.Tests
open Sys2Proof Sys2Proof.Machine Sys2Proof.Claims
set_option Elab.async false

/-! ### Small states -/

/-- A logical Block that holds nothing. -/
def blk0 : Block := ⟨Core.reset, Queues.reset, IMem.reset, Spad.reset, [], Matrix.reset, [], false, 0, false⟩
/-- A frame of context c that has just started. -/
def frameOf (c : Nat) : Run := ⟨c, false, none, 0, [], false, [], 0⟩
/-- The device with Blocks bs, in a frame of context c. -/
def inFrame (c : Nat) (bs : SMap Block) : State := { State.reset with blks := bs, plaza := { Plaza.reset with run := some (frameOf c) } }
/-- A running core. -/
def core0 : Core := { Core.reset with running := true }
/-- Block 0 with core c at the first word of an I-memory that holds w there, in a frame of context 5. -/
def atWord (w : Nat) (c : Core := core0) : State :=
  inFrame 5 [(0, { blk0 with core := c, im := { IMem.reset with half0 := [(0, BitVec.ofNat 32 w)] } })]

/-! ### The interface -/

/-- The table gives no row bits. -/
theorem test_table_has_no_words : decodeTableWord 32 0x1234_5678 = none := rfl
theorem test_fetch_word_changes_nothing : State.reset.withFetchWord 32 5 = State.reset := rfl
/-- The front command is taken. -/
theorem test_step_takes_front : step { State.reset with pending := [.add 544, .add 0] } = .fault .noSuchUnit := rfl
/-- An idle step lets 10 ns pass. -/
theorem test_idle_step : step State.reset = .next { State.reset with time := 1 } := rfl

/-! ### Ill-formed commands, one for each bound that a command's numbers have -/

/-- For each kind of unit a command that names the first number past the last is ill-formed: no such Block, slice, district, context,
channel, fabric port, PCIe port, mailbox, field, domain, core, clock, slot, memory target, page or VF. -/
theorem test_ill_formed_refused : ∀ c ∈
    [.add 544, .sliceRequest 128 [], .lineRequest 16, .residentLoad 1024, .tailValue 256 none, .rekeyTrigger 8, .linkDown 2, .provOpen 3,
     .bondWindow 144 [], .switchStep 30, .ack .mgmt 4 0, .refclkLost 4, .slotZeroed 16 0, .ceTableUpdate 6 0 0 0, .scrubVisit true 16,
     .scrubVisit false 128, .cloveDone true 128 0 0, .cloveDone false 544 0 0, .stopReq .mgmt 0xC, .softReset .mgmt 0x420,
     .evtClear .mgmt 0x2E 0, .pop (.pf 2), .pop (.vf 0 16), .pop (.vf 2 0)], Instr.wellFormed c = false := by decide +kernel
/-- The last unit of each kind exists. -/
theorem test_last_units_exist : ∀ c ∈
    [.add 543, .sliceRequest 127 [], .lineRequest 15, .residentLoad 1023, .tailValue 255 none, .rekeyTrigger 7, .linkDown 1, .provOpen 2,
     .bondWindow 143 [], .switchStep 29, .ack .mgmt 3 0, .refclkLost 3, .slotZeroed 15 0, .ceTableUpdate 5 0 0 0, .scrubVisit true 15,
     .scrubVisit false 127, .cloveDone true 127 0 0, .cloveDone false 543 0 0, .stopReq .mgmt 0xB, .softReset .mgmt 0x41F,
     .evtClear .mgmt 0x2D 0, .pop (.pf 1), .pop (.vf 1 15)], Instr.wellFormed c = true := by decide +kernel
/-- The check refuses, and exec stops on, a Block that does not exist. -/
theorem test_no_such_block : exec (.add 544) State.reset = .fault .noSuchUnit := rfl

/-! ### The control core -/

/-- Words of the core's formats (R126): A, I, M, and the others by their fields. -/
def wA (func rd rs1 rs2 : Nat) (g : Nat := 0) : Nat := g * 2 ^ 29 + rd * 2 ^ 19 + rs1 * 2 ^ 14 + rs2 * 2 ^ 9 + func
def wI (op rd rs1 imm : Nat) (g : Nat := 0) : Nat := g * 2 ^ 29 + op * 2 ^ 24 + rd * 2 ^ 19 + rs1 * 2 ^ 14 + imm % 2 ^ 14
def wM (op rd rs1 sz off : Nat) : Nat := op * 2 ^ 24 + rd * 2 ^ 19 + rs1 * 2 ^ 14 + sz * 2 ^ 11 + off % 2 ^ 11
def wB (op rd imm : Nat) (g : Nat := 0) : Nat := g * 2 ^ 29 + op * 2 ^ 24 + rd * 2 ^ 19 + imm % 2 ^ 19

/-- wordClean and fetchClean, as tests. -/
def cleanAtB (s : State) (p pc : Nat) : Bool :=
  ((s.blk p).im.bad ++ (s.blk p).im.soft).all (fun x => x / 2 != (16384 * (s.blk p).im.live + pc / 4) / 2)
def cleanB (s : State) (p : Nat) : Bool := cleanAtB s p (s.blk p).core.pc.toNat

theorem cleanAtB_clean {s : State} {p pc : Nat} (h : cleanAtB s p pc = true) : wordClean s p pc := by
  intro x hx
  have := List.all_eq_true.mp h x hx
  simpa using this

/-- The hypotheses of a core row, as a test. -/
def readyB (s : State) (p : Nat) (op : CoreOp) (reads : Nat → List Nat) : Bool :=
  decide (p < nBlks) && s.coreLive p && decide (CC.decode (s.coreWord p) = some op) && cleanB s p
    && !s.waitsLoad p (reads (s.coreWord p)) && s.preg p (CC.guard (s.coreWord p)) && decide ((coreNext s p).2.2 < 0x1_0000)

theorem readyB_ready {s : State} {p : Nat} {op : CoreOp} {reads : Nat → List Nat} (h : readyB s p op reads = true) :
    coreReady s p op reads ∧ goesOn s p := by
  simp only [readyB, Bool.and_eq_true, decide_eq_true_eq, Bool.not_eq_true'] at h
  obtain ⟨⟨⟨⟨⟨⟨h1, h2⟩, h3⟩, h4⟩, h5⟩, h6⟩, h7⟩ := h
  exact ⟨⟨⟨h1, h2, h3, cleanAtB_clean h4, h5⟩, h6⟩, h7⟩

/-- Words of the rows of CoreRowsWriteRegister, in the order of aluRows and readRows. -/
def srowWords : List Nat :=
  (List.range 17).map (fun f => wA f 3 1 2) ++
  [wI 1 3 1 5, wI 2 3 1 5, wI 3 3 1 5, wI 4 3 1 5, wI 5 3 1 (0x3000 + 8), wB 8 3 0x7_FFFF, wB 9 3 0xFFFF, wA 0x35 3 1 0, wA 0x40 3 3 0,
   wA 0x41 3 7 0, wA 0x42 3 4 0, wA 0x43 3 0 0, wA 0x44 3 0 0, 0x18 * 2 ^ 24 + 3 * 2 ^ 22 + 3 * 2 ^ 14]

/-- Row k of CoreRowsWriteRegister is ready at its word, for every row. -/
theorem wit_core_rows : (List.range srowWords.length).all (fun k =>
    let s := atWord (srowWords.getD k 0)
    ((aluRows s 0 ++ readRows s 0)[k]?).any (fun r => readyB s 0 r.op r.reads)) = true := by decide +kernel

/-- Words of the rows of CorePredicateRowsWritePredicate. -/
def prowWords : List Nat :=
  [wA 0x25 7 1 2, wI 6 (4 * 7 + 3) 1 0x3FFF, wI 7 (4 * 7 + 3) 1 0x3FFF, wA 0x36 7 1 0, wA 0x30 7 1 2, wA 0x31 7 1 2, wA 0x32 7 1 2,
   wA 0x33 7 1 2, wA 0x34 7 1 0]

theorem wit_core_predicate_rows : (List.range prowWords.length).all (fun k =>
    let s := atWord (prowWords.getD k 0)
    ((predRows s 0)[k]?).any (fun r => readyB s 0 r.op r.reads)) = true := by decide +kernel

/-- A legal word of every row of coreRows, without its guard. -/
def rowWords : List Nat :=
  (List.range 17).map (fun f => wA f 3 1 2) ++
  [wA 0x20 7 1 2, wA 0x30 7 1 2, wA 0x31 7 1 2, wA 0x32 7 1 2, wA 0x33 7 1 2, wA 0x34 7 1 0, wA 0x35 3 1 0, wA 0x36 7 1 0, wA 0x40 3 3 0,
   wA 0x41 3 7 0, wA 0x42 3 4 0, wA 0x43 3 0 0, wA 0x44 3 0 0, wA 0x45 0 15 0, wA 0x50 0 1 0, wA 0x51 3 1 0, wA 0x60 0 0 0, wA 0x61 0 0 0,
   wI 1 3 1 5, wI 2 3 1 5, wI 3 3 1 5, wI 4 3 1 5, wI 5 3 1 8, wI 6 28 1 5, wI 7 28 1 5, wB 8 3 5, wB 9 1 5, wM 10 3 1 3 0, wM 11 3 1 3 0,
   wM 12 3 1 3 0, wM 13 3 1 3 0, wB 15 3 2, 0x11 * 2 ^ 24 + 2 * 2 ^ 10 + 1 * 2 ^ 5, 0x12 * 2 ^ 24 + 2 * 2 ^ 10 + 5,
   0x13 * 2 ^ 24 + 7 * 2 ^ 19 + 1 * 2 ^ 14 + 4, 0x14 * 2 ^ 24 + 7 * 2 ^ 19 + 1 * 2 ^ 14 + 4,
   0x15 * 2 ^ 24 + 7 * 2 ^ 19 + 1 * 2 ^ 14 + 8 * 2 ^ 9 + 7 * 2 ^ 4, 0x16 * 2 ^ 24 + 2 ^ 22, 0x17 * 2 ^ 24 + 2 ^ 22 + 1 * 2 ^ 14,
   0x18 * 2 ^ 24 + 2 ^ 22 + 3 * 2 ^ 14]

/-- Rows that carry no guard field: LOOP and LOOPI. -/
def unguardedOp (o : CoreOp) : Bool := o == .loop || o == .loopi
/-- Rows that read no s register never wait for a load. -/
def hypsB (s : State) (r : Instr × CoreOp × (Nat → List Nat)) : Bool :=
  s.coreLive 0 && decide (CC.decode (s.coreWord 0) = some r.2.1) && cleanB s 0 && !(s.blk 0).core.loops.any (fun l => l.2 == 0)

/-- CoreGuardFalseRetiresAndLoadWaits: every guarded row with a false guard p1, and every row that reads s1 with a load to s1 in flight. -/
theorem wit_core_guard_false : (List.range rowWords.length).all (fun k =>
    let s := atWord (rowWords.getD k 0 + 2 ^ 29)
    ((coreRows 0)[k]?).any (fun r => unguardedOp r.2.1 || (hypsB s r && !s.preg 0 (CC.guard (s.coreWord 0)) && decide ((coreNext s 0).2.2 < 0x1_0000)))) = true := by
  decide +kernel
theorem wit_core_load_waits : (List.range rowWords.length).all (fun k =>
    let s := atWord (rowWords.getD k 0) { core0 with loads := [⟨0, 1, 3, 0⟩] }
    ((coreRows 0)[k]?).any (fun r => (r.2.2 (s.coreWord 0)).contains 1 == false || (hypsB s r && s.preg 0 (CC.guard (s.coreWord 0))))) = true := by
  decide +kernel

/-- CoreTransfersReachTheirTargets: BR and CSKIP taken and not, BR on p0, BRL, JR and JRL; targets 0 and 0xFFFC. -/
theorem wit_br : ∀ x ∈ [(wB 14 0 0 1, false), (wB 14 0 0 1 + 2 ^ 23, true), (wB 14 0 0 0, true), (wB 14 0 0 0 + 2 ^ 23, false), (wB 14 0 0x3FFF 0, true)],
    let s := atWord x.1
    let t : Int := at' s 0 + 4 * CC.imm19 (s.coreWord 0)
    coreIssues s 0 .br (fun _ => []) ∧ notAtEnd s 0 ∧ (decide (s.preg 0 (CC.guard (s.coreWord 0)) ≠ CC.neg (s.coreWord 0)) = x.2)
      ∧ legalTarget s 0 t true ∧ goesOn s 0 := by
  unfold coreIssues fetchClean wordClean notAtEnd legalTarget goesOn; decide +kernel
theorem wit_cskip : ∀ x ∈ [(wB 16 0 1 1, false), (wB 16 0 1 0, true)],
    let s := atWord x.1
    let t : Int := at' s 0 + 4 * CC.imm19 (s.coreWord 0)
    coreIssues s 0 .cskip (fun _ => []) ∧ notAtEnd s 0 ∧ (decide (s.preg 0 (CC.guard (s.coreWord 0)) ≠ CC.neg (s.coreWord 0)) = x.2)
      ∧ legalTarget s 0 t true ∧ goesOn s 0 := by
  unfold coreIssues fetchClean wordClean notAtEnd legalTarget goesOn; decide +kernel
theorem wit_calls :
    (let s := atWord (wB 15 3 0x3FFF); coreReady s 0 .brl (fun _ => []) ∧ notAtEnd s 0 ∧ legalTarget s 0 (at' s 0 + 4 * CC.imm19 (s.coreWord 0)) false)
    ∧ ∀ x ∈ [(wA 0x50 0 1 0, CoreOp.jr, true), (wA 0x51 3 1 0, CoreOp.jrl, false)],
      let s := atWord x.1 { core0 with sreg := [(1, 0xFFFC)] }
      coreReady s 0 x.2.1 (fun w => [CC.rs1 w]) ∧ notAtEnd s 0 ∧ legalTarget s 0 (s.sreg 0 (CC.rs1 (s.coreWord 0))) x.2.2 := by
  unfold coreReady coreIssues fetchClean wordClean notAtEnd legalTarget; decide +kernel

/-- CoreLoopsClassFenceAndHalt: LOOP and LOOPI with counts 0 and 5 as the fourth loop, SETCLS of an allowed and another label, FENCE with
nothing and with a store in flight, HALT. -/
def inLoops : Core := { core0 with loops := [(0, 40), (0, 44), (0, 48)] }
theorem wit_loops : ∀ x ∈ [(0x11 * 2 ^ 24 + 3 * 2 ^ 22 + 2 * 2 ^ 10 + 1 * 2 ^ 5, CoreOp.loop, [1], (0 : Nat)),
      (0x11 * 2 ^ 24 + 3 * 2 ^ 22 + 2 * 2 ^ 10 + 2 * 2 ^ 5, CoreOp.loop, [2], 5),
      (0x12 * 2 ^ 24 + 3 * 2 ^ 22 + 2 * 2 ^ 10, CoreOp.loopi, [], 0), (0x12 * 2 ^ 24 + 3 * 2 ^ 22 + 2 * 2 ^ 10 + 5, CoreOp.loopi, [], 5)],
    let s := atWord x.1 { inLoops with sreg := [(2, 5)] }
    let w := s.coreWord 0
    let c := (s.blk 0).core
    let e := at' s 0 + 4 * CC.len w
    coreReady s 0 x.2.1 (fun _ => x.2.2.1) ∧ notAtEnd s 0 ∧ CC.lcf w = c.loops.length ∧ c.loops.length < 4 ∧ e + 4 < 0x1_0000
      ∧ (∀ l ∈ c.loops, l.1 ≤ at' s 0 → at' s 0 ≤ l.2 → e ≤ l.2)
      ∧ (if x.2.1 = .loop then s.sreg 0 (CC.loopRs w) % 2 ^ 32 else CC.cnt w) = x.2.2.2 ∧ at' s 0 % 4 = 0 := by
  unfold coreReady coreIssues fetchClean wordClean notAtEnd; decide +kernel
theorem wit_setcls : ∀ k ∈ [(0, false), (15, true)],
    let s := { atWord (wA 0x45 0 k.1 0) with ctxs := [(5, { Ctx.reset with host := [(0xF, 0x80)] })] }
    coreReady s 0 .setcls (fun _ => []) ∧ goesOn s 0 ∧ s.classMask.testBit (CC.rs1 (s.coreWord 0)) = k.2 := by
  unfold coreReady coreIssues fetchClean wordClean goesOn; decide +kernel
theorem wit_fence_halt :
    (∀ st ∈ [[], [7]], let s := atWord (wA 0x60 0 0 0) { core0 with stores := st }
      coreReady s 0 .fence (fun _ => []) ∧ (s.blk 0).core.loads = [] ∧ (s.blk 0).core.stores = st ∧ goesOn s 0)
    ∧ (let s := atWord 0x61; coreReady s 0 .halt (fun _ => []) ∧ notAtEnd s 0 ∧ goesOn s 0) := by
  unfold coreReady coreIssues fetchClean wordClean goesOn notAtEnd; decide +kernel

/-- CoreBuildsAndSendsCommands: the three builders; QSEND and QSENDM with room and with 64 entries. -/
theorem wit_builders : ∀ x ∈ [(0x13 * 2 ^ 24 + 7 * 2 ^ 19 + 1 * 2 ^ 14 + 4, CoreOp.cbw), (0x14 * 2 ^ 24 + 7 * 2 ^ 19 + 1 * 2 ^ 14 + 4, CoreOp.cbwh),
      (0x15 * 2 ^ 24 + 7 * 2 ^ 19 + 1 * 2 ^ 14 + 24 * 2 ^ 9 + 7 * 2 ^ 4, CoreOp.cbins)],
    coreReady (atWord x.1) 0 x.2 (fun w => [CC.qrs w]) ∧ goesOn (atWord x.1) 0 := by
  unfold coreReady coreIssues fetchClean wordClean goesOn; decide +kernel
/-- Block 0 with n entries in VXQ. -/
def filled (s : State) (n : Nat) : State :=
  s.onBlk 0 (fun b => { b with q := { b.q with vxq := (List.range n).map (fun i => ⟨i, 0⟩) }, sp := { b.sp with own := some 5 } })
theorem wit_sends : ∀ n ∈ [63, 64],
    (let s := filled (atWord (0x16 * 2 ^ 24 + 2 ^ 22)) n
     coreReady s 0 .qsend (fun _ => []) ∧ ((s.blk 0).q.entries (qOf (CC.q (s.coreWord 0)))).length = n ∧ goesOn s 0)
    ∧ (let s := filled (atWord (0x17 * 2 ^ 24 + 2 ^ 22 + 1 * 2 ^ 14 + 1)) n
       let a := to64 ((s.sreg 0 (CC.qrs (s.coreWord 0)) : Int) + 32 * CC.imm14 (s.coreWord 0)) % 2 ^ 20
       coreReady s 0 .qsendm (fun w => [CC.qrs w]) ∧ a % 32 = 0 ∧ ((s.blk 0).q.entries (qOf (CC.q (s.coreWord 0)))).length = n
         ∧ s.spAsleep 0 a 32 = []) := by
  unfold coreReady coreIssues fetchClean wordClean goesOn; decide +kernel

/-! ### Loads, stores and scratchpad of the core -/

/-- Memory of 4 GiB in group 0; context 5 runs with a committed region at 0, a direct one at 0x1_0000 and a shared one of another
context at 0x2_0000. -/
def mapped (s : State) : State :=
  { (s.wr F.MEMC_LAYOUT_LOCKED 0 0 1).wr F.MEMC_RANGE_SIZE_SIZE 0 0 (2 ^ 32) with
    ctxs := [(5, { Ctx.reset with
      state := 3
      loaded := true
      resident := true
      regions := [⟨0, 0x1_0000, 0x10_0000, 0x20_0000, 0, 0xFF, 0, false⟩, ⟨0x1_0000, 0x1_0000, 0x30_0000, 0, 1, 0xFF, 0, false⟩,
        ⟨0x2_0000, 0x1_0000, 0x40_0000, 0, 2, 0xFF, 7, true⟩] })] }
/-- Block 0 with core c at word w, in mapped memory. -/
def atMem (w a : Nat) (l1 : List L1Line := []) : State :=
  (mapped (atWord w { core0 with sreg := [(1, BitVec.ofNat 64 a), (3, 0x1122)] })).onBlk 0 (fun b => { b with l1 := l1, sp := { b.sp with own := some 5 } })
/-- Reads and writes of context 5 at 0xFF80 and 0x1_0000. -/
def xRead : Xlat := ⟨0x10_FF80, 5, 0x1005, 0x11, 0, 0, false⟩
def xWrite : Xlat := ⟨0x30_0000, 5, 0x1005, 0x31, 1, 1, false⟩
/-- Access of 8 bytes: LD, ST, LDS, STS. -/
def wLd : Nat := wM 10 3 1 3 0
def wSt : Nat := wM 11 3 1 3 0
def wLds : Nat := wM 12 3 1 3 0
def wSts : Nat := wM 13 3 1 3 0

/-- CoreLoadsAndStoresAreSent: a hit; a miss, of the first and at the last byte of a region, misaligned. -/
theorem wit_load : ∀ l1 ∈ [[], [(⟨0x21FF, 5, 0x1005, 0x55, false⟩ : L1Line)]],
    let s := atMem wLd 0xFF84 l1
    let a := s.coreAddr 0 (s.coreWord 0) / 8 * 8
    readyB s 0 .ld (fun w => [CC.rs1 w]) = true ∧ s.plaza.run = some (frameOf 5) ∧ (s.blk 0).core.loads.length < 8
      ∧ s.xlat 5 a false false = some xRead ∧ (∀ y ∈ (s.blk 0).l1, y.line = lineOfAddr xRead → y.bad = false) ∧ s.l1Find 0 (lineOfAddr xRead) xRead.owner xRead.keyh = l1.head?
      ∧ ((afterAlign s 0 (s.coreAddr 0 (s.coreWord 0)) 8).homeOf (lineOfAddr xRead)).isSome = true := by decide +kernel
theorem wit_store :
    let s := atMem wSt 0x1_0000
    let a := s.coreAddr 0 (s.coreWord 0) / 8 * 8
    readyB s 0 .st (fun w => [CC.rs1 w, CC.rd w]) = true ∧ s.plaza.run = some (frameOf 5) ∧ (s.blk 0).core.stores.length < 8
      ∧ s.xlat 5 a false true = some xWrite ∧ xWrite.forbidden = false
      ∧ ((afterAlign s 0 (s.coreAddr 0 (s.coreWord 0)) 8).homeOf (lineOfAddr xWrite)).isSome = true := by decide +kernel
/-- CoreFaultsAndScratchpadAccess: past the last region, and in a shared region that another context owns. -/
theorem wit_outside :
    (let s := atMem wLd 0x3_0000; readyB s 0 .ld (fun w => [CC.rs1 w]) = true ∧ s.xlat 5 0x3_0000 false false = none)
    ∧ (let s := atMem wSt 0x3_0000; readyB s 0 .st (fun w => [CC.rs1 w, CC.rd w]) = true ∧ s.xlat 5 0x3_0000 false true = none)
    ∧ (let s := atMem wSt 0x2_FFF8; readyB s 0 .st (fun w => [CC.rs1 w, CC.rd w]) = true ∧ s.coreAddr 0 (s.coreWord 0) = 0x2_FFF8
        ∧ (s.xlat 5 0x2_FFF8 false true).any (fun x => x.forbidden) = true) := by decide +kernel
/-- CoreFaultsAndScratchpadAccess: the last doubleword, with its bank awake and retained. -/
theorem wit_scratchpad : ∀ asleep ∈ [0, 0x8000], ∀ w ∈ [(wLds, CoreOp.lds), (wSts, CoreOp.sts)],
    let s := (atMem w.1 0xF_FFF8).wr F.BLK_SP_STATUS_RETAINED 0 0 asleep
    readyB s 0 w.2 (fun w => [CC.rs1 w, CC.rd w]) = true ∧ s.coreAddr 0 (s.coreWord 0) = 0xF_FFF8
      ∧ (s.spAsleep 0 0xF_FFF8 8).length = asleep / 0x8000 := by decide +kernel
/-- ScratchpadByteWriteThenRead: the first byte, with owner context and unit as they must be. -/
theorem wit_scratchpad_byte :
    let s := (atMem wLds 0).wr F.BLK_SP_OWN_UNIT 0 0 2
    s.spServes 0 (s.spPlaceOf 0 0).1 spVec = true ∧ spVec.code ≠ 4 ∧ (s.blk 0).sp.errs = [] ∧ (s.blk 0).sp.inject = 0
      ∧ (s.spWord 0 8 ≠ s.spWord 0 0 ∨ 8 % 8 ≠ 0 % 8) := by decide +kernel
/-- A request of Block 0's core, each for a context of its own. -/
def req0 (id : Nat) (op : ROp) : Req :=
  ⟨id, .core 0, op, 0, 0, 0, [], 5, 0x1005, some id, 0, false, 0, false, 0, 0, 0, false, 0, 0, 8, false⟩
/-- CoreLoadReturnsAndStoreCompletes: both with k = 0 and k = 1. -/
theorem wit_returns : ∀ k < 2,
    let s := { atWord 0 { core0 with loads := [⟨2, 3, 3, 0⟩, ⟨4, 5, 0, 8⟩], stores := [6, 7] } with
      resps := [⟨req0 2 .read, 0x55⟩, ⟨req0 4 .read, 0x66⟩, ⟨req0 6 .write, 0⟩, ⟨req0 7 (.reduce 1), 0⟩] }
    ((((s.blk 0).core.loads.filter (fun l => (inOrder s 0).any (fun r => r.req.id == l.req)))[k]?).any (fun l =>
        ((inOrder s 0).find? (fun r => r.req.id == l.req)).isSome)) = true
    ∧ (((inOrder s 0).filter (fun r => r.req.op != .read))[k]?).isSome = true := by decide +kernel
/-- IllegalInstructionIsConfined: op 0x1F, and CMP with a reserved destination. -/
theorem wit_illegal : ∀ w ∈ [0x1F * 2 ^ 24, wA 0x20 8 1 2, 0],
    (atWord w).coreLive 0 = true ∧ (CC.decode ((atWord w).coreWord 0) = none ∨ w = 0) := by decide +kernel

/-- R129: ADD wraps; s[RD] may be a source; s0 stays 0. -/
theorem test_add_wraps : (match exec (.add 0) (atWord (wA 0 2 1 2) { core0 with sreg := [(1, 0xFFFF_FFFF_FFFF_FFFF), (2, 2)] }) with
    | .next t => t.sreg 0 2 == 1 && (t.blk 0).core.pc == 4 | _ => false) = true := by decide +kernel
theorem test_add_s0 : (match exec (.add 0) (atWord (wA 0 0 1 1) { core0 with sreg := [(1, 3)] }) with
    | .next t => t.sreg 0 0 == 0 && (t.blk 0).core.sreg == [(1, 3)] | _ => false) = true := by decide +kernel
/-- R129: DIVU by 0 gives all ones, SRA keeps the sign. -/
theorem test_divu_zero : (match exec (.divu 0) (atWord (wA 0xB 3 1 2) { core0 with sreg := [(1, 7)] }) with
    | .next t => t.sreg 0 3 == 2 ^ 64 - 1 | _ => false) = true := by decide +kernel
theorem test_sra_sign : (match exec (.sra 0) (atWord (wA 8 3 1 2) { core0 with sreg := [(1, 0x8000_0000_0000_0000), (2, 0x7F)] }) with
    | .next t => t.sreg 0 3 == 2 ^ 64 - 1 | _ => false) = true := by decide +kernel
/-- R131: LDS of a signed byte. -/
theorem test_lds_sign : (match exec (.lds 0) (((atMem (wM 12 3 1 0 0) 1).wr F.BLK_SP_OWN_UNIT 0 0 1).onBlk 0 (fun b => { b with sp := { b.sp with words := [(0, 0x8000)] } })) with
    | .next t => t.sreg 0 3 == 2 ^ 64 - 128 && t.rd F.BLK_SP_FOREIGN 0 == 0 | _ => false) = true := by decide +kernel
/-- R143: bytes 30 and 31 of a command are CRC-16 of bytes 0 to 29; the check of "123456789" is 0x29B1. -/
theorem test_crc16 : crc16 ("123456789".toList.map (fun c => BitVec.ofNat 8 c.toNat)) = 0x29B1 := by decide +kernel
/-- R308: the check values of the other two CRCs. -/
theorem test_crc32 : crc32 ("123456789".toList.map (fun c => BitVec.ofNat 8 c.toNat)) = 0xCBF4_3926 := by decide +kernel
theorem test_crc32c : crc32c ("123456789".toList.map (fun c => BitVec.ofNat 8 c.toNat)) = 0xE306_9283 := by decide +kernel

/-! ### The vector engine -/

/-- Words of formats R and I, without guard, and of format M in the bits above the offset (R186). -/
def wR (op d a b c t : Nat) : Nat := op * 2 ^ 52 + d * 2 ^ 46 + a * 2 ^ 40 + b * 2 ^ 34 + c * 2 ^ 28 + t * 2 ^ 24
def wVI (op d a t imm : Nat) : Nat := op * 2 ^ 52 + d * 2 ^ 46 + a * 2 ^ 40 + t * 2 ^ 36 + imm
def wVM (op d a b sz sp t off : Nat) : Nat := op * 2 ^ 52 + d * 2 ^ 46 + a * 2 ^ 40 + b * 2 ^ 34 + sz * 2 ^ 31 + sp * 2 ^ 29 + t * 2 ^ 24 + off
/-- A group of slot 0 that has just begun, with its first 28 lanes active. -/
def grp0 : Group := ⟨0, 0, 1, 0, false, false, 0, 0, 0x0FFF_FFFF, 0xF000_0000, [], [], [], [], [], [], [], none⟩
/-- Group x in slot 0 of Block 0 at the 64-bit word w, in mapped memory; offset 0xFFF0 holds the word too. -/
def atVec (w : Nat) (x : Group := grp0) : State :=
  mapped (inFrame 5 [(0, { blk0 with
    core := core0
    sp := { Spad.reset with own := some 5 }
    im := { IMem.reset with half0 := [(0, BitVec.ofNat 32 w), (1, BitVec.ofNat 32 (w / 2 ^ 32)), (0x3FFC, BitVec.ofNat 32 w), (0x3FFD, BitVec.ofNat 32 (w / 2 ^ 32))] }
    vx := [(0, x)] })])

/-- The hypotheses of a vector row, as a test. -/
def vreadyB (s : State) (op : VecOp) (x : Group) : Bool :=
  decide (s.grp 0 0 = some x) && (s.blk 0).core.running && !(s.blk 0).vxStopped && decide (x.active ≠ 0) && cleanAtB s 0 x.pc
    && decide (VX.decode ((s.blk 0).im.fetch64 x.pc) = some op)
    && x.loads.all (fun l => (List.range (VX.szRegs l.sz)).all (fun i => !(VX.uses op ((s.blk 0).im.fetch64 x.pc)).contains (l.d + i)))
    && decide (x.pc + 8 < 0x1_0000)

theorem vreadyB_ready {s : State} {op : VecOp} {x : Group} (h : vreadyB s op x = true) : vecReady s 0 0 op x := by
  simp only [vreadyB, Bool.and_eq_true, decide_eq_true_eq, Bool.not_eq_true', List.all_eq_true, List.mem_range, List.contains_eq_mem,
    decide_eq_false_iff_not] at h
  obtain ⟨⟨⟨⟨⟨⟨⟨h1, h2⟩, h3⟩, h4⟩, h5⟩, h6⟩, h7⟩, h8⟩ := h
  exact ⟨by decide, h1, h2, h3, h4, cleanAtB_clean h5, h6, h7, h8⟩

/-- Words of the rows of VectorRowsWriteLanes, in the order of vecIntRows, vecFloatRows and vecPredRows. -/
def vrowWords : List Nat :=
  (List.range 12).map (fun k => wR (k + 1) 3 1 2 4 1) ++ [wVI 0x10 3 0 0 0xFFFF_FFFF, wVI 0x11 3 1 1 7, wR 0x32 3 1 0 0 0, wR 0x33 3 1 2 0 0,
    wVI 0x55 3 0 0 7, wR 0x20 3 1 2 4 2, wR 0x21 3 1 2 4 3, wR 0x22 3 1 2 4 4, wR 0x23 3 1 2 4 2, wR 0x24 3 1 2 4 2, wR 0x25 3 1 0 0 2,
    wR 0x26 3 1 0 0 2, wR 0x27 3 1 0 0 2, wR 0x28 3 1 0 0 2, wR 0x29 3 1 0x14 0 2]
theorem wit_vector_rows : (List.range vrowWords.length).all (fun k =>
    let s := atVec (vrowWords.getD k 0)
    ((vecIntRows s 0 0 grp0 (vecWord s 0 grp0) ++ vecFloatRows 0 0 grp0 (vecWord s 0 grp0))[k]?).any (fun r => vreadyB s r.2.1 grp0)) = true := by
  decide +kernel
theorem wit_vector_predicate_rows : ∀ w ∈ [(wR 0x30 7 1 2 5 2, VecOp.setp), (wR 0x31 7 1 2 3 0, VecOp.plop)], vreadyB (atVec w.1) w.2 grp0 = true := by
  decide +kernel
theorem wit_gmma : vreadyB (atVec (wR 0x60 62 1 2 4 2)) .gmma grp0 = true := by decide +kernel

/-- VectorControlFlow: all go, none goes, a split to the point of the top entry, a split with 15 entries, and with 16. -/
def splitting (n rpc : Nat) : Group := { grp0 with qreg := [(1, true)], stack := List.replicate n ⟨rpc, 0, 0, 0⟩ }
theorem wit_bra : ∀ e ∈ [(wVI 0x50 0 0 0 0x80_0040, grp0, false, true), (wVI 0x50 0 0 0 0x80_0040 + 2 ^ 60, grp0, true, false),
      (wVI 0x50 0 0 0 0x80_0080 + 2 ^ 61, splitting 1 0x80, true, true), (wVI 0x50 0 0 0 0x80_0040 + 2 ^ 61, splitting 15 0, true, true),
      (wVI 0x50 0 0 0 0x80_0040 + 2 ^ 61, splitting 16 0, true, true)],
    let go := e.2.1.guarded (vecWord (atVec e.1 e.2.1) 0 e.2.1)
    vreadyB (atVec e.1 e.2.1) .bra e.2.1 = true ∧ decide (e.2.1.active &&& ~~~go ≠ 0) = e.2.2.1 ∧ decide (go ≠ 0) = e.2.2.2 := by
  decide +kernel
/-- VectorControlFlow: JOIN at the top entry's point and elsewhere, both barriers, EXIT of all and of one thread; at the last
offset but one as well. -/
def joining (pc rpc : Nat) : Group := { grp0 with pc := pc, stack := [⟨rpc, 0x0FFF_FFFF, 0, 0⟩] }
/-- A group at the point of an entry with a pending path. -/
def pending (pc : Nat) : Group := { grp0 with pc := pc, active := 1, stack := [⟨pc, 0xFFFF_FFFF, 8, 2⟩] }
theorem wit_join : ∀ x ∈ [(joining 0 0, true), (pending 0, true), (joining 0xFFF0 0xFFF0, true), (joining 0 8, false), (grp0, false)],
    vreadyB (atVec (wVI 0x51 0 0 0 0) x.1) .join x.1 = true ∧ x.1.stack.head?.any (fun e => e.rpc == x.1.pc) = x.2 := by decide +kernel
theorem wit_barriers : ∀ e ∈ [(0x52, VecOp.barG), (0x53, VecOp.barB)], vreadyB (atVec (wVI e.1 0 0 0 0)) e.2 grp0 = true ∧ grp0.stores = [] := by
  decide +kernel
/-- Two groups at a BAR.B: the first arrives with one entry on its stack while the second waits at offset 8 or has not arrived. -/
def barPair (waiting : Bool) : State :=
  let x : Group := { grp0 with stack := [⟨0x40, 0xFFFF_FFFF, 0, 0⟩] }
  let ls := List.range 32
  let z : Group := if waiting then { grp0 with active := 0, waits := ls.map (fun l => (l, 8)), waitBlk := ls.map (fun l => (l, true)) } else grp0
  (atVec (wVI 0x53 0 0 0 0) x).onBlk 0 (fun b => { b with vx := [(0, x), (1, z)] })
theorem wit_block_barrier : ∀ b ∈ [true, false],
    let s := barPair b
    (s.grp 0 0).any (fun x => vreadyB s .barB x && x.stores == [] && x.active == ~~~x.exited && (s.blk 0).vx.length == 2) = true
      ∧ (s.grp 0 1).any (fun z => z.alive != [] && z.atBlk == (if b then some 8 else none)) = true := by decide +kernel
/-- R198, R202: the group whose arrival releases the Block barrier keeps its stack; one that must wait has its entries popped. -/
theorem test_block_barrier :
    (match exec (.barB 0 0) (barPair true) with
      | .next t => (t.grp 0 0).any (fun y => y.pc == 8 && y.stack.length == 1 && y.active == 0x0FFF_FFFF) && (t.grp 0 1).any (fun z => z.pc == 16)
      | _ => false) = true
    ∧ (match exec (.barB 0 0) (barPair false) with
      | .next t => (t.grp 0 0).any (fun y => y.stack == [] && y.active == 0) | _ => false) = true := by decide +kernel
theorem wit_exit : ∀ e ∈ [(wVI 0x54 0 0 0 0, grp0, false), (wVI 0x54 0 0 0 0 + 2 ^ 61, splitting 0 0, true)],
    vreadyB (atVec e.1 e.2.1) .exit e.2.1 = true
      ∧ decide (e.2.1.active &&& ~~~(e.2.1.guarded (vecWord (atVec e.1 e.2.1) 0 e.2.1)) ≠ 0) = e.2.2 := by decide +kernel

/-- Group of one thread that acts, on lane 0, at the address in t2. -/
def lane0 (a : Nat) : Group := { grp0 with active := 1, exited := 0xFFFF_FFFE, treg := [(2, BitVec.ofNat 32 a)] }
/-- VectorLoadsFillRegisters: a scratchpad load of 16 bytes at the last address, and a context load of 4 bytes. -/
theorem wit_vector_load :
    (let x := lane0 0xF_FFF0
     let s := atVec (wVM 0x40 4 2 0 4 0 0 0) x
     vreadyB s .ld x = true ∧ VX.sp (vecWord s 0 x) = 0
       ∧ (List.range 16).all (fun i => decide (s.spAsleep 0 (32 * ((x.spAddr (vecWord s 0 x) 0 + i) % 2 ^ 20 / 32)) 32 = [])) = true)
    ∧ (let x := lane0 0xFFFC
       let s := atVec (wVM 0x40 4 2 0 2 1 0 0) x
       vreadyB s .ld x = true ∧ VX.sp (vecWord s 0 x) = 1 ∧ s.laneFault 5 (x.addr (vecWord s 0 x) 0) 4 x.sr false = none ∧ x.inFlight < 8
         ∧ takesPart x (vecWord s 0 x) 0 = true ∧ (s.blk 0).l1 = []) := by decide +kernel
/-- VectorStoresAndReductionsAreSent: a scratchpad store, a context store, a reduction, and stores that meet faults of kinds 1, 2 and 3. -/
theorem wit_vector_store :
    (let x := lane0 0xF_FFFC
     let s := atVec (wVM 0x41 0 2 4 2 0 0 0) x
     vreadyB s .st x = true ∧ VX.sp (vecWord s 0 x) = 0 ∧ (s.blk 0).sp.inject = 0
       ∧ s.spAsleep 0 0xF_FFE0 32 = [] ∧ x.spAddr (vecWord s 0 x) 0 = 0xF_FFFC)
    ∧ (∀ e ∈ [(wVM 0x41 0 2 4 2 1 0 0, VecOp.st, 0x1_0000, none), (wVM 0x42 0 2 4 2 1 1 0, VecOp.red, 0x1_FFFC, none),
        (wVM 0x41 0 2 4 2 1 0 0, VecOp.st, 0x3_0000, some 1), (wVM 0x42 0 2 4 2 1 1 0, VecOp.red, 0x2_0000, some 2),
        (wVM 0x41 0 2 4 3 1 0 0, VecOp.st, 0x1_001C, some 3)],
       let x := lane0 e.2.2.1
       let s := atVec e.1 x
       vreadyB s e.2.1 x = true ∧ takesPart x (vecWord s 0 x) 0 = true ∧ x.inFlight < 8
         ∧ s.laneFault 5 (x.addr (vecWord s 0 x) 0) (VX.szBytes (VX.sz (vecWord s 0 x))) x.sr true = e.2.2.2) := by decide +kernel
/-- VectorGroupsStartLoadAndRetire: the answer that completes a load, a group that has exited, an illegal word. -/
theorem wit_vector_retire :
    (let l : VLoad := ⟨4, 2, [⟨0, 0, 0, 4⟩], [9], []⟩
     let x := { grp0 with loads := [l] }
     let s := { atVec 0 x with resps := [⟨req0 9 .read, 0x55⟩] }
     s.grp 0 0 = some x ∧ x.loads = [l] ∧ l.need = [9]
       ∧ (((inOrder s 0).filter (fun r => x.loads.any (fun l => l.need.contains r.req.id)))[0]?).any (fun r => r.req.id == 9) = true)
    ∧ (let x := { grp0 with exited := 0xFFFF_FFFF, active := 0 }
       (atVec 0 x).grp 0 0 = some x ∧ x.alive = [] ∧ x.stores = [])
    ∧ ∀ w ∈ [0, wR 0x01 3 1 2 4 2, wVM 0x40 3 2 0 4 0 0 0], (atVec w).grp 0 0 = some grp0 ∧ VX.decode (vecWord (atVec w) 0 grp0) = none := by
  decide +kernel

/-- R185: IMAD on the lanes whose guard is true, destination also a source; the others keep their value. -/
theorem test_imad : (match exec (.imad 0 0) (atVec (wR 4 3 3 1 3 0 + 2 ^ 61)
      { grp0 with active := 3, qreg := [(1, true)], treg := [(1, 5), (3, 7), (65, 5), (67, 7)] }) with
    | .next t => (t.grp 0 0).any (fun y => y.t 0 3 == 42 && y.t 1 3 == 7 && y.pc == 8) | _ => false) = true := by decide +kernel
/-- R188: 1.5 + 0.25 in FP32; NaN gives 0x7FC0_0000. -/
theorem test_fadd : (match exec (.fadd 0 0) (atVec (wR 0x20 3 1 2 0 2)
      { grp0 with active := 3, treg := [(1, 0x3FC0_0000), (2, 0x3E80_0000), (65, 0x7FFF_FFFF), (66, 0x3E80_0000)] }) with
    | .next t => (t.grp 0 0).any (fun y => y.t 0 3 == 0x3FE0_0000 && y.t 1 3 == 0x7FC0_0000) | _ => false) = true := by decide +kernel
/-- R189: SHR keeps the sign for type 1, and shifts by the low five bits. -/
theorem test_shr : (match exec (.shr 0 0) (atVec (wR 9 3 1 2 0 1) { grp0 with active := 1, treg := [(1, 0x8000_0000), (2, 0x21)] }) with
    | .next t => (t.grp 0 0).any (fun y => y.t 0 3 == 0xC000_0000) | _ => false) = true := by decide +kernel
/-- R189: CVT of -2.5 to a signed integer rounds to even. -/
theorem test_cvt : (match exec (.cvt 0 0) (atVec (wR 0x29 3 1 1 0 2) { grp0 with active := 1, treg := [(1, 0xC020_0000)] }) with
    | .next t => (t.grp 0 0).any (fun y => y.t 0 3 == 0xFFFF_FFFE) | _ => false) = true := by decide +kernel


/-- R189: a reciprocal of 3 stands within 2 units in the last place (1/3 lies between 0x3EAAAAAA and 0x3EAAAAAB), and not beyond. -/
theorem test_special_bound : specialF .rcp 0x40400000 0x3EAAAAAC = 0x3EAAAAAC ∧ specialF .rcp 0x40400000 0x3EAAAAAD ≠ 0x3EAAAAAD := by decide +kernel
/-! ### Queues, matrix arrays, copies and dispatch -/

/-- A command of the given number with its check in bytes 30 and 31 (R143, R159). -/
def cmdOf (n : Nat) : Cmd := BitVec.ofNat 256 (n % 2 ^ 240 + crc16 (leBytes 30 n) * 2 ^ 240)
/-- WAIT and POST of event counter 15, in bytes 28 and 29. -/
def waitPost : Nat := 0x1F1F * 2 ^ 224
/-- Block 0 in a frame with the commands cs in queue k, EC[15] at 1 and 65,535 posts behind it in EC[0], and fs in flight. -/
def queued (k : Q) (cs : List Cmd) (fs : List InFlight := []) : State :=
  mapped (inFrame 5 [(0, { blk0 with
    core := core0
    sp := { Spad.reset with own := some 5 }
    q := { (Queues.reset.put k ((List.range cs.length).zip cs |>.map (fun e => ⟨e.1, e.2⟩))) with inflight := fs, ec := [(0, 65535), (15, 1)] } })])

/-- The hypotheses of headLeaves, as a test. -/
def leavesB (s : State) (k : Q) (e : QEntry) : Bool :=
  !(s.blk 0).q.stopped && (s.blk 0).core.running && decide ((s.blk 0).q.entries k ≠ [])
    && decide ((s.blk 0).q.entries k = e :: ((s.blk 0).q.entries k).tail)
    && (s.blk 0).q.inflight.all (fun f => decide (f.ord ≠ e.ord)) && EC.checkOk e.cmd && decide (EC.queueOf (EC.opcode e.cmd) = some k)
    && s.unitTakes 0 e.cmd && s.waitMet 0 k e.cmd

theorem leavesB_leaves {s : State} {k : Q} {e : QEntry} (h : leavesB s k e = true) : headLeaves s 0 k e := by
  simp only [leavesB, Bool.and_eq_true, decide_eq_true_eq, Bool.not_eq_true', List.all_eq_true] at h
  obtain ⟨⟨⟨⟨⟨⟨⟨⟨h1, h2⟩, h3⟩, h4⟩, h5⟩, h6⟩, h7⟩, h8⟩, h9⟩ := h
  exact ⟨by decide, h1, h2, h3, h4, h5, h6, h7, h8, h9⟩

/-- QueueHeadsLeaveInOrder and MatrixPassIsAcceptedAndFed: each row with WAIT and POST; VLAUNCH of 1 and of 16 groups. -/
theorem wit_heads_leave : ∀ r ∈ [(Q.mxq, 0x10), (.mxq, 0x11), (.mxq, 0x12), (.vxq, 0x20 + 2 ^ 48), (.vxq, 0x20 + 0xFFF8 * 2 ^ 32 + 16 * 2 ^ 48), (.sxq, 0x40)],
    let c := cmdOf (r.2 + waitPost)
    let s := queued r.1 [c]
    leavesB s r.1 ⟨0, c⟩ = true ∧ (EC.opcode c = 0x20 → 0 < EC.fld c 6 0 5 ∧ EC.fld c 6 0 5 ≤ 16 ∧ EC.fld c 4 0 16 % 8 = 0) := by decide +kernel
/-- QueueHeadsAreCheckedAndCommandsComplete: a bad check, and a command of another queue. -/
theorem wit_heads_checked : ∀ k ∈ [Q.mxq, .vxq, .dxq, .sxq],
    EC.checkOk (cmdOf 0x10 + BitVec.ofNat 256 (2 ^ 240)) = false ∧ EC.checkOk (cmdOf 0x7F) = true ∧ EC.queueOf (EC.opcode (cmdOf 0x7F)) ≠ some k
      ∧ ((queued k [cmdOf 0x7F]).blk 0).q.entries k = [⟨0, cmdOf 0x7F⟩] := by decide +kernel
/-- QueueHeadsAreCheckedAndCommandsComplete: a done copy, a launch whose groups have left, a drained SFENCE; POST of EC[0], which is full. -/
theorem wit_complete :
    let s := queued .sxq [cmdOf (0x40 + 7 * 2 ^ 32)] [⟨3, .dxq, cmdOf (0x30 + 0x10 * 2 ^ 224), false, true⟩, ⟨4, .vxq, cmdOf 0x20, true, false⟩,
      ⟨0, .sxq, cmdOf (0x40 + 7 * 2 ^ 32), false, false⟩]
    ∀ k < 3, ((firstOfUnit ((s.blk 0).q.inflight.filter (completes s 0)))[k]?).isSome = true ∧ (s.blk 0).core.running = true := by decide +kernel
/-- BarriersAndFrameEnd: arrival, frame end, release in the last district and on the chip. -/
theorem wit_barrier_frame_end : ∀ c ∈ [0x41 + 7 * 2 ^ 32, 0x41 + 7 * 2 ^ 32 + 2 ^ 40, 0x42],
    let s := queued .sxq [cmdOf c] [⟨0, .sxq, cmdOf c, false, false⟩]
    (s.blk 0).core.running = true ∧ (s.blk 0).q.sxq.head?.all (fun e => (s.blk 0).q.inflight.any (fun f => f.ord == e.ord)) = true
      ∧ (((s.blk 0).held (EC.opcode (cmdOf c))).find? (fun f => !f.started)).any (fun f => s.drained 0 f.ord 7 && s.blkQuiet 0) = true := by decide +kernel
/-- District 15 with one logical Block, at its last site, which waits. -/
def lastWaits : State :=
  { State.reset with
    regs := (keyOf F.DIST_MAP_SITE 15 0, 33) :: (List.range 32).map (fun i => (keyOf F.DIST_MAP_VALID 15 i, if i = 0 then (1 : DWord) else 0))
    blks := [(543, { blk0 with q := { Queues.reset with atBarrier := some false } })] }
theorem wit_barrier_release_district : lastWaits.blksOf 15 = [543] ∧ (lastWaits.blk 543).q.atBarrier = some false ∧ (lastWaits.blk 543).q.barDist = 0 := by
  decide +kernel
/-- The chip scope: Blocks 0 to 543 wait at the barrier, so that every logical Block does, whichever sites the fuses name. -/
def allWait : State :=
  { State.reset with
    regs := [(keyOf F.DIST_MAP_VALID 0 0, 1), (keyOf F.DIST_MAP_SITE 0 0, 0)]
    blks := (List.range' 0 544).map (fun p => (p, { blk0 with q := { Queues.reset with atBarrier := some true } })) }
theorem find_range' {α : Type} (b : α) (p : Nat) : ∀ n a, a ≤ p → p < a + n → SMap.find p ((List.range' a n).map (fun q => (q, b))) = some b
  | 0, a, h, g => absurd g (by omega)
  | n + 1, a, h, g => by
    simp only [List.range'_succ, List.map_cons, SMap.find]
    split
    · rfl
    · exact find_range' b p n (a + 1) (by omega) (by omega)
theorem fuseGood_getD_lt (d i : Nat) : (fuseGood d).getD i 0 < 34 := by
  rcases Nat.lt_or_ge i (fuseGood d).length with h | h
  · rw [List.getD_eq_getElem _ _ h]
    exact List.mem_range.mp (List.mem_filter.mp (List.getElem_mem h)).1
  · rw [List.getD_eq_default _ _ h]; decide
theorem allWait_site_lt (d i : Nat) : allWait.rd F.DIST_MAP_SITE d i < 34 := by
  unfold State.rd State.rdAt
  split
  · rename_i v h
    simp only [allWait, SMap.find] at h
    split at h
    · cases h; decide
    · split at h
      · cases h; decide
      · cases h
  · exact fuseGood_getD_lt d i
theorem wit_barrier_release_chip : allWait.enabledBlks ≠ [] ∧
    ∀ p ∈ allWait.enabledBlks, (allWait.blk p).q.atBarrier = some true ∧ (allWait.blk p).q.barChip = 0 := by
  have h0 : (0 : Nat) ∈ allWait.enabledBlks := by
    refine List.mem_flatten.mpr ⟨_, List.mem_map.mpr ⟨0, by decide, rfl⟩, List.mem_filterMap.mpr ⟨0, by decide, by decide +kernel⟩⟩
  refine ⟨List.ne_nil_of_mem h0, fun p hp => ?_⟩
  obtain ⟨_, hl, hp⟩ := List.mem_flatten.mp hp
  obtain ⟨d, hd, rfl⟩ := List.mem_map.mp hl
  obtain ⟨i, hi, he⟩ := List.mem_filterMap.mp hp
  have hlt : p < 544 := by
    unfold State.phys at he
    split at he
    · cases he
      have := allWait_site_lt ((32 * d + i) / 32) ((32 * d + i) % 32)
      have := List.mem_range.mp hd
      have := List.mem_range.mp hi
      unfold nDist at *
      omega
    · cases he
  have hb : allWait.blk p = { blk0 with q := { Queues.reset with atBarrier := some true } } := by
    unfold State.blk SMap.get
    rw [show allWait.blks = (List.range' 0 544).map (fun p => (p, { blk0 with q := { Queues.reset with atBarrier := some true } })) from rfl,
      find_range' _ p 544 0 (Nat.zero_le _) (by omega)]
    rfl
  rw [hb]
  exact ⟨rfl, rfl⟩

/-- Block 0 with one matrix command in flight, its arrays in hold, and a row-slot of it in the feeder queues. -/
def matrixed (c : Nat) : State :=
  ((queued .mxq [] [⟨0, .mxq, cmdOf c, false, false⟩]).wr F.BLK_SP_OWN_UNIT 0 0 3).onBlk 0 (fun b => { b with
    mx := { b.mx with ramp := .hold, feed := [⟨0, 0, false, 0x3F80, 0⟩] } })
/-- MatrixPassIsAcceptedAndFed: a pass of the last row has a plan, one past it has none. -/
theorem wit_plan : ((matrixed 0).blk 0).plan 0 (cmdOf (0x11 + (0x1FF * 2 ^ 21 + 0x78) * 2 ^ 32)) = some ⟨⟨some Fmt.bf16, 16, 1, false⟩, ⟨some Fmt.bf16, 16, 1, false⟩, 0, 1⟩
    ∧ ((matrixed 0).blk 0).plan 0 (cmdOf (0x11 + (0x1FF * 2 ^ 21 + 0x1078) * 2 ^ 32)) = none := by decide +kernel
/-- MatrixLoadCopiesImages, MatrixPassWritesColumnSums (one unmasked token into row 511) and MatrixDrainWritesTokenRows (one row of array 3 as F32
at OBASE 0 with OSTRIDE 16). -/
def passCmd : Nat := 0x11 + (0x1FF * 2 ^ 21 + 0x78) * 2 ^ 32
def drainCmd : Nat := 0x12 + (0x10 + 0x1FF * 2 ^ 9) * 2 ^ 32 + 16 * 2 ^ 79
theorem wit_matrix_start : ∀ c ∈ [(0x10, 0x10 + 0x1E * 2 ^ 32), (0x11, passCmd), (0x12, drainCmd)],
    let s := matrixed c.2
    let f : InFlight := ⟨0, .mxq, cmdOf c.2, false, false⟩
    (s.blk 0).nextOf c.1 = some f ∧ (s.blk 0).core.running = true ∧ (s.blk 0).mx.ramp = .hold
      ∧ (s.blk 0).allDone 0x10 0 (fun _ => true) = true ∧ (s.blk 0).allDone 0x11 0 (fun _ => true) = true
      ∧ (s.blk 0).allDone 0x12 0 (fun _ => true) = true ∧ s.rd F.BLK_MX_TEST_BALLAST_OFF 0 = 0 ∧ (s.blk 0).fed f = true := by decide +kernel
theorem wit_matrix_effects :
    (MX.loadMask (cmdOf (0x10 + 0x1E * 2 ^ 32)) = 15 ∧ (opFmt (MX.wfmt (cmdOf (0x10 + 0x1E * 2 ^ 32)))).isSome = true)
    ∧ (let s := matrixed passCmd
       (s.blk 0).plan 0 (cmdOf passCmd) = some ⟨⟨some Fmt.bf16, 16, 1, false⟩, ⟨some Fmt.bf16, 16, 1, false⟩, 0, 1⟩ ∧ (s.blk 0).mx.feed = [⟨0, 0, false, 0x3F80, 0⟩]
         ∧ MX.tokens (cmdOf passCmd) = 1 ∧ MX.add (cmdOf passCmd) = false ∧ (MX.passMask (cmdOf passCmd)).testBit 3 = true)
    ∧ (let s := matrixed drainCmd
       MX.drainFmt (cmdOf drainCmd) = some (some Fmt.f32, 4) ∧ MX.rows (cmdOf drainCmd) = 1 ∧ (s.blk 0).sp.inject = 0
         ∧ (List.range 512).all (fun i => s.spServes 0 (s.spPlaceOf 0 (32 * MX.obase (cmdOf drainCmd) + i)).1 feeder) = true
         ∧ (MX.drainMask (cmdOf drainCmd)).testBit 3 = true ∧ accOf s 0 6 = ⟨none, false, []⟩) := by decide +kernel
theorem wit_hold : let s := queued .mxq []; s.rd F.BLK_MX_TEST_BALLAST_OFF 0 = 0 ∧ (s.blk 0).held 0x11 = [] ∧ ((matrixed 0).blk 0).mx.ramp = .hold := by
  decide +kernel
/-- R91: a row of zero weights gives zero sums; the set receives row 511. -/
theorem test_pass : (match exec (.mpassStart 0) (matrixed passCmd) with
    | .next t => ((SMap.find 6 (t.blk 0).mx.accs).bind (fun y => SMap.find 511 y.rows)) == some (List.replicate 32 0) && (t.blk 0).mx.feed == []
    | _ => false) = true := by decide +kernel

/-- DcopyMovesBytes: no row; one row of 64 bytes into the last bytes of scratchpad. -/
def copyCmd (rows n src dst : Nat) : Cmd := cmdOf (0x30 + rows * 2 ^ 40 + n * 2 ^ 56 + src * 2 ^ 80 + dst * 2 ^ 128)
theorem wit_dcopy : ∀ rows ∈ [0, 1],
    let c := copyCmd rows 8 0x20 0xF_FFF8
    let s := queued .dxq [c]
    leavesB s .dxq ⟨0, c⟩ = true ∧ EC.opcode c = 0x30 ∧ DC.rows c = rows ∧ DC.rowBytes c = 8 ∧ DC.srcKind c = 0 ∧ DC.dstKind c = 0 ∧ DC.ok c = true
      ∧ DC.dst c + DC.rowBytes c ≤ 2 ^ 20 ∧ (s.blk 0).sp.errs = [] ∧ (s.blk 0).sp.inject = 0 ∧ s.plaza.run = some (frameOf 5)
      ∧ (List.range 8).all (fun i => decide (s.spAsleep 0 (DC.src c + i) 1 = []) && decide (s.spAsleep 0 (DC.dst c + i) 1 = [])
          && s.spServes 0 (s.spPlaceOf 0 (DC.src c + i)).1 (spDma 0) && s.spServes 0 (s.spPlaceOf 0 (DC.dst c + i)).1 (spDma 0)) = true := by decide +kernel
/-- GatherEngineRunsItsFrontCommand: DGATHER of no row and of one, XCOMBINE, XDISPATCH with a descriptor of zeros. -/
def atEngine (c : Cmd) : State := { queued .dxq [] with gaths := [(0, { Gather.reset with inbound := [⟨0, 0, c⟩] })] }
theorem wit_engine : ∀ n ∈ [0x31, 0x31 + 2 ^ 56 + 32 * 2 ^ 72, 0x39, 0x38],
    let c := cmdOf n
    let s := atEngine c
    (s.blk 0).core.running = true ∧ (s.gath (engineOf 0)).free = true ∧ (s.gath (engineOf 0)).inbound = ⟨0, 0, c⟩ :: (s.gath (engineOf 0)).inbound.tail
      ∧ (EC.opcode c = 0x31 → (DG.count c = 0 ∨ (DG.count c ≠ 0 ∧ DG.rowBytes c ≠ 0 ∧ DG.ok c = true))) := by decide +kernel
/-- A gather, a combine and a dispatch at the head of DXQ. -/
theorem wit_engine_heads : ∀ op ∈ [0x31, 0x39, 0x38], leavesB (queued .dxq [cmdOf op]) .dxq ⟨0, cmdOf op⟩ = true
    ∧ EC.opcode (cmdOf op) = op ∧ ((queued .dxq [cmdOf op]).gath 0).inbound = [] ∧ ((queued .dxq [cmdOf op]).gath 0).free = true := by decide +kernel
theorem wit_dispatch_descriptor : XD.ok (cmdOf 0x38) (List.replicate 128 0) = true := by decide +kernel
/-- DispatchPlacesInRankMajorOrder: a table on its way, and a part that holds its tables. -/
def part0 : Part := ⟨0, 0, cmdOf 0x38, List.replicate 128 0, 3, 1, 0, [⟨3, 0, []⟩], false⟩
theorem wit_dispatch :
    let s := { atEngine (cmdOf 0x38) with gaths := [(15, ⟨[], [part0], [⟨3, 1, [(0, 2)]⟩]⟩)] }
    ((s.gath 15).incoming[0]?).isSome = true ∧ ((s.gath 15).parts.filter Part.ready)[0]? = some part0 ∧ s.plaza.run = some (frameOf 5) := by
  decide +kernel

/-- R94: four steps of 25 percent up to hold. -/
theorem test_ramp : [Ramp.off.accept, (Ramp.up 1).step, (Ramp.up 4).step, (Ramp.down 1).step] = [.up 1, .up 2, .hold, .off] := by decide
/-- R165: POST of a full event counter leaves it full and is counted. -/
theorem test_post_saturates : (match exec (.commandComplete 0 0) (queued .sxq [] [⟨3, .dxq, cmdOf (0x30 + 0x10 * 2 ^ 224), false, true⟩]) with
    | .next t => t.ec 0 0 == 65535 && t.rd F.BLK_EC_SATURATED 0 == 1 && (t.blk 0).q.inflight == [] | _ => false) = true := by decide +kernel
/-- R170: a copy of one row within scratchpad. -/
theorem test_dcopy : (match exec (.dcopy 0) ((queued .dxq [copyCmd 1 8 0 0x100]).onBlk 0 (fun b => { b with sp := { b.sp with words := [(0, 0x1122_3344_5566_7788)] } })) with
    | .next t => t.spByte 0 0x100 == 0x88 && t.spByte 0 0x107 == 0x11 | _ => false) = true := by decide +kernel

/-! ### Scratchpad owners, cache slices -/

/-- mayCommand: the management cores always, a physical function once READY is set. -/
theorem wit_may_command : mayCommand State.reset .mgmt ∧ mayCommand (State.reset.wr F.TOP_STATUS_READY 0 0 1) (.pf 1) := by
  unfold mayCommand; decide +kernel
/-- ScratchpadOwnersAndClove: the last Block and bank, waking and not; owner codes 5 and 6; Clove of both kinds; the last slice. -/
theorem wit_owners_clove :
    (bitOf (((inFrame 5 [(543, blk0)]).wr F.BLK_SP_STATUS_WAKING 543 0 0x8000).rd F.BLK_SP_STATUS_WAKING 543) 15 = true)
    ∧ (bitOf ((inFrame 5 [(543, blk0)]).rd F.BLK_SP_STATUS_WAKING 543) 15 = false ∧ ((inFrame 5 [(543, blk0)]).blk 543).sp.clove = none)
    ∧ (bitsOf (6#32).toNat 0 3 = 6 ∧ bitsOf (0x7D#32).toNat 0 3 = 5)
    ∧ (∀ pres ∈ [0, 1],
        let s := inFrame 5 [(543, blk0)]
        s.enabled .blk 543 = false ∧ bitOf (BitVec.ofNat 32 (1 + 2 * pres)).toNat 0 = true ∧ (s.blk 543).sp.clove = none)
    ∧ (∀ pres ∈ [true, false],
        let s := inFrame 5 [(543, { blk0 with sp := { Spad.reset with clove := some pres } })]
        (s.blk 543).sp.clove = some pres ∧ s.rd F.BOOT_STATUS_STAGE ≠ 5)
    ∧ (let s := { State.reset with sec := { Sec.reset with cloves := [127] } }
       s.sec.cloves.contains 127 = true ∧ s.rd F.BOOT_STATUS_STAGE ≠ 5) := by decide +kernel

/-- A controller of 16 GiB per channel. -/
def memc0 : Memc := ⟨16, false, [], [], [], 0, [], 0, 0, false, [], false, [], 0, [], [], []⟩
/-- A read or write of bytes 0 to 7 of line 0, and the line. -/
def req8 (op : ROp) : Req := { req0 1 op with mask := 0xFF, ctx := none }
def line0 (st : LState) : Line := ⟨0, 0, st, false, 0, 0, 5, 0x1005, false, none, BitVec.allOnes 128, 0x1122, 0, [], 0⟩
/-- Slice 0 as given, with requests rs. -/
def atSlice (sl : Slice) (rs : List Req) : State := { mapped State.reset with slices := [(0, sl)], reqs := rs, memcs := [(0, memc0)] }
theorem wit_slice_hits : ∀ op ∈ [ROp.read, .write, .reduce 1], ∀ st ∈ [LState.clean, .dirty],
    let s := atSlice { Slice.reset with lines := [line0 st] } [req8 op]
    sliceHits s 0 (req8 op) (line0 st) ∧ (req8 op).mask &&& (line0 st).bvalid = (req8 op).mask ∧ (line0 st).dmode = 0 ∧ (s.slc 0).inject = 0 := by
  unfold sliceHits; decide +kernel
theorem wit_slice_misses : ∀ op ∈ [ROp.read, .write, .reduce 1, .prefetch true, .prefetch false],
    let s := atSlice Slice.reset [req8 op]
    sliceMisses s 0 (req8 op) 0 ∧ s.missRoom 0 (req8 op) = true ∧ (s.slc 0).miss.length ≤ 72
      ∧ (s.slc 0).inject = 0 ∧ (req8 op).skew 1 = false ∧ (req8 op).shadow = false := by
  unfold sliceMisses; decide +kernel
theorem wit_slice_retry :
    let r := { req8 .read with refused := true }
    let s := atSlice Slice.reset [r]
    bestBy (Req.older s) (s.reqs.filter (fun r => s.firstRefused r && s.homeOf r.line == some 0)) = some r := by decide +kernel
/-- SliceFillsAndResolves: a fill without and with a waiter, a resolve. -/
def missOf (k : MKind) (st : MStage) (ws : List Req) : Miss := ⟨0, 5, 0x1005, k, st, 0, false, 0, 0, 0, false, true, ws, false, false, 0, 2⟩
theorem wit_fill : ∀ ws ∈ [[], [req8 .read]],
    let m := missOf .fetch (.done 0x33 none) ws
    let s := atSlice { Slice.reset with lines := [{ line0 .filling with bvalid := 0 }], miss := [m] } []
    (s.slc 0).at 0 = some { line0 .filling with bvalid := 0 } ∧ (s.slc 0).miss = [m] ∧ (s.slc 0).inject = 0 ∧ (s.slc 0).parity = none
      ∧ (s.slc 0).errs = [] ∧ (s.slc 0).record = [] := by decide +kernel
theorem wit_resolve :
    let m := missOf .resolve .slot []
    let x := { line0 .reduce with redop := 1 }
    let s := atSlice { Slice.reset with lines := [x], miss := [m] } []
    (s.slc 0).at 0 = some x ∧ (s.slc 0).miss = [m] ∧ s.sharers x = [] ∧ m.lc = false ∧ s.reachable 0 0 = true ∧ Memory.wf s.dram = true
      ∧ (((s.freeMiss 0 m.line).inc F.SLC_RESOLVES 0 0).readLine (0 / 8) x.line x.keyh).2.2 = none := by
  refine ⟨by decide +kernel, by decide +kernel, rfl, rfl, by decide +kernel, rfl, by decide +kernel⟩
/-- PinRequestsTakeAndFreeEntries: PIN of 14 ways, UNPIN, a refusal for one reason, a fill that is done; entry 15. -/
def pinnable : State := mapped State.reset |>.wr F.SLC_PIN_SIZE_SIZE 0 0 0x1_0000 |>.wr F.SLC_PIN_CFG_CEIL 0 0 14
def pinned : State := { pinnable with pins := [(15, ⟨0, 0x1_0000, 5, 2, true⟩)] }
theorem wit_pin : pinnable.pinRefusals 0 (1 + 15 * 4 + 14 * 64 + 5 * 65536) = [] ∧ pinned.pinRefusals 0 (2 + 15 * 4) = []
    ∧ pinnable.pinRefusals 0 (2 + 15 * 4) = [3] ∧ pinnable.pinRefusals 0 (1 + 15 * 4 + 15 * 64 + 5 * 65536) ≠ []
    ∧ SMap.find 15 pinned.pins = some ⟨0, 0x1_0000, 5, 2, true⟩ ∧ pinned.rd F.SLC_PIN_ENTRY_FILLED 0 15 = 0 := by decide +kernel
/-- SweepsDrainsAndScrubs: a sweep of the last slice, a drain, the two scrub walkers, an invalidation, the last acknowledgement and one before. -/
theorem wit_sweep_drain :
    (let s := { State.reset with slices := [(127, { Slice.reset with sweeps := [⟨some 5, none⟩] })] }; (s.slc 127).sweeps = [⟨some 5, none⟩] ∧ (s.slc 127).miss = [] ∧ s.winWait = [])
    ∧ (State.reset.wr F.SLC_SLICE_STATE_MODE 127 0 2).rd F.SLC_SLICE_STATE_MODE 127 = 2 := by decide +kernel
theorem wit_scrub : ∀ e ∈ [0, 1],
    let s := { ((atSlice Slice.reset []).wr F.ERRQ_ENABLE_EFF 0 0 1).wr F.DOM_STATE 24 0 2 with sectors := [(0, ⟨7, e⟩)] }
    s.rd F.ERRQ_ENABLE_EFF ≠ 0 ∧ s.rd F.DOM_STATE 24 = 2 ∧ s.rd F.SLC_SLICE_STATE_MODE 0 < 2 ∧ s.canWalk 0 0 = true ∧ (s.mem 0).failed = false ∧ (s.mem 0).checks = []
      ∧ s.rd F.MEMC_RANGE_BASE_BASE 0 / 32 + (s.mem 0).scrub % s.scrubSectors 0 = 0 ∧ s.sectorErr (s.rd F.MEMC_RANGE_BASE_BASE 0 / 32 + (s.mem 0).scrub % s.scrubSectors 0) = e := by decide +kernel
theorem wit_invalidation : ∀ left ∈ [[543], [543, 0]],
    let m : InvMsg := ⟨127, 9, 543, 4, false⟩
    let s := { State.reset with invs := [m] }
    let a := { State.reset with invs := [{ m with acked := true }], slices := [(127, { Slice.reset with invWait := [⟨req0 4 .write, left⟩] })] }
    s.invs.findIdx? (fun m => m.blk == 543 && !m.acked) = some 0 ∧ s.invs[0]? = some m
      ∧ a.invs.findIdx? (fun m => m.slice == 127 && m.acked) = some 0
      ∧ (a.slc 127).invWait.find? (fun w => w.req.id == 4) = some ⟨req0 4 .write, left⟩
      ∧ (left.filter (fun p => p != 543) = [] ∨ left = [543, 0]) := by decide +kernel

/-- R236: a write of bytes 0 to 7 makes the line DIRTY and leaves byte 8. -/
theorem test_slice_write : (match exec (.sliceRequest 0 []) (atSlice { Slice.reset with lines := [{ line0 .clean with data := BitVec.allOnes 1024 }] } [{ req8 .write with data := 0x42 }]) with
    | .next t => ((t.slc 0).at 0).any (fun y => y.st == .dirty && lineByte y.data 0 == 0x42 && lineByte y.data 1 == 0 && lineByte y.data 8 == 0xFF)
    | _ => false) = true := by decide +kernel

/-! ### Memory controllers and the host window -/

/-- The device with Slice 0 waiting for line 0, and one controller for each group. -/
def atMemc (m : Miss) : State :=
  { mapped State.reset with slices := [(0, { Slice.reset with lines := [line0 .filling], miss := [m] })], memcs := (List.range 16).map (fun g => (g, memc0)) }
/-- ControllersAdmitAndServe: a HELD request; a request that waits where its bank is shut, where a slot is free, and where its class has none; the
first and the second column command of a read, with and without a bad sector; a turn of PARTITION mode; a write of a batch; nothing to do. -/
theorem wit_held :
    let m := missOf .fetch .held []
    let s := atMemc m
    bestBy (GMiss.older s) ((s.groupMiss 0).filter (fun x => x.2.stage == .held && s.bankOf 0 x.2.line == s.bankOf 0 0)) = some (0, m)
      ∧ s.bankSlots 0 (s.bankOf 0 0) < 64 ∧ s.slotRoom 0 m = true := by decide +kernel
theorem wit_offered :
    let m := missOf .fetch .waiting []
    let s := atMemc m
    let full := (s.wr F.MEMC_REG_MODE 0 0 0).wr F.MEMC_CLASS_CAP_CAP_EFF 0 0 0
    waitingOf s 0 = [(0, m)] ∧ (s.mem 0).writes = [] ∧ s.servable 0 = [] ∧ s.bankShut 0 (s.bankOf 0 0) = false ∧ s.slotRoom 0 m = true
      ∧ (s.mem 0).keys.contains 0x1005 = false
      ∧ waitingOf full 0 = [(0, m)] ∧ full.servable 0 = [] ∧ full.slotRoom 0 m = false ∧ full.bankShut 0 (full.bankOf 0 0) = false := by decide +kernel
theorem wit_shut :
    let m := missOf .fetch .waiting []
    let h := { missOf .fetch .held [] with line := 8 }
    let s := { atMemc m with slices := [(0, { Slice.reset with miss := [m, h] })] }
    s.bankOf 0 8 = s.bankOf 0 0 ∧ waitingOf s 0 = [(0, m)] ∧ (s.mem 0).writes = [] ∧ s.servable 0 = [] ∧ s.bankShut 0 (s.bankOf 0 0) = true
      ∧ s.heldFor 0 (s.bankOf 0 0) < 16 := by decide +kernel
/-- A check cache that holds the burst of line 0. -/
def memcC : Memc := { memc0 with checks := [(0, [⟨0, 0, false, 0⟩])] }
theorem wit_column : ∀ c ∈ [1, 2], ∀ e ∈ [0, 2],
    let m := { missOf .fetch .slot [] with cols := c }
    let p := { atMemc m with memcs := [(0, memcC)], sectors := [(3, ⟨0, e⟩)] }
    let s := p.wr F.MEMC_REG_MODE 0 0 0
    waitingOf s 0 = [] ∧ s.writeMode 0 = false ∧ s.partition 0 = false ∧ s.pickMem 0 true (s.servable 0) = some ((0, m), false)
      ∧ (s.mem 0).holds (s.checkOf 0 0) = true ∧ s.sectorBad 0 3 = decide (e = 2) ∧ s.sectorBad 0 2 = false
      ∧ waitingOf p 0 = [] ∧ p.writeMode 0 = false ∧ p.partition 0 = true ∧ (p.rotTurn 0 (p.servable 0)).isSome = true
      ∧ p.pickMem 0 false ((p.servable 0).filter (fun x => x.2.part == p.rd F.MEMC_ROT_ENTRY 0 (((p.mem 0).rot + ((p.rotTurn 0 (p.servable 0)).getD 0)) % 16)))
          = some ((0, m), false) := by
  decide +kernel
theorem wit_checks_clean : checksClean (atMemc (missOf .fetch .slot [])) 0 ∧ checksClean { State.reset with memcs := [(0, memcC)] } 0 := by
  unfold checksClean; decide +kernel
theorem wit_batch :
    let s := { mapped State.reset with memcs := [(0, { memc0 with writes := [⟨0, 0xF, 0⟩] })] }
    waitingOf s 0 = [] ∧ s.writeMode 0 = true ∧ s.pickWrite 0 = some ⟨0, 0xF, 0⟩
      ∧ waitingOf (mapped State.reset) 15 = [] ∧ ((mapped State.reset).mem 15).writes = [] ∧ (mapped State.reset).servable 15 = [] := by decide +kernel
/-- ControllersFetchKeysAndChecks. -/
theorem wit_key_check :
    (let m := { missOf .fetch .slot [] with keyWait := true }; ((atMemc m).groupMiss 0).find? (fun x => x.2.keyWait && x.2.keyh == 0x1005) = some (0, m))
    ∧ (let m := { missOf .fetch .slot [] with checkWait := true }
       bestBy (GMiss.older (atMemc m)) (((atMemc m).groupMiss 0).filter (fun x => x.2.checkWait)) = some (0, m)) := by decide +kernel
/-- ControllersRefreshAndTrain: the last channel of the last controller, with one rank and with two. -/
theorem wit_refresh_train :
    let s := atMemc (missOf .fetch .slot [])
    let r := s.onMem 15 (fun c => { c with retrain := [3], twoRanks := true })
    s.rd F.MEMC_CHAN_EXCLUDED 15 3 = 0 ∧ (s.mem 15).selfRefresh = false ∧ (s.mem 15).mr4.get 3 2 < 8 ∧ s.rd F.MEMC_REFRESH_FORCE_MULT 15 < 8
      ∧ 3 ∈ s.chansOf 15 ∧ [false, false, false, false, false, false, true].getD (2 * 3) false = true ∧ s.locked = true ∧ (s.chansOf 15).contains 3 = true
      ∧ (s.mem 15).retrain.contains 3 = false ∧ (r.mem 15).retrain.contains 3 = true ∧ (r.mem 15).twoRanks = true ∧ (s.mem 15).twoRanks = false
      ∧ s.bankSlots 15 127 = 0 ∧ s.bankSlots 0 (s.bankOf 0 0) ≠ 0 := by decide +kernel
/-- LockAndHostWindow: the lock, before and after. -/
theorem wit_lock :
    let s := { State.reset with memcs := (List.range 16).map (fun g => (g, memc0)) }
    mayCommand s .mgmt ∧ s.locked = false ∧ (s.wr F.MEMC_LAYOUT_LOCKED 0 0 1).locked = true
      ∧ (List.range 16).all (fun k => decide ((s.mem k).chanGiB ≤ 16)) = true := by
  unfold mayCommand; decide +kernel
/-- The window: shut, open at the last bytes that memory holds, past BAR2, in a hole, a line that slice 0 holds, a bucket that a drain moves. -/
def window : State := (((mapped State.reset).wr F.TOP_STATUS_READY 0 0 1).wr F.DOM_STATE 29 0 2).wr F.DOM_STATE 24 0 2
theorem wit_window :
    State.reset.windowShut = true ∧ window.windowShut = false ∧ (window.port 1).bar2 = 36 ∧ 8 + 8 ≤ 2 ^ (window.port 1).bar2
      ∧ 2 ^ (window.port 1).bar2 < 2 ^ 36 - 4 + 8
      ∧ (pieces (windowAt window 1 0xFFFF_FFF8) 8).all (fun x => window.quadOn x.1 && (window.homeOf x.1).isSome && (window.drainer x.1).isNone) = true
      ∧ (pieces (windowAt window 1 0x1_0000_0000) 8).all (fun x => window.quadOn x.1 && (window.homeOf x.1).isNone && (window.drainer x.1).isNone) = true
      ∧ (pieces (windowAt (window.wr F.DOM_STATE 24 0 1) 0 0) 4).any (fun x => !(window.wr F.DOM_STATE 24 0 1).quadOn x.1) = true := by
  decide +kernel
theorem wit_window_line : ∀ st ∈ [LState.clean, .dirty],
    let x := { line0 st with owner := 0x3401, keyh := 0x1401 }
    let s := { window with slices := [(0, { Slice.reset with lines := [x] })] }
    pieces (windowAt s 1 120) 8 = [(0, 120, 8, 0)] ∧ windowHolds s 0 0 x := by
  unfold windowHolds; decide +kernel
theorem wit_window_drain :
    let s := { window with slices := [(1, { Slice.reset with moved := [bucketOf 0] })] }
    (pieces (windowAt s 0 0) 4).all (fun x => s.quadOn x.1 && (s.homeOf x.1).isSome && (s.drainer x.1).isSome) = true := by decide +kernel
/-- R256: with two controllers of 16 GiB channels, the second range begins where the first ends, at 60 GiB. -/
theorem test_lock : (match exec (.lock .mgmt) { State.reset with memcs := (List.range 16).map (fun g => (g, memc0)) } with
    | .next t => t.rd F.MEMC_RANGE_SIZE_SIZE 0 == 60 * 2 ^ 30 && t.rd F.MEMC_RANGE_BASE_BASE 1 == 60 * 2 ^ 30 | _ => false) = true := by decide +kernel
/-- A line written to memory reads back byte by byte, and the byte before it stays. -/
theorem test_memory : memReads (memWrites [] 128 [1, 0, 3]) 127 4 = [0, 1, 0, 3] := by decide
theorem test_memory_zero : memWrite [(5, 7)] 5 0 = [] := by decide

/-! ### Errors, mailboxes, security -/

/-- A report of code c against context 5. -/
def rep (c : Nat) (ctx : Option Nat := some 5) : Report := ⟨c, 0, 0x200, ctx, 0, 0x80, 0, none⟩
/-- The queue with n entries, of which the report's context has stored k. -/
def errState (n k : Nat) : State :=
  { inFrame 5 [] with errq := ⟨List.replicate n ⟨0, 0, none, false, false, false, 0, 0, 0, 0, none, 0⟩, 0, [(10, 0, k)], [], false⟩ }
/-- ErrorsEnterQueueAndRecord: an unlisted code, the first two reports and the third of a context, 63 and 64 entries, kill and replay codes, and
a parity error of the last slice. -/
theorem wit_reports :
    errCodes.contains (rep 0x0FFF).code = false
    ∧ (∀ c ∈ [0x0301, 0x0303, 0x0104], errCodes.contains (rep c).code = true ∧ (rep c).code ≠ 0x0201 ∧ (rep c).page ≠ pageIdx .errq 0 ∧ (killCode c || replayCode c) = true
        ∧ (errState 0 0).plaza.run = some (frameOf 5) ∧ (frameOf 5).ended = false ∧ (rep c).frame = (errState 0 0).frame)
    ∧ (∀ n ∈ [63, 64], (errState n 1).storedFor (rep 0x0301) < limitMax (rep 0x0301) ∧ (errState n 1).errq.entries.length = n
        ∧ (errState n 1).rd F.TOP_STATUS_FATAL ≠ 1)
    ∧ limitMax (rep 0x0301) ≤ (errState 0 2).storedFor (rep 0x0301)
    ∧ ({ rep 0x0109 none with page := pageIdx .errq 0 } : Report).page = pageIdx .errq 0
    ∧ pageOf 0xFF = some (.slc, 127) := by decide +kernel
/-- CorrectionsAreCounted: the window of field 143 over and not over. -/
theorem wit_window_over : (State.reset.wr F.BOND_WINDOW 143 0 0).windowOver 143 = true ∧ (State.reset.wr F.BOND_WINDOW 143 0 1).windowOver 143 = false := by decide +kernel
/-- SESSION_TIMEOUT after 60 s and 10 ns before; an entropy source that passes again with nothing waiting, and with a port ACTIVE. -/
def session (time : BitVec 64) : State := { State.reset with time := time, sec := { Sec.reset with sessions := [⟨9, 4095, 0, 0⟩] } }
theorem wit_session_timeout : (session 6000000000#64).sec.sessions[0]? = some ⟨9, 4095, 0, 0⟩ ∧ Nat.ble 6000000000 (session 6000000000#64).now = true
    ∧ Nat.ble 6000000000 (session 5999999999#64).now = false := by decide +kernel
theorem wit_entropy :
    State.reset.plaza.cmds = [] ∧ (∀ p < 8, State.reset.fabActive p = false) ∧ (∀ p < 8, (State.reset.fport p).rekeyHeld = none)
    ∧ (State.reset.wr F.FAB_STATE 7 0 3).fabActive 7 = true := by decide +kernel
theorem wit_error_commands :
    (State.reset.wr F.TOP_STATUS_FATAL 0 0 1).rd F.TOP_STATUS_FATAL = 1 ∧ State.reset.rd F.TOP_STATUS_FATAL ≠ 1
      ∧ (∀ k ∈ [0, 1, 2, 3], bitsOf (BitVec.ofNat 32 (0x6F + k * 65536)).toNat 16 2 = k) ∧ pageOf 0x6F = some (.memc, 15)
      ∧ ((errState 0 0).errq.ce.get 5 []).any (fun e => e.unit == 1 && e.addr == 2) = false := by decide +kernel

/-- Mailbox m busy with command op and the request bytes bs, the port its primary authority, READY and bring-up waiting for firmware as given. -/
def boxed (m op : Nat) (bs : List Byte) (ready stage : Nat) : State :=
  { ((((((State.reset.wr F.MB_CTRL_BUSY m 0 1).wr F.MB_REQ_OP m 0 op).wr F.MB_REQ_LEN m 0 bs.length).wr F.PCIE_AUTH_HOLDER m 0 1).wr F.TOP_STATUS_READY 0 0 ready).wr
      F.BOOT_STATUS_STAGE 0 0 stage).wr F.SEC_STATUS_AK_READY 0 0 ready with
    mbs := [(m, ⟨(List.range bs.length).zip bs, [1, 2, 3]⟩)]
    sec := { Sec.reset with stageSize := some 64 } }
/-- Every mailbox command is refused for its source where a source is named, for its stage where a stage is named, and served where both fit. -/
theorem wit_mailbox_rows : (mbRows 0 none).all (fun r =>
    let ready := if r.2.2.2 = .waiting then 0 else 1
    let s := boxed 0 r.2.1 [] ready 14
    s.rd F.MB_CTRL_BUSY 0 != 0 && s.rd F.MB_REQ_OP 0 == r.2.1 && s.mbStageOk r.2.2.2
      && (s.mbFromOk 0 r.2.2.1 || r.2.2.1 == .sideband) && (r.2.2.1 == .any || !((boxed 2 r.2.1 [] ready 14).mbFromOk 2 r.2.2.1) || r.2.2.1 == .sideband)
      && (r.2.2.2 == .any || !((boxed 0 r.2.1 [] 0 0).mbStageOk r.2.2.2))) = true := by decide +kernel
theorem wit_device_reset_box : mbServed (boxed 2 0x0060 [] 0 0) 2 0x0060 .sideband .any ∧ (boxed 1 0x0060 [] 0 0).mbFromOk 1 .sideband = false := by
  unfold mbServed mbBusy; decide +kernel
/-- The reads: RESP_READ, GET_INFO, GET_CERTS, TELEMETRY_READ up to the last byte, LOG_READ. -/
theorem wit_mailbox_reads :
    (let s := boxed 1 0x0001 [0, 0, 0, 0] 0 0; mbServed s 1 0x0001 .any .any ∧ (s.mbReq 1).length = 4)
    ∧ (let s := boxed 2 0x0010 [] 0 0; mbServed s 2 0x0010 .any .any ∧ s.mbReq 2 = [])
    ∧ mbServed (boxed 0 0x0011 [] 1 0) 0 0x0011 .any .certs
    ∧ (let s := boxed 2 0x0050 [0x52, 0, 0, 0, 0x9A, 0, 0, 0] 0 0
       mbServed s 2 0x0050 .any .any ∧ (s.mbReq 2).length = 8 ∧ reqNum s 2 0 4 + leNat ((s.mbReq 2).drop 4) = 0xEC ∧ reqNum s 2 0 4 = 0x52)
    ∧ (let s := boxed 0 0x0051 [0, 0, 0, 0, 4, 0, 0, 0] 1 0; mbServed s 0 0x0051 .any .ready ∧ (s.mbReq 0).length = 8) := by
  unfold mbServed mbBusy; decide +kernel
/-- MailboxFirmwareAndAuthority: each command with a request at its bounds. -/
theorem wit_mailbox_firmware :
    (let s := boxed 0 0x0030 [0, 1, 0x40, 0] 0 14; mbServed s 0 0x0030 .primary .waiting ∧ (s.mbReq 0).length = 4 ∧ leNat (s.mbReq 0) = maxImage)
    ∧ (let s := boxed 0 0x0031 [63, 0, 0, 0, 0, 0, 0, 0, 9] 0 14
       mbServed s 0 0x0031 .primary .waiting ∧ 8 ≤ (s.mbReq 0).length ∧ s.sec.stageSize = some 64 ∧ reqNum s 0 0 8 + ((s.mbReq 0).drop 8).length = 64)
    ∧ (let s := boxed 0 0x0032 [0, 0, 0, 0, 0, 0, 0, 0, 2, 0, 0, 0] 0 14
       mbServed s 0 0x0032 .primary .waiting ∧ (s.mbReq 0).length = 12 ∧ s.sec.stageSize = some 64 ∧ leNat ((s.mbReq 0).drop 8) = [(7 : Byte), 8].length)
    ∧ (let s := boxed 0 0x0033 [] 0 14; mbServed s 0 0x0033 .primary .waiting ∧ s.sec.stageSize.isSome = true)
    ∧ (let s := boxed 0 0x0034 [] 1 0; mbServed s 0 0x0034 .primary .ready ∧ s.mbReq 0 = [] ∧ s.sec.stageSize.isSome = true)
    ∧ (let s := boxed 0 0x0034 [0, 1, 0, 0] 1 0; mbServed s 0 0x0034 .primary .ready ∧ (s.mbReq 0).length = 4 ∧ leNat (s.mbReq 0) ≤ maxImage)
    ∧ (let s := boxed 0 0x0034 [0, 0, 0, 0, 0, 0, 0, 0, 9] 1 0
       mbServed s 0 0x0034 .primary .ready ∧ 8 ≤ (s.mbReq 0).length ∧ s.sec.stageSize = some 64 ∧ reqNum s 0 0 8 + ((s.mbReq 0).drop 8).length ≤ 64)
    ∧ (∀ v ∈ [0, 3], let s := { boxed 0 0x0035 [] 1 0 with sec := { Sec.reset with fwSvn := v } }
       mbServed s 0 0x0035 .primary .ready ∧ svnOf s.nvm.svnFuse = 0 ∧ s.sec.fwSvn = v) := by
  unfold mbServed mbBusy; decide +kernel
theorem wit_mailbox_authority :
    (let s := (boxed 0 0x0040 [] 1 0).onPort 1 (fun p => { p with up := true })
     mbServed s 0 0x0040 .ports .ready ∧ s.later.auth = none ∧ s.rd F.PCIE_AUTH_HOLDER 0 = 1 ∧ (s.port (1 - 0)).up = true)
    ∧ (let s := { (boxed 1 0x0041 [] 1 0).wr F.PCIE_AUTH_HOLDER 1 0 0 with time := 0x1_0000_0000 }
       mbServed s 1 0x0041 .ports .ready ∧ s.later.auth = none ∧ s.rd F.PCIE_AUTH_HOLDER 1 = 0 ∧ (s.port (1 - 1)).up = false
         ∧ s.rd F.PCIE_AUTH_CLAIM_MS 1 * 100000 < s.now - (s.port (1 - 1)).downAt) := by
  unfold mbServed mbBusy; decide +kernel
/-- SecurityProvisionsAndRevokes: an opening with the last tenant number, an import with one measurement, revocations of a free and of a bound
slot, an attestation of context 1,023, bindings of a STOPPED and of an ACTIVE context. -/
def importReq : List Byte := [9, 0] ++ (1 :: List.replicate 63 0) ++ List.replicate 48 7
theorem wit_security :
    (let s := boxed 0 0x0020 ([0xFF, 0x0F] ++ List.replicate 129 4) 1 0
     mbServed s 0 0x0020 .ports .ready ∧ (s.mbReq 0).length = 131 ∧ reqNum s 0 0 2 = 4095 ∧ s.sec.entropyOk = true ∧ s.sec.sessions.length < 16)
    ∧ (let s := { boxed 0 0x0021 importReq 1 0 with sec := { Sec.reset with sessions := [⟨9, 4095, 0, 0⟩] } }
       mbServed s 0 0x0021 .ports .ready ∧ s.sec.sessions.find? (fun x => x.id == reqNum s 0 0 2) = some ⟨9, 4095, 0, 0⟩
         ∧ policyOf (importPolicy s 0) = some (0, [0]) ∧ (s.tenant 4095).state = 0 ∧ (s.measTable ++ [0]).eraseDups.length ≤ 2048)
    ∧ (∀ b ∈ [false, true],
       let s := { boxed 0 0x0022 [0xFF, 0x0F] 1 0 with ctxs := [(5, { Ctx.reset with state := 1, bound := if b then [(0, 4095)] else [] })] }
       mbServed s 0 0x0022 .ports .ready ∧ (s.mbReq 0).length = 2 ∧ leNat (s.mbReq 0) = 4095 ∧ (s.tenant 4095).state ≠ 3
         ∧ s.boundSomewhere 4095 = b ∧ s.sweepSlices ≠ [])
    ∧ (let s := boxed 0 0x0012 (List.replicate 48 1 ++ [0xFF, 3]) 1 0
       mbServed s 0 0x0012 .ports .ready ∧ (s.mbReq 0).length = 50 ∧ envNum (s.mbReq 0) 48 2 = 1023 ∧ s.later.attest.contains 0 = false)
    ∧ (∀ k ∈ [1, 2], (({ State.reset with ctxs := [(1023, { Ctx.reset with state := k })] } : State).ctx (bitsOf (0xFFF_FFFF#32).toNat 0 10)).state = k) := by
  unfold mbServed mbBusy; decide +kernel

/-- R333: FUSE_SVN is the number of its fuses that are blown, and SVN_COMMIT blows as many more as it takes. -/
theorem test_svn : svnOf 0x7 = 3 ∧ svnOf (blowSvn 0x7 5) = 5 ∧ svnOf (blowSvn 0x7 2) = 3 := by decide +kernel
/-- R311: the third report of a context in a frame is suppressed. -/
theorem test_suppressed : (match exec (.errorReport (rep 0x0303)) (errState 0 2) with
    | .next t => t.errq.entries == [] && t.rd F.ERRQ_SUPPRESSED == 1 | _ => false) = true := by decide +kernel

/-! ### Host ports -/

/-- READY, channel 255 of function 0 of port 1 enabled (`en`), and a tail read on its way. -/
def channelled (en : Nat) : State :=
  { (State.reset.wr F.TOP_STATUS_READY 0 0 1).wr F.CH_ENABLE 255 0 en with
    chans := [(255, { Chan.reset with tailAsked := true, dueIdx := some 4 })] }
/-- HostChannelsAreConfigured: the owner and another function, enabled and not; tail values that the ring holds and does not; a DUE value; owner
codes 16 and 17. -/
theorem wit_channels :
    (∀ en ∈ [0, 1], mayUse (channelled en) (.pf 1) 255 ∧ (channelled en).rd F.CH_ENABLE 255 = en ∧ ((channelled en).chan 255).tailAsked = true)
    ∧ (sourceOk (.pf 0) = true ∧ (channelled 0).mayChannel (.pf 0) 255 = false ∧ (channelled 0).mayChannel (.vf 1 15) 255 = false)
    ∧ (channelled 1).rd F.CH_DOWN 255 ≠ 1
    ∧ (let n := 2 ^ (channelled 1).rd F.CH_LOG2 255
       n < (n + 1 + 2 ^ 32 - (channelled 1).rd F.CH_HEAD 255) % 2 ^ 32 ∧ (n + 2 ^ 32 - (channelled 1).rd F.CH_HEAD 255) % 2 ^ 32 ≤ n
         ∧ n ≠ (channelled 1).rd F.CH_TAIL_SEEN 255)
    ∧ ((channelled 0).chan 255).dueIdx ≠ none ∧ ((channelled 0).chan 255).due = none
    ∧ 16 < bitsOf (0x1100_0000#32).toNat (8 * 3) 5 ∧ (∀ k < 4, bitsOf (0x1010_1010#32).toNat (8 * k) 5 ≤ 16)
    ∧ ((List.range 128).filter (fun i => i != 127 && (channelled 0).rd F.PCIE_CHAN_OWNER_FUNC 1 i == bitsOf (0x1000_0000#32).toNat (8 * 3) 5)).length < 16
    ∧ (∀ i < 3, bitsOf (0x1000_0000#32).toNat (8 * i) 5 = (channelled 0).rd F.PCIE_CHAN_OWNER_FUNC 1 (4 * 31 + i))
    ∧ mayCommand (channelled 0) (.pf 0) := by
  unfold mayUse mayCommand; decide +kernel

/-- Context 5 chosen with channel 0 of its own, whose input area lies in its direct region (`ok`) or not; its code in its store. -/
def chosen (ok : Bool) : State :=
  let s := mapped State.reset
  { (s.wr F.CH_IN_AREA 0 0 (if ok then 0x1_0000 else 0)).wr F.CH_IN_SIZE 0 0 0x8000 with
    ctxs := s.ctxs.map (fun e => (e.1, { e.2 with host := [(0x30, 1)], prog := [0x61, 7] }))
    plaza := { Plaza.reset with choice := some ⟨5, false, none, false⟩ }
    blks := [(543, blk0)] }
theorem wit_intake : ∀ ok ∈ [true, false],
    intakeDue (chosen ok) ⟨5, false, none, false⟩ ∧ ((chosen ok).ctx 5).channels.all ((chosen ok).areaOk 5) = ok := by
  unfold intakeDue; decide +kernel
theorem wit_imem_load : (chosen true).plaza.choice = some ⟨5, false, none, false⟩ ∧ ((chosen true).blk 543).site = 0
    ∧ ((chosen true).blk 543).im.idle = .open ∧ ((chosen true).blk 543).im.code (1 - ((chosen true).blk 543).im.live) ≠ some 5
    ∧ (({ IMem.reset with code1 := some 5 } : IMem).code 1 = some 5) ∧ (({ IMem.reset with idle := .loading } : IMem).idle = .loading)
    ∧ ((chosen true).blk 543).sp.inject = 0 := by decide +kernel
theorem wit_imem_data :
    mayCommand (chosen true) .mgmt ∧ (chosen true).rd F.BLK_IMEM_ADDR_HALF 543 ≠ 1 ∧ ((chosen true).wr F.BLK_IMEM_ADDR_HALF 543 0 1).rd F.BLK_IMEM_ADDR_HALF 543 = 1
      ∧ ((chosen true).wr F.BLK_IMEM_ADDR_AUTOINC 543 0 1).rd F.BLK_IMEM_ADDR_AUTOINC 543 = 1 := by
  unfold mayCommand; decide +kernel
/-- A delivery with one submission and with two, answered and refused. -/
def delivering (n st : Nat) : State :=
  { State.reset with plaza := { Plaza.reset with dlv := [⟨5, 0, 255, (List.range n).map (fun i => (i, ⟨255, i, List.replicate 64 0, st, 0, 0, none, none⟩))⟩] } }
theorem wit_delivery : ∀ n ∈ [1, 2], ∀ st ∈ [0, 1],
    (delivering n st).plaza.dlv.findIdx? (fun d => d.chan == 255) = some 0
      ∧ ((delivering n st).plaza.dlv[0]?).any (fun d => d.subs.length == n && d.subs.head?.any (fun e => e.2.status == st)) = true
      ∧ (delivering n st).halted = false := by decide +kernel
/-- Slice n holds the line of the output area, with an entry of 4 bytes at offset 16. -/
def outputs (n : Nat) : State :=
  (({ mapped State.reset with slices := [(n, { Slice.reset with lines := [{ line0 .dirty with line := 0x6000, data := 0x0000_0004_0000_0010 }] })] }).wr F.CH_OUT_AREA 255 0 0x1_0000)
theorem wit_output_outside : ((delivering 1 0).committedBytes 5 ((delivering 1 0).rd F.CH_OUT_AREA 255 + 8 * 0) 8).2.2.1 = false := by decide +kernel
/-- An output in the direct region of context 5, whose line its slice holds. -/
theorem wit_output : ∃ n, (outputs n).homeOf 0x6000 = some n
    ∧ (let s := outputs n
       let e := s.committedBytes 5 (s.rd F.CH_OUT_AREA 255 + 8 * 0) 8
       e.2.2 = (true, true) ∧ bytesNum e.2.1 4 4 = 4 ∧ (e.1.committedBytes 5 (s.rd F.CH_OUT_AREA 255 + bytesNum e.2.1 0 4) (bytesNum e.2.1 4 4)).2.2 = (true, true)) :=
  ⟨6, by decide +kernel⟩
/-- HostLinksAndResets: link-up at the top rate, a port that may enter L1, a configuration request for the last function. -/
theorem wit_links :
    ([1, 2, 4, 8, 16].contains 16 = true ∧ State.reset.powered = true ∧ State.reset.clkLost.contains 1 = false)
    ∧ (∀ h ∈ [0, 1], (State.reset.wr F.PCIE_AUTH_HOLDER 1 0 h).rd F.PCIE_AUTH_HOLDER 1 = h)
    ∧ (let s := State.reset.onPort 1 (fun p => { p with up := true, aspm := true })
       (s.port 1).up = true ∧ (s.port 1).aspm = true ∧ ∀ i < 128, s.rd F.CH_ENABLE (128 * 1 + i) = 0) := by decide +kernel

/-- R363: a tail beyond the ring sets RING_ERR and leaves TAIL_SEEN. -/
theorem test_ring_err : (match exec (.tailValue 255 (some 0x1_0001)) ((channelled 1).wr F.CH_LOG2 255 0 4) with
    | .next t => t.rd F.CH_RING_ERR 255 == 1 && t.rd F.CH_TAIL_SEEN 255 == 0 | _ => false) = true := by
  decide +kernel

/-! ### The fabric -/

/-- A packet of type t with SEQ, addressing slot 0 of frame 0 of sender node 9. -/
def pkt (type seq : Nat) : Pkt := ⟨type, 0, false, 0, 3, 9, 0, 0, 0, 0, seq, 4095, false, 0, false, []⟩
/-- Port 7 ACTIVE with credits, in mapped memory; node 9 is a sender and destination 15; the fabric's context is 5, its slots at 0x1_0000. -/
def linked : State :=
  (((((((((mapped (inFrame 5 [(0, { blk0 with core := core0, sp := { Spad.reset with own := some 5 } })])).wr F.FAB_STATE 7 0 3).wr F.FAB0_SENDERS 0 0 1).wr F.FAB0_SENDER 0 0 9).wr
    F.FAB0_ENABLE 0 0 1).wr F.FAB0_CTX 0 0 5).wr F.FAB0_SLOT_SIZE 0 0 1).wr F.FAB0_DEST_VALID_EFF 0 15 1).wr F.FAB0_DEST_NODE_EFF 0 15 9).onFport 7 (fun f => { f with credits := 1024 })
def nextPktB (s : State) (k : Pkt) : Bool := s.fabActive 7 && decide (k.seq % 4096 = (s.fport 7).rxSeq) && decide (k.epoch = (s.fport 7).rxEpoch) && !k.nak
theorem nextPktB_nextPkt {s : State} {k : Pkt} (h : nextPktB s k = true) : nextPkt s 7 k := by
  simp only [nextPktB, Bool.and_eq_true, decide_eq_true_eq, Bool.not_eq_true'] at h
  exact ⟨by decide, h.1.1.1, h.1.1.2, h.1.2, h.2⟩

/-- FabricLinkKeepsOrder: a port that is down, packets that are early by 1 and by 2,047, one that is late by 1, a NAK that can be sent, the next packet, in this epoch, the next and a
wrong one; a replay buffer whose first packet has been resent 7 and 8 times. -/
theorem wit_link :
    State.reset.fabActive 7 = false ∧ linked.fabActive 7 = true
    ∧ (∀ q ∈ [1, 2047], (pkt 1 q).seq % 4096 ≠ (linked.fport 7).rxSeq ∧ ((pkt 1 q).seq + 4096 - (linked.fport 7).rxSeq) % 4096 < 2048)
    ∧ (2048 ≤ ((pkt 1 4095).seq + 4096 - (linked.fport 7).rxSeq) % 4096) ∧ (linked.fport 7).gap = false ∧ linked.canSend 7 (ctlPkt PT.ctrl 0 false 0 0 0 0) = true
    ∧ nextPktB linked (pkt 4 0) = true ∧ (linked.fport 7).owed < 32 ∧ (pkt 4 0).type ≠ PT.data ∧ linked.fab.waiting = []
    ∧ (let s := linked.onFport 7 (fun f => { f with txEpoch := true })
       s.fabActive 7 = true ∧ { pkt 4 0 with epoch := true }.epoch ≠ (s.fport 7).rxEpoch ∧ { pkt 4 0 with epoch := true }.epoch = (s.fport 7).txEpoch)
    ∧ ({ pkt 4 0 with epoch := true }.epoch ≠ (linked.fport 7).rxEpoch ∧ { pkt 4 0 with epoch := true }.epoch ≠ (linked.fport 7).txEpoch)
    ∧ (∀ n ∈ [7, 8], let u : Unacked := ⟨4095, ⟨4, 0, false, 0, 0, 0, 0, 0, 0, 0, []⟩, [], [], n⟩
        ((linked.onFport 7 (fun f => { f with replay := [u] })).fport 7).replay = u :: []
          ∧ [u].findIdx? (fun u => u.seq == (pkt 4 0).ack % 4096) = some 0) := by decide +kernel

/-- An FSEND of 64 bytes of scratchpad to node 9; context 5 allowed the fabric (`can`), port 7 as linked or not. -/
def sendCmd : Cmd := cmdOf (0x32 + 9 * 2 ^ 40 + 64 * 2 ^ 112)
def sending (can up : Bool) : State :=
  let s := (linked.onBlk 0 (fun b => { b with q := { b.q with dxq := [⟨0, sendCmd⟩] } })).wr F.FAB_STATE 7 0 (if up then 3 else 0)
  { s with ctxs := s.ctxs.map (fun e => (e.1, { e.2 with host := if can then [(8, 1)] else [] })) }
theorem wit_fsend : ∀ x ∈ [(false, false), (true, false), (true, true)],
    let s := sending x.1 x.2
    leavesB s .dxq ⟨0, sendCmd⟩ = true ∧ EC.opcode sendCmd = 0x32 ∧ s.plaza.run = some (frameOf 5)
      ∧ ((s.ctx 5).num 0x008 4 % 2 = if x.1 then 1 else 0) ∧ s.activePorts = (if x.2 then [7] else []) ∧ FS.ok sendCmd = true ∧ FS.len sendCmd = 64
      ∧ FS.srcKind sendCmd = 0 ∧ 15 ∈ s.dests ∧ s.destNode 15 = FS.dest sendCmd ∧ s.fab.sends = []
      ∧ (x.2 = true → (List.range 8).filter (fun r => s.canSend r ⟨PT.data, 0, false, 8 * (((FS.len sendCmd + 31) / 32 + 7) / 8), 0, 0, 0, 0, 0, 0, []⟩) = [7]) := by
  decide +kernel
/-- A send whose one packet, with tag 2,047 of port 7, is out; BUSY as given. -/
def flying (busy : Bool) : State :=
  linked.onFab (fun f => { f with sends := [⟨0, 3, sendCmd, 5, 0, 64, [⟨7, 2047, 1, ⟨PT.data, 0, true, 2, 9, 0, 7 * 2048 + 2047, 0, 0, 0, []⟩, busy⟩]⟩] })
theorem wit_landed : ∀ a ∈ [0, 1, 3],
    let k := { pkt PT.landed 0 with add := a, xtag := 7 * 2048 + 2047 }
    nextPktB (flying false) k = true ∧ k.xtag / 2048 % 8 = 7 ∧ k.xtag % 2048 = 2047
      ∧ ((flying false).sendAt 7 2047).any (fun d => decide (FS.len d.cmd ≤ d.pos) && d.flights.all (fun x => x.port == 7 && x.tag == 2047)) = true := by
  decide +kernel
/-- An FSEND of no bytes. -/
theorem wit_fsend_empty : FS.ok (cmdOf (0x32 + 9 * 2 ^ 40)) = true ∧ FS.len (cmdOf (0x32 + 9 * 2 ^ 40)) = 0
    ∧ (let e : QEntry := ⟨0, cmdOf (0x32 + 9 * 2 ^ 40)⟩
       let s := (sending true false).onBlk 0 (fun b => { b with q := { b.q with dxq := [e] } })
       leavesB s .dxq e = true ∧ EC.opcode e.cmd = 0x32 ∧ (s.ctx 5).num 0x008 4 % 2 = 1 ∧ s.activePorts = []) := by decide +kernel
theorem wit_busy : ((flying true).sendAt 7 2047).any (fun d =>
    (d.flights.find? (fun x => x.port == 7 && x.tag == 2047 && x.busy)).any (fun x => (flying true).canSend 7 x.pkt)) = true := by decide +kernel
/-- DATA that fills the slot to its last byte, DATA of an unknown node, COMMIT, ABORT of a slot that lands, SLOT_FREE, a zeroed slot, TIME. -/
theorem wit_data :
    let s := linked.wr F.FAB0_STAGE_BASE 0 0 0
    let k := { pkt PT.data 0 with len := 2, off := 2046 }
    nextPktB s k = true ∧ s.senderOf k.src = some 0 ∧ s.extend32 k.frame = 0 ∧ 0 % s.nSlots = 0 ∧ s.frameDone 0 0 = false ∧ s.rd F.FAB0_ENABLE ≠ 0
      ∧ s.ctxState (s.rd F.FAB0_CTX) ≠ 0 ∧ (s.stage 0 0).state = 0 ∧ 32 * k.off + (32 * k.len - k.pad) = s.rd F.FAB0_SLOT_SIZE * 0x1_0000
      ∧ (s.directAt (s.rd F.FAB0_CTX) (s.slotBase 0 0 + 32 * k.off) (32 * k.len - k.pad)).isSome = true
      ∧ s.senderOf 8 = none ∧ nextPktB s { k with src := 8 } = true := by decide +kernel
/-- DATA that passes the slot's end by 32 bytes, DATA for a slot that holds another frame, and DATA at an address of no region. -/
theorem wit_data_refused :
    (let s := linked.wr F.FAB0_STAGE_BASE 0 0 0
     s.rd F.FAB0_SLOT_SIZE * 0x1_0000 < 32 * 2047 + (32 * 2 - 0) ∧ nextPktB s { pkt PT.data 0 with len := 2, off := 2047 } = true)
    ∧ (let s := (linked.wr F.FAB0_STAGE_BASE 0 0 0).setStage 0 0 ⟨2, 9, false, 0⟩
       (s.stage 0 0).state ≠ 0 ∧ ¬ ((s.stage 0 0).state = 2 ∧ (s.stage 0 0).frame = 0) ∧ s.senderOf 9 = some 0 ∧ s.extend32 0 = 0 ∧ s.frameDone 0 0 = false ∧ s.rd F.FAB0_ENABLE ≠ 0)
    ∧ (let s := linked.wr F.FAB0_STAGE_BASE 0 0 (2 ^ 47)
       (s.stage 0 0).state = 0 ∧ s.directAt (s.rd F.FAB0_CTX) (s.slotBase 0 0) 64 = none ∧ s.ctxState (s.rd F.FAB0_CTX) ≠ 0) := by decide +kernel
theorem wit_slots :
    nextPktB linked (pkt PT.commit 0) = true
    ∧ (let s := linked.setStage 0 0 ⟨2, 0, false, 0⟩
       nextPktB s (pkt PT.abort 0) = true ∧ (s.stage 0 0) = ⟨2, 0, false, 0⟩ ∧ (s.sender 0).aborted.contains 0 = false)
    ∧ (15 ∈ linked.dests ∧ linked.destNode 15 = (pkt PT.slotFree 0).src ∧ linked.fab.limited.contains 15 = false)
    ∧ ((State.reset.setStage 15 7 ⟨1, 0, false, 0⟩).stage 15 7).state = 1 := by decide +kernel
theorem wit_landing : (linked.onFab (fun f => { f with landings := [⟨9, 0, 0⟩] })).fab.landings[0]? = some ⟨9, 0, 0⟩ := by decide +kernel
/-- A follower, idle (`run` false) or with a context in use. -/
def follower (run : Bool) : State :=
  let s := ((linked.wr F.FAB0_TIME_SRC_VALID 0 0 1).wr F.FAB0_TIME_SRC_NODE 0 0 9).wr F.TICK_SYNC_MODE 0 0 2
  if run then { s with ctxs := s.ctxs.map (fun e => (e.1, { e.2 with state := 3 })) } else { s with ctxs := [] }
def timePkt (n : Nat) : Pkt := { pkt PT.time 0 with payload := leBytes 8 n ++ [1, 0, 0, 0] }
theorem wit_time :
    (∀ r ∈ [false, true], (follower r).anyBusy = r ∧ nextPktB (follower r) (timePkt 4) = true ∧ (follower r).rd F.FAB0_TIME_SRC_VALID = 1
      ∧ (follower r).rd F.FAB0_TIME_SRC_NODE = (timePkt 4).src ∧ (follower r).rd F.TICK_SYNC_MODE = 2 ∧ leNat ((timePkt 4).payload.take 8) ≠ (follower r).frame)
    ∧ leNat ((timePkt 0).payload.take 8) = (follower false).frame ∧ leNat (((timePkt 4).payload.drop 8).take 4) ≠ (follower false).rd F.TICK_PERIOD_STEPS_EFF
    ∧ ((follower false).wr F.TICK_SYNC_MODE 0 0 1).rd F.TICK_SYNC_MODE ≠ 2 ∧ linked.rd F.FAB0_TIME_SRC_VALID ≠ 1 := by decide +kernel

/-- FabricPortsTrain: enabling by a holder and by another function, retraining of legacy ports, training with 7, 8 and 9 good lanes, HELLO, REKEY, lanes. -/
def off7 : State := ((State.reset.wr F.DOM_STATE 28 0 2).wr F.PCIE_AUTH_HOLDER 0 0 0).wr F.TOP_STATUS_READY 0 0 0
theorem wit_enable :
    mayCommand off7 .mgmt ∧ off7.hasAuth .mgmt = true ∧ off7.legacy = false ∧ [1, 2, 3].contains (off7.rd F.FAB_STATE 7) = false ∧ off7.domOn 28 = true ∧ (off7.fport 7).replay = []
    ∧ off7.clkLost.contains 2 = false ∧ { off7 with clkLost := [2] }.clkLost.contains 2 = true
    ∧ (off7.wr F.TOP_STATUS_READY 0 0 1).mayWrite (.pf 0) = true ∧ (off7.wr F.TOP_STATUS_READY 0 0 1).rd F.PCIE_AUTH_HOLDER 0 ≠ 1
    ∧ (off7.wr F.FAB0_LEGACY 0 0 1).legacy = true ∧ off7.ctxs = [] := by
  unfold mayCommand; decide +kernel
theorem wit_training : (∀ st ∈ [1, 2],
    let s := (off7.wr F.FAB_STATE 7 0 st).onFport 7 (fun f => { f with hello := List.replicate 32 0 })
    s.rd F.FAB_STATE 7 = st ∧ s.rd F.FAB_COLD_HELD 7 = 0 ∧ s.domOn 28 = true ∧ (s.fport 7).bad = false ∧ 32 * 1 = (s.fport 7).hello.length)
    ∧ (∀ g ∈ [([0, 1, 2, 3, 4, 5, 6], 7), ([0, 1, 2, 3, 4, 5, 6, 8], 8), (List.range 9, 9)],
        ((List.range 9).filter (fun l => g.1.contains l && !(off7.fport 7).barred.contains l)).length = g.2)
    ∧ ((List.range 9).filter (fun l => (List.range 9).contains l && !([0, 8] : List Nat).contains l)).length = 7
    ∧ off7.sec.entropyOk = true ∧ (off7.fport 7).eph = none := by decide +kernel
/-- A HELLO message of 40 bytes: its first 32, and its last 8, which come to 40 with the first. -/
theorem wit_hello :
    (let s := (off7.wr F.FAB_STATE 7 0 1); let k := { pkt PT.hello 0 with len := 1, payload := leBytes 4 40 ++ List.replicate 28 0 }
     32 * k.off = (s.fport 7).hello.length ∧ ((s.fport 7).hello ++ k.payload.take (32 * k.len - k.pad)).length < leNat (((s.fport 7).hello ++ k.payload.take (32 * k.len - k.pad)).take 4))
    ∧ (let s := (off7.wr F.FAB_STATE 7 0 2).onFport 7 (fun f => { f with hello := leBytes 4 40 ++ List.replicate 28 0 })
       let k := { pkt PT.hello 1 with len := 1, off := 1, pad := 24, payload := List.replicate 32 0 }
       32 * k.off = (s.fport 7).hello.length
         ∧ leNat (((s.fport 7).hello ++ k.payload.take (32 * k.len - k.pad)).take 4) = ((s.fport 7).hello ++ k.payload.take (32 * k.len - k.pad)).length) := by
  decide +kernel
theorem wit_rekey_lanes :
    (let s := linked.onFport 7 (fun f => { f with txCount := 2 ^ 31 }); s.fabActive 7 = true ∧ (s.fport 7).rekeySent = false ∧ 2 ^ 31 ≤ (s.fport 7).txCount ∧ s.sec.entropyOk = true
      ∧ (s.onSec (fun e => { e with entropyOk := false })).sec.entropyOk = false)
    ∧ (let s := linked.onFport 7 (fun f => { f with lanes := [0, 1, 2, 3, 4, 5, 6, 7], spare := some 8 })
       let k := { pkt PT.lane 0 with payload := [7, 0] }
       nextPktB s k = true ∧ leNat ((k.payload.drop 1).take 1) = 0 ∧ (s.fport 7).spare = some 8)
    ∧ (let s := linked.onFport 7 (fun f => { f with lanes := [0, 1, 2, 3, 4, 5, 6, 7] })
       ((s.fport 7).lanes.zip (List.range (s.fport 7).lanes.length)).find? (fun e => ([] : List Nat).contains e.1 || decide (s.rd F.FAB_THRESH 7 < 0)) = none)
    ∧ (∀ sp ∈ [some 8, none],
       let s := linked.onFport 7 (fun f => { f with lanes := [0, 1, 2, 3, 4, 5, 6, 7], spare := sp })
       s.legacy = false ∧ (s.fport 7).swap = none ∧ (s.fport 7).spare = sp
         ∧ (((s.fport 7).lanes.zip (List.range (s.fport 7).lanes.length)).find? (fun e => [7].contains e.1 || decide (s.rd F.FAB_THRESH 7 < 0))) = some (7, 7))
    ∧ (let s := linked.onFport 7 (fun f => { f with retrain := some 3 }); (s.fport 7).retrain = some 3 ∧ s.coldHold = false) := by decide +kernel

/-! ### Power and temperature -/

/-- Every domain OFF, before the first tick or after it, READY not reported: the management cores have authority. -/
def cold (ticked : Bool) : State := { State.reset.wr F.TOP_STATUS_READY 0 0 0 with plaza := { Plaza.reset with ticked := ticked } }
/-- PowerDomainsSwitch: the source; codes 0 to 3; a refusal of a dark district and of an AD domain over an OFF one; switch-on of the fabric's
domain, switch-off of an ON one; a function without authority. -/
theorem wit_domain_request :
    mayCommand (cold true) .mgmt ∧ (cold true).hasAuth .mgmt = true ∧ (cold false).hasAuth .mgmt = true ∧ (cold true).plaza.ticked = true ∧ (cold false).plaza.ticked = false
    ∧ (∀ k ∈ [0, 1, 2, 3], (BitVec.ofNat 32 k).toNat % 4 = k) ∧ (cold false).later.doms = []
    ∧ ((cold false).wr F.PWR_LDO_DARK 0 15 1).domRefusal 15 2 = 2 ∧ (cold false).domRefusal 15 1 = 1 ∧ (cold false).domRefusal 28 2 = 0 ∧ (cold false).domState 28 = 0
    ∧ ((cold false).wr F.DOM_STATE 28 0 2).domRefusal 28 0 = 0 ∧ ((cold false).wr F.DOM_STATE 28 0 2).domState 28 = 2 ∧ (cold false).domState (16 + 15 / 2) = 0
    ∧ (((cold false).wr F.TOP_STATUS_READY 0 0 1).wr F.PCIE_AUTH_HOLDER 1 0 0).mayWrite (.pf 1) = true
    ∧ (((cold false).wr F.TOP_STATUS_READY 0 0 1).wr F.PCIE_AUTH_HOLDER 1 0 0).rd F.PCIE_AUTH_HOLDER 1 ≠ 1 := by
  unfold mayCommand; decide +kernel
/-- Domain n in its switch-on at step k, with the supply current in mA, and paused for us. -/
def switching (n k mA us : Nat) : State :=
  { (State.reset.wr F.DOM_STATE n 0 3).wr F.DOM_STEP n 0 k with pwr := { Power.reset with doms := [(n, ⟨2, false, false, us⟩)], vin := mA } }
theorem wit_switch :
    (∀ n ∈ [28, 16],
      let i := State.reset.rd F.PWR_I_HEAD
      stepsNext (switching n 15 (1000 * i - 3000) 0) n ∧ (switching n 15 (1000 * i - 3000) 0).pwr.vin + 3000 ≤ 1000 * (switching n 15 (1000 * i - 3000) 0).rd F.PWR_I_HEAD
        ∧ stepsNext (switching n 15 (1000 * i - 2999) 199) n
        ∧ 1000 * (switching n 15 (1000 * i - 2999) 199).rd F.PWR_I_HEAD < (switching n 15 (1000 * i - 2999) 199).pwr.vin + 3000
        ∧ ((switching n 15 0 199).dom n).paused = 199)
    ∧ (cold false).domWaits 29 = false ∧ (cold false).domState 29 ≠ 3
    ∧ (∀ m, m < 28 → m ≠ 16 → segOf m = segOf 16 → (switching 16 15 0 0).domOn m = true → (switching 16 15 0 0).rd F.PWR_I_DOM 0 m ≤ 900 * domPeak m) := by
  unfold stepsNext; decide +kernel
theorem wit_switch_done : ∀ k ∈ [15, 16], ∀ leaving ∈ [true, false],
    let s := (switching 28 k 0 0).onDom 28 (fun d => { d with leaving := leaving })
    s.domState 28 = 3 ∧ (s.dom 28).target ≤ 2 ∧ (s.dom 28).leaving = leaving ∧ (s.dom 28).steps = 16 ∧ s.rd F.DOM_STEP 28 = k := by decide +kernel
theorem wit_raise : ∀ ticked ∈ [true, false],
    let s := { ((cold ticked).wr F.PWR_PL 0 0 6).wr F.PWR_PL_EFF 0 0 7 with pwr := { Power.reset with raise := some 6 } }
    s.pwr.raise = some 6 ∧ s.plaza.ticked = ticked ∧ s.rd F.PWR_PL = 6 ∧ 6 < s.rd F.PWR_PL_EFF := by decide +kernel
/-- Cell 23 of district 15, with three, four, and that very cell failed before. -/
theorem wit_cells :
    (((cold true).wr F.PWR_LDO_FAILED 0 15 7).failedCells 15 < 4 ∧ ((cold true).wr F.PWR_LDO_FAILED 0 15 15).failedCells 15 = 4)
    ∧ (((cold true).wr F.PWR_LDO_FAILED 0 15 15).rd F.PWR_LDO_FAILED 0 15).testBit 23 = false ∧ (cold true).rd F.PWR_LDO_DARK 0 15 ≠ 1
    ∧ (((cold true).wr F.PWR_LDO_FAILED 0 15 0x80_0000).rd F.PWR_LDO_FAILED 0 15).testBit 23 = true
    ∧ ((cold true).wr F.PWR_LDO_DARK 0 15 1).rd F.PWR_LDO_DARK 0 15 = 1 := by decide +kernel

/-- PowerLimitsAndTemperature: the last sensor at both ends of its range, the third low frame and the second very low one. -/
theorem wit_minsense :
    let s := { (State.reset.wr F.DOM_STATE 27 0 2).wr F.PWR_VTARGET_V 0 0 3000 with pwr := { Power.reset with under := 2, low := 1 }, sec := { Sec.reset with running := true } }
    s.pwr.vout = [] ∧ (∀ r ∈ [(511, 2000), (511, 4000)], r.1 < 512 ∧ s.domOn (vSensorDom r.1) = true ∧ 2000 ≤ r.2 ∧ r.2 ≤ 4000)
      ∧ s.pwr.under = 2 ∧ 2000 + 200 < s.rd F.PWR_VTARGET_V ∧ s.pwr.low = 1 ∧ s.sec.running = true ∧ s.rd F.PWR_VTARGET_V < 4096 := by decide +kernel
/-- The fast guard one mA above its limit and at it, a district one mA above its cap and at it; each set of causes of a window. -/
theorem wit_guards :
    let s := State.reset
    1000 * s.rd F.PWR_I_FAST < 1000 * s.rd F.PWR_I_FAST + 1 ∧ 3 ≤ s.pwr.fastAge ∧ s.distCap 15 < s.distCap 15 + 1 ∧ 3 ≤ s.pwr.distAge.get 15 4
      ∧ s.rd F.PWR_LDO_DGATE 0 15 < 15 ∧ s.rd F.PWR_LEVEL ≤ 19 := by decide +kernel
theorem wit_window_causes :
    let s := State.reset
    s.causes 1350001 0 = 4 ∧ s.causes 0 (1000 * s.rd F.PWR_W_EFF + 1) = 2 ∧ s.causes 1350000 0 = 0 ∧ s.rd F.PWR_GATE < s.rd F.PWR_GATE_MAX
      ∧ ((s.wr F.PWR_GATE 0 0 (s.rd F.PWR_GATE_MAX)).causes 0 (1000 * s.rd F.PWR_W_EFF + 1) = 2)
      ∧ (s.wr F.PWR_GATE 0 0 (s.rd F.PWR_GATE_MAX)).rd F.PWR_GATE_MAX ≤ (s.wr F.PWR_GATE 0 0 (s.rd F.PWR_GATE_MAX)).rd F.PWR_GATE := by decide +kernel
/-- The last die sensor and the end of a round; a round with estimates, in each state, and one with no temperature. -/
def roundOf (t : Int) (high coldS : Nat) : State :=
  { (State.reset.wr F.THM_STATE_HIGH 0 0 high).wr F.THM_STATE_COLD 0 0 coldS with thm := { Thermal.reset with chan := 512, est := (List.range 544).map (fun p => (p, t)) } }
theorem wit_sensors :
    visited { State.reset with thm := { Thermal.reset with chan := 63 } } 63 ∧ State.reset.rd F.TOP_STATUS_SHUTDOWN = 0 ∧ State.reset.thm.chan < 512
    ∧ 512 ≤ (roundOf 0 0 0).thm.chan := by
  unfold visited; decide +kernel
theorem wit_rounds : ∀ x ∈ [((840 : Int), 0, 0), (760, 1, 0), (720, 2, 0), (801, 2, 0), (160, 0, 2), (80, 0, 1), (40, 0, 0), (79, 0, 2), (960, 3, 0)],
    (roundOf x.1 x.2.1 x.2.2).rd F.THM_STATE_HIGH = x.2.1 ∧ (roundOf x.1 x.2.1 x.2.2).rd F.THM_STATE_COLD = x.2.2 := by decide +kernel
theorem wit_round_temps : (roundOf 80 0 0).formTemps.2.1 = true ∧ (roundOf 80 0 0).formTemps.2.2 = true
    ∧ ({ State.reset with thm := { Thermal.reset with chan := 512 } } : State).formTemps.2.1 = false
    ∧ ({ State.reset with thm := { Thermal.reset with chan := 512 } } : State).formTemps.2.2 = false := by decide +kernel
theorem wit_log : State.reset.sec.running = false
    ∧ (∀ r ∈ [LogRec.cell 15 23, .site 543], ∀ u h d e, r ≠ .cycles u h d e) := by
  refine ⟨rfl, ?_⟩; simp

/-- R425: a sample one mA above I_FAST sets LEVEL to 5. -/
theorem test_fast_guard : (match exec (.fastGuard (1000 * State.reset.rd F.PWR_I_FAST + 1) [] 7) State.reset with
    | .next t => t.rd F.PWR_LEVEL == 5 && t.rd F.PWR_FAST_TRIPS == 1 && t.rd F.PWR_ENERGY == 7 | _ => false) = true := by decide +kernel

/-! ### Registers, interrupts, sideband -/

/-- atField and plainWrite as tests, for the management cores. -/
def fieldB (s : State) (off : Nat) (pg : Page) (u o : Nat) (f : Fld) : Bool :=
  off % 4 == 0 && (match s.namedAt .mgmt off with | .page a b c => decide (a = pg) && b == u && c == o | _ => false)
    && decide (touched pg u o 4 = [(f, 0)]) && decide (f.page ≠ .hdr) && !wideAt pg u o
def pairB (s : State) (off : Nat) (pg : Page) (u o : Nat) (f g : Fld) : Bool :=
  off % 4 == 0 && (match s.namedAt .mgmt off with | .page a b c => decide (a = pg) && b == u && c == o | _ => false)
    && decide (touched pg u o 4 = [(f, 0), (g, 0)]) && decide ((f, g) ∈ tPairs) && decide (f.page = pg) && decide (f.acc = .rw) && decide (f.cls = .t)
    && decide (g.page = pg) && decide (g.acc = .ro)
def plainB (s : State) (pg : Page) (u o : Nat) (f : Fld) (v : Nat) : Bool :=
  s.mayReach .mgmt pg o && decide (pg ∉ [Page.pwr, .fab, .ch]) && decide ((pg, o) ∉ [(Page.blk, 0x404), (.blk, 0x644), (.memc, 0x104), (.intc, 0x104)])
    && !powerReg pg o && decide (o ∉ [0x010, 0x024, 0x028]) && (s.ownWrite .mgmt pg u o v).isNone && !dropsField .mgmt f
/-- RegisterAccesses: an RC counter, an RO word, a class-L field with a range, a class-S field of a unit out of service, in service, and written
with its old value; a class-T field before and after the first tick, with a value out of its range. -/
theorem wit_fields :
    let s := State.reset
    fieldB s 0x8040 .errq 0 0x40 F.ERRQ_SUPPRESSED = true ∧ F.ERRQ_SUPPRESSED.acc = .rc ∧ s.latched = []
    ∧ fieldB s 0x812C .errq 0 0x12C F.ERRQ_FATAL_CAUSE = true ∧ plainB s .errq 0 0x12C F.ERRQ_FATAL_CAUSE 7 = true ∧ F.ERRQ_FATAL_CAUSE.acc = .ro
    ∧ fieldB s 0x8128 .errq 0 0x128 F.ERRQ_HIGH_WATER = true ∧ plainB s .errq 0 0x128 F.ERRQ_HIGH_WATER 63 = true ∧ F.ERRQ_HIGH_WATER.cls = .l
    ∧ F.ERRQ_HIGH_WATER.chk.ok (written F.ERRQ_HIGH_WATER 0 0x128 4 48 63) = true ∧ F.ERRQ_HIGH_WATER.chk.ok (written F.ERRQ_HIGH_WATER 0 0x128 4 48 64) = false := by
  decide +kernel
theorem wit_class_s : ∀ en ∈ [0, 1],
    let s := State.reset.wrAt .memc 15 F.HDR_CTRL_ENABLE 0 en
    fieldB s 0x6F100 .memc 15 0x100 F.MEMC_CFG_RATE = true ∧ plainB s .memc 15 0x100 F.MEMC_CFG_RATE 0 = true
      ∧ s.closed .memc 15 F.MEMC_CFG_RATE = (en == 1)
      ∧ written F.MEMC_CFG_RATE 0 0x100 4 (s.rdAt .memc 15 F.MEMC_CFG_RATE 0) 0 ≠ s.rdAt .memc 15 F.MEMC_CFG_RATE 0
      ∧ written F.MEMC_CFG_RATE 0 0x100 4 (s.rdAt .memc 15 F.MEMC_CFG_RATE 0) 1 = s.rdAt .memc 15 F.MEMC_CFG_RATE 0 := by
  decide +kernel
/-- A counter of cycles of a Block whose core stands still on a full queue, and of one that does not. -/
theorem wit_counting : ∀ n ∈ [0, 1],
    let s := State.reset.onBlk 543 (fun b => { b with core := { b.core with stall := n } })
    fieldB s 0x41F06C .blk 543 0x6C F.BLK_CC_QFULL = true ∧ F.BLK_CC_QFULL.acc = .rc ∧ s.counting 543 F.BLK_CC_QFULL = (n == 1) ∧ s.latched = [] := by decide +kernel
theorem wit_class_t : ∀ x ∈ [(0x6F200, Page.memc, 15, 0x200, F.MEMC_CLASS_CAP_CAP, F.MEMC_CLASS_CAP_CAP_EFF),
      (0xFF200, .slc, 127, 0x200, F.SLC_CLASS_CAP_CAP, F.SLC_CLASS_CAP_CAP_EFF), (0x111C, .tick, 0, 0x11C, F.TICK_IN_COMP_NS, F.TICK_IN_COMP_NS_EFF),
      (0x41F680, .blk, 543, 0x680, F.BLK_PF_CFG_DEPTH, F.BLK_PF_CFG_DEPTH_EFF)],
    pairB State.reset x.1 x.2.1 x.2.2.1 x.2.2.2.1 x.2.2.2.2.1 x.2.2.2.2.2 = true ∧ plainB State.reset x.2.1 x.2.2.1 x.2.2.2.1 x.2.2.2.2.1 1 = true
      ∧ x.2.2.2.2.1.chk.ok (written x.2.2.2.2.1 0 x.2.2.2.1 4 0 1) = true ∧ (x.2.2.2.2.1.width < 7 ∨ x.2.2.2.2.1.chk.ok (written x.2.2.2.2.1 0 x.2.2.2.1 4 0 2047) = false) := by
  decide +kernel
/-- What lies beyond a VF's channels, a hole, a word of a page before READY, the headers of pages of each kind, sites 33 and 34. -/
theorem wit_places :
    State.reset.namedAt .mgmt 0xFF_F000 = .hole ∧ State.reset.namedAt (.pf 1) 0x8128 = .page .errq 0 0x128 ∧ State.reset.mayWrite (.pf 1) = false
    ∧ earlyOpen .errq 0x128 = false ∧ ¬ (2 = 4 ∧ 0 % 4 = 0) ∧ ¬ (8 = 8 ∧ 4 % 8 = 0)
    ∧ (((State.reset.wr F.TICK_SYNC_MODE 0 0 0).wakeLink .mgmt).namedAt .mgmt 0x100) = .page .top 0 0x100 := by decide +kernel
theorem wit_beyond : (((List.range 128).foldl (fun (s : State) i => s.wr F.PCIE_CHAN_OWNER_FUNC 1 i 0) State.reset).wakeLink (.vf 1 15)).namedAt (.vf 1 15) 0 = .beyond := by
  decide +kernel
theorem wit_headers :
    (∀ x ∈ [(0x41F, Page.blk, 543), (0x20, .dom, 16), (0, .top, 0), (0x6F, .memc, 15)],
      pageOf x.1 = some (x.2.1, x.2.2) ∧ State.reset.mayReach .mgmt x.2.1 0x010 = true ∧ powerReg x.2.1 0x010 = false ∧ powerReg x.2.1 0x028 = false)
    ∧ fixedCtrl .top = true ∧ dataPlane .blk = true ∧ fixedCtrl .dom = false ∧ dataPlane .dom = false ∧ State.reset.anyBusy = false
    ∧ ({ State.reset with ctxs := [(5, { Ctx.reset with state := 3 })] } : State).anyBusy = true
    ∧ (∀ en ∈ [0, 1], (State.reset.wrAt .blk 543 F.HDR_CTRL_ENABLE 0 en).rdAt .blk 543 F.HDR_CTRL_ENABLE 0 = en)
    ∧ bitsOf (33#32).toNat 0 6 < 34 ∧ 34 ≤ bitsOf (34#32).toNat 0 6 ∧ (cold true).plaza.ticked = true := by decide +kernel
/-- InterruptsAndSideband: source 18 raised and enabled, core 3 free next, and its service; the sideband's last byte before EVENTS and EVENTS itself. -/
def raised : State := { (State.reset.wr F.INTC_ENABLE 0 0 (2 ^ 18)).wr F.INTC_CORE_EN 0 0 8 with errq := { ErrQ.reset with supp := true } }
theorem wit_interrupt : delivers raised 18 ∧ raised.nextCore = some 3 ∧ State.reset.sourceEnabled 255 = false
    ∧ ((raised.wr F.INTC_CUR_VALID 0 3 1).wr F.INTC_CUR_SOURCE 0 3 18).rd F.INTC_CUR_VALID 0 3 = 1
    ∧ ((raised.wr F.INTC_CUR_VALID 0 3 1).wr F.INTC_CUR_SOURCE 0 3 18).rd F.INTC_CUR_SOURCE 0 3 = (18#32).toNat % 256
    ∧ raised.rd F.INTC_CUR_VALID 0 3 ≠ 1 := by
  unfold delivers; decide +kernel
theorem wit_no_core : (State.reset.wr F.INTC_CORE_EN 0 0 0).nextCore = none := by decide +kernel
theorem wit_sideband : State.reset.powered = true ∧ ({ State.reset with powered := false } : State).powered = false ∧ State.reset.mgmt.winPtr < 2 ^ 16
    ∧ State.reset.rd F.MB_CTRL_BUSY 2 ≠ 1 ∧ ((8#8).toNat + 256 * (0xF8#8).toNat) % 4096 = 2056 ∧ ((0#8).toNat + 256 * (8#8).toNat) % 4096 ≤ 2048
    ∧ ¬ (0x50 ≤ 0x52 ∧ 0x52 < 0x50 + min 2 255) ∧ (0x50 ≤ 0x52 ∧ 0x52 < 0x50 + min 3 255) := by decide +kernel

/-- R486: HIGH_WATER keeps 48 when 0 is written, and takes 63. -/
theorem test_high_water : ∀ x ∈ [(0, 48), (63, 63)], (match exec (.registerWrite .mgmt 0x8128 4 (BitVec.ofNat 64 x.1)) State.reset with
    | .next t => t.rd F.ERRQ_HIGH_WATER == x.2 | _ => false) = true := by decide +kernel

/-! ### Boot -/

/-- Bring-up in a stage, with firmware running and step 3 applied as given. -/
def staged (stage : Nat) (running applied : Bool) : State :=
  { State.reset.wr F.BOOT_STATUS_STAGE 0 0 stage with sec := { Sec.reset with running := running, applied := applied } }
/-- BootAndReset: the shutdown kept over a power-down, the reset key, the clocks, and each step in its stage. -/
theorem wit_reset : (State.reset.wr F.TOP_STATUS_SHUTDOWN 0 0 1).rd F.TOP_STATUS_SHUTDOWN = 1 ∧ State.reset.powered = true
    ∧ (∀ h ∈ [0, 1], (State.reset.wr F.PCIE_AUTH_HOLDER 1 0 h).rd F.PCIE_AUTH_HOLDER 1 = h) ∧ (0xFF5A#32).toNat % 256 = 0x5A ∧ sourceOk (.pf 1) = true
    ∧ 3 ∉ State.reset.clkLost ∧ 3 ∈ ({ State.reset with clkLost := [3] } : State).clkLost := by decide +kernel
theorem wit_rom : romStarts State.reset ∧ ¬ (({ State.reset with powered := false } : State).powered = true) := by
  unfold romStarts; decide +kernel
theorem wit_bring_up : (staged 3 true false).sec.running = true ∧ (staged 3 true false).rd F.BOOT_STATUS_STAGE = 3 ∧ (staged 3 true false).sec.applied = false
    ∧ State.reset.sec.running = false := by decide +kernel
theorem wit_bond_training : (staged 3 true true).rd F.BOOT_STATUS_STAGE = 3 ∧ (staged 3 true true).sec.applied = true
    ∧ (∀ n, n < 30 → (staged 3 true true).domState n ≠ 3) ∧ State.reset.rd F.BOOT_STATUS_STAGE ≠ 3
    ∧ ({ staged 3 true true with blks := [(0, blk0)] }.blk 0).site < 2 := by decide +kernel
/-- The memory test with every channel trained, and with every channel excluded. -/
def tested (excluded : Nat) : State :=
  (List.range 16).foldl (fun s g => (List.range 4).foldl (fun s c => (s.wr F.MEMC_CHAN_TRAINED g c 1).wr F.MEMC_CHAN_EXCLUDED g c excluded) s) (staged 6 true true)
theorem wit_memory_test :
    (tested 0).rd F.BOOT_STATUS_STAGE = 6 ∧ (tested 0).anyChannel = true ∧ (∀ g < 16, ∀ c ∈ (tested 0).chansOf g, (tested 0).rd F.MEMC_CHAN_TRAINED g c = 1)
    ∧ 3 ∈ (tested 0).chansOf 15 ∧ State.reset.rd F.BOOT_STATUS_STAGE ≠ 6 := by decide +kernel
theorem wit_no_channel : (tested 1).rd F.BOOT_STATUS_STAGE = 6 ∧ (tested 1).anyChannel = false ∧ (∀ g < 16, (tested 1).chansOf g = []) := by decide +kernel
theorem wit_cardamom : (staged 9 true true).cardamomMay = true ∧ (staged 8 true true).cardamomMay = true ∧ (staged 9 true true).plaza.ticked = false ∧ (State.reset.wr F.DOM_STATE 28 0 2).domOn 28 = true
    ∧ (State.reset.wrAt .fab 7 F.HDR_CTRL_ENABLE 0 1).rdAt .fab 7 F.HDR_CTRL_ENABLE 0 = 1
    ∧ State.reset.cardamomMay = false := by decide +kernel

/-! ### The tick and the contexts -/

/-- A ticking Plaza at the end of a frame of context 5 with the faults fs, ended or not. -/
def ending (fs : List FaultRep) (ended : Bool) : State :=
  { mapped State.reset with plaza := { Plaza.reset with ticking := true, ticked := true, run := some { frameOf 5 with faults := fs, ended := ended } } }
/-- TickAndContexts: a tick that is not taken; the ends of a frame: killed, overrun, clean, rolled back; and a choice. -/
theorem wit_tick :
    State.reset.mayTick = false
    ∧ (∀ x ∈ [([(⟨0x0303, 0, false, 0⟩ : FaultRep), ⟨0x0301, 0, true, 1⟩], true), ([], false), ([], true), ([⟨0x0303, 0, false, 0⟩], true), ([⟨0x0101, 8, false, 0⟩], true)],
        let s := ending x.1 x.2
        s.mayTick = true ∧ s.plaza.run = some { frameOf 5 with faults := x.1, ended := x.2 } ∧ s.plaza.cmds = [] ∧ (s.ctx 5).killDue = none ∧ s.plaza.choice = none
          ∧ (s.ctx 5).directWritten = false ∧ ueCount x.1 < 2 ∧ (s.ctx 5).replays < 2 ∧ s.slices = []) := by decide +kernel
theorem wit_tick_rolled_back_at_two : ueCount [⟨0x0101, 8, false, 0⟩, ⟨0x0101, 16, false, 0⟩] = 2 ∧ ueCount [⟨0x0101, 8, false, 0⟩, ⟨0x0101, 8, false, 0⟩] = 1 := by
  decide +kernel
theorem wit_sync : (State.reset.wr F.TICK_SYNC_MODE 0 0 2).rd F.TICK_SYNC_MODE = 2 ∧ (State.reset.wr F.TICK_SYNC_MODE 0 0 1).rd F.TICK_SYNC_MODE ≠ 2
    ∧ ((ending [] true).wr F.TICK_SYNC_MODE 0 0 2).plaza.ticking = true ∧ (ending [] true).rd F.TOP_STATUS_FATAL ≠ 1
    ∧ (ending [] true).anyBusy = true ∧ State.reset.anyBusy = false := by decide +kernel
/-- Blocks 0 to 543 have ended their frame, so that every logical Block has; and Block 0, which is logical, has not. -/
def allEnded : State :=
  { allWait with
    blks := (List.range' 0 544).map (fun p => (p, { blk0 with q := { Queues.reset with ended := true } }))
    plaza := { Plaza.reset with run := some (frameOf 5) } }
theorem wit_frame_ended : allEnded.plaza.run = some (frameOf 5) ∧ ∀ p ∈ allEnded.enabledBlks, (allEnded.blk p).q.ended = true := by
  refine ⟨rfl, fun p hp => ?_⟩
  obtain ⟨_, hl, hp⟩ := List.mem_flatten.mp hp
  obtain ⟨d, hd, rfl⟩ := List.mem_map.mp hl
  obtain ⟨i, hi, he⟩ := List.mem_filterMap.mp hp
  have hlt : p < 544 := by
    unfold State.phys at he
    split at he
    · cases he
      have := allWait_site_lt ((32 * d + i) / 32) ((32 * d + i) % 32)
      rw [show allEnded.rd F.DIST_MAP_SITE ((32 * d + i) / 32) ((32 * d + i) % 32) = allWait.rd F.DIST_MAP_SITE ((32 * d + i) / 32) ((32 * d + i) % 32) from rfl]
      have := List.mem_range.mp hd
      have := List.mem_range.mp hi
      unfold nDist at *
      omega
    · cases he
  have hb : allEnded.blk p = { blk0 with q := { Queues.reset with ended := true } } := by
    unfold State.blk SMap.get
    rw [show allEnded.blks = (List.range' 0 544).map (fun p => (p, { blk0 with q := { Queues.reset with ended := true } })) from rfl,
      find_range' _ p 544 0 (Nat.zero_le _) (by omega)]
    rfl
  rw [hb]
theorem wit_frame_not_ended : ∃ p ∈ allWait.enabledBlks, (allWait.blk p).q.ended = false := by
  refine ⟨0, List.mem_flatten.mpr ⟨_, List.mem_map.mpr ⟨0, by decide, rfl⟩, List.mem_filterMap.mpr ⟨0, by decide, by decide +kernel⟩⟩, by decide +kernel⟩
/-- The last context in each state, with 63 and 64 commands queued. -/
def inStateOf (st n : Nat) : State :=
  { State.reset with ctxs := [(1023, { Ctx.reset with state := st })], plaza := { Plaza.reset with cmds := List.replicate n ⟨2, 0, none⟩ } }
theorem wit_context_commands : ∀ n ∈ [63, 64], (inStateOf 0 n).plaza.cmds.length = n ∧ (inStateOf 0 n).plaza.cmds.all (fun q => q.op != 1 && q.ctx != 1023) = true
    ∧ (inStateOf 0 n).sec.entropyOk = true ∧ mayCommand (inStateOf 0 n) .mgmt := by
  unfold mayCommand; decide +kernel
theorem wit_context_states : ∀ st < 7, inState (inStateOf st 0) 1023 st := by
  unfold inState; decide +kernel
/-- An entry of a resident context not loaded, with a table of one region at address 0; its ENTRY_CHECK is worked out by hand. -/
def entry : Ctx := { Ctx.reset with resident := true, host := [(0, 0x4E), (1, 0x91), (2, 0x8B), (3, 0x2B), (0x28, 1)] }
/-- The first n bytes behind the check of the entry. -/
def entryBytes (n : Nat) : List Byte := (List.range n).map (fun i => entry.host.get (8 + i) 0)
/-- 56 bytes of the entry, from the k-th 56 on behind its check. -/
def entryPart (k : Nat) : List Byte := (List.range 56).map (fun i => entry.host.get (8 + (56 * k + i)) 0)
theorem entry_step {k x y : Nat} (h : crcRight 0x82F6_3B78 0xFFFF_FFFF (entryBytes (56 * k)) = x) (g : crcRight 0x82F6_3B78 x (entryPart k) = y) :
    crcRight 0x82F6_3B78 0xFFFF_FFFF (entryBytes (56 * (k + 1))) = y := by
  have e : entryBytes (56 * (k + 1)) = entryBytes (56 * k) ++ entryPart k := by
    unfold entryBytes entryPart
    rw [Nat.mul_succ, List.range_add, List.map_append, List.map_map]; rfl
  rw [e, ← g, ← h]
  exact List.foldl_append
theorem entry_crc_1 : crcRight 0x82F6_3B78 0xFFFF_FFFF (entryBytes (56 * (0 + 1))) = 0x50f7f7ef := entry_step (k := 0) (x := 0xFFFF_FFFF) rfl (by decide +kernel)
theorem entry_crc_2 : crcRight 0x82F6_3B78 0xFFFF_FFFF (entryBytes (56 * (1 + 1))) = 0x9f3c97e8 := entry_step entry_crc_1 (by decide +kernel)
theorem entry_crc_3 : crcRight 0x82F6_3B78 0xFFFF_FFFF (entryBytes (56 * (2 + 1))) = 0x6d91e12f := entry_step entry_crc_2 (by decide +kernel)
theorem entry_crc_4 : crcRight 0x82F6_3B78 0xFFFF_FFFF (entryBytes (56 * (3 + 1))) = 0x1f7fb641 := entry_step entry_crc_3 (by decide +kernel)
theorem entry_crc_5 : crcRight 0x82F6_3B78 0xFFFF_FFFF (entryBytes (56 * (4 + 1))) = 0xe44adfe5 := entry_step entry_crc_4 (by decide +kernel)
theorem entry_crc_6 : crcRight 0x82F6_3B78 0xFFFF_FFFF (entryBytes (56 * (5 + 1))) = 0xc84922ba := entry_step entry_crc_5 (by decide +kernel)
theorem entry_crc_7 : crcRight 0x82F6_3B78 0xFFFF_FFFF (entryBytes (56 * (6 + 1))) = 0x376f3161 := entry_step entry_crc_6 (by decide +kernel)
theorem entry_crc_8 : crcRight 0x82F6_3B78 0xFFFF_FFFF (entryBytes (56 * (7 + 1))) = 0x5a4b16f3 := entry_step entry_crc_7 (by decide +kernel)
theorem entry_crc_9 : crcRight 0x82F6_3B78 0xFFFF_FFFF (entryBytes (56 * (8 + 1))) = 0xd4746eb1 := entry_step entry_crc_8 (by decide +kernel)
theorem crc32c_of {l : List Byte} {x : Nat} (h : crcRight 0x82F6_3B78 0xFFFF_FFFF l = x) : crc32c l = x ^^^ 0xFFFF_FFFF := by
  rw [crc32c, h]
theorem entry_crc : crc32c ((List.range 0x1F8).map (fun i => entry.host.get (8 + i) 0)) = 0xd4746eb1 ^^^ 0xFFFF_FFFF := by
  have h := crc32c_of entry_crc_9
  unfold entryBytes at h
  exact h
theorem wit_entry_ok : entry.entryOk = true := by
  rw [Ctx.entryOk, entry_crc]; decide +kernel
/-- The same entry with one bit of its check turned. -/
def entryBad : Ctx := { entry with host := [(0, 0x4F), (1, 0x91), (2, 0x8B), (3, 0x2B), (0x28, 1)] }
theorem wit_entry_bad : entryBad.entryOk = false := by
  have e : (List.range 0x1F8).map (fun i => entryBad.host.get (8 + i) 0) = (List.range 0x1F8).map (fun i => entry.host.get (8 + i) 0) :=
    List.map_congr_left (fun i _ => by
      have : ¬ 0 = 8 + i := by omega
      simp [SMap.get, SMap.find, entryBad, entry, this])
  rw [Ctx.entryOk, e, entry_crc]; decide +kernel
/-- The region table: one direct region of 64 KiB, in a slice under the host window's owner and key; and no table. -/
def tabled : State :=
  { ((atSlice { Slice.reset with lines := [{ line0 .clean with owner := 0x3401, keyh := 0x1401, data := 0xeb43c45200000000000000000000000000000000000000000000000000ff00010000000000000000000000000001000000000000000100000000000000000000 }] } []).wr
    F.MEMC_RANGE_BASE_BASE 15 0 (2 ^ 32)).wr F.MEMC_RANGE_SIZE_SIZE 15 0 (2 ^ 32) with ctxs := [(1023, entry)] }
theorem wit_region_table : (tabled.regionTable entry).2.2.2 = true ∧ (tabled.regionTable entry).2.1 = [⟨0, 0x1_0000, 0x1_0000, 0, 1, 0xFF, 0, false⟩]
    ∧ (tabled.ctx 1023).resident = true ∧ (tabled.ctx 1023).loaded = false := by decide +kernel
theorem wit_no_region_table : (({ tabled with slices := [] } : State).regionTable { entry with host := [] }).2.2.2 = false := by decide +kernel
theorem wit_entry_writes : ¬ ([(1 : Byte), 2].length = 4 ∨ [(1 : Byte), 2].length = 8) ∧ 0x1FC % 4 = 0 ∧ 0x1FC + 4 ≤ 1024 ∧ 0x1FE % 4 ≠ 0 := by decide +kernel

/-! ### The machine as a whole -/

/-- StepKeepsMemoryCanonical and StepLowersNoFuseAndNoLog: a step from reset, with a command waiting and with none. -/
theorem wit_sound_reset : Memory.wf State.reset.dram = true ∧ step State.reset = .next { State.reset with time := 1 }
    ∧ step { State.reset with pending := [.powerDown] } = exec (.powerDown) { State.reset with pending := [] } := by
  refine ⟨by decide +kernel, rfl, rfl⟩

end Sys2Proof.Tests
end

section
/-! PROOFS. Commands and their answers (R2, R4, R487): a step is the effect of the front command, and a command answers a next state
exactly when the unit and the source that it names exist. -/

namespace Sys2Proof.Machine
open Sys2Proof

/-- A step with a command at the front of the queue. -/
theorem step_of_pending {c : Instr} {rest : List Instr} {s : State} (h : s.pending = c :: rest) :
    step s = exec c { s with pending := rest } := by
  rw [step, h]

/-- An outcome as a command gives it whose unit and source exist exactly if `ok`. -/
def answersIf (ok : Bool) (o : Host.Outcome State Fault Refusal) : Prop :=
  (ok = true → ∃ t, o = .next t) ∧ (ok = false → o = .fault .noSuchUnit)

theorem answersIf_next (t : State) : answersIf true (.next t) :=
  ⟨fun _ => ⟨t, rfl⟩, fun h => nomatch h⟩

theorem answersIf_ite {c : Prop} [Decidable c] {ok : Bool} {o o' : Host.Outcome State Fault Refusal} (h : answersIf ok o)
    (h' : answersIf ok o') : answersIf ok (if c then o else o') := by
  split
  · exact h
  · exact h'

theorem answersIf_onUnit (b n : Nat) (s : State) (t : State → State) : answersIf (decide (n < b)) (onUnit b n s t) := by
  rcases onUnit_cases b n s t with ⟨hlt, heq⟩ | ⟨hge, heq⟩
  · exact ⟨fun _ => ⟨_, heq⟩, fun hf => absurd hlt (of_decide_eq_false hf)⟩
  · exact ⟨fun ht => absurd (of_decide_eq_true ht) (Nat.not_lt.mpr hge), fun _ => heq⟩

/-- A page index of the BAR0 map is one that names a page (R487). -/
theorem pageExists_iff_pageOf_ne_none (i : Nat) : pageExists i = true ↔ pageOf i ≠ none := by
  unfold pageOf
  split
  case h_13 =>
    simp only [pageExists, Bool.or_eq_true, Bool.and_eq_true, decide_eq_true_eq]
    split_ifs <;> simp_all <;> omega
  all_goals simp [pageExists]

theorem answersIf_onPage (src : Source) (i off : Nat) (s : State) (t : State → Page → Nat → State) :
    answersIf (decide ((if pageExists i then 0 else 1) < 1)) (onPage src i off s t) := by
  have hp := pageExists_iff_pageOf_ne_none i
  unfold onPage
  cases hq : pageOf i with
  | none => simp_all [answersIf]
  | some q => simp_all [answersIf]

/-- A command that names no source comes from the management cores, which exist. -/
theorem answersIf.ofMgmt {ok : Bool} {o : Host.Outcome State Fault Refusal} (h : answersIf ok o) :
    answersIf (ok && sourceExists .mgmt) o := by
  rwa [sourceExists, Bool.and_true]

theorem sourceExists_eq_sourceOk (src : Source) : sourceExists src = sourceOk src := by
  cases src <;> rfl

theorem answersIf.onSrc {ok : Bool} {o : Host.Outcome State Fault Refusal} (src : Source) (h : answersIf ok o) :
    answersIf (ok && sourceExists src) (onSrc src o) := by
  rw [sourceExists_eq_sourceOk]
  cases hs : sourceOk src with
  | true => rwa [onSrc_of_ok hs, Bool.and_true]
  | false => exact ⟨fun h => by simp at h, fun _ => onSrc_of_bad hs o⟩

/-! ### The shapes of the core's and the vector engine's instructions: each acts on a Block (R13) -/

theorem answersIf_coreStep (p : Nat) (op : CoreOp) (reads : Nat → List Nat) (body : State → Nat → State) (s : State) :
    answersIf (decide (p < nBlks)) (coreStep p op reads body s) :=
  answersIf_onUnit _ _ _ _

theorem answersIf_coreAlu (p : Nat) (op : CoreOp) (reads : Nat → List Nat) (f : State → Nat → Nat) (s : State) :
    answersIf (decide (p < nBlks)) (coreAlu p op reads f s) :=
  answersIf_coreStep _ _ _ _ _

theorem answersIf_coreRR (p : Nat) (op : CoreOp) (f : Nat → Nat → Nat) (s : State) :
    answersIf (decide (p < nBlks)) (coreRR p op f s) :=
  answersIf_coreAlu _ _ _ _ _

theorem answersIf_coreRI (p : Nat) (op : CoreOp) (f : Nat → Nat → Nat) (s : State) :
    answersIf (decide (p < nBlks)) (coreRI p op f s) :=
  answersIf_coreAlu _ _ _ _ _

theorem answersIf_corePred (p : Nat) (op : CoreOp) (reads : Nat → List Nat) (d : Nat → Nat) (f : State → Nat → Bool) (s : State) :
    answersIf (decide (p < nBlks)) (corePred p op reads d f s) :=
  answersIf_coreStep _ _ _ _ _

theorem answersIf_vecStepIf (p g : Nat) (op : VecOp) (hold : State → Group → Nat → BitVec 32 → Option State)
    (body : State → Group → Nat → BitVec 32 → State) (s : State) :
    answersIf (decide (p < nBlks)) (vecStepIf p g op hold body s) :=
  answersIf_onUnit _ _ _ _

theorem answersIf_vecStep (p g : Nat) (op : VecOp) (body : State → Group → Nat → BitVec 32 → State) (s : State) :
    answersIf (decide (p < nBlks)) (vecStep p g op body s) :=
  answersIf_vecStepIf _ _ _ _ _ _

theorem answersIf_vecBar (p g : Nat) (op : VecOp) (blk : Bool) (s : State) :
    answersIf (decide (p < nBlks)) (vecBar p g op blk s) :=
  answersIf_vecStepIf _ _ _ _ _ _

theorem answersIf_vecAlu (p g : Nat) (op : VecOp) (f : State → Group → Nat → Nat → Nat) (s : State) :
    answersIf (decide (p < nBlks)) (vecAlu p g op f s) :=
  answersIf_vecStep _ _ _ _ _

theorem answersIf_vecPred (p g : Nat) (op : VecOp) (f : Group → Nat → Nat → Bool) (s : State) :
    answersIf (decide (p < nBlks)) (vecPred p g op f s) :=
  answersIf_vecStep _ _ _ _ _

theorem answersIf_vecRR (p g : Nat) (op : VecOp) (f : Nat → Nat → Nat → Nat) (s : State) :
    answersIf (decide (p < nBlks)) (vecRR p g op f s) :=
  answersIf_vecAlu _ _ _ _ _

theorem answersIf_vecFF (p g : Nat) (op : VecOp) (f : FVal → FVal → FVal → FVal) (s : State) :
    answersIf (decide (p < nBlks)) (vecFF p g op f s) :=
  answersIf_vecAlu _ _ _ _ _

theorem answersIf_vecSpecial (p g : Nat) (op : VecOp) (fn : SpecialFn) (f : Word → Word) (s : State) :
    answersIf (decide (p < nBlks)) (vecSpecial p g op fn f s) :=
  answersIf_vecAlu _ _ _ _ _

/-! ### Every command -/

/-- A command answers a next state when the unit and the source that it names exist, and the fault noSuchUnit otherwise: a command on a
unit by the bound on its number, a command of a source by the sources that there are, any other command always. -/
theorem exec_answersIf (c : Instr) (s : State) : answersIf c.wellFormed (exec c s) := by
  unfold exec
  cases c with
  | time | residentLoad | tailValue | dueRead | imemLoad | outputDelivery | loadReturn | storeAck | mload | mloadStart
  | mpass | mpassStart | mdrain | mdrainStart | rampStep | holdExpiry | gateBoundary | vlaunch | dcopy | dgather
  | fsend | xdispatch | countTable | placement | xcombine | sfence | barrier | barrierRelease | frameEnd
  | commandComplete | vxLoadReturn | groupRetire | bankWake | sliceRequest | lineFill | resolve | inv | invAck
  | prefetch | requestRetry | heldAdmit | pinDone | sweepEnd | retired | scrubVisit | lineRequest | keyFetch
  | checkMiss | refresh | mr4Read | driftTrack | channelTraining | hostWindowAccess | ceTableUpdate | bondWindow
  | provOpen | provImport | revoke | attest | getCerts | getInfo | respRead | fwLoadBegin | fwLoadData | fwLoadDma
  | fwLoadEnd | fwFlashWrite | svnCommit | authHandover | authClaim | telemetryRead | logRead | deviceReset | linkDown
  | hotReset | perst | pfFlr | vfFlr | l1Entry | data | landed | commitToken | abortMarker | slotFree | ctrl | hello
  | rekey | rekeyTrigger | lane | retryTimeout | busyResend | landedTimeout | slotZeroed | laneCheck | portTraining
  | cellFail | switchStep | switchDone | refclkLost | illegalInstruction | illegalVectorEncoding | linkUp
  | refclkReturn | channelRetrain | backgroundLaneRetrain | badPacket | rowIdleClose | configurationRequest =>
    exact (answersIf_onUnit _ _ _ _).ofMgmt
  | activate | stop | abort | resume | release | contextEntryWrite | spOwnWrite | cloveStart | pin | unpin
  | channelEnable | channelReset | chanOwner | fabEnable | domainRequest | ack | retire | imemData =>
    exact (answersIf_onUnit _ _ _ _).onSrc _
  | add | sub | and | or | xor | andn | sll | srl | sra | mul | mulhu | divu | remu | min | max | minu | maxu =>
    exact (answersIf_coreRR _ _ _ _).ofMgmt
  | cmp | pand | por | pxor | pandn | pnot | aluStop | cmpi | cmpiu => exact (answersIf_corePred _ _ _ _ _ _).ofMgmt
  | ptos | mflc | mfcb | rdid | rdtime | rdframe | movi | insi => exact (answersIf_coreAlu _ _ _ _ _).ofMgmt
  | setcls | jr | jrl | fence | halt | ld | st | lds | sts | br | brl | cskip | loop | loopi | cbw | cbwh | cbins
  | qsend | qsendm | qfree =>
    exact (answersIf_coreStep _ _ _ _ _).ofMgmt
  | addi | andi | ori | xori | shi => exact (answersIf_coreRI _ _ _ _).ofMgmt
  | iadd | isub | imul | vxAnd | vxOr | vxXor | shl | shr | vxMin | vxMax => exact (answersIf_vecRR _ _ _ _ _).ofMgmt
  | imad | sel | vxMovi | iaddi | cvt | vote | shfl | rdsr => exact (answersIf_vecAlu _ _ _ _ _).ofMgmt
  | fadd | fmul | ffma | fmin | fmax => exact (answersIf_vecFF _ _ _ _ _).ofMgmt
  | frcp | frsq | fexp2 | flog2 => exact (answersIf_vecSpecial _ _ _ _ _ _).ofMgmt
  | setp | plop => exact (answersIf_vecPred _ _ _ _ _).ofMgmt
  | vxLd | vxSt | red => exact (answersIf_vecStepIf _ _ _ _ _ _).ofMgmt
  | bra | join | exit | gmma => exact (answersIf_vecStep _ _ _ _ _).ofMgmt
  | barG | barB => exact (answersIf_vecBar _ _ _ _ _).ofMgmt
  | lock | pop | fatalSet | errorInject | bindReq | retrainAll | resetKey | tickCtrlEnable | rcRead | registerWrite
  | registerRead =>
    exact (answersIf_next _).onSrc _
  | stopReq | softReset | evtClear => exact (answersIf_onPage _ _ _ _ _).onSrc _
  | hkChannel => exact answersIf_ite (c := 512 ≤ s.thm.chan) (answersIf_next _) (answersIf_next _)
  | roundEnd => exact answersIf_ite (c := s.thm.chan < 512) (answersIf_next _) (answersIf_next _)
  | cloveDone slice => cases slice <;> exact (answersIf_onUnit _ _ _ _).ofMgmt
  | tick | tickIn | tickLost | frameEnded | intakeFetch | errorReport | sessionTimeout | entropyFail | landingComplete
  | voltageRaised | logAppend | powerOn | sysReset | bootRom | bringUp | bondFieldTraining | externalMemoryTest
  | cardamom | interruptDelivery | sidebandRead | minsenseFrame | fastGuard | limiterWindow | powerDown
  | sidebandWrite =>
    exact answersIf_next _

/-- Settles O1. -/
theorem stepRunsFrontCommand : Obligations.StepRunsFrontCommand :=
  fun _ _ _ h => step_of_pending h

/-- Settles O2, by the one statement of what a command answers. -/
theorem wellFormedCommandsExecute : Obligations.WellFormedCommandsExecute :=
  exec_answersIf

end Sys2Proof.Machine
end

section
/-! PROOFS. Facts about register fields, event bits, reads and writes of a word, and the control of units (R8, R9, R453, R483 to R486, R509). -/

namespace Sys2Proof
open Sys2Proof.Machine

/-- A key that a filter takes out of a map is not found in it. -/
theorem SMap.find_filter_of_false {α : Type} {k : Nat} {p : Nat × α → Bool} (h : ∀ v, p (k, v) = false) (m : SMap α) :
    SMap.find k (List.filter p m) = none := by
  induction m with
  | nil => rfl
  | cons e m ih =>
    obtain ⟨a, v⟩ := e
    rw [List.filter_cons]
    split
    case isTrue hp =>
      have hne : a ≠ k := by rintro rfl; simp [h] at hp
      rw [SMap.find, if_neg hne, ih]
    case isFalse => exact ih

end Sys2Proof

namespace Sys2Proof.Machine
open Sys2Proof Sys2Proof.Claims

/-! ### Fields, keys and events -/

theorem pageFields_width_le (pg : Page) : ∀ f ∈ pageFields pg, f.width ≤ 64 := by
  cases pg <;> decide

theorem mem_of_mem_ite_filter {f : Fld} {c : Prop} [Decidable c] {l : List Fld} {p : Fld → Bool}
    (h : f ∈ if c then l else l.filter p) : f ∈ l := by
  split at h
  · exact h
  · exact List.mem_of_mem_filter h

/-- The fields that an access to a page reaches are of its header, of the page, or of the part that only FAB[0] has (R406). -/
theorem mem_pageFields_of_fieldsOf {pg : Page} {u : Nat} {f : Fld} (h : f ∈ fieldsOf pg u) :
    f ∈ pageFields .hdr ∨ f ∈ pageFields .fab0 ∨ f ∈ pageFields pg := by
  cases pg with
  | ch => exact .inr (.inr h)
  | fab =>
    have hfab0 : f ∈ (if u = 0 then regs_fab0.filter (fun f => decide (f.off < 0xE00)) else []) → f ∈ pageFields .fab0 := by
      split
      · exact List.mem_of_mem_filter
      · exact fun h => nomatch h
    rcases List.mem_append.mp h with h | h
    · exact (List.mem_append.mp h).imp_right .inr
    · exact .inr (.inl (hfab0 h))
  | slc => exact (List.mem_append.mp h).imp_right fun h => .inr (mem_of_mem_ite_filter h)
  | memc => exact (List.mem_append.mp h).imp_right fun h => .inr (mem_of_mem_ite_filter h)
  | _ => exact (List.mem_append.mp h).imp_right .inr

/-- The model keeps every field that an access can reach whole. -/
theorem touched_width_le {pg : Page} {u o n : Nat} {f : Fld} {i : Nat} (h : (f, i) ∈ touched pg u o n) : f.width ≤ 64 := by
  have hf : f ∈ fieldsOf pg u := by
    simp only [touched, List.mem_flatten, List.mem_map] at h
    obtain ⟨l, ⟨g, hg, rfl⟩, hl⟩ := h
    simp only [List.mem_map] at hl
    obtain ⟨k, -, heq⟩ := hl
    exact (Prod.mk.inj heq).1 ▸ hg
  rcases mem_pageFields_of_fieldsOf hf with h | h | h <;> exact pageFields_width_le _ f h

theorem keyAt_enable (pg : Page) (u : Nat) : keyAt pg u F.HDR_CTRL_ENABLE 0 = (pageBase pg u + 0x10) * 64 := by
  simp [keyAt, F.HDR_CTRL_ENABLE]

theorem keyAt_evts (pg : Page) (u : Nat) : keyAt pg u F.HDR_EVT_STATUS 0 = (pageBase pg u + 0x20) * 64 := by
  simp [keyAt, F.HDR_EVT_STATUS]

theorem State.setEvt_rdAt_ne {pg qg : Page} {u w j : Nat} {f : Fld} (s : State) (b : Nat) (h : keyAt qg w f j ≠ evtKey pg u) :
    (s.setEvt pg u b).rdAt qg w f j = s.rdAt qg w f j :=
  State.rdAt_wrAt_ne s pg qg u w _ f _ j _ h

/-- Event bits have 32 places (R484). -/
theorem State.evts_wrAt (s : State) (pg : Page) (u v : Nat) : (s.wrAt pg u F.HDR_EVT_STATUS 0 v).evts pg u = v % 2 ^ 32 :=
  State.rdAt_wrAt_same s pg u F.HDR_EVT_STATUS 0 v (by decide)

theorem State.bitOf_evts_setEvt (s : State) (pg : Page) (u : Nat) {b : Nat} (hb : b < 32) : bitOf ((s.setEvt pg u b).evts pg u) b = true := by
  rw [State.setEvt, State.evts_wrAt, bitOf, Nat.testBit_mod_two_pow, setBit, Nat.testBit_or, Nat.one_shiftLeft, Nat.testBit_two_pow_self]
  simp [hb]

/-! ### Traffic on a port -/

@[simp] theorem State.wakeLink_free (s : State) (src : Source) : (s.wakeLink src).free = s.free := by cases src <;> rfl
@[simp] theorem State.wakeLink_latched (s : State) (src : Source) : (s.wakeLink src).latched = s.latched := by cases src <;> rfl
@[simp] theorem State.wakeLink_plaza (s : State) (src : Source) : (s.wakeLink src).plaza = s.plaza := by cases src <;> rfl

/-- Waking a link leaves the counter of accesses to holes. -/
theorem State.wakeLink_rd_hole (s : State) (src : Source) : (s.wakeLink src).rd F.TOP_BAR0_HOLE = s.rd F.TOP_BAR0_HOLE := by
  have hne (p : Nat) : keyAt .top 0 F.TOP_BAR0_HOLE 0 ≠ keyAt .pcie p F.PCIE_LINK_L1 0 := by
    simp only [keyAt, pageBase, F.TOP_BAR0_HOLE, F.PCIE_LINK_L1]; omega
  cases src with
  | pf p => exact State.rd_wr_ne _ _ _ _ _ _ _ _ (hne p)
  | vf p _ => exact State.rd_wr_ne _ _ _ _ _ _ _ _ (hne p)
  | mgmt => rfl

/-- A counter that is incremented saturates at its width (R151). -/
theorem State.rd_inc_same (s : State) (f : Fld) (u i n : Nat) (h : f.width ≤ 64) :
    (s.inc f u i n).rd f u i = satAdd (2 ^ f.width - 1) (s.rd f u i) n := by
  rw [State.inc, State.rd_wr_same _ _ _ _ _ h]
  refine Nat.mod_eq_of_lt (lt_of_le_of_lt (min_le_left _ _) ?_)
  exact Nat.sub_lt (Nat.two_pow_pos _) Nat.one_pos

/-! ### Reads of a word (R8, R483) -/

theorem State.readOp_word (s : State) (src : Source) {off : Nat} (h : off % 4 = 0) :
    s.readOp src off 4 =
      (((s.wakeLink src).readPlace src ((s.wakeLink src).namedAt src off)).1.emit "READ"
        [off, 4, ((s.wakeLink src).readPlace src ((s.wakeLink src).namedAt src off)).2 % 2 ^ 32]) := by
  simp [State.readOp, State.readAt, h, bitsOf]

theorem exec_read_word {src : Source} (h : sourceOk src = true) (off : Nat) (s : State) :
    ∀ c ∈ [Instr.rcRead src off, .registerRead src off 4], exec c s = .next (s.readOp src off 4) := by
  simp [execRcRead, execRegisterRead, h]

theorem State.readWord_eq_readReg (s : State) (src : Source) {pg : Page} {u o : Nat} (hImem : ¬ (pg = .blk ∧ o = 0x488))
    (hCe : ¬ (pg = .errq ∧ 0x400 ≤ o ∧ o < 0xA00)) (hMb : ¬ (pg = .mb ∧ 0x800 ≤ o)) (hl : s.latched = []) (hw : wideAt pg u o = false) :
    s.readWord src pg u o = s.readReg pg u o 4 := by
  simp [State.readWord, hImem, hCe, hMb, hl, hw]

theorem State.readClear_single (s : State) {pg : Page} {u o n : Nat} {f : Fld} {i : Nat} (h : touched pg u o n = [(f, i)]) :
    s.readClear pg u o n =
      if f.acc = .rc then
        (if s.counting u f then (s.wrAt pg u f i s.freeVal).used else s.wrAt pg u f i (resetOf pg u f i))
      else s := by
  simp [State.readClear, h]

/-- What a read of a word in which one field begins does: the field's value goes out, and an RC field clears. -/
theorem exec_read_field {s : State} {src : Source} {off : Nat} {pg : Page} {u o : Nat} {f : Fld} (hf : atField s src off pg u o f)
    (hImem : ¬ (pg = .blk ∧ o = 0x488)) (hCe : ¬ (pg = .errq ∧ 0x400 ≤ o ∧ o < 0xA00)) (hMb : ¬ (pg = .mb ∧ 0x800 ≤ o)) (hl : s.latched = []) :
    ∀ c ∈ [Instr.rcRead src off, .registerRead src off 4],
      exec c s = .next ((if f.acc = .rc then
          (if (s.wakeLink src).counting u f then ((s.wakeLink src).wrAt pg u f 0 (s.wakeLink src).freeVal).used
           else (s.wakeLink src).wrAt pg u f 0 (resetOf pg u f 0))
        else s.wakeLink src).emit "READ" [off, 4, (s.wakeLink src).peek pg u o 4 % 2 ^ 32]) := by
  obtain ⟨hsrc, hoff, hpl, ht, -, hw⟩ := hf
  intro c hc
  rw [exec_read_word hsrc off s c hc, State.readOp_word s src hoff, hpl]
  simp only [State.readPlace, State.readWord_eq_readReg _ src hImem hCe hMb ((s.wakeLink_latched src).trans hl) hw, State.readReg,
    State.readClear_single _ ht]

/-! ### Writes of a word (R483, R486, R509) -/

theorem exec_registerWrite_of_ok {src : Source} (h : sourceOk src = true) (off size : Nat) (v : DWord) (s : State) :
    exec (.registerWrite src off size v) s = .next (s.writeAt src off size v.toNat) := by
  rw [exec_registerWrite, execRegisterWrite, onSrc_of_ok h]

theorem State.writeAt_word (s : State) (src : Source) {off : Nat} (h : off % 4 = 0) (v : Nat) :
    s.writeAt src off 4 v = (s.wakeLink src).writePlace src 4 (v % 2 ^ 32) ((s.wakeLink src).namedAt src off) := by
  simp [State.writeAt, h]

theorem State.writeAt_narrow (s : State) (src : Source) {off size : Nat} (h4 : ¬ (size = 4 ∧ off % 4 = 0)) (h8 : ¬ (size = 8 ∧ off % 8 = 0))
    (v : Nat) : s.writeAt src off size v = s.wakeLink src := by
  simp [State.writeAt, h4, h8]

/-- Beside storing it, the write of a register on which no unit acts does nothing. -/
theorem State.afterWrite_eq_self (t s : State) (src : Source) {pg : Page} {u o v : Nat} (hpg : pg ∉ [Page.pwr, .fab, .ch])
    (hpo : (pg, o) ∉ [(Page.blk, 0x404), (.blk, 0x644), (.memc, 0x104), (.intc, 0x104)]) : t.afterWrite s src pg u o v = t := by
  cases pg <;> simp_all [State.afterWrite]

theorem State.writeReg_eq_writeFields {s : State} {src : Source} {pg : Page} {u o x : Nat} {f : Fld} (h : plainWrite s src pg u o f x) :
    s.writeReg src pg u o 4 x = s.writeFields src pg u o 4 x := by
  obtain ⟨hreach, hpg, hpo, hpower, ho, hown, -⟩ := h
  simp only [List.mem_cons, List.not_mem_nil, or_false, not_or] at ho
  obtain ⟨hctrl, hen, hclr⟩ := ho
  simp [State.writeReg, hreach, hpower, hctrl, hen, hclr, hown, State.afterWrite_eq_self _ s src hpg hpo]

/-- A word written where one field begins: dropped under R509, else the field takes its value by its class. -/
theorem State.writeFields_single (s : State) {src : Source} {pg : Page} {u o n : Nat} {f : Fld} (v : Nat) (h : touched pg u o n = [(f, 0)])
    (hh : f.page ≠ .hdr) (hd : dropsField src f = false) :
    s.writeFields src pg u o n v =
      if f.acc = .rw ∧ f.chk.ok (written f 0 o n (s.rdAt pg u f 0) v) = false then s.cfgReject pg u
      else (s.putField pg u (s.closed pg u f) f 0 (s.rdAt pg u f 0) (written f 0 o n (s.rdAt pg u f 0) v)).clearOnes pg u (f, 0)
        (bitOf (v >>> (fieldBit f 0 - 8 * o)) 0) := by
  simp [State.writeFields, h, hh, hd, State.badValue]

/-- The same where a class-T field and its effective copy share the register: the copy is read-only. -/
theorem State.writeFields_pair (s : State) {src : Source} {pg : Page} {u o n : Nat} {f g : Fld} (v : Nat)
    (h : touched pg u o n = [(f, 0), (g, 0)]) (hf : f.page ≠ .hdr) (hg : g.page ≠ .hdr) (hd : dropsField src f = false) (hrw : f.acc = .rw)
    (ht : f.cls = .t) (hro : g.acc = .ro) :
    s.writeFields src pg u o n v =
      if f.chk.ok (written f 0 o n (s.rdAt pg u f 0) v) = false then s.cfgReject pg u
      else s.putT f u 0 (written f 0 o n (s.rdAt pg u f 0) v) := by
  simp [State.writeFields, h, hf, hg, hd, State.badValue, State.putField, State.clearOnes, hrw, ht, hro]

theorem regsBut_wrAt (s : State) (pg : Page) (u : Nat) (f : Fld) (i v : Nat) : regsBut [keyAt pg u f i] s (s.wrAt pg u f i v) := by
  intro qg w g j hk
  exact State.rdAt_wrAt_ne s pg qg u w f g i j v (by simpa using hk)

/-- A word written where one field begins goes to the fields of the page by the generic rules (R486). -/
theorem exec_write_field {s : State} {src : Source} {off : Nat} {pg : Page} {u o : Nat} {f : Fld} {v : DWord}
    (hf : atField s src off pg u o f) (hp : plainWrite (s.wakeLink src) src pg u o f (v.toNat % 2 ^ 32)) :
    exec (.registerWrite src off 4 v) s = .next ((s.wakeLink src).writeFields src pg u o 4 (v.toNat % 2 ^ 32)) := by
  obtain ⟨hsrc, hoff, hpl, -, -, -⟩ := hf
  rw [exec_registerWrite_of_ok hsrc, State.writeAt_word s src hoff, hpl, State.writePlace, State.writeReg_eq_writeFields hp]

/-- An RO field does not change. -/
theorem State.writeFields_ro (s : State) {src : Source} {pg : Page} {u o n : Nat} {f : Fld} (v : Nat) (h : touched pg u o n = [(f, 0)])
    (hh : f.page ≠ .hdr) (hd : dropsField src f = false) (hro : f.acc = .ro) : s.writeFields src pg u o n v = s := by
  simp [State.writeFields_single s v h hh hd, hro, State.putField, State.clearOnes]

/-- An RW field keeps its value where the new one is outside its range, and takes it by its class otherwise. -/
theorem State.writeFields_rw (s : State) {src : Source} {pg : Page} {u o n : Nat} {f : Fld} (v : Nat) (h : touched pg u o n = [(f, 0)])
    (hh : f.page ≠ .hdr) (hd : dropsField src f = false) (hrw : f.acc = .rw) :
    s.writeFields src pg u o n v =
      if f.chk.ok (written f 0 o n (s.rdAt pg u f 0) v) = false then s.cfgReject pg u
      else s.putField pg u (s.closed pg u f) f 0 (s.rdAt pg u f 0) (written f 0 o n (s.rdAt pg u f 0) v) := by
  simp [State.writeFields_single s v h hh hd, hrw, State.clearOnes]

theorem State.putField_l (s : State) (pg : Page) (u : Nat) (shut : Bool) {f : Fld} (i old v : Nat) (hrw : f.acc = .rw) (hl : f.cls = .l) :
    s.putField pg u shut f i old v = s.wrAt pg u f i v := by
  simp [State.putField, hrw, hl]

theorem State.putField_s (s : State) (pg : Page) (u : Nat) (shut : Bool) {f : Fld} (i old v : Nat) (hrw : f.acc = .rw) (hs : f.cls = .s) :
    s.putField pg u shut f i old v = if shut then (if v = old then s else s.cfgReject pg u) else s.wrAt pg u f i v := by
  simp [State.putField, hrw, hs]

/-! ### Class T (R9, R417, R459) -/

/-- The pairs of a shadow field and its effective copy: each shadow field has one copy, both fit in 64 bits, no pair shares a bit. -/
theorem tPairs_spec : ∀ p ∈ tPairs, tPairs.find? (fun q => q.1 == p.1) = some p ∧ p.1.width ≤ 64 ∧ p.2.width ≤ 64
    ∧ p.1.off * 64 + p.1.lo ≠ p.2.off * 64 + p.2.lo := by
  decide

theorem keyAt_zero (pg : Page) (u : Nat) (f : Fld) : keyAt pg u f 0 = pageBase pg u * 64 + (f.off * 64 + f.lo) := by
  simp only [keyAt, Nat.zero_div, Nat.zero_mod, Nat.mul_zero, Nat.add_zero]
  omega

theorem State.putT_of_tPairs (s : State) {f g : Fld} (h : (f, g) ∈ tPairs) (u i v : Nat) :
    s.putT f u i v = if s.plaza.ticked then s.wr f u i v else (s.wr f u i v).wr g u i v := by
  obtain ⟨hfind, -⟩ := tPairs_spec _ h
  cases ht : s.plaza.ticked <;> simp [State.putT, hfind, ht]

/-- A class-T field takes its value at once, and its effective copy takes it only before the first tick. -/
theorem State.rd_putT {s : State} {f g : Fld} (h : (f, g) ∈ tPairs) (hpg : g.page = f.page) (u v : Nat) :
    (s.putT f u 0 v).rd f u = v % 2 ^ f.width ∧ (s.putT f u 0 v).rd g u = if s.plaza.ticked then s.rd g u else v % 2 ^ g.width := by
  obtain ⟨-, hwf, hwg, hbits⟩ := tPairs_spec _ h
  have hkey : keyAt f.page u f 0 ≠ keyAt g.page u g 0 := by
    rw [keyAt_zero, keyAt_zero, hpg]; simpa using hbits
  rw [State.putT_of_tPairs s h]
  split
  · exact ⟨State.rd_wr_same _ _ _ _ _ hwf, State.rd_wr_ne _ _ _ _ _ _ _ _ hkey.symm⟩
  · exact ⟨(State.rd_wr_ne _ _ _ _ _ _ _ _ hkey).trans (State.rd_wr_same _ _ _ _ _ hwf), State.rd_wr_same _ _ _ _ _ hwg⟩

theorem onlyRegs_putT (s : State) (f : Fld) (u i v : Nat) : onlyRegs s (s.putT f u i v) := by
  unfold State.putT
  dsimp only
  split <;> rfl

/-! ### The header of a page (R453, R484 to R486) -/

theorem onPage_of_open {src : Source} {i off : Nat} {pg : Page} {u : Nat} {s : State} (h : headerOpen s src i pg u off)
    (t : State → Page → Nat → State) : onSrc src (onPage src i off s t) = .next (t s pg u) := by
  obtain ⟨hsrc, hpage, hreach, hpower⟩ := h
  have hauth : (powerReg pg off && !s.hasAuth src) = false := by
    rcases hpower with h | h <;> simp [h]
  simp [onPage, hsrc, hpage, hreach, hauth]

/-! ### STOP_REQ (R485) -/

theorem State.stopUnit_of_free (s : State) (src : Source) {pg : Page} (u : Nat) (ht : pg ≠ .tick) (hb : dataPlane pg = false ∨ s.anyBusy = false) :
    s.stopUnit src pg u true = (s.unitOff pg u).setEvt pg u 1 := by
  rcases hb with h | h <;> simp [State.stopUnit, ht, h]

theorem State.stopUnit_of_busy (s : State) (src : Source) {pg : Page} (u : Nat) (hd : dataPlane pg = true) (hb : s.anyBusy = true) :
    s.stopUnit src pg u true = s.cfgReject pg u := by
  have ht : pg ≠ .tick := by rintro rfl; exact absurd hd (by decide)
  simp [State.stopUnit, ht, hd, hb]

theorem fixedCtrl_eq_false_of_dataPlane {pg : Page} (h : dataPlane pg = true) : fixedCtrl pg = false := by
  cases pg <;> revert h <;> decide

/-- The slices, memory controllers and fabric ports complete or drop work when they stop; the other units only clear ENABLE. -/
theorem State.unitOff_eq_wrAt (s : State) {pg : Page} (u : Nat) (h : pg ∉ [Page.slc, .memc, .fab]) :
    s.unitOff pg u = s.wrAt pg u F.HDR_CTRL_ENABLE 0 0 := by
  cases pg <;> simp_all [State.unitOff]

theorem State.unitOff_rdAt_enable (s : State) (pg : Page) (u : Nat) : (s.unitOff pg u).rdAt pg u F.HDR_CTRL_ENABLE 0 = 0 :=
  State.rdAt_wrAt_same _ pg u F.HDR_CTRL_ENABLE 0 0 (by decide)

theorem keyAt_enable_ne_evts (pg : Page) (u : Nat) : keyAt pg u F.HDR_CTRL_ENABLE 0 ≠ evtKey pg u := by
  rw [evtKey, keyAt_enable, keyAt_evts]; omega

theorem State.pickFree_rd {α : Type} (s : State) (xs : List α) (f : Fld) (u i : Nat) : (s.pickFree xs).1.rd f u i = s.rd f u i := by
  unfold State.pickFree
  split <;> rfl

/-- A control packet that goes out leaves the state of every port. -/
theorem State.sendCtl_rd_fabState (s : State) (k : TxPkt) (u : Nat) : (s.sendCtl k).rd F.FAB_STATE u = s.rd F.FAB_STATE u := by
  have hkey (p : Nat) : keyAt F.FAB_STATE.page u F.FAB_STATE 0 ≠ keyAt F.FAB_TX_PKTS.page p F.FAB_TX_PKTS 0 := by
    simp only [keyAt, pageBase, F.FAB_STATE, F.FAB_TX_PKTS]; omega
  have hpick := State.pickFree_rd s ((List.range 8).filter (fun p => s.canSend p k)) F.FAB_STATE u 0
  unfold State.sendCtl
  rcases hq : s.pickFree ((List.range 8).filter (fun p => s.canSend p k)) with ⟨t, _ | p⟩
  · rw [hq] at hpick
    exact hpick
  · rw [hq] at hpick
    simp only [State.txOn, State.emitPkt, State.emit_rd, State.onFport_rd]
    exact (State.rd_wr_ne _ _ _ _ _ _ _ _ (hkey p)).trans hpick

theorem State.foldl_sendCtl_rd_fabState (ks : List TxPkt) (s : State) (u : Nat) :
    (ks.foldl State.sendCtl s).rd F.FAB_STATE u = s.rd F.FAB_STATE u := by
  induction ks generalizing s with
  | nil => rfl
  | cons k ks ih => rw [List.foldl_cons, ih, State.sendCtl_rd_fabState]

/-- A port that is lost to the state DOWN is DOWN. -/
theorem State.portLose_rd_fabState (s : State) (u : Nat) : (s.portLose u 0).rd F.FAB_STATE u = 0 := by
  have hkey (g : Fld) (hg : g ∈ [F.FAB_COLD_HELD, F.FAB_LANES_GOOD, F.FAB_SPARE_GOOD]) :
      keyAt F.FAB_STATE.page u F.FAB_STATE 0 ≠ keyAt g.page u g 0 := by
    rw [keyAt_zero, keyAt_zero]
    revert g
    simp [F.FAB_STATE, F.FAB_COLD_HELD, F.FAB_LANES_GOOD, F.FAB_SPARE_GOOD]
  simp only [State.portLose, State.foldl_sendCtl_rd_fabState]
  rw [State.rd_wr_ne _ _ _ _ _ _ _ _ (hkey _ (by simp)), State.rd_wr_ne _ _ _ _ _ _ _ _ (hkey _ (by simp)),
    State.rd_wr_ne _ _ _ _ _ _ _ _ (hkey _ (by simp)), State.rd_wr_same _ _ _ _ _ (by decide)]
  simp

/-- A fabric port that stops is DOWN. -/
theorem stopped_port_down (s : State) (u : Nat) : ((s.unitOff .fab u).setEvt .fab u 1).rd F.FAB_STATE u = 0 := by
  have hkey (h : Fld) (ho : h.off < 0x40) (hl : h.lo < 64) : keyAt .fab u F.FAB_STATE 0 ≠ keyAt .fab u h 0 := by
    rw [keyAt_zero, keyAt_zero, F.FAB_STATE]; dsimp only; omega
  calc ((s.unitOff .fab u).setEvt .fab u 1).rd F.FAB_STATE u
      = (s.unitOff .fab u).rd F.FAB_STATE u := State.setEvt_rdAt_ne _ _ (hkey F.HDR_EVT_STATUS (by decide) (by decide))
    _ = (s.portLose u 0).rd F.FAB_STATE u :=
      State.rdAt_wrAt_ne _ _ _ _ _ _ _ _ _ _ (hkey F.HDR_CTRL_ENABLE (by decide) (by decide))
    _ = 0 := State.portLose_rd_fabState s u

/-- A unit that may stop: ENABLE clears, STOPPED is raised, a fabric port is DOWN, and a unit that holds no work changes in nothing else. -/
theorem stopUnit_free_spec (s : State) (src : Source) {pg : Page} (u : Nat) (ht : pg ≠ .tick) (hb : dataPlane pg = false ∨ s.anyBusy = false) :
    (s.stopUnit src pg u true).rdAt pg u F.HDR_CTRL_ENABLE 0 = 0 ∧ bitOf ((s.stopUnit src pg u true).evts pg u) 1 = true
      ∧ (pg = .fab → (s.stopUnit src pg u true).rd F.FAB_STATE u = 0)
      ∧ (pg ∉ [Page.slc, .memc, .fab] → onlyRegs s (s.stopUnit src pg u true)
        ∧ regsBut [keyAt pg u F.HDR_CTRL_ENABLE 0, evtKey pg u] s (s.stopUnit src pg u true)) := by
  rw [State.stopUnit_of_free s src u ht hb]
  refine ⟨?_, State.bitOf_evts_setEvt _ _ _ (by decide), ?_, fun hpg => ?_⟩
  · rw [State.setEvt_rdAt_ne _ _ (keyAt_enable_ne_evts pg u), State.unitOff_rdAt_enable]
  · rintro rfl
    exact stopped_port_down s u
  · rw [State.unitOff_eq_wrAt s u hpg]
    refine ⟨rfl, fun qg w h j hk => ?_⟩
    simp only [List.mem_cons, List.not_mem_nil, or_false, not_or] at hk
    obtain ⟨henable, hevts⟩ := hk
    rw [State.setEvt_rdAt_ne _ _ hevts, State.rdAt_wrAt_ne _ _ _ _ _ _ _ _ _ _ henable]

/-! ### SOFT_RESET of a Block (R453, R486) -/

/-- A register field that a unit reset clears has its reset value. -/
theorem State.clearKeys_rdAt (s : State) {pg : Page} {u k : Nat} {f : Fld} {c : Fld → Bool} (hf : f ∈ fieldsOf pg u) (hh : f.page ≠ .hdr)
    (ho : 0x40 ≤ f.off) (hc : c f = true) (hk : k < f.count * f.bcount) : (s.clearKeys pg u c).rdAt pg u f k = resetOf pg u f k := by
  have hmem : keyAt pg u f k ∈ (((fieldsOf pg u).filter (fun x => x.page != .hdr && decide (0x40 ≤ x.off) && c x)).map (fun x =>
      (List.range (x.count * x.bcount)).map (keyAt pg u x))).flatten := by
    simp only [List.mem_flatten, List.mem_map, List.mem_filter]
    exact ⟨_, ⟨f, ⟨hf, by simp [hh, ho, hc]⟩, rfl⟩, List.mem_map.mpr ⟨k, List.mem_range.mpr hk, rfl⟩⟩
  unfold State.rdAt State.clearKeys
  dsimp only
  rw [SMap.find_filter_of_false (fun v => by simpa using hmem)]

/-- The registers of a Block's page begin past its header's CTRL and events, so that a unit reset of the Block reaches each. -/
theorem regs_blk_past_header : ∀ f ∈ regs_blk, f.page ≠ .hdr ∧ 0x40 ≤ f.off := by
  decide

theorem keyAt_ne_evtKey {pg : Page} {u k : Nat} {f : Fld} (ho : 0x40 ≤ f.off) : keyAt pg u f k ≠ evtKey pg u := by
  rw [evtKey, keyAt_evts, keyAt]; omega

theorem State.softReset_of_on (s : State) (u : Nat) : s.softReset .blk u true = s.setEvt .blk u 0 := by
  rfl

theorem State.softReset_of_off (s : State) (u : Nat) :
    s.softReset .blk u false = ((s.resetUnit .blk u).clearKeys .blk u (resets .blk)).setEvt .blk u 2 := by
  rfl

theorem State.softReset_fixed (s : State) {pg : Page} (u : Nat) (on : Bool) (h : fixedCtrl pg = true) : s.softReset pg u on = s := by
  simp [State.softReset, h]

theorem State.softReset_blk_of_off (s : State) (u q : Nat) :
    (s.softReset .blk u false).blk q = (s.onBlk u (fun b => { blkReset u with site := b.site, half := b.half })).blk q := by
  rfl

/-- A stopped Block that is reset: its registers and its contents, but for its site and half width, are those after reset. -/
theorem softReset_blk_spec (s : State) (u : Nat) :
    onlyBlks s (s.softReset .blk u false) ∧ blksBut u s (s.softReset .blk u false)
      ∧ (s.softReset .blk u false).blk u = { blkReset u with site := (s.blk u).site, half := (s.blk u).half }
      ∧ bitOf ((s.softReset .blk u false).evts .blk u) 2 = true
      ∧ ∀ f ∈ regs_blk, f.acc = .rw → ∀ k, k < f.count * f.bcount → (s.softReset .blk u false).rdAt .blk u f k = resetOf .blk u f k := by
  refine ⟨rfl, fun q hq => ?_, ?_, State.bitOf_evts_setEvt _ _ _ (by decide), fun f hf hrw k hk => ?_⟩
  · rw [State.softReset_blk_of_off, State.onBlk_blk_ne s q u _ hq]
  · rw [State.softReset_blk_of_off, State.onBlk_blk_same]
  obtain ⟨hh, ho⟩ := regs_blk_past_header f hf
  rw [State.softReset_of_off, State.setEvt_rdAt_ne _ _ (keyAt_ne_evtKey ho)]
  exact State.clearKeys_rdAt _ (List.mem_append_right regs_hdr hf) hh ho (by simp [resets, hrw]) hk

/-! ### EVT_CLEAR (R484) -/

theorem bitOf_clearMask (x y : Nat) {b : Nat} (hb : b < 32) :
    bitOf ((x &&& (0xFFFF_FFFF ^^^ (y % 2 ^ 32))) % 2 ^ 32) b = (bitOf x b && !bitOf y b) := by
  have hones : (0xFFFF_FFFF : Nat) = 2 ^ 32 - 1 := rfl
  simp only [bitOf]
  rw [hones, Nat.testBit_mod_two_pow, Nat.testBit_and, Nat.testBit_xor, Nat.testBit_two_pow_sub_one, Nat.testBit_mod_two_pow]
  simp [hb]

theorem State.evtClear_rdAt (s : State) (pg qg : Page) (u v w : Nat) (h : Fld) (j : Nat) :
    (s.evtClear pg u v).rdAt qg w h j = (s.wrAt pg u F.HDR_EVT_STATUS 0 (s.evts pg u &&& (0xFFFF_FFFF ^^^ (v % 2 ^ 32)))).rdAt qg w h j := by
  cases pg <;> rfl

/-- Clearing event bits changes the bits of the page, and beside the registers the Plaza's record of the bits that it has seen at most. -/
theorem evtClear_spec (s : State) (pg : Page) (u v : Nat) :
    s.evtClear pg u v = { s with regs := (s.evtClear pg u v).regs, plaza := (s.evtClear pg u v).plaza }
      ∧ regsBut [evtKey pg u] s (s.evtClear pg u v)
      ∧ ∀ b, b < 32 → bitOf ((s.evtClear pg u v).evts pg u) b = (bitOf (s.evts pg u) b && !bitOf v b) := by
  refine ⟨by cases pg <;> rfl, fun qg w h j hk => ?_, fun b hb => ?_⟩
  · rw [State.evtClear_rdAt]
    exact regsBut_wrAt s pg u _ 0 _ qg w h j hk
  · rw [State.evts, State.evtClear_rdAt, ← State.evts, State.evts_wrAt, bitOf_clearMask _ _ hb]

end Sys2Proof.Machine
end

section
/-! PROOFS. Register accesses and unit control: one theorem for each kind of access. -/

namespace Sys2Proof.Machine
open Sys2Proof Sys2Proof.Claims

section
variable {s : State} {src : Source} {off : Nat} {pg : Page} {u o : Nat} {f g : Fld}

/-- A read of a word in which one field begins (R8, R483). -/
theorem read_field_clause (hf : atField s src off pg u o f) (hImem : ¬ (pg = .blk ∧ o = 0x488))
    (hCe : ¬ (pg = .errq ∧ 0x400 ≤ o ∧ o < 0xA00)) (hMb : ¬ (pg = .mb ∧ 0x800 ≤ o)) (hl : s.latched = []) :
    ∀ c ∈ [Instr.rcRead src off, .registerRead src off 4],
      ∃ t, exec c s = .next t ∧ t = { s.wakeLink src with regs := t.regs, free := t.free, out := t.out }
        ∧ t.out.head? = some ⟨"READ", [off, 4, (s.wakeLink src).peek pg u o 4 % 2 ^ 32], []⟩
        ∧ (f.acc = .rc → (s.wakeLink src).counting u f = false → t.rdAt pg u f 0 = resetOf pg u f 0 % 2 ^ f.width ∧ t.free = s.free)
        ∧ (f.acc = .rc → (s.wakeLink src).counting u f = true → t.free = s.free + 1) ∧ (f.acc ≠ .rc → t.regs = (s.wakeLink src).regs) := by
  intro c hc
  have hwidth : f.width ≤ 64 := by
    obtain ⟨-, -, -, ht, -, -⟩ := hf
    exact touched_width_le (ht ▸ List.mem_singleton_self (f, 0))
  refine ⟨_, exec_read_field hf hImem hCe hMb hl c hc, ?_⟩
  by_cases hrc : f.acc = .rc
  · by_cases hcount : (s.wakeLink src).counting u f = true
    · simp only [hrc, hcount, if_true]
      exact ⟨rfl, rfl, by simp, fun _ _ => by simp [State.used], by simp⟩
    · simp only [hrc, hcount, if_true]
      exact ⟨rfl, rfl, fun _ _ => ⟨State.rdAt_wrAt_same _ _ _ _ _ _ hwidth, State.wakeLink_free s src⟩, by simp, by simp⟩
  · simp only [hrc, if_false]
    exact ⟨rfl, rfl, by simp, by simp, fun _ => rfl⟩

/-- Accesses that name nothing: beyond a VF's channels, and at a hole (R360, R483). -/
theorem unnamed_access_clause (hsrc : sourceOk src = true) (hoff : off % 4 = 0) (v : DWord) :
    ((s.wakeLink src).namedAt src off = .beyond →
      exec (.registerRead src off 4) s = .next ((s.wakeLink src).emit "READ" [off, 4, 0]) ∧ exec (.registerWrite src off 4 v) s = .next (s.wakeLink src))
    ∧ ((s.wakeLink src).namedAt src off = .hole → ∃ t, exec (.registerRead src off 4) s = .next t ∧ t.out.head? = some ⟨"READ", [off, 4, 0], []⟩
      ∧ t.rd F.TOP_BAR0_HOLE = satAdd (2 ^ F.TOP_BAR0_HOLE.width - 1) (s.rd F.TOP_BAR0_HOLE) 1) := by
  have hread : exec (.registerRead src off 4) s = .next (s.readOp src off 4) := exec_read_word hsrc off s _ (by simp)
  rw [hread, State.readOp_word s src hoff]
  constructor
  · intro hpl
    rw [exec_registerWrite_of_ok hsrc, State.writeAt_word s src hoff, hpl]
    exact ⟨rfl, rfl⟩
  · intro hpl
    rw [hpl]
    refine ⟨_, rfl, rfl, ?_⟩
    rw [State.emit_rd, State.readPlace, State.rd_inc_same _ _ _ _ _ (by decide), State.wakeLink_rd_hole]

/-- The host's writes before READY (R455). -/
theorem write_before_ready_clause {n : Nat} (v : DWord) (hn : n < 2) (hoff : off % 4 = 0)
    (hpl : (s.wakeLink (.pf n)).namedAt (.pf n) off = .page pg u o) (hw : (s.wakeLink (.pf n)).mayWrite (.pf n) = false)
    (he : earlyOpen pg o = false) : exec (.registerWrite (.pf n) off 4 v) s = .next (s.wakeLink (.pf n)) := by
  have hsrc : sourceOk (.pf n) = true := by simpa [sourceOk] using hn
  have hreach : (s.wakeLink (.pf n)).mayReach (.pf n) pg o = false := by simp [State.mayReach, hw, he]
  rw [exec_registerWrite_of_ok hsrc, State.writeAt_word s _ hoff, hpl, State.writePlace, State.writeReg, if_pos hreach]

/-- A write of a word where one field begins, by access code, range and class (R8, R9, R509). -/
theorem write_field_clause {v : DWord} (hf : atField s src off pg u o f) (hp : plainWrite (s.wakeLink src) src pg u o f (v.toNat % 2 ^ 32)) :
    let w := s.wakeLink src
    let old := w.rdAt pg u f 0
    let new := written f 0 o 4 old (v.toNat % 2 ^ 32)
    (f.acc = .ro → exec (.registerWrite src off 4 v) s = .next w)
    ∧ (f.acc = .rw →
      (f.chk.ok new = false → exec (.registerWrite src off 4 v) s = .next (w.cfgReject pg u))
      ∧ (f.chk.ok new = true →
        (f.cls = .l → ∃ t, exec (.registerWrite src off 4 v) s = .next t ∧ onlyRegs w t ∧ regsBut [keyAt pg u f 0] w t ∧ t.rdAt pg u f 0 = new % 2 ^ f.width)
        ∧ (f.cls = .s →
          (w.closed pg u f = true → new ≠ old → exec (.registerWrite src off 4 v) s = .next (w.cfgReject pg u))
          ∧ (w.closed pg u f = true → new = old → exec (.registerWrite src off 4 v) s = .next w)
          ∧ (w.closed pg u f = false → ∃ t, exec (.registerWrite src off 4 v) s = .next t ∧ onlyRegs w t ∧ regsBut [keyAt pg u f 0] w t
              ∧ t.rdAt pg u f 0 = new % 2 ^ f.width)))) := by
  intro w old new
  rw [exec_write_field hf hp]
  obtain ⟨-, -, -, ht, hh, -⟩ := hf
  obtain ⟨-, -, -, -, -, -, hd⟩ := hp
  have hwidth : f.width ≤ 64 := touched_width_le (ht ▸ List.mem_singleton_self (f, 0))
  have htaken : ∃ t, Host.Outcome.next (w.wrAt pg u f 0 new) = (.next t : Host.Outcome State Fault Refusal) ∧ onlyRegs w t
      ∧ regsBut [keyAt pg u f 0] w t ∧ t.rdAt pg u f 0 = new % 2 ^ f.width :=
    ⟨_, rfl, rfl, regsBut_wrAt w pg u f 0 new, State.rdAt_wrAt_same w pg u f 0 new hwidth⟩
  refine ⟨fun hro => by rw [State.writeFields_ro w _ ht hh hd hro], fun hrw => ?_⟩
  rw [State.writeFields_rw w _ ht hh hd hrw]
  refine ⟨fun hbad => by rw [if_pos hbad], fun hok => ?_⟩
  rw [if_neg (fun hbad => Bool.noConfusion (hok.symm.trans hbad))]
  refine ⟨fun hl => ?_, fun hs => ?_⟩
  · rw [State.putField_l w pg u _ 0 old new hrw hl]
    exact htaken
  · rw [State.putField_s w pg u _ 0 old new hrw hs]
    refine ⟨fun hc hne => ?_, fun hc heq => ?_, fun hc => ?_⟩
    · rw [if_pos hc, if_neg hne]
    · rw [if_pos hc, if_pos heq]
    · rw [hc]
      exact htaken

/-- A write of a class-T field that shares its register with its effective copy (R9). -/
theorem write_pair_clause {v : DWord} (hf : atPair s src off pg u o f g) (hp : plainWrite (s.wakeLink src) src pg u o f (v.toNat % 2 ^ 32)) :
    let w := s.wakeLink src
    let new := written f 0 o 4 (w.rdAt pg u f 0) (v.toNat % 2 ^ 32)
    (f.chk.ok new = false → exec (.registerWrite src off 4 v) s = .next (w.cfgReject pg u))
    ∧ (f.chk.ok new = true → ∃ t, exec (.registerWrite src off 4 v) s = .next t ∧ onlyRegs w t ∧ t.rd f u = new % 2 ^ f.width
        ∧ t.rd g u = if s.plaza.ticked then w.rd g u else new % 2 ^ g.width) := by
  intro w new
  obtain ⟨hsrc, hoff, hpl, ht, hpair, hfp, hrw, hcls, hgp, hro⟩ := hf
  have hpage : pg ≠ .hdr := by
    rintro rfl
    exact absurd hfp ((by decide : ∀ p ∈ tPairs, p.1.page ≠ .hdr) _ hpair)
  have hwrite : s.writeAt src off 4 v.toNat = w.writeFields src pg u o 4 (v.toNat % 2 ^ 32) := by
    rw [State.writeAt_word s src hoff, hpl, State.writePlace, State.writeReg_eq_writeFields hp]
  obtain ⟨-, -, -, -, -, -, hd⟩ := hp
  rw [exec_registerWrite_of_ok hsrc, hwrite, State.writeFields_pair w _ ht (hfp ▸ hpage) (hgp ▸ hpage) hd hrw hcls hro]
  refine ⟨fun hbad => by rw [if_pos hbad], fun hok => ?_⟩
  rw [if_neg (fun hbad => Bool.noConfusion (hok.symm.trans hbad))]
  obtain ⟨hshadow, hcopy⟩ := State.rd_putT (s := w) hpair (hgp.trans hfp.symm) u new
  rw [State.wakeLink_plaza] at hcopy
  exact ⟨_, rfl, onlyRegs_putT w f u 0 new, hshadow, hcopy⟩

/-- STOP_REQ and SOFT_RESET of a page (R453, R485, R486). -/
theorem unit_control_clause {i : Nat} (h : headerOpen s src i pg u 0x010) :
    (fixedCtrl pg = true → exec (.stopReq src i) s = .next s ∧ exec (.softReset src i) s = .next s)
    ∧ (dataPlane pg = true → s.anyBusy = true → exec (.stopReq src i) s = .next (s.cfgReject pg u))
    ∧ (fixedCtrl pg = false → pg ≠ .tick → dataPlane pg = false ∨ s.anyBusy = false →
      (∃ t, exec (.stopReq src i) s = .next t ∧ t.rdAt pg u F.HDR_CTRL_ENABLE 0 = 0 ∧ bitOf (t.evts pg u) 1 = true ∧ (pg = .fab → t.rd F.FAB_STATE u = 0)
        ∧ (pg ∉ [Page.slc, .memc, .fab] → onlyRegs s t ∧ regsBut [keyAt pg u F.HDR_CTRL_ENABLE 0, evtKey pg u] s t)))
    ∧ (pg = .blk →
      (s.rdAt .blk u F.HDR_CTRL_ENABLE 0 ≠ 0 → exec (.softReset src i) s = .next (s.setEvt .blk u 0))
      ∧ (s.rdAt .blk u F.HDR_CTRL_ENABLE 0 = 0 →
        ∃ t, exec (.softReset src i) s = .next t ∧ onlyBlks s t ∧ blksBut u s t ∧ t.blk u = { blkReset u with site := (s.blk u).site, half := (s.blk u).half }
          ∧ bitOf (t.evts .blk u) 2 = true ∧ ∀ f ∈ regs_blk, f.acc = .rw → ∀ k, k < f.count * f.bcount → t.rdAt .blk u f k = resetOf .blk u f k)) := by
  have hstop : exec (.stopReq src i) s = .next (if fixedCtrl pg then s else s.stopUnit src pg u true) := onPage_of_open h _
  have hreset : exec (.softReset src i) s = .next (s.softReset pg u (s.enabled pg u)) := onPage_of_open h _
  rw [hstop, hreset]
  refine ⟨fun hfix => ?_, fun hd hb => ?_, fun hfix ht hfree => ?_, ?_⟩
  · rw [if_pos hfix, State.softReset_fixed s u _ hfix]
    exact ⟨rfl, rfl⟩
  · rw [fixedCtrl_eq_false_of_dataPlane hd, State.stopUnit_of_busy s src u hd hb]
    rfl
  · rw [hfix, if_neg Bool.false_ne_true]
    exact ⟨_, rfl, stopUnit_free_spec s src u ht hfree⟩
  · rintro rfl
    refine ⟨fun hon => ?_, fun hoff => ?_⟩
    · have hen : s.enabled .blk u = true := by simpa [State.enabled] using hon
      rw [hen, State.softReset_of_on]
    · have hen : s.enabled .blk u = false := by simpa [State.enabled] using hoff
      rw [hen]
      exact ⟨_, rfl, softReset_blk_spec s u⟩

/-- A write of a district's RETIRE (R492). -/
theorem retire_clause {d : Nat} (y : Word) (hd : d < nDist) (hsrc : sourceOk src = true) :
    (src ≠ .mgmt → exec (.retire src d y) s = .next s)
    ∧ (src = .mgmt → 34 ≤ bitsOf y.toNat 0 6 → exec (.retire src d y) s = .next (s.setEvt .dist d 0))
    ∧ (src = .mgmt → bitsOf y.toNat 0 6 < 34 → s.plaza.ticked = true →
      exec (.retire src d y) s = .next (s.onLater (fun l => { l with sites := l.sites ++ [34 * d + bitsOf y.toNat 0 6] }))) := by
  rw [exec_retire, execRetire, onSrc_of_ok hsrc, onUnit_of_lt hd, State.retireWrite]
  refine ⟨fun hne => by rw [if_pos hne], fun heq hsite => ?_, fun heq hsite ht => ?_⟩
  · rw [if_neg (not_not.mpr heq), if_pos hsite]
    rfl
  · rw [if_neg (not_not.mpr heq), if_neg (Nat.not_le.mpr hsite), State.retireSiteSoon, if_pos ht]

end

/-- Settles O54, by the theorem of each kind of access. -/
theorem registerAccesses : Obligations.RegisterAccesses := by
  unfold Obligations.RegisterAccesses
  intro s src off v
  refine ⟨?_, ?_, ?_, ?_, ?_, ?_, ?_, ?_, ?_⟩
  · intro pg u o f hf hImem hCe hMb hl
    exact read_field_clause hf hImem hCe hMb hl
  · intro hsrc hoff
    exact unnamed_access_clause hsrc hoff v
  · intro size hsrc h4 h8
    rw [exec_registerWrite_of_ok hsrc, State.writeAt_narrow s src h4 h8]
  · rintro n pg u o rfl hn hoff hpl hw he
    exact write_before_ready_clause v hn hoff hpl hw he
  · intro pg u o f hf hp
    exact write_field_clause hf hp
  · intro pg u o f g hf hp
    exact write_pair_clause hf hp
  · intro i pg u h
    exact unit_control_clause h
  · intro i pg u y h
    exact ⟨_, onPage_of_open h _, evtClear_spec s pg (hdrUnit pg u) y.toNat⟩
  · intro d y hd hsrc
    exact retire_clause y hd hsrc

end Sys2Proof.Machine
end

section
/-! PROOFS. Facts about the switched domains: what an update elsewhere leaves of them, and what each operation on a domain does
(R403, R417 to R422, R429). -/

namespace Sys2Proof

theorem SMap.get_singleton {α : Type} (n m : Nat) (r d : α) : SMap.get [(n, r)] m d = if m = n then r else d := by
  rcases eq_or_ne m n with rfl | h
  · simp [SMap.get, SMap.find]
  · simp [SMap.get, SMap.find, h, h.symm]

end Sys2Proof

namespace Sys2Proof.Machine
open Sys2Proof Sys2Proof.Claims

/-! ### Fields of one page, and keys of pages -/

/-- Two fields at different places of a page have different keys. -/
theorem keyAt_ne_of_place {f g : Fld} (h : f.off * 64 + f.lo ≠ g.off * 64 + g.lo) (pg : Page) (u : Nat) : keyAt pg u f 0 ≠ keyAt pg u g 0 := by
  rw [keyAt_zero, keyAt_zero]; omega

/-- A write of a field leaves the other fields of its page. -/
theorem State.rd_wr_of_place {f g : Fld} (hp : g.page = f.page) (h : g.off * 64 + g.lo ≠ f.off * 64 + f.lo) (s : State) (u v : Nat) :
    (s.wr f u 0 v).rd g u = s.rd g u :=
  State.rd_wr_ne _ _ _ _ _ _ _ _ (hp ▸ keyAt_ne_of_place h _ u)

/-- An event leaves the fields of its page that lie past the header. -/
theorem State.rd_setEvt_of_off {f : Fld} {pg : Page} (hp : f.page = pg) (ho : 0x40 ≤ f.off) (s : State) (u i b : Nat) :
    (s.setEvt pg u b).rd f u i = s.rd f u i :=
  hp ▸ State.setEvt_rdAt_ne _ _ (keyAt_ne_evtKey ho)

/-- The end of the pages of the switched domains in the key space: the pages of districts, ports and Blocks come after it (R487). -/
def domPagesEnd : Nat := 0x3_0000 * 64

theorem keyAt_dom_lt {n : Nat} {f : Fld} (hn : n < 30) (ho : f.off < 0x1000) (hl : f.lo < 64) : keyAt .dom n f 0 < domPagesEnd := by
  rw [keyAt_zero, pageBase, domPagesEnd]; omega

theorem domPagesEnd_le_keyAt_fab (p : Nat) (f : Fld) (i : Nat) : domPagesEnd ≤ keyAt .fab p f i := by
  simp only [keyAt, pageBase, domPagesEnd]; omega

theorem domPagesEnd_le_keyAt_blk (p : Nat) (f : Fld) (i : Nat) : domPagesEnd ≤ keyAt .blk p f i := by
  simp only [keyAt, pageBase, domPagesEnd]; omega

/-! ### What leaves the switched domains alone -/

/-- Of the switched domains, t holds what s holds: their record, and every register up to the end of their pages. -/
def keepsDoms (s t : State) : Prop :=
  t.pwr.doms = s.pwr.doms ∧ ∀ pg u f i, keyAt pg u f i < domPagesEnd → t.rdAt pg u f i = s.rdAt pg u f i

theorem keepsDoms.refl (s : State) : keepsDoms s s := ⟨rfl, fun _ _ _ _ _ => rfl⟩

theorem keepsDoms.trans {s t w : State} (h : keepsDoms s t) (h' : keepsDoms t w) : keepsDoms s w := by
  obtain ⟨hd, hr⟩ := h
  obtain ⟨hd', hr'⟩ := h'
  exact ⟨hd'.trans hd, fun pg u f i hk => (hr' pg u f i hk).trans (hr pg u f i hk)⟩

theorem keepsDoms_of_regs {s t : State} (hr : t.regs = s.regs) (hd : t.pwr.doms = s.pwr.doms) : keepsDoms s t :=
  ⟨hd, fun pg u f i _ => by rw [State.rdAt, State.rdAt, hr]⟩

theorem keepsDoms_ite {s t w : State} {c : Prop} [Decidable c] (ht : keepsDoms s t) (hw : keepsDoms s w) : keepsDoms s (if c then t else w) := by
  split
  · exact ht
  · exact hw

theorem keepsDoms_wrAt (s : State) {pg : Page} {u : Nat} {f : Fld} {i : Nat} (v : Nat) (h : domPagesEnd ≤ keyAt pg u f i) :
    keepsDoms s (s.wrAt pg u f i v) :=
  ⟨rfl, fun _ _ _ _ hk => State.rdAt_wrAt_ne _ _ _ _ _ _ _ _ _ _ (by omega)⟩

theorem keepsDoms_foldl {α : Type} {f : State → α → State} (h : ∀ s a, keepsDoms s (f s a)) (xs : List α) (s : State) :
    keepsDoms s (xs.foldl f s) := by
  induction xs generalizing s with
  | nil => exact keepsDoms.refl s
  | cons x xs ih => exact (h s x).trans (ih (f s x))

theorem keepsDoms.dom_eq {s t : State} (h : keepsDoms s t) (n : Nat) : t.dom n = s.dom n := by
  rw [State.dom, State.dom, h.1]

theorem keepsDoms.rdAt_dom_eq {s t : State} (h : keepsDoms s t) {n : Nat} (hn : n < 30) {f : Fld} (ho : f.off < 0x1000) (hl : f.lo < 64) :
    t.rdAt .dom n f 0 = s.rdAt .dom n f 0 :=
  h.2 _ _ _ _ (keyAt_dom_lt hn ho hl)

theorem keepsDoms.domState_eq {s t : State} (h : keepsDoms s t) {n : Nat} (hn : n < 30) : t.domState n = s.domState n :=
  h.rdAt_dom_eq hn (f := F.DOM_STATE) (by decide) (by decide)

theorem keepsDoms.domStep_eq {s t : State} (h : keepsDoms s t) {n : Nat} (hn : n < 30) : t.rd F.DOM_STEP n = s.rd F.DOM_STEP n :=
  h.rdAt_dom_eq hn (f := F.DOM_STEP) (by decide) (by decide)

theorem keepsDoms.evts_eq {s t : State} (h : keepsDoms s t) {n : Nat} (hn : n < 30) : t.evts .dom n = s.evts .dom n :=
  h.rdAt_dom_eq hn (f := F.HDR_EVT_STATUS) (by decide) (by decide)

/-! ### Fabric ports and arrays leave the domains alone -/

theorem State.pickFree_fst {α : Type} (s : State) (xs : List α) : (s.pickFree xs).1 = s ∨ (s.pickFree xs).1 = s.used := by
  unfold State.pickFree
  split
  · exact .inl rfl
  · exact .inl rfl
  · exact .inr rfl

theorem keepsDoms_pickFree {α : Type} (s : State) (xs : List α) : keepsDoms s (s.pickFree xs).1 := by
  rcases s.pickFree_fst xs with h | h <;> rw [h]
  · exact keepsDoms.refl s
  · exact keepsDoms_of_regs rfl rfl

theorem keepsDoms_txOn (s : State) (p : Nat) (k : TxPkt) (nak : Bool) : keepsDoms s (s.txOn p k nak) :=
  (keepsDoms_wrAt s _ (domPagesEnd_le_keyAt_fab p F.FAB_TX_PKTS 0)).trans (keepsDoms_of_regs rfl rfl)

theorem keepsDoms_sendCtl (s : State) (k : TxPkt) : keepsDoms s (s.sendCtl k) := by
  have hpick := keepsDoms_pickFree s ((List.range 8).filter (fun p => s.canSend p k))
  unfold State.sendCtl
  split
  case h_1 t p ht =>
    rw [ht] at hpick
    exact hpick.trans (keepsDoms_txOn t p k false)
  case h_2 t ht =>
    rw [ht] at hpick
    exact hpick.trans (keepsDoms_of_regs rfl rfl)

theorem keepsDoms_portLose (s : State) (p st : Nat) : keepsDoms s (s.portLose p st) := by
  have hfab (t : State) (f : Fld) (v : Nat) : keepsDoms t (t.wrAt .fab p f 0 v) := keepsDoms_wrAt t v (domPagesEnd_le_keyAt_fab p f 0)
  have hlost : keepsDoms s (if s.fabActive p then s.setEvt .fab p 5 else s) := keepsDoms_ite (hfab _ _ _) (keepsDoms.refl s)
  have hport (t : State) (f : FabPort → FabPort) : keepsDoms t (t.onFport p f) := keepsDoms_of_regs rfl rfl
  exact (hlost.trans (hport _ _)).trans
    (((((hfab _ F.FAB_STATE _).trans (hfab _ F.FAB_COLD_HELD _)).trans (hfab _ F.FAB_LANES_GOOD _)).trans (hfab _ F.FAB_SPARE_GOOD _)).trans
      (keepsDoms_foldl keepsDoms_sendCtl _ _))

theorem keepsDoms_portTrain (s : State) (p : Nat) : keepsDoms s (s.portTrain p) :=
  keepsDoms_ite (keepsDoms_portLose s p 1) (keepsDoms.refl s)

theorem keepsDoms_trainPorts (s : State) : keepsDoms s s.trainPorts :=
  keepsDoms_foldl (fun s p => keepsDoms_ite (keepsDoms_portTrain s p) (keepsDoms.refl s)) _ s

theorem keepsDoms_onMx (s : State) (p : Nat) (f : Matrix → Matrix) : keepsDoms s (s.onMx p f) := keepsDoms_of_regs rfl rfl

theorem keepsDoms_cycles_ballast (s : State) (p : Nat) : keepsDoms s (s.cycles F.BLK_MX_BALLAST_CYCLES p) :=
  (keepsDoms_wrAt s _ (domPagesEnd_le_keyAt_blk p F.BLK_MX_BALLAST_CYCLES 0)).trans (keepsDoms_of_regs rfl rfl)

theorem keepsDoms_warmUp (s : State) : keepsDoms s s.warmUp := by
  have hflag : keepsDoms s (s.onPwr (fun p => { p with warming := s.warmWanted })) := keepsDoms_of_regs rfl rfl
  refine keepsDoms_ite (keepsDoms.refl s) (hflag.trans ?_)
  refine keepsDoms_foldl (fun t p => keepsDoms_ite ?_ (keepsDoms.refl t)) _ _
  split
  · exact (keepsDoms_cycles_ballast t p).trans (keepsDoms_onMx _ _ _)
  · exact keepsDoms_onMx _ _ _
  · exact keepsDoms.refl t

/-! ### A domain enters a state, or starts to switch (R403, R420) -/

theorem State.domState_wr_same (s : State) (n st : Nat) : (s.wr F.DOM_STATE n 0 st).domState n = st % 4 :=
  State.rd_wr_same s F.DOM_STATE n 0 st (by decide)

/-- A domain that enters a state is in it, with no switch in progress. -/
theorem State.settled_domEnter (s : State) {n st : Nat} (hn : n < 30) (hst : st ≤ 2) : settled (s.domEnter n st) n st := by
  have hwarm := keepsDoms_warmUp ((s.wr F.DOM_STATE n 0 st).onDom n (fun _ => ⟨st, false, false, 0⟩))
  have hstate : ((s.wr F.DOM_STATE n 0 st).onDom n (fun _ => ⟨st, false, false, 0⟩)).warmUp.domState n = st := by
    rw [hwarm.domState_eq hn]
    exact (State.domState_wr_same s n st).trans (Nat.mod_eq_of_lt (by omega))
  have hdom : ((s.wr F.DOM_STATE n 0 st).onDom n (fun _ => ⟨st, false, false, 0⟩)).warmUp.dom n = ⟨st, false, false, 0⟩ := by
    rw [hwarm.dom_eq, State.onDom_dom_same]
  unfold State.domEnter
  split
  · exact ⟨(State.rd_setEvt_of_off (f := F.DOM_STATE) rfl (by decide) _ _ _ _).trans hstate, hdom⟩
  · exact ⟨hstate, hdom⟩

/-- A domain that enters ON reports it. -/
theorem State.bitOf_evts_domEnter_on (s : State) (n : Nat) : bitOf ((s.domEnter n 2).evts .dom n) 4 = true :=
  State.bitOf_evts_setEvt _ .dom n (by decide)

theorem settled_of_keepsDoms {s t : State} {n st : Nat} (hn : n < 30) (h : keepsDoms s t) (hs : settled s n st) : settled t n st := by
  obtain ⟨hstate, hdom⟩ := hs
  exact ⟨(h.domState_eq hn).trans hstate, (h.dom_eq n).trans hdom⟩

/-- The end of a switch, after what the domain does as it leaves ON or joins: it reports its state, and the enabled ports train once
FABRIC is ON (R403). -/
def State.domArrive (s : State) (n st : Nat) : State := if n = 28 ∧ st = 2 then (s.domEnter n st).trainPorts else s.domEnter n st

theorem State.keepsDoms_domArrive (s : State) (n st : Nat) : keepsDoms (s.domEnter n st) (s.domArrive n st) :=
  keepsDoms_ite (keepsDoms_trainPorts _) (keepsDoms.refl _)

theorem State.settled_domArrive (s : State) {n st : Nat} (hn : n < 30) (hst : st ≤ 2) : settled (s.domArrive n st) n st :=
  settled_of_keepsDoms hn (s.keepsDoms_domArrive n st) (s.settled_domEnter hn hst)

theorem State.bitOf_evts_domArrive_on (s : State) {n : Nat} (hn : n < 30) : bitOf ((s.domArrive n 2).evts .dom n) 4 = true := by
  rw [(s.keepsDoms_domArrive n 2).evts_eq hn]
  exact s.bitOf_evts_domEnter_on n

/-- A domain that starts to switch is SWITCHING, has made no step, and holds its record. -/
theorem State.domStart_spec (s : State) {n : Nat} (d : Dom) (hn : n < 30) :
    (s.domStart n d).domState n = 3 ∧ (s.domStart n d).rd F.DOM_STEP n = 0 ∧ (s.domStart n d).dom n = d := by
  have hkeep : keepsDoms ((((s.wr F.DOM_STATE n 0 3).wr F.DOM_STEP n 0 0).wr F.DOM_PENDING_HEADROOM n 0 0).onDom n (fun _ => d)) (s.domStart n d) :=
    keepsDoms_ite (keepsDoms_foldl (fun t p => keepsDoms_portLose t p 0) _ _) (keepsDoms.refl _)
  refine ⟨?_, ?_, by rw [hkeep.dom_eq, State.onDom_dom_same]⟩
  · rw [hkeep.domState_eq hn, State.domState]
    simp (disch := decide) only [State.onDom_rd, State.rd_wr_of_place]
    exact State.domState_wr_same s n 3
  · rw [hkeep.domStep_eq hn]
    simp (disch := decide) only [State.onDom_rd, State.rd_wr_of_place, State.rd_wr_same, Nat.zero_mod]

/-- A port that is lost leaves the state of the other ports. -/
theorem State.portLose_rd_fabState_ne (s : State) {p q : Nat} (h : q ≠ p) : (s.portLose p 0).rd F.FAB_STATE q = s.rd F.FAB_STATE q := by
  have hkey {g : Fld} (hg : g.off < 0x1000) (hl : g.lo < 64) : keyAt .fab q F.FAB_STATE 0 ≠ keyAt .fab p g 0 := by
    simp only [keyAt_zero, pageBase, F.FAB_STATE]
    omega
  have hwr (t : State) (g : Fld) (v : Nat) (hp : g.page = .fab) (hg : g.off < 0x1000) (hl : g.lo < 64) :
      (t.wr g p 0 v).rd F.FAB_STATE q = t.rd F.FAB_STATE q :=
    State.rd_wr_ne _ _ _ _ _ _ _ _ (hp ▸ hkey hg hl)
  have hevt : (if s.fabActive p then s.setEvt .fab p 5 else s).rd F.FAB_STATE q = s.rd F.FAB_STATE q := by
    split
    · exact State.setEvt_rdAt_ne _ _ (hkey (g := F.HDR_EVT_STATUS) (by decide) (by decide))
    · rfl
  simp (disch := decide) only [State.portLose, State.foldl_sendCtl_rd_fabState, hwr, State.onFport_rd, hevt]

/-- Ports that are lost one after the other are all DOWN. -/
theorem State.foldl_portLose_rd_fabState (ps : List Nat) (s : State) {q : Nat} (h : q ∈ ps ∨ s.rd F.FAB_STATE q = 0) :
    (ps.foldl (fun s p => s.portLose p 0) s).rd F.FAB_STATE q = 0 := by
  induction ps generalizing s with
  | nil => exact h.resolve_left List.not_mem_nil
  | cons p ps ih =>
    refine ih _ ?_
    rcases eq_or_ne q p with rfl | hqp
    · exact .inr (State.portLose_rd_fabState s q)
    · rw [State.portLose_rd_fabState_ne s hqp]
      exact h.imp_left fun hq => (List.mem_cons.mp hq).resolve_left hqp

/-- Every port is DOWN once FABRIC starts to leave ON (R403). -/
theorem State.domStart_fabric_down (s : State) {d : Dom} (hd : d.leaving = true) {p : Nat} (hp : p < 8) :
    (s.domStart 28 d).rd F.FAB_STATE p = 0 := by
  unfold State.domStart
  rw [if_pos ⟨rfl, hd⟩]
  exact State.foldl_portLose_rd_fabState _ _ (.inl (List.mem_range.mpr hp))

end Sys2Proof.Machine
end

section
/-! PROOFS. Requests to the switched domains, the steps and the end of a switch, the power level and failed cells: one theorem for each
command (R375, R413 to R422). -/

namespace Sys2Proof.Machine
open Sys2Proof Sys2Proof.Claims

/-! ### Why a request is refused (R421) -/

theorem State.domRefusal_le (s : State) (n req : Nat) : s.domRefusal n req ≤ 2 := by
  unfold State.domRefusal
  split_ifs <;> decide

/-- The checks of a request read the states of the domains, their record, and which districts are dark. -/
theorem State.domRefusal_congr {s t : State} (hst : ∀ m, t.domState m = s.domState m) (hdom : ∀ m, t.dom m = s.dom m)
    (hdark : ∀ m, t.rd F.PWR_LDO_DARK 0 m = s.rd F.PWR_LDO_DARK 0 m) (n req : Nat) : t.domRefusal n req = s.domRefusal n req := by
  have hgoes (m : Nat) : t.domGoes m = s.domGoes m := by rw [State.domGoes, State.domGoes, hst, hdom]
  rw [State.domRefusal, State.domRefusal, hgoes, hgoes, hgoes, hgoes, hdark]

/-- An AD domain is refused ON and RET while its BL domain is OFF (R29). -/
theorem State.domRefusal_ne_zero_of_blOff (s : State) {d req : Nat} (hd : d < 16) (hreq : 1 ≤ req) (hoff : s.domState (16 + d / 2) = 0) :
    s.domRefusal d req ≠ 0 := by
  have hgoes : s.domGoes (16 + d / 2) = 0 := by simp [State.domGoes, hoff]
  rw [State.domRefusal, if_pos ⟨hd, hreq⟩, if_pos hgoes]
  split <;> decide

/-! ### What a request does when it takes effect (R421, R422) -/

/-- A refused request is recorded, and the domain stays as it is. -/
theorem State.applyDom_refused (s : State) {n req : Nat} (h : s.domRefusal n req ≠ 0) :
    (s.applyDom n req).domState n = s.domState n ∧ (s.applyDom n req).rd F.DOM_REFUSED n = s.domRefusal n req
      ∧ bitOf ((s.applyDom n req).evts .dom n) 6 = true := by
  have happ : s.applyDom n req = (s.wr F.DOM_REFUSED n 0 (s.domRefusal n req)).setEvt .dom n 6 := if_pos h
  have hlt : s.domRefusal n req < 2 ^ 2 := lt_of_le_of_lt (s.domRefusal_le n req) (by decide)
  rw [happ]
  refine ⟨?_, ?_, State.bitOf_evts_setEvt _ _ _ (by decide)⟩
  · simp (disch := decide) only [State.domState, State.rd_setEvt_of_off, State.rd_wr_of_place]
  · simp (disch := decide) only [State.rd_setEvt_of_off, State.rd_wr_same]
    exact Nat.mod_eq_of_lt hlt

/-- A domain that is OFF begins its switch-on. -/
theorem State.applyDom_on_of_off (s : State) {n : Nat} (h : s.domRefusal n 2 = 0) (hoff : s.domState n = 0) :
    s.applyDom n 2 = s.domStart n ⟨2, false, false, 0⟩ := by
  simp [State.applyDom, h, hoff]

/-- A domain that is ON begins to leave it. -/
theorem State.applyDom_off_of_on (s : State) {n : Nat} (h : s.domRefusal n 0 = 0) (hon : s.domState n = 2) :
    s.applyDom n 0 = s.domStart n ⟨0, false, true, 0⟩ := by
  simp [State.applyDom, h, hon]

/-! ### DOMAIN_REQUEST (R375, R417, R421) -/

/-- Each domain is once in the first pass over a gap's requests, and once in the second. -/
theorem filter_beq_range {n : Nat} (hn : n < 30) : (List.range 30).filter (· == n) = [n] := by
  revert n; decide

theorem filter_beq_upward {n : Nat} (hn : n < 30) : (((List.range 14).map (· + 16)) ++ List.range 16).filter (· == n) = [n] := by
  revert n; decide

/-- A gap with a single request applies it, in the pass that its code belongs to. -/
theorem State.applyDoms_single (s : State) {n r : Nat} (hn : n < 30) (hr : r < 3) (h : s.later.doms = [(n, r)]) :
    s.applyDoms = (s.onLater (fun l => { l with doms := [] })).applyDom n r := by
  have hlow (m : Nat) : decide (SMap.get [(n, r)] m 3 < 2) = (m == n && decide (r < 2)) := by
    rw [SMap.get_singleton]; split <;> simp_all
  have hup (m : Nat) : decide (SMap.get [(n, r)] m 3 = 2) = (m == n && decide (r = 2)) := by
    rw [SMap.get_singleton]; split <;> simp_all
  simp only [State.applyDoms, h, hlow, hup]
  rcases Nat.lt_or_ge r 2 with h2 | h2
  · have hne : r ≠ 2 := by omega
    simp [h2, hne, filter_beq_range hn, SMap.get_singleton]
  · have heq : r = 2 := by omega
    simp [heq, filter_beq_upward hn, SMap.get_singleton]

/-- What a request's write leaves before it takes effect, in a device whose Plaza does not tick. -/
def State.domAsked (s : State) (n v : Nat) : State := (s.wr F.DOM_STATE_REQ n 0 v).onLater (fun l => { l with doms := [] })

theorem State.domAsked_domState (s : State) (n v m : Nat) : (s.domAsked n v).domState m = s.domState m :=
  State.rd_wr_ne _ _ _ _ _ _ _ _ (by simp only [keyAt_zero, pageBase, F.DOM_STATE, F.DOM_STATE_REQ]; omega)

theorem State.domAsked_domRefusal (s : State) (n v m req : Nat) : (s.domAsked n v).domRefusal m req = s.domRefusal m req := by
  refine State.domRefusal_congr (s.domAsked_domState n v) (fun _ => rfl) (fun d => State.rd_wr_ne _ _ _ _ _ _ _ _ ?_) m req
  simp only [keyAt, pageBase, F.PWR_LDO_DARK, F.DOM_STATE_REQ]
  omega

/-- Before the first tick a request takes effect at once. -/
theorem State.domReq_at_once (s : State) {n v : Nat} (hn : n < 30) (hv : v % 4 ≠ 3) (ht : s.plaza.ticked = false) (hq : s.later.doms = []) :
    s.domReq n v = (s.domAsked n v).applyDom n (v % 4) := by
  rw [State.domReq, if_neg hv]
  simp only [State.onLater_plaza, State.wr_plaza, ht, Bool.false_eq_true, if_false]
  rw [State.applyDoms_single (n := n) (r := v % 4) _ hn (by omega) (by simp [hq, SMap.put])]
  rfl

section
variable {s : State} {src : Source} {n : Nat}

/-- A request from a source that may make it. -/
theorem exec_domainRequest_of_auth (hn : n < 30) (hsrc : mayCommand s src) (hauth : s.hasAuth src = true) (v : Word) :
    exec (.domainRequest src n v) s = .next (s.domReq n v.toNat) := by
  obtain ⟨hok, hmay⟩ := hsrc
  rw [exec_domainRequest, execDomainRequest, onSrc_of_ok hok, onUnit_of_lt hn]
  simp [State.domWrite, hmay, hauth]

/-- Once the Plaza ticks, a request waits in the queue of the gap. -/
theorem domReq_ticked_clause {v : Nat} (hv : v % 4 ≠ 3) (ht : s.plaza.ticked = true) :
    s.domReq n v = { s with regs := (s.domReq n v).regs, later := (s.domReq n v).later } ∧ regsBut [keyOf F.DOM_STATE_REQ n 0] s (s.domReq n v)
      ∧ (s.domReq n v).rd F.DOM_STATE_REQ n = v % 4 ∧ (s.domReq n v).later.doms.get n 3 = v % 4 := by
  have hreq : s.domReq n v = (s.wr F.DOM_STATE_REQ n 0 v).onLater (fun l => { l with doms := SMap.put n (v % 4) l.doms }) := by
    simp [State.domReq, hv, ht]
  rw [hreq]
  refine ⟨rfl, regsBut_wrAt s .dom n F.DOM_STATE_REQ 0 v, State.rd_wr_same s F.DOM_STATE_REQ n 0 v (by decide), ?_⟩
  exact SMap.get_put_same _ _ _ _

/-- Before the first tick a request is refused and recorded, or its domain starts to switch. -/
theorem domReq_at_once_clause {v : Nat} (hn : n < 30) (ht : s.plaza.ticked = false) (hq : s.later.doms = []) :
    (∀ why, v % 4 ≠ 3 → why ≠ 0 → s.domRefusal n (v % 4) = why →
      (s.domReq n v).domState n = s.domState n ∧ (s.domReq n v).rd F.DOM_REFUSED n = why ∧ bitOf ((s.domReq n v).evts .dom n) 6 = true)
    ∧ (v % 4 = 2 → s.domRefusal n 2 = 0 → s.domState n = 0 →
      (s.domReq n v).domState n = 3 ∧ (s.domReq n v).rd F.DOM_STEP n = 0 ∧ (s.domReq n v).dom n = ⟨2, false, false, 0⟩)
    ∧ (v % 4 = 0 → s.domRefusal n 0 = 0 → s.domState n = 2 →
      (s.domReq n v).domState n = 3 ∧ (s.domReq n v).dom n = ⟨0, false, true, 0⟩ ∧ (n = 28 → ∀ p, p < 8 → (s.domReq n v).rd F.FAB_STATE p = 0)) := by
  refine ⟨?_, fun hv hwhy hoff => ?_, fun hv hwhy hon => ?_⟩
  · rintro _ hv hne rfl
    rw [← s.domAsked_domRefusal n v] at hne ⊢
    rw [State.domReq_at_once s hn hv ht hq, ← s.domAsked_domState n v n]
    exact (s.domAsked n v).applyDom_refused hne
  · rw [State.domReq_at_once s hn (by omega) ht hq, hv,
      State.applyDom_on_of_off _ ((s.domAsked_domRefusal n v n 2).trans hwhy) ((s.domAsked_domState n v n).trans hoff)]
    exact State.domStart_spec _ _ hn
  · rw [State.domReq_at_once s hn (by omega) ht hq, hv,
      State.applyDom_off_of_on _ ((s.domAsked_domRefusal n v n 0).trans hwhy) ((s.domAsked_domState n v n).trans hon)]
    obtain ⟨hst, -, hdom⟩ := State.domStart_spec (s.domAsked n v) ⟨0, false, true, 0⟩ hn
    refine ⟨hst, hdom, ?_⟩
    rintro rfl p hp
    exact State.domStart_fabric_down _ rfl hp

/-- A write from a physical function without authority is dropped, with an event of its port (R375). -/
theorem exec_domainRequest_of_no_auth {p : Nat} (v : Word) (hn : n < 30) (hp : p < 2) (hmay : s.mayWrite (.pf p) = true)
    (hauth : s.rd F.PCIE_AUTH_HOLDER p ≠ 1) : exec (.domainRequest (.pf p) n v) s = .next (s.setEvt .pcie p 5) := by
  have hok : sourceOk (.pf p) = true := by simpa [sourceOk] using hp
  have hno : s.hasAuth (.pf p) = false := by simpa [State.hasAuth] using hauth
  rw [exec_domainRequest, execDomainRequest, onSrc_of_ok hok, onUnit_of_lt hn]
  simp [State.domWrite, hmay, hno, State.authReject]

/-! ### SWITCH_STEP (R421, R422) -/

/-- The domain that is next in its segment is SWITCHING, and has fewer than its steps behind it. -/
theorem switching_of_stepsNext (h : stepsNext s n) : s.domState n = 3 ∧ s.rd F.DOM_STEP n < (s.dom n).steps := by
  obtain ⟨-, hwaits, -⟩ := h
  simp only [State.domWaits, Bool.and_eq_true, beq_iff_eq, decide_eq_true_eq] at hwaits
  obtain ⟨⟨⟨hst, -⟩, hstep⟩, -⟩ := hwaits
  exact ⟨hst, hstep⟩

theorem Dom.steps_le (d : Dom) : d.steps ≤ 16 := by
  unfold Dom.steps
  split <;> decide

theorem State.headroom_iff (s : State) (n : Nat) : s.headroom n = true ↔ s.pwr.vin + 3000 ≤ 1000 * s.rd F.PWR_I_HEAD
    ∧ (28 ≤ n ∨ ∀ m, m < 28 → m ≠ n → segOf m = segOf n → s.domOn m = true → s.rd F.PWR_I_DOM 0 m ≤ 900 * domPeak m) := by
  simp only [State.headroom, Bool.and_eq_true, Bool.or_eq_true, decide_eq_true_eq, List.all_eq_true, List.mem_range, beq_iff_eq, bne_iff_ne,
    Bool.not_eq_true', ← Bool.not_eq_true]
  refine and_congr_right fun _ => or_congr_right (forall_congr' fun m => forall_congr' fun _ => ?_)
  tauto

/-- A step of switch-on that is paused for want of headroom (R422). -/
def State.domPause (s : State) (n : Nat) : State := (s.inc F.DOM_PAUSE_US n 0).onDom n (fun d => { d with paused := d.paused + 1 })

theorem exec_switchStep_of_idle (hn : n < 30) (h : s.domWaits n = false) : exec (.switchStep n) s = .next s := by
  rw [exec_switchStep, execSwitchStep, onUnit_of_lt hn, if_pos (.inl h)]

theorem exec_switchStep_of_next (h : stepsNext s n) :
    exec (.switchStep n) s = .next (if s.headroom n then s.wr F.DOM_STEP n 0 (s.rd F.DOM_STEP n + 1)
      else if ((s.domPause n).dom n).paused = 200 then ((s.domPause n).wr F.DOM_PENDING_HEADROOM n 0 1).setEvt .dom n 5 else s.domPause n) := by
  obtain ⟨hn, hw, hfirst⟩ := h
  have hany : (List.range n).any (fun m => segOf m == segOf n && s.domWaits m) = false := by
    simpa using hfirst
  rw [exec_switchStep, execSwitchStep, onUnit_of_lt hn, if_neg (by simp [hw, hany])]
  rfl

/-- A step with headroom is made. -/
theorem switchStep_made_clause (h : stepsNext s n)
    (hseg : 28 ≤ n ∨ ∀ m, m < 28 → m ≠ n → segOf m = segOf n → s.domOn m = true → s.rd F.PWR_I_DOM 0 m ≤ 900 * domPeak m)
    (hvin : s.pwr.vin + 3000 ≤ 1000 * s.rd F.PWR_I_HEAD) :
    ∃ t, exec (.switchStep n) s = .next t ∧ onlyRegs s t ∧ regsBut [keyOf F.DOM_STEP n 0] s t ∧ t.rd F.DOM_STEP n = s.rd F.DOM_STEP n + 1 := by
  have hlt : s.rd F.DOM_STEP n + 1 < 2 ^ 5 := by
    obtain ⟨-, hstep⟩ := switching_of_stepsNext h
    have := (s.dom n).steps_le
    omega
  refine ⟨s.wr F.DOM_STEP n 0 (s.rd F.DOM_STEP n + 1), ?_, rfl, regsBut_wrAt s .dom n F.DOM_STEP 0 _, ?_⟩
  · rw [exec_switchStep_of_next h, if_pos ((s.headroom_iff n).mpr ⟨hvin, hseg⟩)]
  · rw [State.rd_wr_same _ _ _ _ _ (by decide)]
    exact Nat.mod_eq_of_lt hlt

/-- The registers and the record of a domain after a pause. -/
theorem State.domPause_spec (s : State) (n : Nat) :
    (s.domPause n).rd F.DOM_STEP n = s.rd F.DOM_STEP n ∧ (s.domPause n).domState n = s.domState n
      ∧ ((s.domPause n).dom n).paused = (s.dom n).paused + 1
      ∧ (s.domPause n).rd F.DOM_PAUSE_US n = satAdd (2 ^ F.DOM_PAUSE_US.width - 1) (s.rd F.DOM_PAUSE_US n) 1 := by
  unfold State.domPause
  refine ⟨?_, ?_, ?_, ?_⟩
  · simp (disch := decide) only [State.onDom_rd, State.inc, State.rd_wr_of_place]
  · simp (disch := decide) only [State.domState, State.onDom_rd, State.inc, State.rd_wr_of_place]
  · rw [State.onDom_dom_same, State.inc_dom]
  · rw [State.onDom_rd, State.rd_inc_same _ _ _ _ _ (by decide)]

/-- A step without headroom is paused, and the 200th pause is reported. -/
theorem switchStep_paused_clause (h : stepsNext s n) (hvin : 1000 * s.rd F.PWR_I_HEAD < s.pwr.vin + 3000) :
    ∃ t, exec (.switchStep n) s = .next t ∧ t.rd F.DOM_STEP n = s.rd F.DOM_STEP n ∧ t.domState n = 3 ∧ (t.dom n).paused = (s.dom n).paused + 1
      ∧ t.rd F.DOM_PAUSE_US n = satAdd (2 ^ F.DOM_PAUSE_US.width - 1) (s.rd F.DOM_PAUSE_US n) 1
      ∧ ((s.dom n).paused = 199 → t.rd F.DOM_PENDING_HEADROOM n = 1 ∧ bitOf (t.evts .dom n) 5 = true) := by
  have hhead : s.headroom n ≠ true := fun hh => absurd ((s.headroom_iff n).mp hh).1 (Nat.not_le.mpr hvin)
  obtain ⟨hst, -⟩ := switching_of_stepsNext h
  obtain ⟨hstep, hstate, hpaused, hus⟩ := s.domPause_spec n
  refine ⟨_, exec_switchStep_of_next h, ?_⟩
  rw [if_neg hhead]
  split
  case isFalse h200 => exact ⟨hstep, hstate.trans hst, hpaused, hus, fun h199 => absurd (hpaused.trans (by omega)) h200⟩
  case isTrue =>
    refine ⟨?_, ?_, hpaused, ?_, fun _ => ⟨?_, State.bitOf_evts_setEvt _ _ _ (by decide)⟩⟩
    · simp (disch := decide) only [State.rd_setEvt_of_off, State.rd_wr_of_place, hstep]
    · rw [← hst, ← hstate]
      simp (disch := decide) only [State.domState, State.rd_setEvt_of_off, State.rd_wr_of_place]
    · simp (disch := decide) only [State.rd_setEvt_of_off, State.rd_wr_of_place, hus]
    · simp (disch := decide) only [State.rd_setEvt_of_off, State.rd_wr_same]
      rfl

/-! ### SWITCH_DONE (R420, R422) -/

theorem exec_switchDone_of_settled (hn : n < 30) (h : s.domState n ≠ 3) : exec (.switchDone n []) s = .next s := by
  simp [execSwitchDone, hn, h]

theorem exec_switchDone_leaving (hn : n < 30) (h : s.domState n = 3) (hl : (s.dom n).leaving = true) :
    exec (.switchDone n []) s = .next ((s.leaveDom n (s.dom n).target).domArrive n (s.dom n).target) := by
  simp [execSwitchDone, hn, h, hl, State.domArrive]

theorem exec_switchDone_joining (hn : n < 30) (h : s.domState n = 3) (hl : (s.dom n).leaving = false) :
    exec (.switchDone n []) s = .next (if s.rd F.DOM_STEP n < (s.dom n).steps then s
      else (s.joinDom n (s.dom n).target (s.dom n).fromRet).domArrive n (s.dom n).target) := by
  simp [execSwitchDone, hn, h, hl, State.domArrive]

/-- A domain that leaves ON, or has made its steps, is in its new state. -/
theorem switchDone_clause (hn : n < 30) (h : s.domState n = 3) (htarget : (s.dom n).target ≤ 2) :
    ((s.dom n).leaving = true → ∃ t, exec (.switchDone n []) s = .next t ∧ settled t n (s.dom n).target)
    ∧ ((s.dom n).leaving = false → s.rd F.DOM_STEP n < (s.dom n).steps → exec (.switchDone n []) s = .next s)
    ∧ ((s.dom n).leaving = false → (s.dom n).steps ≤ s.rd F.DOM_STEP n →
      ∃ t, exec (.switchDone n []) s = .next t ∧ settled t n (s.dom n).target ∧ ((s.dom n).target = 2 → bitOf (t.evts .dom n) 4 = true)) := by
  refine ⟨fun hl => ⟨_, exec_switchDone_leaving hn h hl, State.settled_domArrive _ hn htarget⟩, fun hl hstep => ?_, fun hl hstep => ?_⟩
  · rw [exec_switchDone_joining hn h hl, if_pos hstep]
  · rw [exec_switchDone_joining hn h hl, if_neg (Nat.not_lt.mpr hstep)]
    refine ⟨_, rfl, State.settled_domArrive _ hn htarget, fun h2 => ?_⟩
    rw [h2]
    exact State.bitOf_evts_domArrive_on _ hn

/-! ### VOLTAGE_RAISED (R418, R419) -/

theorem exec_voltageRaised_of_none (h : s.pwr.raise = none) : exec .voltageRaised s = .next s := by
  simp [execVoltageRaised, h]

theorem exec_voltageRaised_of_some {pl : Nat} (h : s.pwr.raise = some pl) :
    exec .voltageRaised s = .next (if s.plaza.ticked then s.onPwr (fun p => { p with raised := true })
      else (s.onPwr (fun p => { p with raised := true })).applyPl) := by
  rw [exec_voltageRaised, execVoltageRaised, h]
  rfl

/-- A level that is raised to is in effect once its voltage is there. -/
theorem State.applyPl_of_raised (hraise : s.pwr.raise = some (s.rd F.PWR_PL)) (hraised : s.pwr.raised = true) (hlt : s.rd F.PWR_PL < s.rd F.PWR_PL_EFF) :
    s.applyPl = ((s.wr F.PWR_PL_EFF 0 0 (s.rd F.PWR_PL)).wr F.PWR_RAISING 0 0 0).onPwr (fun p => { p with raise := none, raised := false }) := by
  simp only [State.applyPl, if_pos hlt, if_pos hraise, hraised, if_true]

/-- The level rises once its voltage is there: at once before the first tick, else in a gap. -/
theorem voltageRaised_clause {pl : Nat} (h : s.pwr.raise = some pl) :
    (s.plaza.ticked = true → exec .voltageRaised s = .next (s.onPwr (fun p => { p with raised := true })))
    ∧ (s.plaza.ticked = false → s.rd F.PWR_PL = pl → pl < s.rd F.PWR_PL_EFF → pl < 8 →
      ∃ t, exec .voltageRaised s = .next t ∧ t.rd F.PWR_PL_EFF = pl ∧ t.rd F.PWR_RAISING = 0 ∧ t.pwr.raise = none) := by
  rw [exec_voltageRaised_of_some h]
  refine ⟨fun ht => by rw [if_pos ht], ?_⟩
  rintro ht rfl hlt h8
  rw [ht, if_neg Bool.false_ne_true, State.applyPl_of_raised (s := s.onPwr (fun p => { p with raised := true })) h rfl hlt]
  refine ⟨_, rfl, ?_, State.rd_wr_same _ F.PWR_RAISING 0 0 0 (by decide), rfl⟩
  simp (disch := decide) only [State.onPwr_rd, State.rd_wr_of_place, State.rd_wr_same]
  exact Nat.mod_eq_of_lt h8

end

/-! ### CELL_FAIL (R413 to R415) -/

theorem testBit_setBit (x c i : Nat) : (setBit x c).testBit i = (x.testBit i || decide (c = i)) := by
  rw [setBit, Nat.testBit_or, Nat.one_shiftLeft, Nat.testBit_two_pow]

/-- Setting a clear bit below m adds one to the number of bits set below m. -/
theorem length_filter_testBit_setBit {x c m : Nat} (hc : c < m) (h : x.testBit c = false) :
    ((List.range m).filter (fun i => (setBit x c).testBit i)).length = ((List.range m).filter (fun i => x.testBit i)).length + 1 := by
  have hcard (y : Nat) : ((List.range m).filter (fun i => y.testBit i)).length = ((Finset.range m).filter (fun i => y.testBit i = true)).card := by
    simp [Finset.card_def, Finset.filter, Finset.range, Multiset.range]
  have hins : (Finset.range m).filter (fun i => (setBit x c).testBit i = true) = insert c ((Finset.range m).filter (fun i => x.testBit i = true)) := by
    ext i
    simp only [Finset.mem_filter, Finset.mem_range, Finset.mem_insert, testBit_setBit, Bool.or_eq_true, decide_eq_true_eq]
    refine ⟨fun ⟨hi, hb⟩ => hb.symm.imp Eq.symm (⟨hi, ·⟩), ?_⟩
    rintro (rfl | ⟨hi, hb⟩)
    · exact ⟨hc, .inr rfl⟩
    · exact ⟨hi, .inl hb⟩
  rw [hcard, hcard, hins, Finset.card_insert_of_notMem (by simp [h])]

/-- A cell that has failed and is isolated, with its event and its log record (R414, R415). -/
def State.cellOut (s : State) (d c : Nat) : State :=
  ((s.wr F.PWR_LDO_FAILED 0 d (setBit (s.rd F.PWR_LDO_FAILED 0 d) c)).setEvt .pwr 0 5).logLater (.cell d c)

section
variable {s : State} {d c : Nat}

theorem State.testBit_cellOut (i : Nat) (hi : i < 24) :
    ((s.cellOut d c).rd F.PWR_LDO_FAILED 0 d).testBit i = (setBit (s.rd F.PWR_LDO_FAILED 0 d) c).testBit i := by
  have hrd : (s.cellOut d c).rd F.PWR_LDO_FAILED 0 d = setBit (s.rd F.PWR_LDO_FAILED 0 d) c % 2 ^ 24 :=
    (State.rd_setEvt_of_off (f := F.PWR_LDO_FAILED) rfl (by decide) _ 0 d 5).trans (State.rd_wr_same s F.PWR_LDO_FAILED 0 d _ (by decide))
  rw [hrd, Nat.testBit_mod_two_pow, decide_eq_true hi, Bool.true_and]

theorem State.failedCells_cellOut (hc : c < 24) (h : (s.rd F.PWR_LDO_FAILED 0 d).testBit c = false) :
    (s.cellOut d c).failedCells d = s.failedCells d + 1 := by
  rw [State.failedCells, List.filter_congr fun i hi => State.testBit_cellOut i (List.mem_range.mp hi)]
  exact length_filter_testBit_setBit hc h

theorem exec_cellFail_of_out (hd : d < 16) (h : 24 ≤ c ∨ (s.rd F.PWR_LDO_FAILED 0 d).testBit c = true ∨ s.rd F.PWR_LDO_DARK 0 d = 1) :
    exec (.cellFail d c) s = .next s := by
  rw [exec_cellFail, execCellFail, onUnit_of_lt (b := nDist) hd, if_pos h]

theorem exec_cellFail_of_in (hd : d < 16) (hc : c < 24) (hb : (s.rd F.PWR_LDO_FAILED 0 d).testBit c = false) (hdark : s.rd F.PWR_LDO_DARK 0 d ≠ 1) :
    exec (.cellFail d c) s = .next (if s.failedCells d + 1 = 5 then
      (if s.plaza.ticked then ((s.cellOut d c).wr F.PWR_LDO_DGATE 0 d 15).onLater (fun l => { l with dark := l.dark ++ [d] })
       else ((s.cellOut d c).wr F.PWR_LDO_DGATE 0 d 15).darken d) else s.cellOut d c) := by
  rw [← State.failedCells_cellOut hc hb, exec_cellFail, execCellFail, onUnit_of_lt (b := nDist) hd, if_neg (by simp [hb, hdark, hc])]
  rfl

/-- The registers that a cell's failure writes are of the PWR page, so that no domain changes its state. -/
theorem State.domState_cellOut_gated (s : State) {d : Nat} (hd : d < 16) (c m : Nat) :
    ((s.cellOut d c).wr F.PWR_LDO_DGATE 0 d 15).domState m = s.domState m := by
  have hpwr {f : Fld} {i : Nat} (hf : keyAt .pwr 0 f i < 0x1_0000 * 64) : keyAt .dom m F.DOM_STATE 0 ≠ keyAt .pwr 0 f i := by
    rw [keyAt_zero, pageBase]; omega
  have hgate : keyAt .pwr 0 F.PWR_LDO_DGATE d < 0x1_0000 * 64 := by simp only [keyAt, pageBase, F.PWR_LDO_DGATE]; omega
  have hfail : keyAt .pwr 0 F.PWR_LDO_FAILED d < 0x1_0000 * 64 := by simp only [keyAt, pageBase, F.PWR_LDO_FAILED]; omega
  calc ((s.cellOut d c).wr F.PWR_LDO_DGATE 0 d 15).domState m
      = (s.cellOut d c).domState m := State.rd_wr_ne _ _ _ _ _ _ _ _ (hpwr hgate)
    _ = (s.wr F.PWR_LDO_FAILED 0 d (setBit (s.rd F.PWR_LDO_FAILED 0 d) c)).domState m := State.setEvt_rdAt_ne _ _ (hpwr (i := 0) (by decide))
    _ = s.domState m := State.rd_wr_ne _ _ _ _ _ _ _ _ (hpwr hfail)

/-- A failed cell takes its 3 A from its district's cap; the fifth gates the district, which goes dark in the gap. -/
theorem cellFail_clause (hd : d < 16) (hc : c < 24) (hb : (s.rd F.PWR_LDO_FAILED 0 d).testBit c = false) (hdark : s.rd F.PWR_LDO_DARK 0 d ≠ 1) :
    (s.failedCells d < 4 → ∃ t, exec (.cellFail d c) s = .next t ∧ (t.rd F.PWR_LDO_FAILED 0 d).testBit c = true ∧ t.distCap d + 3000 = s.distCap d
      ∧ bitOf (t.evts .pwr 0) 5 = true ∧ t.later.log = s.later.log ++ [.cell d c] ∧ t.blks = s.blks)
    ∧ (s.failedCells d = 4 → s.plaza.ticked = true → ∃ t, exec (.cellFail d c) s = .next t ∧ t.rd F.PWR_LDO_DGATE 0 d = 15
      ∧ t.later.dark = s.later.dark ++ [d] ∧ t.domState d = s.domState d ∧ t.blks = s.blks) := by
  rw [exec_cellFail_of_in hd hc hb hdark]
  refine ⟨fun hfew => ?_, fun hfour ht => ?_⟩
  · rw [if_neg (by omega)]
    refine ⟨_, rfl, ?_, ?_, State.bitOf_evts_setEvt _ .pwr 0 (by decide), rfl, rfl⟩
    · rw [State.testBit_cellOut c hc, testBit_setBit, decide_eq_true rfl, Bool.or_true]
    · rw [State.distCap, State.distCap, State.failedCells_cellOut hc hb]
      omega
  · rw [if_pos (by omega), if_pos ht]
    exact ⟨_, rfl, State.rd_wr_same _ F.PWR_LDO_DGATE 0 d 15 (by decide), rfl, s.domState_cellOut_gated hd c d, rfl⟩

end

/-- Settles O52, by the theorem of each command and of a request that takes effect. -/
theorem powerDomainsSwitch : Obligations.PowerDomainsSwitch := by
  unfold Obligations.PowerDomainsSwitch
  intro s src n v hn
  refine ⟨fun hsrc hauth => ?_, ?_, ?_, ?_, ?_, ?_, ?_, ?_, ?_, ?_, ?_⟩
  · rw [exec_domainRequest_of_auth hn hsrc hauth]
    refine ⟨fun hv => ?_, fun hv ht => ⟨_, rfl, domReq_ticked_clause hv ht⟩, fun ht hq => ?_⟩
    · rw [State.domReq, if_pos hv]
      rfl
    · obtain ⟨hrefused, hon, hoff⟩ := domReq_at_once_clause hn ht hq
      exact ⟨fun why hv hne hwhy => ⟨_, rfl, hrefused why hv hne hwhy⟩, fun hv hwhy hst => ⟨_, rfl, hon hv hwhy hst⟩,
        fun hv hwhy hst => ⟨_, rfl, hoff hv hwhy hst⟩⟩
  · intro d req hd hreq hbl
    have hne := s.domRefusal_ne_zero_of_blOff hd hreq hbl
    obtain ⟨hst, hwhy, hevt⟩ := s.applyDom_refused hne
    exact ⟨hst, hwhy ▸ hne, hevt⟩
  · intro p hp hmay hauth
    exact exec_domainRequest_of_no_auth v hn hp hmay hauth
  · exact exec_switchStep_of_idle hn
  · exact switchStep_made_clause
  · exact switchStep_paused_clause
  · exact exec_switchDone_of_settled hn
  · exact switchDone_clause hn
  · exact exec_voltageRaised_of_none
  · intro pl hpl
    exact voltageRaised_clause hpl
  · intro d c hd
    exact ⟨exec_cellFail_of_out hd, cellFail_clause hd⟩

end Sys2Proof.Machine
end

section
/-! PROOFS. The intake of a frame (R63, R366): a fetch whose bytes a slice beyond the 128 of R19 takes, and what it does to a channel. -/

namespace Sys2Proof.Machine
open Sys2Proof Sys2Proof.Claims

/-- The page of slice 0x3F81, which no device has, is that of channel 1, and its count of foreign lines the channel's fetch position. -/
theorem keyAt_ownerMiss_eq_fetched : keyAt .slc 0x3F81 F.SLC_OWNER_MISS 0 = keyAt .ch 1 F.CH_FETCHED 0 := by
  decide

/-- A context fed by channels 0 and 1, whose intake areas lie in its one direct region. -/
def fedByTwo : Ctx := { Ctx.reset with host := [(0x30, 3)], regions := [⟨0, 0x1_0000, 0, 0, 1, 0xFF, 0, false⟩] }

/-- Context 0 chosen, in a device whose BUCKET_MAP holds 0x3F81, more than the field's 3 bits, for the bucket of the area's line; the slice of that
number holds the line under another owner. -/
def strayHome : State :=
  let s := (State.reset.wr F.MEMC_LAYOUT_LOCKED 0 0 1).wr F.MEMC_RANGE_SIZE_SIZE 0 0 0x1_0000
  let foreign := newLine 0 (plainReq s .engine .read 0 0 0 0x3401 0x1401 none 2) .clean false
  { s with
    regs := SMap.put (keyAt .slc 0 F.SLC_BUCKET_MAP_SLICE 0) 0x3F81 s.regs
    slices := [(0x3F81, { Slice.reset with lines := [foreign] })]
    ctxs := [(0, fedByTwo)]
    plaza := { Plaza.reset with choice := some ⟨0, false, none, false⟩ } }

theorem intakeDue_strayHome : intakeDue strayHome ⟨0, false, none, false⟩ := by
  unfold intakeDue
  decide +kernel

theorem strayHome_areaOk : (strayHome.ctx 0).channels.all (strayHome.areaOk 0) = true := by
  decide +kernel

/-- Channel 0's half finds the foreign line, whose count moves channel 1 on before its turn: its intake begins at 1, with nothing taken. -/
theorem strayHome_fetchIntake :
    (strayHome.fetchIntake ⟨0, false, none, false⟩ [] true).plaza.choice = some ⟨0, false, some ⟨0, 0, [], [(0, 0), (1, 1)]⟩, true⟩
      ∧ (strayHome.fetchIntake ⟨0, false, none, false⟩ [] true).rd F.CH_FETCHED 1 = 1 ∧ strayHome.rd F.CH_FETCHED 1 = 0
      ∧ 1 ∈ (strayHome.ctx 0).channels := by
  decide +kernel

theorem exec_intakeFetch_of_due {s : State} {ch : Choice} (h : intakeDue s ch) (reads : List HostRead) (whole : Bool) :
    exec (.intakeFetch reads whole) s = .next (s.fetchIntake ch reads whole) := by
  obtain ⟨hhalt, hch, hf, hr, hi, hc, hk⟩ := h
  rw [exec_intakeFetch, execIntakeFetch, hch]
  simp [hhalt, hf, hr, hi, hc, hk]

/-- Refutes O46, which asks no register to hold a value of its field's width: where BUCKET_MAP holds a wider one (no write of a field leaves such a
value), it names a slice whose counters stand at a channel's registers, and the fetch moves that channel on with nothing taken. -/
theorem not_hostIntakeLoadAndDelivery : ¬ Obligations.HostIntakeLoadAndDelivery := by
  unfold Obligations.HostIntakeLoadAndDelivery
  intro h
  obtain ⟨hintake, -⟩ := h strayHome
  obtain ⟨-, hok⟩ := hintake _ [] true intakeDue_strayHome
  obtain ⟨t, i, hexec, hchoice, hmoved, -⟩ := hok strayHome_areaOk
  obtain ⟨hchoice', hafter, hbefore, hmem⟩ := strayHome_fetchIntake
  rw [exec_intakeFetch_of_due intakeDue_strayHome] at hexec
  cases hexec
  have hnone : i.subs = [] := by
    have hboth := hchoice.symm.trans hchoice'
    simp only [Option.some.injEq, Choice.mk.injEq] at hboth
    obtain ⟨-, -, rfl, -⟩ := hboth
    rfl
  have hstays : (1 : Nat) = 0 := by simpa [hafter, hbefore, hnone] using hmoved 1 hmem
  exact absurd hstays (by decide)

end Sys2Proof.Machine
end

section
/-! PROOFS. What the memory system, the links and the error queue leave of the state that the tick gap decides on: the frame's choice, the
contexts, the queues of the Blocks, and the buckets that slices drain. -/

namespace Sys2Proof.Machine
open Sys2Proof

/-! ### The gist -/

/-- What the tick gap decides on and no unit beside the Plaza changes: the time of the tick, the context commands, the choice, whether a frame runs,
the queues of each Block and the context table. -/
structure Outline where
  tickTime : Nat
  cmds : List CtxCmd
  choice : Option Choice
  running : Bool
  queues : Nat → Queues
  ctxs : SMap Ctx

def State.outline (s : State) : Outline :=
  ⟨s.rd F.TICK_TICK_TIME_TIME, s.plaza.cmds, s.plaza.choice, s.plaza.run.isSome, fun p => (s.blk p).q, s.ctxs⟩

/-- The outline, and the buckets that each slice has to drain (R251). -/
def State.gist (s : State) : Outline × (Nat → List Nat) := (s.outline, fun n => (s.slc n).moved)

/-- A page whose registers stand above those of TICK in the BAR0 map (R487). -/
def Page.aboveTick : Page → Bool
  | .top | .tick => false
  | _ => true

theorem keyAt_tickTime : keyAt .tick 0 F.TICK_TICK_TIME_TIME 0 = 0x1110 * 64 := by
  simp [keyAt, pageBase, F.TICK_TICK_TIME_TIME]

theorem pageBase_of_aboveTick {pg : Page} (h : pg.aboveTick = true) (u : Nat) : 0x2000 ≤ pageBase pg u := by
  cases pg <;> simp [pageBase, Page.aboveTick] at h ⊢ <;> omega

theorem keyAt_ne_tickTime {pg : Page} (h : pg.aboveTick = true) (u : Nat) (f : Fld) (i : Nat) :
    keyAt .tick 0 F.TICK_TICK_TIME_TIME 0 ≠ keyAt pg u f i := by
  have hbase := pageBase_of_aboveTick h u
  have hkey : 0x1110 * 64 < keyAt pg u f i := by
    rw [keyAt]
    omega
  exact keyAt_tickTime.trans_ne hkey.ne

theorem evtKey_ne_tickTime (pg : Page) (u : Nat) : keyAt .tick 0 F.TICK_TICK_TIME_TIME 0 ≠ keyAt pg u F.HDR_EVT_STATUS 0 := by
  have hbase : pageBase pg u + 0x20 ≠ 0x1110 := by cases pg <;> simp [pageBase] <;> omega
  refine keyAt_tickTime.trans_ne fun h => hbase ?_
  rw [keyAt_evts] at h
  omega

theorem State.outline_congr {s t : State} (hr : t.rd F.TICK_TICK_TIME_TIME = s.rd F.TICK_TICK_TIME_TIME) (hp : t.plaza = s.plaza)
    (hb : t.blks = s.blks) (hc : t.ctxs = s.ctxs) : t.outline = s.outline := by
  simp only [State.outline, State.blk, hr, hp, hb, hc]

theorem State.gist_congr {s t : State} (hr : t.rd F.TICK_TICK_TIME_TIME = s.rd F.TICK_TICK_TIME_TIME) (hp : t.plaza = s.plaza)
    (hb : t.blks = s.blks) (hc : t.ctxs = s.ctxs) (hs : t.slices = s.slices) : t.gist = s.gist := by
  simp only [State.gist, State.outline_congr hr hp hb hc, State.slc, hs]

theorem State.gist_wrAt_of_key {pg : Page} {u : Nat} {f : Fld} {i : Nat} (h : keyAt .tick 0 F.TICK_TICK_TIME_TIME 0 ≠ keyAt pg u f i) (s : State)
    (v : Nat) : (s.wrAt pg u f i v).gist = s.gist :=
  State.gist_congr (State.rdAt_wrAt_ne s pg .tick u 0 f F.TICK_TICK_TIME_TIME i 0 v h) rfl rfl rfl rfl

/-! ### Updates of one field -/

section
variable (s : State)

@[simp] theorem State.gist_wr (f : Fld) (u i v : Nat) (h : f.page.aboveTick = true) : (s.wr f u i v).gist = s.gist :=
  State.gist_wrAt_of_key (keyAt_ne_tickTime h u f i) s v
@[simp] theorem State.gist_wrAt (pg : Page) (u : Nat) (f : Fld) (i v : Nat) (h : pg.aboveTick = true) : (s.wrAt pg u f i v).gist = s.gist :=
  State.gist_wrAt_of_key (keyAt_ne_tickTime h u f i) s v
@[simp] theorem State.gist_inc (f : Fld) (u i n : Nat) (h : f.page.aboveTick = true) : (s.inc f u i n).gist = s.gist := s.gist_wr f u i _ h
@[simp] theorem State.gist_cycles (f : Fld) (u : Nat) (h : f.page.aboveTick = true) : (s.cycles f u).gist = s.gist := s.gist_inc f u 0 _ h
@[simp] theorem State.gist_setEvt (pg : Page) (u b : Nat) : (s.setEvt pg u b).gist = s.gist :=
  State.gist_wrAt_of_key (evtKey_ne_tickTime pg u) s _
@[simp] theorem State.gist_used : s.used.gist = s.gist := rfl
@[simp] theorem State.gist_emit (k : String) (as : List Nat) (bs : List Byte) : (s.emit k as bs).gist = s.gist := rfl
@[simp] theorem State.gist_onMem (g : Nat) (f : Memc → Memc) : (s.onMem g f).gist = s.gist := rfl
@[simp] theorem State.gist_onChan (h : Nat) (f : Chan → Chan) : (s.onChan h f).gist = s.gist := rfl
@[simp] theorem State.gist_onMb (m : Nat) (f : Mailbox → Mailbox) : (s.onMb m f).gist = s.gist := rfl
@[simp] theorem State.gist_onFport (p : Nat) (f : FabPort → FabPort) : (s.onFport p f).gist = s.gist := rfl
@[simp] theorem State.gist_onDom (n : Nat) (f : Dom → Dom) : (s.onDom n f).gist = s.gist := rfl
@[simp] theorem State.gist_onLater (f : Later → Later) : (s.onLater f).gist = s.gist := rfl
@[simp] theorem State.gist_onPwr (f : Power → Power) : (s.onPwr f).gist = s.gist := rfl
@[simp] theorem State.gist_onFab (f : Fabric → Fabric) : (s.onFab f).gist = s.gist := rfl
theorem State.gist_memory (m : List Host.Cell) (q : SMap Sector) : State.gist { s with dram := m, sectors := q } = s.gist := rfl
@[simp] theorem State.gist_smb (b : Nat) : (s.smb b).gist = s.gist := rfl

@[simp] theorem State.gist_setBlk (p : Nat) (b : Block) (h : b.q = (s.blk p).q) : (s.setBlk p b).gist = s.gist := by
  have hq : (fun q => ((s.setBlk p b).blk q).q) = fun q => (s.blk q).q := funext fun q => by
    by_cases hp : q = p
    · simp [State.blk, State.setBlk, hp, h]
    · simp [State.blk, State.setBlk, SMap.get_put_ne hp]
  have ho : (s.setBlk p b).outline = s.outline := congrArg (fun qs => Outline.mk _ _ _ _ qs _) hq
  exact congrArg (fun o => (o, _)) ho

@[simp] theorem State.gist_onBlk (p : Nat) (f : Block → Block) (h : (f (s.blk p)).q = (s.blk p).q) : (s.onBlk p f).gist = s.gist :=
  s.gist_setBlk p _ h

@[simp] theorem State.outline_onSlc (n : Nat) (f : Slice → Slice) : (s.onSlc n f).outline = s.outline := rfl

@[simp] theorem State.gist_onSlc (n : Nat) (f : Slice → Slice) :
    (s.onSlc n f).gist = (s.gist.1, Function.update s.gist.2 n (f (s.slc n)).moved) := by
  refine congrArg (Prod.mk _) (funext fun k => ?_)
  by_cases hk : k = n
  · rw [hk, State.onSlc_slc_same, Function.update_self]
  · rw [State.onSlc_slc_ne _ _ _ _ hk, Function.update_of_ne hk]
    rfl

/-- What a slice has to drain, as the gist has it. -/
theorem State.slc_moved (n : Nat) : (s.slc n).moved = s.gist.2 n := rfl

end

/-- An update that keeps the gist, made for each element of a list. -/
theorem State.gist_foldl {α : Type} {f : State → α → State} (h : ∀ s a, (f s a).gist = s.gist) (xs : List α) (s : State) :
    (xs.foldl f s).gist = s.gist := by
  induction xs generalizing s with
  | nil => rfl
  | cons x xs ih => rw [List.foldl_cons, ih, h]

theorem State.gist_forN {f : State → Nat → State} (h : ∀ s i, (f s i).gist = s.gist) (n : Nat) (s : State) : (forN n s f).gist = s.gist :=
  State.gist_foldl h _ s

/-- A state that comes with a result, by the function that gave them. -/
theorem State.gist_of_eq {α : Type} {p : State × α} {t : State} {a : α} (h : p = (t, a)) : t.gist = p.1.gist := by
  rw [h]

/-! ### Choices, random values and messages -/

section
variable (s : State)

@[simp] theorem State.gist_pickFree {α : Type} (xs : List α) : (s.pickFree xs).1.gist = s.gist := by
  rcases s.pickFree_fst xs with h | h <;> rw [h]
  exact s.gist_used

@[simp] theorem State.gist_seeded : s.seeded.1.gist = s.gist := by
  unfold State.seeded
  split
  · split <;> rfl
  · rfl

@[simp] theorem State.gist_random (n : Nat) : (s.random n).1.gist = s.gist := s.gist_seeded
@[simp] theorem State.gist_newKey : s.newKey.1.gist = s.gist := s.gist_random 64
@[simp] theorem State.gist_sign (msg : List Byte) : (s.sign msg).1.gist = s.gist := s.gist_random 64

@[simp] theorem State.gist_msi (port fn vec : Nat) : (s.msi port fn vec).gist = s.gist := by
  unfold State.msi
  split_ifs <;> simp (disch := decide)

/-! ### Error reports (R300, R310 to R315) -/

@[simp] theorem State.gist_fatal (cause : Nat) : (s.fatal cause).gist = s.gist := by
  have htop (t : State) : (t.wr F.TOP_STATUS_FATAL 0 0 1).gist = t.gist := State.gist_wrAt_of_key (by decide) t 1
  unfold State.fatal
  split <;> simp (disch := decide) [htop]

@[simp] theorem State.gist_record (r : Report) : (s.record r).gist = s.gist := by
  unfold State.record
  split
  case h_1 run _ hrun =>
    split
    · simp [State.gist, State.outline, State.rd, State.rdAt, State.blk, State.slc, hrun]
    · rfl
  · rfl

@[simp] theorem State.gist_enqueue (r : Report) (late : Bool) : (s.enqueue r late).gist = s.gist := by
  unfold State.enqueue
  split_ifs
  · exact s.gist_inc F.ERRQ_SUPPRESSED 0 0 1 rfl
  · exact s.gist_fatal 1
  · exact s.gist_inc F.ERRQ_ENTRIES 0 0 1 rfl

@[simp] theorem State.gist_report (r : Report) : (s.report r).gist = s.gist := by
  rw [State.report, State.gist_enqueue, State.gist_record]

@[simp] theorem State.gist_event (code page addr detail : Nat) (writer : Option Nat) : (s.event code page addr detail writer).gist = s.gist :=
  s.gist_report _

@[simp] theorem State.gist_ceTable (cls unit addr syndrome : Nat) : (s.ceTable cls unit addr syndrome).gist = s.gist := by
  unfold State.ceTable
  dsimp only
  split_ifs
  · rfl
  · rfl
  · exact s.gist_inc F.ERRQ_CE_REPLACED 0 0 1 rfl

@[simp] theorem State.gist_corrected (cls unit addr : Nat) : (s.corrected cls unit addr).gist = s.gist := s.gist_ceTable _ _ _ _

/-! ### Fabric packets (R384 to R387) -/

@[simp] theorem State.gist_txOn (p : Nat) (k : TxPkt) (nak : Bool) : (s.txOn p k nak).gist = s.gist := by
  simp (disch := decide) [State.txOn, State.emitPkt]

@[simp] theorem State.gist_sendCtl (k : TxPkt) : (s.sendCtl k).gist = s.gist := by
  unfold State.sendCtl
  split
  case h_1 t p h => rw [State.gist_txOn, State.gist_of_eq h, State.gist_pickFree]
  case h_2 t h => rw [State.gist_onFab, State.gist_of_eq h, State.gist_pickFree]

@[simp] theorem State.gist_sendAbort (c frame : Nat) (final : Bool) : (s.sendAbort c frame final).gist = s.gist := by
  unfold State.sendAbort
  split
  · exact State.gist_foldl (fun s _ => s.gist_sendCtl _) _ s
  · rfl

/-! ### Controllers (R259 to R268) -/

@[simp] theorem State.gist_columns (g : Nat) (br : Nat × Nat) (n : Nat) : (s.columns g br n).gist = s.gist := by
  unfold State.columns
  split_ifs <;> simp (disch := decide)

@[simp] theorem State.gist_writeSector (q h : Nat) (d : BitVec 256) (err : Nat) : (s.writeSector q h d err).gist = s.gist :=
  s.gist_memory _ _

@[simp] theorem State.gist_memUe (g q : Nat) : (s.memUe g q).gist = s.gist := by
  unfold State.memUe
  dsimp only
  split_ifs <;> simp (disch := decide)

@[simp] theorem State.gist_keyLoad (g h : Nat) : (s.keyLoad g h).gist = s.gist := by
  unfold State.keyLoad
  dsimp only
  split_ifs <;> rfl

@[simp] theorem State.gist_keyTouch (g h : Nat) : (s.keyTouch g h).gist = s.gist := by
  unfold State.keyTouch
  split <;> simp (disch := decide)

@[simp] theorem State.gist_checkLost (g : Nat) (b : CheckBurst) : (s.checkLost g b).gist = s.gist := by
  unfold State.checkLost
  split
  · rfl
  · exact s.gist_memory _ _

@[simp] theorem State.gist_checkLoad (g : Nat) (k : Nat × Nat) : (s.checkLoad g k).gist = s.gist := by
  unfold State.checkLoad
  dsimp only
  split
  · rfl
  split
  · simp
  split
  · split <;> simp
  · simp

@[simp] theorem State.gist_onCheck (g : Nat) (k : Nat × Nat) (f : CheckBurst → CheckBurst) : (s.onCheck g k f).gist = s.gist := rfl

@[simp] theorem State.gist_checkErr (g l : Nat) (k : Nat × Nat) : (s.checkErr g l k).gist = s.gist := by
  unfold State.checkErr
  split
  · rfl
  split
  · rfl
  · simp (disch := decide)
  · split <;> simp

@[simp] theorem State.gist_checkTouch (g l : Nat) (write : Bool) : (s.checkTouch g l write).gist = s.gist := by
  have hburst : (if (s.mem g).holds (s.checkOf g l) then s.checkErr g l (s.checkOf g l)
      else (s.inc F.MEMC_CHECK_MISSES g 0).checkLoad g (s.checkOf g l)).gist = s.gist := by split <;> simp (disch := decide)
  unfold State.checkTouch
  dsimp only
  split
  · rw [State.gist_onCheck, hburst]
  · exact hburst

@[simp] theorem State.gist_memInject (g l : Nat) : (s.memInject g l).1.gist = s.gist := by
  unfold State.memInject
  dsimp only
  split_ifs <;> rfl

@[simp] theorem State.gist_writePart (g l h i : Nat) (mask : BitVec 128) (d : BitVec 1024) (ctx : Option Nat) :
    (s.writePart g l h i mask d ctx).gist = s.gist := by
  unfold State.writePart
  dsimp only
  split_ifs <;> simp (disch := decide)

@[simp] theorem State.gist_issueWrite (g : Nat) (w : MemWrite) : (s.issueWrite g w).gist = s.gist := by
  simp (disch := decide) [State.issueWrite]

@[simp] theorem State.gist_slotWrite (g l : Nat) (is : List Nat) : (s.slotWrite g l is).gist = s.gist := by
  unfold State.slotWrite
  dsimp only
  split
  · rfl
  split
  · split <;> simp
  · rfl

@[simp] theorem State.gist_writeLine (g l h : Nat) (mask : BitVec 128) (d : BitVec 1024) (ctx : Option Nat) :
    (s.writeLine g l h mask d ctx).gist = s.gist := by
  have hparts (is : List Nat) (t : State) : (is.foldl (fun s i => s.writePart g l h i mask d ctx) t).gist = t.gist :=
    State.gist_foldl (fun s i => s.gist_writePart g l h i mask d ctx) is t
  unfold State.writeLine
  dsimp only
  split_ifs <;> simp (disch := decide) [hparts]

@[simp] theorem State.gist_fetchLine (g l h : Nat) : (s.fetchLine g l h).1.gist = s.gist := by
  unfold State.fetchLine
  dsimp only
  have hces (is : List Nat) (t : State) : (is.foldl (fun s i => (s.inc F.MEMC_CE g 0).corrected 4 g (32 * (4 * l + i))) t).gist = t.gist :=
    State.gist_foldl (fun s i => by simp (disch := decide)) is t
  have hues (is : List Nat) (t : State) : (is.foldl (fun s i => s.memUe g (4 * l + i)) t).gist = t.gist :=
    State.gist_foldl (fun s i => s.gist_memUe _ _) is t
  split <;> simp [hces, hues]

@[simp] theorem State.gist_readLine (g l h : Nat) : (s.readLine g l h).1.gist = s.gist := by
  simp (disch := decide) [State.readLine]

/-! ### Slots (R268, R283, R287) -/

@[simp] theorem State.gist_onMiss (n l : Nat) (f : Miss → Miss) : (s.onMiss n l f).gist = s.gist := by
  simp [State.onMiss, State.slc_moved]

@[simp] theorem State.gist_toSlot (g n : Nat) (m : Miss) : (s.toSlot g n m).gist = s.gist := by
  unfold State.toSlot
  dsimp only
  split_ifs <;> simp (disch := decide)

@[simp] theorem State.gist_countServed (g : Nat) (m : Miss) (aged : Bool) : (s.countServed g m aged).gist = s.gist := by
  unfold State.countServed
  dsimp only
  split_ifs <;> simp (disch := decide)

@[simp] theorem State.gist_dropIdle (g : Nat) : (s.dropIdle g).gist = s.gist := by
  unfold State.dropIdle
  dsimp only
  split <;> rfl

@[simp] theorem State.gist_serveColumn (g n : Nat) (m : Miss) (aged : Bool) : (s.serveColumn g n m aged).gist = s.gist := by
  unfold State.serveColumn
  dsimp only
  split_ifs <;> simp (disch := decide)

@[simp] theorem State.gist_slotReady (g n : Nat) (m : Miss) : (s.slotReady g n m).gist = s.gist := by
  unfold State.slotReady
  dsimp only
  split_ifs <;> simp (disch := decide)

@[simp] theorem State.gist_finishSlot (g n l : Nat) : (s.finishSlot g n l).gist = s.gist := by
  unfold State.finishSlot
  rw [State.gist_forN]
  · split
    · exact s.gist_slotReady g n _
    · rfl
  · intro t _
    split
    · split
      · exact t.gist_serveColumn g n _ false
      · rfl
    · rfl

@[simp] theorem State.gist_clearSlots (g : Nat) (m : Miss) : (s.clearSlots g m).gist = s.gist := by
  unfold State.clearSlots
  split
  · rfl
  · refine State.gist_foldl (fun t x => ?_) _ s
    exact t.gist_finishSlot g x.1 x.2.line

@[simp] theorem State.gist_fetchNow (g n l : Nat) : (s.fetchNow g n l).gist = s.gist := by
  unfold State.fetchNow
  split
  · rfl
  split <;> simp

end

end Sys2Proof.Machine
end

section
/-! PROOFS. The caches leave the gist alone: lines and misses of the slices, the L1 copies, and the requests that a slice serves. -/

namespace Sys2Proof.Machine
open Sys2Proof

/-! ### Lines of a slice -/

@[simp] theorem Slice.moved_putLine (sl : Slice) (x : Line) : (sl.putLine x).moved = sl.moved := rfl
@[simp] theorem Slice.moved_dropLine (sl : Slice) (l : Nat) : (sl.dropLine l).moved = sl.moved := rfl
@[simp] theorem Slice.moved_touch (sl : Slice) (l way : Nat) : (sl.touch l way).moved = sl.moved := rfl

section
variable (s : State)

/-- An update of a slice that keeps what it has to drain. -/
theorem State.gist_onSlc_same (n : Nat) {f : Slice → Slice} (h : ∀ sl, (f sl).moved = sl.moved) : (s.onSlc n f).gist = s.gist := by
  rw [State.gist_onSlc, h, State.slc_moved, Function.update_eq_self]

@[simp] theorem State.gist_errGone (n l : Nat) : (s.errGone n l).gist = s.gist := s.gist_onSlc_same n fun _ => rfl
@[simp] theorem State.gist_freeMiss (n l : Nat) : (s.freeMiss n l).gist = s.gist := s.gist_onSlc_same n fun _ => rfl

@[simp] theorem State.gist_l1Drop (p l : Nat) : (s.l1Drop p l).gist = s.gist := s.gist_onBlk p _ rfl

@[simp] theorem State.gist_l1Fill (p : Nat) (x : L1Line) : (s.l1Fill p x).gist = s.gist := by
  unfold State.l1Fill
  dsimp only
  split_ifs <;> exact s.gist_setBlk p _ rfl

@[simp] theorem State.gist_dropSharers (n : Nat) (x : Line) : (s.dropSharers n x).gist = s.gist := by
  unfold State.dropSharers
  rw [State.gist_foldl fun t p => t.gist_l1Drop p x.line]
  exact s.gist_inc F.SLC_INVALS n 0 _ rfl

@[simp] theorem State.gist_writeBack (n : Nat) (x : Line) : (s.writeBack n x).gist = s.gist := by
  simp (disch := decide) [State.writeBack]

@[simp] theorem State.gist_slcUe (n l : Nat) : (s.slcUe n l).gist = s.gist := by
  unfold State.slcUe
  dsimp only
  split <;> simp (disch := decide)

@[simp] theorem State.gist_resolveMem (n : Nat) (x : Line) : (s.resolveMem n x).1.gist = s.gist := by
  unfold State.resolveMem
  dsimp only
  split <;> simp (disch := decide)

@[simp] theorem State.gist_evict (n : Nat) (x : Line) : (s.evict n x).gist = s.gist := by
  unfold State.evict
  dsimp only
  rw [State.gist_onSlc_same _ n fun sl => sl.moved_dropLine x.line]
  split
  · simp
  · have hmem := (s.dropSharers n x).gist_resolveMem n x
    split
    case h_1 t _ h => rw [State.gist_of_eq h, hmem, State.gist_dropSharers]
    case h_2 t h => rw [State.gist_inc _ _ _ _ _ rfl, State.gist_of_eq h, hmem, State.gist_dropSharers]
  · simp

@[simp] theorem State.gist_settleForeign (n : Nat) (x : Line) : (s.settleForeign n x).gist = s.gist := by
  simp (disch := decide) [State.settleForeign]

/-! ### Answers -/

@[simp] theorem State.gist_answer (r : Req) (d : BitVec 1024) (fillL1 : Bool) : (s.answer r d fillL1).gist = s.gist := by
  have hresp : State.gist { s with resps := s.resps ++ [⟨r, d⟩] } = s.gist := rfl
  unfold State.answer
  dsimp only
  split
  · split
    · rw [State.gist_l1Fill, hresp]
    · exact hresp
  · exact hresp

theorem State.gist_invs (xs : List InvMsg) : State.gist { s with invs := xs } = s.gist := rfl

@[simp] theorem State.gist_slcWrote (n l : Nat) : (s.slcWrote n l).gist = s.gist := by
  unfold State.slcWrote
  dsimp only
  split <;> simp [State.slc_moved]

@[simp] theorem State.gist_ackWrite (n : Nat) (x : Line) (r : Req) : (s.ackWrite n x r).gist = s.gist := by
  unfold State.ackWrite
  dsimp only
  split
  · simp [State.slc_moved]
  · rw [State.gist_invs]
    simp (disch := decide) [State.slc_moved]

@[simp] theorem State.gist_pinLine (n l owner : Nat) : (s.pinLine n l owner).1.gist = s.gist := by
  unfold State.pinLine
  split
  · rfl
  · dsimp only
    split <;> simp (disch := decide)

@[simp] theorem State.gist_readHit (n : Nat) (x : Line) (r : Req) : (s.readHit n x r).gist = s.gist := by
  unfold State.readHit
  simp [State.slc_moved]

@[simp] theorem State.gist_poisonHit (n : Nat) (r : Req) : (s.poisonHit n r).gist = s.gist := by
  unfold State.poisonHit
  dsimp only
  split <;> simp

@[simp] theorem State.gist_poisonLine (n : Nat) (x : Line) (writer : Option Nat) : (s.poisonLine n x writer).gist = s.gist := by
  unfold State.poisonLine
  simp (disch := decide) [State.slc_moved]

@[simp] theorem State.gist_resolveFailed (n : Nat) (x : Line) : (s.resolveFailed n x).gist = s.gist := by
  unfold State.resolveFailed
  simp (disch := decide) [State.slc_moved]

@[simp] theorem State.gist_lineErr (n : Nat) (x : Line) (reads scrub : Bool) : (s.lineErr n x reads scrub).gist = s.gist := by
  have hgone : (if scrub then s.errGone n x.line else s).gist = s.gist := by split <;> simp
  unfold State.lineErr
  split
  · rfl
  dsimp only
  split
  · split
    · simp (disch := decide) [hgone]
    · rfl
  · simp (disch := decide) [hgone]
  · simp (disch := decide) [hgone]
  · simp
  · simp [State.slc_moved]
  · split
    · rfl
    · split <;> simp [State.slc_moved]

@[simp] theorem State.gist_findVictim (n set fuel : Nat) : (s.findVictim n set fuel).1.gist = s.gist := by
  induction fuel generalizing s with
  | zero => rfl
  | succ fuel ih =>
    unfold State.findVictim
    split
    · split
      · split
        · rw [ih, State.gist_lineErr]
        · split
          · rw [ih, State.gist_resolveFailed, State.gist_resolveMem]
          · rfl
      · rfl
    · rfl

/-! ### A request at a slice (R236 to R244) -/

@[simp] theorem State.gist_recordHit (n l : Nat) : (s.recordHit n l).gist = s.gist := by
  unfold State.recordHit
  split
  · rfl
  · dsimp only
    split <;> simp (disch := decide) [State.slc_moved]

@[simp] theorem State.gist_runAhead (n : Nat) (r : Req) (lo hi : Nat) : (s.runAhead n r lo hi).gist = s.gist := by
  unfold State.runAhead
  refine State.gist_foldl (fun t i => ?_) _ s
  dsimp only
  split
  · exact t.gist_inc F.SLC_RA_DROP_BOUNDARY n 0 _ rfl
  · rfl

@[simp] theorem State.gist_raFrom (n : Nat) (r : Req) (next : Bool) : (s.raFrom n r next).gist = s.gist := by
  unfold State.raFrom
  dsimp only
  split
  · exact s.gist_runAhead n r _ _
  · rfl

/-- A request that takes a miss register keeps the gist where its change of the slice keeps what there is to drain. -/
theorem State.gist_register (n : Nat) (r : Req) (k : MKind) (alloc fresh : Bool) {f : Slice → Slice} (h : ∀ sl, (f sl).moved = sl.moved) :
    (s.register n r k alloc fresh f).1.gist = s.gist := by
  unfold State.register
  dsimp only
  split
  · refine (State.gist_onSlc_same _ n fun sl => ?_).trans ?_
    · exact h sl
    · split <;> split <;> simp (disch := decide)
  · rfl

@[simp] theorem State.gist_register_plain (n : Nat) (r : Req) (k : MKind) (alloc fresh : Bool) : (s.register n r k alloc fresh).1.gist = s.gist :=
  s.gist_register n r k alloc fresh fun _ => rfl

@[simp] theorem State.gist_beginResolve (n : Nat) (x : Line) (r : Req) (fresh : Bool) : (s.beginResolve n x r fresh).1.gist = s.gist := by
  have hreg := s.gist_register n { r with keyh := x.keyh, owner := x.owner } .resolve true fresh
    (f := fun sl => sl.putLine { x with st := .filling }) fun sl => sl.moved_putLine _
  unfold State.beginResolve
  split
  case h_1 t h => rw [State.gist_onMiss, State.gist_of_eq h, hreg]
  case h_2 t h => rw [State.gist_of_eq h, hreg]

@[simp] theorem State.gist_hit (n : Nat) (x : Line) (r : Req) (fresh : Bool) : (s.hit n x r fresh).1.gist = s.gist := by
  have hcount : (if fresh then s.inc F.SLC_HITS n 0 else s).gist = s.gist := by split <;> simp (disch := decide)
  have htouch : ((if fresh then s.inc F.SLC_HITS n 0 else s).onSlc n (fun sl => sl.touch r.line x.way)).gist = s.gist := by
    rw [State.gist_onSlc_same _ n fun sl => sl.moved_touch _ _, hcount]
  unfold State.hit
  dsimp only
  split
  · rfl
  · split
    · rw [State.gist_poisonHit, hcount]
    · simp
    · split
      · rw [State.gist_readHit, hcount]
      · simp
  · split
    · split
      · rw [State.gist_ackWrite, htouch]
      · rw [State.gist_answer, hcount]
    · simp
    · rw [State.gist_ackWrite, htouch]
  · split
    · rw [State.gist_poisonHit, hcount]
    · split
      · rw [State.gist_ackWrite, htouch]
      · simp
    · split
      · rw [State.gist_ackWrite, htouch]
      · simp

@[simp] theorem State.gist_fetchReports (n q : Nat) (ws : List Req) : (s.fetchReports n q ws).gist = s.gist := by
  unfold State.fetchReports
  dsimp only
  split
  · split <;> simp
  · rw [State.gist_foldl fun t e => t.gist_record _, State.gist_report]

@[simp] theorem State.gist_reduceMem (n : Nat) (r : Req) (op : Nat) : (s.reduceMem n r op).gist = s.gist := by
  unfold State.reduceMem
  dsimp only
  split <;> simp (disch := decide)

end

end Sys2Proof.Machine
end

section
/-! PROOFS. What a slice makes of a miss, a fill and a waiting request leaves the gist alone. -/

namespace Sys2Proof.Machine
open Sys2Proof

section
variable (s : State)

/-- The count of a constrained victim choice (R248). -/
theorem State.gist_constrain (n : Nat) (c : Bool) :
    (if c then (s.inc F.SLC_CONSTRAINED n 0).onSlc n (fun sl => { sl with constrained := sl.constrained + 1 }) else s).gist = s.gist := by
  split <;> simp (disch := decide) [State.slc_moved]

@[simp] theorem State.gist_missed (n : Nat) (r : Req) (fresh : Bool) : (s.missed n r fresh).1.gist = s.gist := by
  have hv := s.gist_findVictim n (setOf r.line) 16
  unfold State.missed
  dsimp only
  generalize s.findVictim n (setOf r.line) 16 = q at *
  obtain ⟨t, v⟩ := q
  dsimp only at hv ⊢
  have hreg (u : State) (w : Nat) (pin : Bool) : (u.register n r .fetch true fresh
      (fun sl => (sl.putLine (newLine w r .filling pin)).touch r.line w)).1.gist = u.gist := u.gist_register n r _ _ _ fun _ => rfl
  split
  · split
    · split
      · simp (disch := decide) [hv]
      · split
        · exact hv
        · simp (disch := decide) only [Slice.moved_touch, Slice.moved_putLine, State.gist_onSlc, State.gist_inc, State.gist_pinLine, State.inc_slc,
            State.slc_moved, Function.update_eq_self, Prod.mk.eta]
          split <;> simp [State.gist_constrain, hv]
    · simp (disch := decide) [hv]
  · split
    · simp [hv]
    · simp [hv]
    · split
      · rw [hreg, State.gist_pinLine]
        split <;> simp [State.gist_constrain, hv]
      · exact hv
  · split
    · simp [hv]
    · simp [hv]
    · simp only [State.gist_ackWrite, State.gist_onSlc, State.gist_pinLine, Slice.moved_touch, State.slc_moved, Function.update_eq_self, Prod.mk.eta]
      split <;> simp [State.gist_constrain, hv]
  · split
    · simp [hv]
    · simp [hv]
    · split
      · split
        · rw [hreg, State.gist_pinLine]
          split <;> simp [State.gist_constrain, hv]
        · exact hv
      · split
        · have hfull : (if fresh then t.inc F.SLC_RLIST_FULL n 0 else t).gist = s.gist := by split <;> simp (disch := decide) [hv]
          generalize (if fresh then t.inc F.SLC_RLIST_FULL n 0 else t) = u at *
          split
          · rw [hreg, State.gist_pinLine]
            split <;> simp [State.gist_constrain, hfull]
          · exact hfull
        · simp (disch := decide) only [Slice.moved_touch, State.gist_ackWrite, State.gist_onSlc, State.gist_inc, State.gist_pinLine, State.inc_slc,
            State.slc_moved, Function.update_eq_self, Prod.mk.eta]
          split <;> simp [State.gist_constrain, hv]

@[simp] theorem State.gist_take (n : Nat) (r : Req) (fresh : Bool) : (s.take n r fresh).1.gist = s.gist := by
  unfold State.take
  split
  · dsimp only
    split <;> simp [State.slc_moved]
  split
  · split
    · rfl
    split
    · rfl
    · dsimp only
      rw [State.gist_onMiss]
      have hmerged : (if fresh then s.inc F.SLC_MERGED n 0 else s).gist = s.gist := by split <;> simp (disch := decide)
      split
      case h_1 st _ => cases st <;> simp (disch := decide) [hmerged]
      case h_2 => exact hmerged
  · extract_lets pf s1 s2 wasRec s3
    have h1 : s1.gist = s.gist := by
      unfold s1
      split
      · split <;> simp
      · rfl
    have h2 : s2.gist = s.gist := by
      unfold s2
      split
      · split <;> simp [h1]
      · exact h1
    split
    case h_1 x _ =>
      have h3 : s3.gist = s.gist := by
        unfold s3
        split <;> simp [h2]
      rw [State.gist_hit]
      split <;> simp [h3]
    · have hmissed := s2.gist_missed n r fresh
      split
      case h_1 t h =>
        rw [h] at hmissed
        dsimp only at hmissed ⊢
        split <;> simp [hmissed, h2]
      case h_2 t h =>
        rw [h] at hmissed
        exact hmissed.trans h2

/-! ### Requests that wait (R237, R238) -/

@[simp] theorem State.gist_refuse (n : Nat) (r : Req) : (s.refuse n r).gist = s.gist := by
  have hreqs (t : State) (xs : List Req) : State.gist { t with reqs := xs } = t.gist := rfl
  unfold State.refuse
  dsimp only
  rw [hreqs]
  split <;> simp (disch := decide)

@[simp] theorem State.gist_offer (n : Nat) (r : Req) : (s.offer n r).gist = s.gist := by
  have htake := s.gist_take n r true
  unfold State.offer
  split
  case h_1 t h => rw [← htake, h]
  case h_2 t h => rw [State.gist_refuse, ← htake, h]

@[simp] theorem State.gist_reoffer (n : Nat) (r : Req) : (s.reoffer n r).gist = s.gist := by
  have htake := s.gist_take n r false
  unfold State.reoffer
  split
  case h_1 t h => rw [← htake, h]
  case h_2 t h => rw [State.gist_refuse, ← htake, h]

@[simp] theorem State.gist_serve (n : Nat) (rs : List Req) : (s.serve n rs).gist = s.gist := by
  induction rs generalizing s with
  | nil => rfl
  | cons r rs ih =>
    unfold State.serve
    dsimp only
    rw [ih]
    split
    · split <;> simp
    · simp

@[simp] theorem State.gist_retryVictims (n : Nat) : (s.retryVictims n).gist = s.gist := by
  unfold State.retryVictims
  dsimp only
  rw [State.gist_serve]
  exact s.gist_onSlc_same n fun _ => rfl

@[simp] theorem State.gist_serveBare (n keyh : Nat) (data : BitVec 1024) (rs : List Req) (written : Bool) :
    (s.serveBare n keyh data rs written).gist = s.gist := by
  induction rs generalizing s written with
  | nil => rw [State.serveBare]
  | cons r rs ih =>
    unfold State.serveBare
    split
    · exact ih s written
    · split
      · rw [ih, State.gist_answer]
      · have hread := s.gist_readLine (n / 8) r.line r.keyh
        dsimp only
        split <;> simp [ih, hread]
    · simp [ih]
    · simp [ih]

@[simp] theorem State.gist_fillMiss (n : Nat) (m : Miss) (data : BitVec 1024) (ue : Option Nat) : (s.fillMiss n m data ue).gist = s.gist := by
  have hanswers (rs : List Req) (t : State) : (rs.foldl (fun (s : State) r => s.answer r 0 false) t).gist = t.gist :=
    State.gist_foldl (fun t r => t.gist_answer r 0 false) rs t
  unfold State.fillMiss
  extract_lets s1 old s4
  have h1 : s1.gist = s.gist := s.gist_freeMiss n m.line
  split
  · extract_lets s2 s3
    have h2 : s2.gist = s.gist := by
      unfold s2
      split <;> simp [h1]
    have h3 : s3.gist = s.gist := by
      unfold s3
      cases old with
      | none => exact h2
      | some x =>
        dsimp only
        split
        · rw [State.gist_onSlc_same _ n fun sl => sl.moved_dropLine _, h2]
        · exact h2
    simp only [State.gist_retryVictims, State.gist_serve]
    exact (hanswers _ s3).trans h3
  · have h4 : s4.gist = s.gist := by
      unfold s4
      split
      · split
        · simp [State.slc_moved, h1]
        · exact h1
      · exact h1
    cases old with
    | none => simp [h4]
    | some x => simp [State.slc_moved, h4]

@[simp] theorem State.gist_resolveMiss (n : Nat) (m : Miss) : (s.resolveMiss n m).gist = s.gist := by
  unfold State.resolveMiss
  extract_lets s1
  have h1 : s1.gist = s.gist := by simp [s1]
  split
  · simp [h1]
  case h_2 x _ =>
    have hmem := s1.gist_resolveMem n x
    rw [State.gist_retryVictims, State.gist_serve, State.gist_dropIdle]
    split
    case h_1 t d h =>
      rw [State.gist_onSlc_same _ n fun sl => sl.moved_putLine _, State.gist_dropSharers, State.gist_of_eq h, hmem, h1]
    case h_2 t h => rw [State.gist_resolveFailed, State.gist_of_eq h, hmem, h1]

@[simp] theorem State.gist_settleOne (n l : Nat) : (s.settleOne n l).gist = s.gist := by
  unfold State.settleOne
  split
  · rfl
  split
  · simp
  · dsimp only
    split
    · simp
    · split <;> simp

@[simp] theorem State.gist_settleSlice (n : Nat) : (s.settleSlice n).gist = s.gist := State.gist_foldl (fun t l => t.gist_settleOne n l) _ s

@[simp] theorem State.gist_settleLine (n l : Nat) : (s.settleLine n l).gist = s.gist := by
  unfold State.settleLine
  split <;> simp

@[simp] theorem State.gist_makeRoom (n : Nat) (r : Req) : (s.makeRoom n r).gist = s.gist := by
  unfold State.makeRoom
  split
  · split <;> simp
  · split <;> simp

@[simp] theorem State.gist_settleInv (n id : Nat) : (s.settleInv n id).gist = s.gist := by
  unfold State.settleInv
  extract_lets ms s1 s2
  have h2 : s2.gist = s.gist := (State.gist_invs s1 _).trans (State.gist_foldl (fun t m => t.gist_l1Drop m.blk m.line) ms s)
  split
  · exact h2
  · simp [State.slc_moved, h2]

end

end Sys2Proof.Machine
end

section
/-! PROOFS. What the steps of a tick gap change beside the contexts leaves the gist alone. -/

namespace Sys2Proof.Machine
open Sys2Proof

/-- An entry of a map whose values are all changed. -/
theorem SMap.find_map {α β : Type} (f : α → β) (k : Nat) (m : SMap α) :
    SMap.find k (m.map (fun e => (e.1, f e.2)) : SMap β) = (SMap.find k m).map f := by
  induction m with
  | nil => rfl
  | cons e m ih =>
    simp only [List.map_cons, SMap.find]
    split
    · rfl
    · exact ih

theorem Slice.moved_addSweep (sl : Slice) (w : Sweep) : Slice.moved { sl with sweeps := sl.sweeps ++ [w] } = sl.moved := rfl

section
variable (s : State)

/-! ### The fabric (R387 to R397) -/

@[simp] theorem State.gist_portLose (p st : Nat) : (s.portLose p st).gist = s.gist := by
  unfold State.portLose
  dsimp only
  rw [State.gist_foldl fun t k => t.gist_sendCtl k]
  simp (disch := decide) only [State.gist_wr, State.gist_onFport]
  split <;> simp

@[simp] theorem State.gist_setStage (i j : Nat) (x : Stage) : (s.setStage i j x).gist = s.gist := by
  simp (disch := decide) [State.setStage]

@[simp] theorem State.gist_onSender (i : Nat) (f : Sender → Sender) : (s.onSender i f).gist = s.gist := rfl

@[simp] theorem State.gist_freeSlot (i j : Nat) : (s.freeSlot i j).gist = s.gist := by
  simp [State.freeSlot]

theorem State.gist_onConsuming {f : State → Nat → Nat → State} (h : ∀ t i j, (f t i j).gist = t.gist) : (s.onConsuming f).gist = s.gist :=
  State.gist_foldl (fun t (e : Nat × Nat) => h t e.1 e.2) _ s

@[simp] theorem State.gist_takeLate (i : Nat) : (s.takeLate i).gist = s.gist := by
  refine State.gist_foldl (fun t f => ?_) _ s
  dsimp only
  split <;> simp

@[simp] theorem State.gist_makeVisible : s.makeVisible.gist = s.gist := by
  refine (State.gist_foldl (fun t e => ?_) _ _).trans (State.gist_forN (fun t i => t.gist_takeLate i) 16 s)
  dsimp only
  split <;> simp

@[simp] theorem State.gist_sendLimits : s.sendLimits.gist = s.gist := by
  unfold State.sendLimits
  split
  · rfl
  · refine State.gist_forN (fun t i => ?_) _ s
    split <;> simp

@[simp] theorem State.gist_sendTime (frame : Nat) : (s.sendTime frame).gist = s.gist := by
  unfold State.sendTime
  split
  · refine State.gist_foldl (fun t p => ?_) _ s
    split <;> simp
  · rfl

/-! ### Mailboxes and keys (R265, R266, R376, R473) -/

@[simp] theorem State.gist_mbDone (m st total : Nat) (resp : List Byte) : (s.mbDone m st total resp).gist = s.gist := by
  unfold State.mbDone
  dsimp only
  split <;> simp (disch := decide)

@[simp] theorem State.gist_mbKeep (m st : Nat) (resp : List Byte) : (s.mbKeep m st resp).gist = s.gist := by
  simp [State.mbKeep]

@[simp] theorem State.gist_moveAuth : s.moveAuth.gist = s.gist := by
  unfold State.moveAuth
  split <;> simp (disch := decide)

theorem State.gist_keys (ks : SMap (BitVec 512)) : State.gist { s with keys := ks } = s.gist := rfl

@[simp] theorem State.gist_dropKey (h : Nat) : (s.dropKey h).gist = s.gist := by
  unfold State.dropKey
  rw [State.gist_keys, State.gist_forN]
  intro t g
  simp

@[simp] theorem State.gist_setKey (h : Nat) (k : BitVec 512) : (s.setKey h k).gist = s.gist := by
  unfold State.setKey
  rw [State.gist_keys, State.gist_dropKey]

@[simp] theorem State.gist_startSweep (w : Sweep) : (s.startSweep w).gist = s.gist :=
  State.gist_foldl (fun t n => t.gist_onSlc_same n fun sl => sl.moved_addSweep w) _ s

@[simp] theorem State.gist_raiseInSeq (i : Intake) : (s.raiseInSeq i).gist = s.gist := by
  refine State.gist_foldl (fun t x => ?_) _ s
  split <;> rfl

@[simp] theorem State.gist_attestReport (nonce : List Byte) (ns : List Nat) : (s.attestReport nonce ns).1.gist = s.gist := by
  unfold State.attestReport
  extract_lets hdr body
  exact s.gist_sign body

@[simp] theorem State.gist_attestAll : s.attestAll.gist = s.gist := by
  unfold State.attestAll
  dsimp only
  rw [State.gist_foldl, State.gist_onLater]
  intro t m
  simp

@[simp] theorem State.gist_refuseCmd (op n reason : Nat) : (s.refuseCmd op n reason).gist = s.gist := by
  simp (disch := decide) [State.refuseCmd]

/-! ### Channels (R59, R63, R364, R369) -/

@[simp] theorem State.gist_dueAsk (h : Nat) : (s.dueAsk h).gist = s.gist := by
  unfold State.dueAsk
  dsimp only
  split <;> rfl

@[simp] theorem State.gist_setFetched (h v : Nat) : (s.setFetched h v).gist = s.gist := by
  simp (disch := decide) [State.setFetched]

@[simp] theorem State.gist_consume (i : Intake) (start : Nat) : (s.consume i start).gist = s.gist := by
  unfold State.consume
  exact (State.gist_foldl (fun t (x : Sub) => t.gist_inc F.CTX_LATE_COUNT_COUNT 0 x.chan 1 rfl) _ _).trans
    (State.gist_foldl (fun t (e : Nat × Nat) => t.gist_wr F.CH_HEAD e.1 0 _ rfl) _ s)

@[simp] theorem State.gist_firstHalf (frame : Nat) (x : Sub) : (s.firstHalf frame x).gist = s.gist := rfl

@[simp] theorem State.gist_readTail (h : Nat) : (s.readTail h).gist = s.gist := by
  unfold State.readTail
  split <;> simp (disch := decide)

@[simp] theorem State.gist_backlog (h : Nat) : (s.backlog h).gist = s.gist := by
  unfold State.backlog
  extract_lets head ms age s1
  have h1 : s1.gist = s.gist := by
    unfold s1
    split <;> simp
  split
  · exact h1
  · rw [State.gist_wr _ _ _ _ _ rfl, h1]

/-! ### Lines (R245, R248) -/

@[simp] theorem State.gist_dropListed (n l : Nat) : (s.dropListed n l).gist = s.gist := by
  unfold State.dropListed
  split
  · split
    · simp [State.slc_moved]
    · rfl
  · rfl

@[simp] theorem State.gist_walkLists (complete : Bool) : (s.walkLists complete).gist = s.gist := by
  refine State.gist_foldl (fun t n => ?_) _ s
  dsimp only
  refine (State.gist_onSlc_same _ n fun _ => ?_).trans ?_
  · rfl
  · split
    · rfl
    · exact State.gist_foldl (fun t l => t.gist_dropListed n l) _ t

@[simp] theorem State.gist_thrash : s.thrash.gist = s.gist := by
  refine State.gist_foldl (fun t n => ?_) _ s
  dsimp only
  refine (State.gist_onSlc_same _ n fun _ => ?_).trans ?_
  · rfl
  · split <;> simp

/-! ### Sites, fields and domains (R15, R218, R250, R319, R321, R415, R421) -/

@[simp] theorem State.gist_wireFails (field wire : Nat) : (s.wireFails field wire).gist = s.gist := by
  unfold State.wireFails
  split <;> simp (disch := decide)

@[simp] theorem State.gist_logLater (r : LogRec) : (s.logLater r).gist = s.gist := rfl

@[simp] theorem State.gist_capsChanged : s.capsChanged.gist = s.gist := State.gist_wrAt_of_key (by decide) s _

@[simp] theorem State.gist_setSite (p v : Nat) : (s.setSite p v).gist = s.gist := s.gist_onBlk p _ rfl

@[simp] theorem State.gist_setMap (d i st valid : Nat) : (s.setMap d i st valid).gist = s.gist := by
  simp (disch := decide) [State.setMap]

@[simp] theorem State.gist_takeSpare (d i p q : Nat) : (s.takeSpare d i p q).gist = s.gist := by
  unfold State.takeSpare
  extract_lets _ s1 s2 s3 s4
  have h1 : s1.gist = s.gist := (State.gist_onBlk _ q _ rfl).trans (s.gist_setMap d i _ 1)
  have h2 : s2.gist = s.gist := (State.gist_foldl (fun t b => by simp (disch := decide)) _ s1).trans h1
  have h4 : s4.gist = s.gist := by simp (disch := decide) [s4, s3, h2]
  split
  · exact h4
  · rw [State.gist_wrAt _ _ _ _ _ _ rfl, h4]

@[simp] theorem State.gist_repack (d : Nat) : (s.repack d).gist = s.gist := by
  refine State.gist_forN (fun t i => ?_) 32 s
  split <;> simp

@[simp] theorem State.gist_retireSite (p page : Nat) : (s.retireSite p page).gist = s.gist := by
  unfold State.retireSite
  dsimp only
  split
  · rfl
  · rw [State.gist_event, State.gist_logLater, State.gist_capsChanged, State.gist_wrAt _ _ _ _ _ _ rfl]
    split
    · simp (disch := decide)
    · split <;> simp (disch := decide)

@[simp] theorem State.gist_sliceOut (n m : Nat) : (s.sliceOut n m).gist = s.gist := by
  unfold State.sliceOut
  dsimp only
  rw [State.gist_capsChanged]
  split
  · simp (disch := decide)
  · rw [State.gist_foldl]
    · simp (disch := decide)
    · intro t e
      exact t.gist_wr F.SLC_BUCKET_MAP_SLICE _ _ _ rfl

@[simp] theorem State.gist_halfSlice (n wire : Nat) : (s.halfSlice n wire).gist = s.gist := by
  simp (disch := decide) [State.halfSlice]

@[simp] theorem State.gist_halfSite (p field wire : Nat) : (s.halfSite p field wire).gist = s.gist := by
  unfold State.halfSite
  rw [State.gist_event, State.gist_logLater, State.gist_wr _ _ _ _ _ rfl, State.gist_onBlk _ _ _ rfl]

@[simp] theorem State.gist_groupTests (bad : List (Nat × Nat)) : (s.groupTests bad).gist = s.gist := by
  unfold State.groupTests
  exact (State.gist_foldl (fun t (b : Nat × Nat) => t.gist_wireFails b.1 b.2) _ _).trans
    (State.gist_foldl (fun t (b : Nat × Nat) => t.gist_inc F.BOND_GROUP_TESTS b.1 0 1 rfl) _ _)

@[simp] theorem State.gist_darken (d : Nat) : (s.darken d).gist = s.gist := by
  have hsites (t : State) (st : Nat) : (if (t.blk (34 * d + st)).site < 2 then (t.setSite (34 * d + st) 3).wrAt .blk (34 * d + st) F.HDR_CTRL_ENABLE 0 0
      else t).gist = t.gist := by split <;> simp (disch := decide)
  unfold State.darken
  dsimp only
  rw [State.gist_capsChanged, State.gist_onDom, State.gist_setEvt, State.gist_wr _ _ _ _ _ rfl, State.gist_setEvt, State.gist_wr _ _ _ _ _ rfl,
    State.gist_wr _ _ _ _ _ rfl, State.gist_forN fun t i => t.gist_setMap d i 0 0, State.gist_forN hsites]

@[simp] theorem State.gist_onMx (p : Nat) (f : Matrix → Matrix) : (s.onMx p f).gist = s.gist := s.gist_onBlk p _ rfl

@[simp] theorem State.gist_warmUp : s.warmUp.gist = s.gist := by
  unfold State.warmUp
  dsimp only
  split
  · rfl
  · rw [State.gist_foldl, State.gist_onPwr]
    intro t p
    split
    · split <;> simp (disch := decide)
    · rfl

@[simp] theorem State.gist_domEnter (n st : Nat) : (s.domEnter n st).gist = s.gist := by
  unfold State.domEnter
  dsimp only
  split <;> simp (disch := decide)

@[simp] theorem State.gist_domStart (n : Nat) (d : Dom) : (s.domStart n d).gist = s.gist := by
  unfold State.domStart
  dsimp only
  split
  · rw [State.gist_forN fun t p => t.gist_portLose p 0]
    simp (disch := decide)
  · simp (disch := decide)

@[simp] theorem State.gist_applyDom (n req : Nat) : (s.applyDom n req).gist = s.gist := by
  unfold State.applyDom
  dsimp only
  split_ifs <;> simp (disch := decide)

@[simp] theorem State.gist_applyDoms : s.applyDoms.gist = s.gist := by
  unfold State.applyDoms
  dsimp only
  rw [State.gist_foldl fun t n => t.gist_applyDom n _, State.gist_onLater]

@[simp] theorem State.gist_applyPl : s.applyPl.gist = s.gist := by
  unfold State.applyPl
  dsimp only
  split_ifs <;> simp (disch := decide)

@[simp] theorem State.gist_reportReady : s.reportReady.gist = s.gist := by
  have hready (t : State) : (t.wr F.TOP_STATUS_READY 0 0 1).gist = t.gist := State.gist_wrAt_of_key (by decide) t 1
  unfold State.reportReady
  split <;> simp (disch := decide) [hready]

/-! ### Fields in effect (R9) -/

/-- No field in effect is the time of the tick. -/
theorem tPairs_ne_tickTime : ∀ e ∈ tPairs, e.2.page.aboveTick = true
    ∨ e.2.page = .tick ∧ e.2.stride = 0 ∧ e.2.bstride = 0 ∧ (0x1000 + e.2.off) * 64 + e.2.lo ≠ 0x1110 * 64 := by
  decide

theorem keyAt_tPairs_ne_tickTime {e : Fld × Fld} (he : e ∈ tPairs) (u i : Nat) : keyAt .tick 0 F.TICK_TICK_TIME_TIME 0 ≠ keyAt e.2.page u e.2 i := by
  rcases tPairs_ne_tickTime e he with h | ⟨hpage, hstride, hbstride, hne⟩
  · exact keyAt_ne_tickTime h u e.2 i
  · rw [keyAt_tickTime, keyAt, hpage, hstride, hbstride]
    simp only [Nat.zero_mul, Nat.add_zero, pageBase]
    exact hne.symm

theorem tEff_ne_tickTime {k e : Nat} (h : tEff k = some e) : keyAt .tick 0 F.TICK_TICK_TIME_TIME 0 ≠ e := by
  unfold tEff at h
  split at h
  · cases h
  · obtain ⟨p, hp, hkey⟩ := List.exists_of_findSome?_eq_some h
    obtain ⟨-, hkey⟩ := Option.ite_none_right_eq_some.mp hkey
    rw [← Option.some.inj hkey]
    exact keyAt_tPairs_ne_tickTime hp _ _

@[simp] theorem State.gist_applyT : s.applyT.gist = s.gist := by
  refine State.gist_foldl (fun t e => ?_) _ s
  dsimp only
  split
  case h_1 k hk =>
    refine State.gist_congr ?_ rfl rfl rfl rfl
    simp only [State.rd, State.rdAt]
    rw [SMap.find_put_ne]
    exact tEff_ne_tickTime hk
  · rfl

/-! ### Steps 4 and 5 (R150, R216) -/

@[simp] theorem State.gist_step4 : s.step4.gist = s.gist := State.gist_foldl (fun t p => t.gist_onBlk p _ rfl) _ s

@[simp] theorem State.gist_spOwnApply (p b : Nat) : (s.spOwnApply p b).gist = s.gist := by
  simp (disch := decide) [State.spOwnApply]

@[simp] theorem State.gist_handover (p : Nat) (c : Option Nat) : (s.handover p c).gist = s.gist := by
  unfold State.handover
  extract_lets s1 own s2
  have h1 : s1.gist = s.gist := State.gist_forN (fun t b => by split <;> simp) 16 s
  have hown (c : Nat) (b : Block) : (own c b).q = b.q := by
    unfold own
    split <;> rfl
  have h2 : s2.gist = s.gist := by
    unfold s2
    cases c with
    | none => exact h1
    | some c => exact (s1.gist_onBlk p _ (hown c _)).trans h1
  split
  · exact h2
  · rw [State.gist_wr _ _ _ _ _ rfl, h2]

@[simp] theorem State.gist_step5 (c : Option Nat) : (s.step5 c).gist = s.gist := State.gist_forN (fun t p => t.gist_handover p c) nBlks s

end

end Sys2Proof.Machine
end

section
/-! PROOFS. What the tick gap keeps of the contexts: the relations that its steps keep, and the units that read and write memory under them. -/

namespace Sys2Proof.Machine
open Sys2Proof

/-! ### Outlines: the changes that give a slice buckets to drain -/

theorem State.outline_of_gist {s t : State} (h : t.gist = s.gist) : t.outline = s.outline := congrArg Prod.fst h

theorem State.outline_foldl {α : Type} {f : State → α → State} (h : ∀ s a, (f s a).outline = s.outline) (xs : List α) (s : State) :
    (xs.foldl f s).outline = s.outline := by
  induction xs generalizing s with
  | nil => rfl
  | cons x xs ih => rw [List.foldl_cons, ih, h]

theorem State.outline_retireSlice (s : State) (n page : Nat) : (s.retireSlice n page).outline = s.outline := by
  unfold State.retireSlice
  dsimp only
  split
  · rfl
  · rw [State.outline_of_gist (State.gist_event _ _ _ _ _ _), State.outline_of_gist (State.gist_logLater _ _), State.outline_onSlc,
      State.outline_of_gist (State.gist_sliceOut _ _ _)]

theorem State.outline_noSpare (s : State) (field wire : Nat) : (s.noSpare field wire).outline = s.outline := by
  unfold State.noSpare
  dsimp only
  split
  · split
    · exact s.outline_retireSlice _ _
    · exact State.outline_of_gist (s.gist_halfSlice _ _)
  · split
    · exact State.outline_of_gist (s.gist_retireSite _ _)
    · exact State.outline_of_gist (s.gist_halfSite _ _ _)

theorem State.outline_applyWire (s : State) (field wire : Nat) : (s.applyWire field wire).outline = s.outline := by
  unfold State.applyWire
  extract_lets s1 s2
  have h2 : s2.gist = s.gist := by
    refine (State.gist_forN (fun t i => ?_) 16 s1).trans (s.gist_wr F.BOND_PENDING field 0 0 rfl)
    split <;> simp (disch := decide)
  split
  · refine State.outline_of_gist (Eq.trans ?_ h2)
    simp (disch := decide)
  · rw [State.outline_noSpare, State.outline_of_gist h2]

theorem State.outline_rewire (s : State) : s.rewire.outline = s.outline := by
  unfold State.rewire
  dsimp only
  rw [State.outline_foldl fun t d => State.outline_of_gist (t.gist_darken d), State.outline_foldl fun t n => t.outline_retireSlice n _,
    State.outline_foldl fun t p => State.outline_of_gist (t.gist_retireSite p _)]
  exact State.outline_foldl (fun t (w : Nat × Nat) => t.outline_applyWire w.1 w.2) _ _

/-! ### Relations between two states of a gap -/

/-- A step keeps the time of the tick, the context chosen, and whether a frame runs; queues that are empty stay so. -/
structure State.KeepsTick (s t : State) : Prop where
  tickTime : t.rd F.TICK_TICK_TIME_TIME = s.rd F.TICK_TICK_TIME_TIME
  chosen : t.plaza.choice.map Choice.ctx = s.plaza.choice.map Choice.ctx
  running : t.plaza.run.isSome = s.plaza.run.isSome
  idle : (∀ p, (s.blk p).q = Queues.reset) → ∀ p, (t.blk p).q = Queues.reset

/-- What step 1 decides of the context of an ended frame (R42, R45, R54). -/
def Ctx.vital (c : Ctx) : Nat × Nat × Nat × Bool × Nat × Bool := (c.state, c.cause, c.stopFrame, c.faultAtOverrun, c.replays, c.replayPending)

/-- Beside that, a step keeps the context commands, and what was decided of context n. -/
structure State.KeepsCtx (n : Nat) (s t : State) : Prop extends State.KeepsTick s t where
  cmds : t.plaza.cmds = s.plaza.cmds
  vital : (t.ctx n).vital = (s.ctx n).vital

/-- Beside that, where no slice drains a bucket none comes to, and no kill of context n falls due (R251). -/
structure State.KeepsDue (n : Nat) (s t : State) : Prop extends State.KeepsCtx n s t where
  due : (∀ k, (s.slc k).moved = []) → (∀ k, (t.slc k).moved = []) ∧ (t.ctx n).killDue = (s.ctx n).killDue

section
variable {n : Nat} {s t u : State}

theorem State.KeepsTick.refl (s : State) : State.KeepsTick s s := ⟨rfl, rfl, rfl, id⟩
theorem State.KeepsTick.trans (h : State.KeepsTick s t) (k : State.KeepsTick t u) : State.KeepsTick s u :=
  ⟨k.tickTime.trans h.tickTime, k.chosen.trans h.chosen, k.running.trans h.running, fun hs => k.idle (h.idle hs)⟩

theorem State.KeepsCtx.refl (n : Nat) (s : State) : State.KeepsCtx n s s := ⟨.refl s, rfl, rfl⟩
theorem State.KeepsCtx.trans (h : State.KeepsCtx n s t) (k : State.KeepsCtx n t u) : State.KeepsCtx n s u :=
  ⟨h.toKeepsTick.trans k.toKeepsTick, k.cmds.trans h.cmds, k.vital.trans h.vital⟩

theorem State.KeepsDue.refl (n : Nat) (s : State) : State.KeepsDue n s s := ⟨.refl n s, fun h => ⟨h, rfl⟩⟩
theorem State.KeepsDue.trans (h : State.KeepsDue n s t) (k : State.KeepsDue n t u) : State.KeepsDue n s u :=
  ⟨h.toKeepsCtx.trans k.toKeepsCtx, fun hs => ⟨(k.due (h.due hs).1).1, (k.due (h.due hs).1).2.trans (h.due hs).2⟩⟩

theorem State.KeepsCtx.of_outline (h : t.outline = s.outline) : State.KeepsCtx n s t := by
  have hctx : t.ctx n = s.ctx n := congrArg (fun o => o.ctxs.get n Ctx.reset) h
  have hq : ∀ p, (t.blk p).q = (s.blk p).q := congrFun (congrArg Outline.queues h)
  exact ⟨⟨congrArg Outline.tickTime h, congrArg (fun o => o.choice.map Choice.ctx) h, congrArg Outline.running h, fun hs p => (hq p).trans (hs p)⟩,
    congrArg Outline.cmds h, congrArg Ctx.vital hctx⟩

theorem State.ctx_of_outline (h : t.outline = s.outline) (n : Nat) : t.ctx n = s.ctx n := congrArg (fun o => o.ctxs.get n Ctx.reset) h

theorem State.KeepsDue.of_gist (h : t.gist = s.gist) : State.KeepsDue n s t := by
  have hmoved : ∀ k, (t.slc k).moved = (s.slc k).moved := congrFun (congrArg Prod.snd h)
  exact ⟨.of_outline (State.outline_of_gist h),
    fun hs => ⟨fun k => (hmoved k).trans (hs k), congrArg Ctx.killDue (State.ctx_of_outline (State.outline_of_gist h) n)⟩⟩

theorem State.KeepsCtx.state (h : State.KeepsCtx n s t) : (t.ctx n).state = (s.ctx n).state := congrArg Prod.fst h.vital

/-- After a step that keeps the gist. -/
theorem State.KeepsDue.gist (h : State.KeepsDue n s t) (k : u.gist = t.gist) : State.KeepsDue n s u := h.trans (.of_gist k)

theorem State.KeepsCtx.gist (h : State.KeepsCtx n s t) (k : u.gist = t.gist) : State.KeepsCtx n s u := h.trans (KeepsDue.of_gist k).toKeepsCtx

theorem State.KeepsTick.gist (h : State.KeepsTick s t) (k : u.gist = t.gist) : State.KeepsTick s u :=
  h.trans (KeepsDue.of_gist (n := 0) k).toKeepsTick

/-- A change of context m, which context n survives. -/
theorem State.KeepsDue.onCtx (h : State.KeepsDue n s t) (m : Nat) {f : Ctx → Ctx}
    (hf : m = n → (f (t.ctx m)).vital = (t.ctx m).vital ∧ (f (t.ctx m)).killDue = (t.ctx m).killDue) : State.KeepsDue n s (t.onCtx m f) := by
  have hctx : ((t.onCtx m f).ctx n).vital = (t.ctx n).vital ∧ ((t.onCtx m f).ctx n).killDue = (t.ctx n).killDue := by
    by_cases hm : m = n
    · rw [← hm, State.onCtx_ctx_same]
      exact hf hm
    · rw [State.onCtx_ctx_ne _ _ _ _ (Ne.symm hm)]
      exact ⟨rfl, rfl⟩
  exact h.trans ⟨⟨⟨rfl, rfl, rfl, id⟩, rfl, hctx.1⟩, fun hs => ⟨hs, hctx.2⟩⟩

theorem State.KeepsTick.onCtx (h : State.KeepsTick s t) (m : Nat) (f : Ctx → Ctx) : State.KeepsTick s (t.onCtx m f) :=
  h.trans ⟨rfl, rfl, rfl, id⟩

/-- A change of the Plaza beside the choice, the commands and the run. -/
theorem State.KeepsDue.onPlaza (h : State.KeepsDue n s t) {f : Plaza → Plaza} (hchosen : (f t.plaza).choice.map Choice.ctx = t.plaza.choice.map Choice.ctx)
    (hrun : (f t.plaza).run.isSome = t.plaza.run.isSome) (hcmds : (f t.plaza).cmds = t.plaza.cmds) : State.KeepsDue n s (t.onPlaza f) :=
  h.trans ⟨⟨⟨rfl, hchosen, hrun, id⟩, hcmds, rfl⟩, fun hs => ⟨hs, rfl⟩⟩

theorem State.KeepsDue.foldl {α : Type} {f : State → α → State} {xs : List α} (h : ∀ u, ∀ a ∈ xs, State.KeepsDue n u (f u a)) (k : State.KeepsDue n s t) :
    State.KeepsDue n s (xs.foldl f t) := by
  induction xs generalizing t with
  | nil => exact k
  | cons x xs ih => exact ih (fun u a ha => h u a (.tail _ ha)) (k.trans (h t x (.head _)))

theorem State.KeepsTick.foldl {α : Type} {f : State → α → State} {xs : List α} (h : ∀ u a, State.KeepsTick u (f u a)) (k : State.KeepsTick s t) :
    State.KeepsTick s (xs.foldl f t) := by
  induction xs generalizing t with
  | nil => exact k
  | cons x xs ih => exact ih (k.trans (h t x))

end

/-! ### Accesses to memory (R231, R251) -/

theorem State.gist_resps (s : State) (xs : List Resp) : State.gist { s with resps := xs } = s.gist := rfl
theorem State.gist_reqs (s : State) (xs : List Req) : State.gist { s with reqs := xs } = s.gist := rfl

section
variable (n : Nat) (s : State)

/-- A lost line makes a kill due at most. -/
theorem State.keepsCtx_loseLine (m : Nat) (x : Line) : State.KeepsCtx n s (s.loseLine m x) := by
  unfold State.loseLine
  extract_lets s1 writer s2 s3
  have h2 : State.KeepsCtx n s s2 := (KeepsDue.of_gist (by simp [s2, s1])).toKeepsCtx
  clear_value s2
  have h3 : State.KeepsCtx n s s3 := by
    unfold s3
    cases writer with
    | none => exact h2
    | some c =>
      refine h2.trans ⟨⟨rfl, rfl, rfl, id⟩, rfl, ?_⟩
      by_cases hc : n = c
      · rw [hc, State.onCtx_ctx_same]
        rfl
      · rw [State.onCtx_ctx_ne _ _ _ _ hc]
  exact h3.trans (.of_outline rfl)

theorem State.keepsCtx_drainLine (m : Nat) (unreadable : List Nat) (x : Line) : State.KeepsCtx n s (s.drainLine m unreadable x) := by
  unfold State.drainLine
  split
  · exact s.keepsCtx_loseLine n m x
  · have herr : State.KeepsCtx n s (s.lineErr m x true false) := (KeepsDue.of_gist (s.gist_lineErr m x true false)).toKeepsCtx
    dsimp only
    split
    · exact herr
    · split
      · exact herr.trans (State.keepsCtx_loseLine n _ m _)
      · exact herr.gist (State.gist_evict _ m _)

/-- A drain takes lines only where a slice has buckets to drain. -/
theorem State.drainer_eq_none (h : ∀ k, (s.slc k).moved = []) (l : Nat) : s.drainer l = none := by
  unfold State.drainer
  split
  · rfl
  · rw [List.find?_eq_none]
    intro k _
    simp [h k]

theorem State.keepsDue_drained1 (l : Nat) : State.KeepsDue n s (s.drained1 l) := by
  unfold State.drained1
  split
  · exact .refl n s
  case h_2 m hm =>
    refine ⟨?_, fun hs => ?_⟩
    · have hset : State.KeepsCtx n s (s.settleLine m l) := (KeepsDue.of_gist (s.gist_settleLine m l)).toKeepsCtx
      dsimp only
      split
      · exact hset.trans (State.keepsCtx_drainLine n _ m [] _)
      · exact hset
    · rw [s.drainer_eq_none hs l] at hm
      cases hm

theorem State.keepsDue_access (r : Req) : State.KeepsDue n s (s.access r).1 := by
  unfold State.access
  split
  · exact .refl n s
  case h_2 m _ =>
    extract_lets r' s1 s2 s3 s4
    have h1 : State.KeepsDue n s s1 := .of_gist rfl
    have h4 : State.KeepsDue n s s4 := (h1.trans (s1.keepsDue_drained1 n r'.line)).gist (by simp [s4, s3, s2])
    split
    · exact h4.gist (s4.gist_resps _)
    · exact h4.gist (s4.gist_reqs _)

theorem State.KeepsDue.foldl_fst {α β : Type} {n : Nat} {s : State} {f : State × β → α → State × β} (h : ∀ p a, State.KeepsDue n p.1 (f p a).1) (xs : List α)
    (p : State × β) (k : State.KeepsDue n s p.1) : State.KeepsDue n s (xs.foldl f p).1 := by
  induction xs generalizing p with
  | nil => exact k
  | cons x xs ih => exact ih _ (k.trans (h p x))

theorem State.keepsDue_readBytes (src : Src) (owner h : Nat) (ctx : Option Nat) (a k part : Nat) :
    State.KeepsDue n s (s.readBytes src owner h ctx a k part).1 := by
  refine KeepsDue.foldl_fst (fun p x => ?_) _ _ (.refl n s)
  exact State.keepsDue_access n p.1 _

theorem State.keepsDue_writeBytes (src : Src) (op : ROp) (owner h : Nat) (ctx : Option Nat) (shadow : Bool) (a : Nat) (bs : List Byte) (part : Nat) :
    State.KeepsDue n s (s.writeBytes src op owner h ctx shadow a bs part) := by
  refine KeepsDue.foldl (fun u x _ => ?_) (.refl n s)
  exact State.keepsDue_access n u _

theorem State.keepsDue_hostMem (a k : Nat) : State.KeepsDue n s (s.hostMem a k).1 := s.keepsDue_readBytes n .engine _ _ none a k 2

theorem State.keepsDue_regionTable (c : Ctx) : State.KeepsDue n s (s.regionTable c).1 := by
  unfold State.regionTable
  dsimp only
  split
  · exact .refl n s
  · exact s.keepsDue_hostMem n _ _

theorem State.keepsDue_container (c : Ctx) : State.KeepsDue n s (s.container c).1 := by
  have hhead := s.keepsDue_hostMem n (c.num 0x010 8) 64
  unfold State.container
  dsimp only
  generalize s.hostMem (c.num 0x010 8) 64 = p at *
  obtain ⟨t, h⟩ := p
  dsimp only at hhead ⊢
  split
  · have hbody := hhead.trans (t.keepsDue_hostMem n (c.num 0x010 8 + 64) (bytesNum h 8 4))
    generalize t.hostMem (c.num 0x010 8 + 64) (bytesNum h 8 4) = q at *
    split <;> exact hbody
  · exact hhead

theorem State.keepsDue_prepare (m : Nat) (fromEmpty : Bool) (meas : BitVec 384) : State.KeepsDue n s (s.prepare m fromEmpty meas).1 := by
  have hcontainer := s.keepsDue_container n (s.ctx m)
  unfold State.prepare
  dsimp only
  split
  · exact .refl n s
  split
  · exact .refl n s
  split
  case h_1 t h => rwa [h] at hcontainer
  case h_2 t prog meas h =>
    rw [h] at hcontainer
    have htable := hcontainer.trans (t.keepsDue_regionTable n (s.ctx m))
    generalize t.regionTable (s.ctx m) = q at *
    split
    · exact htable
    split
    · exact htable
    split
    · exact htable
    · exact htable.gist (State.gist_newKey _)

/-! ### Intakes (R63, R317) -/

theorem State.keepsDue_discardIntake (i : Intake) : State.KeepsDue n s (s.discardIntake i) := by
  refine (KeepsDue.of_gist (State.gist_foldl (fun t (e : Nat × Nat) => t.gist_setFetched e.1 e.2) _ s)).onCtx i.ctx fun _ => ?_
  exact ⟨rfl, rfl⟩

theorem State.keepsDue_discardChoice : State.KeepsDue n s s.discardChoice := by
  have hchoice (i : Intake) : (s.discardIntake i).plaza.choice = s.plaza.choice :=
    congrArg Outline.choice (State.outline_of_gist (State.gist_foldl (fun t (e : Nat × Nat) => t.gist_setFetched e.1 e.2) i.starts s))
  unfold State.discardChoice
  split
  case h_1 ch hch =>
    split
    case h_1 i _ => exact (s.keepsDue_discardIntake n i).onPlaza (by simp [hchoice, hch]) rfl rfl
    · exact .refl n s
  · exact .refl n s

theorem State.keepsDue_discardAll (m : Nat) : State.KeepsDue n s (s.discardAll m) := by
  unfold State.discardAll
  extract_lets s1 mine
  have h1 : State.KeepsDue n s s1 := by
    unfold s1
    split
    · split
      · exact s.keepsDue_discardChoice n
      · exact .refl n s
    · exact .refl n s
  exact .foldl (fun u i _ => u.keepsDue_discardIntake n i) (h1.onPlaza rfl rfl rfl)

end

end Sys2Proof.Machine
end

section
/-! PROOFS. The steps of the tick gap under the relations of the gap: what they keep of the choice and of a context (R33, R38, R42). -/

namespace Sys2Proof.Machine
open Sys2Proof

section
variable {n : Nat} (s : State)

/-! ### Changes of every Block or slice at once -/

theorem State.blk_mapBlks_q (f : Block → Block) (bs : SMap Block) (p : Nat) :
    (SMap.get (bs.map (fun e => (e.1, f e.2))) p (blkReset p)).q = (f (bs.get p (blkReset p))).q
      ∨ (SMap.get (bs.map (fun e => (e.1, f e.2))) p (blkReset p)).q = Queues.reset ∧ (bs.get p (blkReset p)).q = Queues.reset := by
  rw [SMap.get, SMap.get, SMap.find_map]
  cases SMap.find p bs with
  | none => exact .inr ⟨rfl, rfl⟩
  | some b => exact .inl rfl

theorem State.slc_mapSlices_moved (f : Slice → Slice) (hf : ∀ sl, (f sl).moved = sl.moved) (m : SMap Slice) (k : Nat) :
    (SMap.get (m.map (fun e => (e.1, f e.2))) k Slice.reset).moved = (m.get k Slice.reset).moved := by
  rw [SMap.get, SMap.get, SMap.find_map]
  cases SMap.find k m with
  | none => rfl
  | some sl => exact hf sl

/-- A Block whose halves hold no code of context m. -/
def Block.forgetCode (m : Nat) (b : Block) : Block :=
  { b with im := { b.im with
    code0 := if b.im.code0 = some m then none else b.im.code0, code1 := if b.im.code1 = some m then none else b.im.code1 } }

@[simp] theorem State.gist_forgetCode (m : Nat) : (s.forgetCode m).gist = s.gist := by
  have hq : (fun p => ((s.forgetCode m).blk p).q) = fun p => (s.blk p).q := by
    funext p
    rcases State.blk_mapBlks_q (Block.forgetCode m) s.blks p with h | ⟨h, hp⟩
    · exact h
    · exact h.trans hp.symm
  have ho : (s.forgetCode m).outline = s.outline := congrArg (fun qs => Outline.mk _ _ _ _ qs _) hq
  exact congrArg (fun o => (o, _)) ho

/-! ### Step 1 (R38, R42, R63, R316) -/

theorem State.keepsDue_killCtx {c : Nat} (h : c ≠ n) (cause : Nat) : State.KeepsDue n s (s.killCtx c cause) := by
  unfold State.killCtx
  dsimp only
  exact ((s.keepsDue_discardAll n c).onCtx c fun hc => absurd hc h).gist (by rw [State.gist_setEvt, State.gist_enqueue])

theorem State.keepsTick_killCtx (c cause : Nat) : State.KeepsTick s (s.killCtx c cause) :=
  (s.keepsDue_killCtx (Nat.succ_ne_self c).symm cause).toKeepsTick

theorem State.killCtx_ctx (c cause : Nat) :
    ((s.killCtx c cause).ctx c).state = 5 ∧ ((s.killCtx c cause).ctx c).cause = cause ∧ ((s.killCtx c cause).ctx c).stopFrame = s.frame := by
  unfold State.killCtx
  dsimp only
  rw [State.ctx_of_outline (State.outline_of_gist ((State.gist_setEvt _ _ _ _).trans (State.gist_enqueue _ _ _))), State.onCtx_ctx_same]
  exact ⟨rfl, rfl, rfl⟩

theorem State.keepsDue_overrunCtx {c : Nat} (h : c ≠ n) (fault : Bool) : State.KeepsDue n s (s.overrunCtx c fault) := by
  unfold State.overrunCtx
  dsimp only
  exact ((s.keepsDue_discardAll n c).onCtx c fun hc => absurd hc h).gist (by rw [State.gist_setEvt, State.gist_enqueue])

theorem State.overrunCtx_ctx (c : Nat) (fault : Bool) :
    ((s.overrunCtx c fault).ctx c).state = 4 ∧ ((s.overrunCtx c fault).ctx c).faultAtOverrun = fault ∧ ((s.overrunCtx c fault).ctx c).cause = 0x20 := by
  unfold State.overrunCtx
  dsimp only
  rw [State.ctx_of_outline (State.outline_of_gist ((State.gist_setEvt _ _ _ _).trans (State.gist_enqueue _ _ _))), State.onCtx_ctx_same]
  exact ⟨rfl, rfl, rfl⟩

theorem State.keepsDue_holdIntake (i : Option Intake) : State.KeepsDue n s (s.holdIntake i) := (KeepsDue.refl n s).onPlaza rfl rfl rfl

/-- The class of a frame moves its own context only. -/
theorem State.keepsDue_classMove {run : Run} (h : run.ctx ≠ n) (k : FrameClass) : State.KeepsDue n s (s.classMove run k) := by
  unfold State.classMove
  cases k with
  | kill cause => exact (s.keepsDue_holdIntake run.intake).trans (State.keepsDue_killCtx _ h _)
  | overrun => exact (s.keepsDue_holdIntake run.intake).trans (State.keepsDue_overrunCtx _ h _)
  | rollback => exact (KeepsDue.refl n s).onCtx _ fun hr => absurd hr h
  | complete => exact (KeepsDue.refl n s).onCtx _ fun hr => absurd hr h

theorem State.keepsDue_classMove_succ (run : Run) (k : FrameClass) : State.KeepsDue (run.ctx + 1) s (s.classMove run k) :=
  s.keepsDue_classMove (Nat.succ_ne_self run.ctx).symm k

theorem State.keepsDue_killPending : State.KeepsDue n s (s.killPending (some n)) := by
  refine KeepsDue.foldl (fun u e he => ?_) (.refl n s)
  refine u.keepsDue_killCtx (fun hn => ?_) _
  obtain ⟨-, hcond⟩ := List.mem_filter.mp he
  simp [hn] at hcond

theorem State.keepsTick_killPending (but : Option Nat) : State.KeepsTick s (s.killPending but) :=
  KeepsTick.foldl (fun u (_ : Nat × Ctx) => u.keepsTick_killCtx _ _) (.refl s)

theorem State.keepsDue_abandonReqs : State.KeepsDue n s s.abandonReqs := by
  unfold State.abandonReqs
  extract_lets inSlices lost s1
  have h1 : State.KeepsDue n s s1 :=
    ⟨⟨⟨rfl, rfl, rfl, id⟩, rfl, rfl⟩, fun hs => ⟨fun k => (State.slc_mapSlices_moved Slice.abandon (fun _ => rfl) s.slices k).trans (hs k), rfl⟩⟩
  refine KeepsDue.foldl (fun u r _ => ?_) h1
  split
  · exact (KeepsDue.of_gist u.gist_used).trans (State.keepsDue_access n _ r)
  · exact .of_gist u.gist_used

theorem State.keepsDue_haltAll : State.KeepsDue n s s.haltAll := by
  unfold State.haltAll
  extract_lets s1
  have h1 : State.KeepsDue n s s1 := by
    refine ⟨⟨⟨rfl, rfl, rfl, fun hs p => ?_⟩, rfl, rfl⟩, fun hs => ⟨hs, rfl⟩⟩
    rcases State.blk_mapBlks_q haltBlk s.blks p with h | ⟨h, -⟩
    · refine h.trans ?_
      have hp : (s.blks.get p (blkReset p)).q = Queues.reset := hs p
      simp only [haltBlk, hp]
      rfl
    · exact h
  exact (h1.gist (s1.gist_onFab _)).trans (State.keepsDue_abandonReqs _)

/-- The state right after the class of the frame has moved its context. -/
def State.classed (s : State) (run : Run) : State :=
  (s.onPlaza (fun p => { p with run := none })).classMove run (classOf run (s.ctx run.ctx))

theorem State.keepsTick_step1 : State.KeepsTick (s.onPlaza (fun p => { p with run := none })) s.step1.1 := by
  unfold State.step1
  split
  case h_1 hrun =>
    have h0 : State.KeepsTick (s.onPlaza (fun p => { p with run := none })) s := ⟨rfl, rfl, congrArg Option.isSome hrun, id⟩
    exact (h0.trans (s.keepsTick_killPending none)).trans (State.keepsDue_haltAll (n := 0) _).toKeepsTick
  case h_2 run hrun =>
    exact ((State.keepsDue_classMove_succ _ run _).toKeepsTick.trans (State.keepsTick_killPending _ _)).trans (State.keepsDue_haltAll (n := 0) _).toKeepsTick

theorem State.step1_of_run {run : Run} (h : s.plaza.run = some run) :
    s.step1.2 = some (run, classOf run (s.ctx run.ctx)) ∧ State.KeepsDue run.ctx (s.classed run) s.step1.1 := by
  unfold State.step1
  rw [h]
  exact ⟨rfl, (State.keepsDue_killPending (s.classed run)).trans (State.keepsDue_haltAll _)⟩

/-! ### Step 2 (R49, R53, R54, R61, R63) -/

theorem State.keepsDue_flipRegion (c i : Nat) : State.KeepsDue n s (s.flipRegion c i) := by
  unfold State.flipRegion
  extract_lets s1 a
  have h1 : State.KeepsDue n s s1 := (KeepsDue.refl n s).onCtx c fun _ => ⟨rfl, rfl⟩
  have h2 := h1.trans (s1.keepsDue_hostMem n a 64)
  generalize s1.hostMem a 64 = p at *
  exact h2.trans (State.keepsDue_writeBytes n _ _ _ _ _ _ _ _ _ _)

/-- A COMPLETE frame changes of its context the mean, and the count of replays with it. -/
theorem State.keepsDue_commitFrame (run : Run) : ∃ u f, State.KeepsDue n s u ∧ (∀ c : Ctx, (f c).state = c.state ∧ (f c).killDue = c.killDue)
    ∧ State.KeepsDue n (u.onCtx run.ctx f) (s.commitFrame run) := by
  unfold State.commitFrame
  extract_lets s1 s2 e s3
  have h1 : State.KeepsDue n s s1 := KeepsDue.foldl (fun u i _ => u.keepsDue_flipRegion run.ctx i) (.refl n s)
  have h2 : State.KeepsDue n s s2 := by
    unfold s2
    split
    · exact h1.gist (by simp)
    · exact h1
  refine ⟨s2, fun x => { x with energyMean := (7 * x.energyMean + e) / 8, replays := 0, replayPending := false }, h2, fun c => ⟨rfl, rfl⟩, ?_⟩
  exact .of_gist (State.gist_onConsuming _ fun t i j => t.gist_freeSlot i j)

theorem State.keepsDue_keepForReplay (run : Run) : State.KeepsDue n s (s.keepForReplay run) := by
  unfold State.keepForReplay
  split
  case h_1 ch hch =>
    split
    case isTrue hctx =>
      refine (s.keepsDue_discardChoice n).trans ⟨⟨⟨rfl, ?_, rfl, id⟩, rfl, rfl⟩, fun hs => ⟨hs, rfl⟩⟩
      rw [(s.keepsDue_discardChoice n).chosen, hch]
      exact congrArg some hctx.symm
    · exact s.keepsDue_holdIntake _
  · exact s.keepsDue_holdIntake _

theorem State.keepsDue_failFrame (run : Run) (final : Bool) : State.KeepsDue n s (s.failFrame run final) := by
  unfold State.failFrame
  extract_lets s1
  have h1 : State.KeepsDue n s s1 :=
    .of_gist ((State.gist_onConsuming _ fun t i j => t.gist_setStage i j _).trans (s.gist_sendAbort run.ctx s.frame final))
  split
  · exact h1
  · exact (h1.trans (State.keepsDue_keepForReplay _ run)).gist (State.gist_setEvt _ _ _ _)

theorem State.gist_step2_rest : ((s.thrash).makeVisible).sendLimits.gist = s.gist := by simp

theorem State.keepsDue_step2 {ended : Option (Run × FrameClass)} (h : ∀ run, ended ≠ some (run, .complete)) : State.KeepsDue n s (s.step2 ended) := by
  unfold State.step2
  dsimp only
  refine KeepsDue.gist ?_ (State.gist_step2_rest _)
  split
  case h_1 run => exact absurd rfl (h run)
  · exact (s.keepsDue_failFrame _ false).gist (State.gist_walkLists _ _)
  · exact (s.keepsDue_failFrame _ true).gist (State.gist_walkLists _ _)
  · exact .refl n s

theorem State.step2_complete (run : Run) (k : FrameClass) (hk : k = .complete) : ∃ u f, State.KeepsDue n s u
    ∧ (∀ c : Ctx, (f c).state = c.state ∧ (f c).killDue = c.killDue) ∧ State.KeepsDue n (u.onCtx run.ctx f) (s.step2 (some (run, k))) := by
  obtain ⟨u, f, hu, hf, ht⟩ := s.keepsDue_commitFrame (n := n) run
  subst hk
  exact ⟨u, f, hu, hf, ht.gist ((State.gist_step2_rest _).trans (State.gist_walkLists _ _))⟩

theorem State.keepsTick_step2 (ended : Option (Run × FrameClass)) : State.KeepsTick s (s.step2 ended) := by
  by_cases h : ∃ run, ended = some (run, .complete)
  · obtain ⟨run, rfl⟩ := h
    obtain ⟨u, f, hu, -, ht⟩ := s.step2_complete (n := 0) run _ rfl
    exact (hu.toKeepsTick.onCtx run.ctx f).trans ht.toKeepsTick
  · exact (s.keepsDue_step2 (n := 0) fun run hrun => h ⟨run, hrun⟩).toKeepsTick

/-! ### Step 3 (R42, R43, R340) -/

theorem State.keepsDue_applySlot (m : Nat) (e : Nat × Nat × Nat) : State.KeepsDue n s (s.applySlot m e) := by
  obtain ⟨j, t, r⟩ := e
  unfold State.applySlot
  dsimp only
  split
  · exact .refl n s
  · have hdrop : State.KeepsDue n s (s.onCtx m (fun c => { c with bindReq := SMap.del j c.bindReq, bound := SMap.del j c.bound })) :=
      (KeepsDue.refl n s).onCtx m fun _ => ⟨rfl, rfl⟩
    generalize s.onCtx m (fun c => { c with bindReq := SMap.del j c.bindReq, bound := SMap.del j c.bound }) = s1 at *
    split
    · exact hdrop
    generalize (if r = 0 ∧ t ≠ 0x1000 ∧ (s1.tenant t).state ≠ 1 then 1 else r) = why
    split
    · refine (hdrop.onCtx m fun _ => ?_).gist (State.gist_inc _ F.SEC_BIND_GRANTED 0 0 1 rfl)
      exact ⟨rfl, rfl⟩
    · split
      · exact hdrop.gist (State.gist_inc _ F.SEC_BIND_REFUSED 0 0 1 rfl)
      · exact hdrop.gist (by simp (disch := decide))

theorem State.keepsDue_activateEmpty {m : Nat} (h : m ≠ n) (p : Prep) : State.KeepsDue n s (s.activateEmpty m p) := by
  unfold State.activateEmpty
  split
  · exact .of_gist (s.gist_refuseCmd _ _ _)
  split
  · exact .of_gist (s.gist_refuseCmd _ _ _)
  · refine KeepsDue.foldl (fun u e _ => u.keepsDue_applySlot m e) (KeepsDue.gist ?_ ((State.gist_setKey _ _ _).trans (State.gist_forgetCode _ _)))
    exact (KeepsDue.refl n s).onCtx m fun hm => absurd hm h

theorem State.keepsDue_activateStopped {m : Nat} (h : m ≠ n) (p : Prep) : State.KeepsDue n s (s.activateStopped m p) := by
  unfold State.activateStopped
  extract_lets s1 k
  have h1 : State.KeepsDue n s s1 := KeepsDue.foldl (fun u e _ => u.keepsDue_applySlot m e) (.refl n s)
  exact (h1.onPlaza rfl rfl rfl).onCtx m fun hm => absurd hm h

theorem State.keepsDue_stopCtx {m : Nat} (h : m ≠ n) (st : Nat) : State.KeepsDue n s (s.stopCtx m st) :=
  ((s.keepsDue_discardAll n m).onCtx m fun hm => absurd hm h).gist (State.gist_sendAbort _ _ _ _)

theorem State.keepsDue_releaseCtx {m : Nat} (h : m ≠ n) : State.KeepsDue n s (s.releaseCtx m) := by
  unfold State.releaseCtx
  extract_lets left _ s1
  have h1 : State.KeepsDue n s s1 := (KeepsDue.of_gist (s.gist_startSweep _)).onCtx m fun hm => absurd hm h
  split
  · exact h1.gist (State.gist_dropKey _ _)
  · exact h1

/-- A context command moves its own context only. -/
theorem State.keepsDue_applyCmd (c : CtxCmd) (h : c.ctx ≠ n) : State.KeepsDue n s (s.applyCmd c) := by
  unfold State.applyCmd
  dsimp only
  split
  · split
    · have hprep (p : State × Prep) (hp : State.KeepsDue n s p.1) : State.KeepsDue n s
          (if (s.ctx c.ctx).state = 0 then p.1.activateEmpty c.ctx p.2 else p.1.activateStopped c.ctx p.2) := by
        split
        · exact hp.trans (State.keepsDue_activateEmpty _ h _)
        · exact hp.trans (State.keepsDue_activateStopped _ h _)
      refine hprep _ ?_
      split
      · split
        · exact .refl n s
        · exact s.keepsDue_prepare n _ _ _
      · exact s.keepsDue_prepare n _ _ _
    · exact .of_gist (s.gist_refuseCmd _ _ _)
  · split
    · exact .refl n s
    split
    · exact s.keepsDue_stopCtx h 1
    · exact .of_gist (s.gist_refuseCmd _ _ _)
  · split
    · exact .of_gist (s.gist_refuseCmd _ _ _)
    · exact (s.keepsDue_stopCtx h 6).onCtx _ fun hm => absurd hm h
  · split
    · exact (KeepsDue.refl n s).onCtx _ fun hm => absurd hm h
    · exact .of_gist (s.gist_refuseCmd _ _ _)
  · split
    · exact s.keepsDue_releaseCtx h
    · exact .of_gist (s.gist_refuseCmd _ _ _)
  · exact .of_gist (s.gist_refuseCmd _ _ _)

theorem State.keepsTick_applyCmds (cs : List CtxCmd) : State.KeepsTick s (s.applyCmds cs) := by
  induction cs generalizing s with
  | nil => exact ⟨rfl, rfl, rfl, id⟩
  | cons c cs ih =>
    unfold State.applyCmds
    split
    · exact ⟨rfl, rfl, rfl, id⟩
    · exact (s.keepsDue_applyCmd c (Nat.succ_ne_self c.ctx).symm).toKeepsTick.trans (ih _)

theorem State.keepsTick_killAfter (ended : Option (Run × FrameClass)) : State.KeepsTick s (s.killAfter ended) := by
  unfold State.killAfter
  split
  · split
    · exact (s.keepsTick_killCtx _ _).gist (State.gist_sendAbort _ _ _ _)
    · exact .refl s
  · exact .refl s

/-- Only a kill that is due ends a context after a COMPLETE frame. -/
theorem State.killAfter_of_not_due {ended : Option (Run × FrameClass)} (h : ∀ run, ended = some (run, .complete) → (s.ctx run.ctx).killDue = none) :
    s.killAfter ended = s := by
  unfold State.killAfter
  split
  case h_1 run =>
    split
    case h_1 k _ hk => rw [h run rfl] at hk; cases hk
    · rfl
  · rfl

/-- What step 3 does before the context commands. -/
theorem State.outline_step3_head (bad : List (Nat × Nat)) :
    ((((s.applyT.applyPl).rewire).groupTests bad).applyDoms).moveAuth.outline = s.outline := by
  rw [State.outline_of_gist (State.gist_moveAuth _), State.outline_of_gist (State.gist_applyDoms _), State.outline_of_gist (State.gist_groupTests _ _),
    State.outline_rewire, State.outline_of_gist (State.gist_applyPl _), State.outline_of_gist (State.gist_applyT _)]

theorem State.gist_step3_tail : (s.reportReady).attestAll.gist = s.gist := by simp

theorem State.keepsTick_step3 (bad : List (Nat × Nat)) (ended : Option (Run × FrameClass)) : State.KeepsTick s (s.step3 bad ended) := by
  have hhead : State.KeepsTick s _ := (KeepsCtx.of_outline (n := 0) (s.outline_step3_head bad)).toKeepsTick
  unfold State.step3
  dsimp only
  exact ((hhead.trans (State.keepsTick_applyCmds _ _)).trans (State.keepsTick_killAfter _ _)).gist (State.gist_step3_tail _)

theorem State.keepsCtx_step3 (bad : List (Nat × Nat)) {ended : Option (Run × FrameClass)} (hcmds : s.plaza.cmds = [])
    (hdue : ∀ run, ended = some (run, .complete) → (s.ctx run.ctx).killDue = none) : State.KeepsCtx n s (s.step3 bad ended) := by
  have ho := s.outline_step3_head bad
  unfold State.step3
  dsimp only
  generalize ((((s.applyT.applyPl).rewire).groupTests bad).applyDoms).moveAuth = u at *
  have hcmdsu : u.plaza.cmds = [] := (congrArg Outline.cmds ho).trans hcmds
  have hempty : State.KeepsCtx n s (u.applyCmds u.plaza.cmds) := by
    rw [hcmdsu]
    exact (KeepsCtx.of_outline ho).trans ⟨⟨rfl, rfl, rfl, id⟩, hcmdsu.symm, rfl⟩
  have hctx (m : Nat) : (u.applyCmds u.plaza.cmds).ctx m = s.ctx m := by
    rw [hcmdsu]
    exact State.ctx_of_outline ho m
  rw [State.killAfter_of_not_due _ fun run hrun => (congrArg Ctx.killDue (hctx run.ctx)).trans (hdue run hrun)]
  exact hempty.gist (State.gist_step3_tail _)

/-! ### Steps 6 and 7 (R35, R47, R58, R60) -/

theorem State.keepsDue_countBudget (ready : List Ready) : State.KeepsDue n s (s.countBudget ready) := by
  refine KeepsDue.foldl (fun u m _ => ?_) (.refl n s)
  have hover (k : Nat) : State.KeepsDue n u (u.onCtx m (fun c => { c with overBudget := k })) := (KeepsDue.refl n u).onCtx m fun _ => ⟨rfl, rfl⟩
  dsimp only
  split
  · split
    · exact (hover _).gist (State.gist_setEvt _ _ _ _)
    · exact hover _
  · split
    · exact .refl n u
    · exact hover 0

theorem State.keepsDue_reside (ready : List Ready) (pick : Option Nat) : State.KeepsDue n s (s.reside ready pick) := by
  have hres (u : State) (m : Nat) (b : Bool) : State.KeepsDue n u (u.onCtx m (fun c => { c with resident := b, loaded := false })) :=
    (KeepsDue.refl n u).onCtx m fun _ => ⟨rfl, rfl⟩
  unfold State.reside
  dsimp only
  split
  · exact .refl n s
  split
  · exact .refl n s
  split
  · exact hres s _ true
  split
  · exact (hres s _ false).trans (hres _ _ true)
  · exact .refl n s

theorem State.keepsDue_choose (m : Nat) : State.KeepsDue n s (s.choose m).1 := by
  unfold State.choose
  split
  · exact KeepsDue.onPlaza (f := fun p => { p with held := p.held.filter (fun i => i.ctx != m) }) (.refl n s) rfl rfl rfl
  · exact .refl n s

theorem State.keepsDue_step6 : State.KeepsDue n s s.step6.1 := by
  unfold State.step6
  extract_lets ready pick s1 s2
  have h1 : State.KeepsDue n s s1 := by
    unfold s1
    split
    · exact .refl n s
    · exact s.keepsDue_countBudget ready
  have h2 : State.KeepsDue n s s2 := h1.trans (s1.keepsDue_reside ready pick)
  cases pick with
  | none => exact h2
  | some m => exact h2.trans (s2.keepsDue_choose m)

theorem State.keepsDue_completions (c : Nat) (i : Intake) (h : Nat) : State.KeepsDue n s (s.completions c i h) := by
  unfold State.completions
  dsimp only
  split
  · exact .refl n s
  split
  · exact .of_gist (by simp (disch := decide))
  · refine KeepsDue.onPlaza (.of_gist ?_) rfl rfl rfl
    rw [State.gist_msi]
    exact State.gist_foldl (fun t x => t.gist_firstHalf _ x) _ s

theorem State.keepsDue_tickMsi : State.KeepsDue n s s.tickMsi := by
  unfold State.tickMsi
  extract_lets t c new s1
  have h1 : State.KeepsDue n s s1 := (KeepsDue.refl n s).onPlaza rfl rfl rfl
  split
  · exact h1.gist (by simp)
  · exact h1

theorem State.keepsDue_step7 (ended : Option (Run × FrameClass)) : State.KeepsDue n s (s.step7 ended) := by
  unfold State.step7
  extract_lets s1 s2
  have h1 : State.KeepsDue n s s1 := by
    unfold s1
    split
    · split
      · exact KeepsDue.foldl (fun u e _ => u.keepsDue_completions _ _ _) (.refl n s)
      · exact .refl n s
    · exact .refl n s
  have h2 : s2.gist = s1.gist := State.gist_forN (fun u h => by rw [State.gist_backlog, State.gist_readTail]) nChans s1
  exact (h1.gist h2).trans s2.keepsDue_tickMsi

end

end Sys2Proof.Machine
end

section
/-! PROOFS. The tick: the frame that starts, and the context of the frame that ended (R33, R36, R38, R42). -/

namespace Sys2Proof.Machine
open Sys2Proof

/-! ### Packets leave the Plaza and memory alone -/

section
variable (s : State)

@[simp] theorem State.pickFree_plaza {α : Type} (xs : List α) : (s.pickFree xs).1.plaza = s.plaza := by
  rcases s.pickFree_fst xs with h | h <;> rw [h]
  exact s.used_plaza

@[simp] theorem State.pickFree_dram {α : Type} (xs : List α) : (s.pickFree xs).1.dram = s.dram := by
  rcases s.pickFree_fst xs with h | h <;> rw [h]
  exact s.used_dram

@[simp] theorem State.txOn_plaza (p : Nat) (k : TxPkt) (nak : Bool) : (s.txOn p k nak).plaza = s.plaza := rfl
@[simp] theorem State.txOn_dram (p : Nat) (k : TxPkt) (nak : Bool) : (s.txOn p k nak).dram = s.dram := rfl

@[simp] theorem State.sendCtl_plaza (k : TxPkt) : (s.sendCtl k).plaza = s.plaza := by
  have hfree := s.pickFree_plaza ((List.range 8).filter (fun p => s.canSend p k))
  unfold State.sendCtl
  split
  case h_1 t p h => rw [State.txOn_plaza, ← hfree, h]
  case h_2 t h => rw [State.onFab_plaza, ← hfree, h]

@[simp] theorem State.sendCtl_dram (k : TxPkt) : (s.sendCtl k).dram = s.dram := by
  have hfree := s.pickFree_dram ((List.range 8).filter (fun p => s.canSend p k))
  unfold State.sendCtl
  split
  case h_1 t p h => rw [State.txOn_dram, ← hfree, h]
  case h_2 t h => rw [State.onFab_dram, ← hfree, h]

end

/-- A projection that each update of a list keeps. -/
theorem State.proj_foldl {α β : Type} (π : State → β) {f : State → α → State} (h : ∀ s a, π (f s a) = π s) (xs : List α) (s : State) :
    π (xs.foldl f s) = π s := by
  induction xs generalizing s with
  | nil => rfl
  | cons x xs ih => rw [List.foldl_cons, ih, h]

theorem State.sendCommit_plaza (s : State) (frame : Nat) : (s.sendCommit frame).plaza = s.plaza :=
  State.proj_foldl State.plaza (fun t _ => t.sendCtl_plaza _) _ s

theorem State.sendCommit_dram (s : State) (frame : Nat) : (s.sendCommit frame).dram = s.dram :=
  State.proj_foldl State.dram (fun t _ => t.sendCtl_dram _) _ s

theorem State.sendTime_plaza (s : State) (frame : Nat) : (s.sendTime frame).plaza = s.plaza := by
  unfold State.sendTime
  split
  · refine State.proj_foldl State.plaza (fun t p => ?_) _ s
    split
    · exact t.txOn_plaza p _ false
    · rfl
  · rfl

/-! ### Step 8 (R33, R36) -/

/-- What step 8 makes of a state in which no frame runs and every queue is empty: a frame of the context chosen runs or none does, and other
contexts are as they were. -/
structure State.Begins (start : Option Choice) (s t : State) : Prop where
  run : ∀ r, t.plaza.run = some r → (t.ctx r.ctx).state = 3 ∧ ∃ ch, start = some ch ∧ ch.ctx = r.ctx
  tickTime : t.rd F.TICK_TICK_TIME_TIME = s.rd F.TICK_TICK_TIME_TIME
  idle : ∀ p, (t.blk p).q = Queues.reset
  others : ∀ n, (∀ ch, start = some ch → ch.ctx ≠ n) → (t.ctx n).vital = (s.ctx n).vital

section
variable {s t u : State} {start : Option Choice}

theorem State.Begins.of_keeps (hidle : ∀ p, (s.blk p).q = Queues.reset) (hrun : s.plaza.run = none) (h : ∀ n, State.KeepsDue n s t) :
    State.Begins start s t := by
  refine ⟨fun r hr => ?_, (h 0).tickTime, (h 0).idle hidle, fun n _ => (h n).vital⟩
  have hnone := (h 0).running
  rw [hr, hrun] at hnone
  cases hnone

/-- A step that keeps the outline, and the run. -/
theorem State.Begins.outline (h : State.Begins start s t) (ho : u.outline = t.outline) (hrun : u.plaza.run = t.plaza.run) : State.Begins start s u := by
  refine ⟨fun r hr => ?_, ?_, fun p => ?_, fun n hn => ?_⟩
  · rw [hrun] at hr
    rw [State.ctx_of_outline ho]
    exact h.run r hr
  · exact (congrArg Outline.tickTime ho).trans h.tickTime
  · exact (congrFun (congrArg Outline.queues ho) p).trans (h.idle p)
  · rw [State.ctx_of_outline ho]
    exact h.others n hn

/-- The Plaza goes on after the gap. -/
theorem State.Begins.onPlaza (h : State.Begins start s t) (f : Fabric → Fabric) {g : Plaza → Plaza} (hg : ∀ p, (g p).run = p.run) :
    State.Begins start s ((t.onFab f).onPlaza g) :=
  ⟨fun r hr => h.run r ((hg _).symm.trans hr), h.tickTime, h.idle, h.others⟩

end

section
variable (s : State)

theorem State.keepsDue_takeSlot (n c i : Nat) : State.KeepsDue n s (s.takeSlot c i) := by
  unfold State.takeSlot
  split
  · exact .refl n s
  · extract_lets x s1 a
    have h1 : State.KeepsDue n s s1 := .of_gist (s.gist_setStage _ _ _)
    split
    · exact h1.trans (s1.keepsDue_writeBytes n _ _ _ _ _ _ _ _ _)
    · exact h1

theorem State.startFrame_begins (ch : Choice) (hidle : ∀ p, (s.blk p).q = Queues.reset) : State.Begins (some ch) s (s.startFrame ch) := by
  unfold State.startFrame
  extract_lets began s1 n c s2 half k same s3 s4
  have h2 (m : Nat) : State.KeepsDue m s s2 := by
    refine (KeepsDue.of_gist s.gist_used).trans ?_
    unfold s2
    split
    · exact KeepsDue.foldl (fun u i _ => u.keepsDue_takeSlot m n i) (.refl m s1)
    · exact .refl m s1
  clear_value s2
  have h4 : State.Begins (some ch) s s4 := by
    refine ⟨fun r hr => ?_, (h2 0).tickTime, (h2 0).idle hidle, fun m hm => ?_⟩
    · rw [← Option.some.inj hr]
      refine ⟨?_, ch, rfl, rfl⟩
      change (s3.ctx n).state = 3
      rw [State.onCtx_ctx_same]
    · have hother : s3.ctx m = s2.ctx m := by rw [State.onCtx_ctx_ne _ _ _ _ (Ne.symm (hm ch rfl))]
      exact (congrArg Ctx.vital hother).trans (h2 m).vital
  exact h4.outline (State.outline_of_gist (State.gist_foldl (fun t p => t.gist_onBlk p _ rfl) _ s4))
    (State.proj_foldl (fun t => t.plaza.run) (fun t p => congrArg Plaza.run (t.onBlk_plaza p _)) _ s4)

theorem State.keepsDue_startIdle (n : Nat) (next : Option Choice) : State.KeepsDue n s (s.startIdle next).1 := by
  unfold State.startIdle
  split
  · split
    · split
      · split
        · exact .refl n s
        · exact s.keepsDue_holdIntake _
      · exact s.keepsDue_holdIntake _
    · exact s.keepsDue_discardChoice n
  · exact .refl n s

/-- Step 8 empties every queue. -/
theorem State.clearBlks_idle (p : Nat) :
    (State.blk { s with blks := s.blks.map (fun (e : Nat × Block) => (e.1, clearBlk e.2)) } p).q = Queues.reset := by
  rcases State.blk_mapBlks_q clearBlk s.blks p with h | ⟨h, -⟩
  · exact h
  · exact h

theorem State.step8_begins (start : Option Choice) (loaded : Bool) (next : Option Choice) (frame : Nat) (hrun : s.plaza.run = none) :
    State.Begins start s (s.step8 start loaded next frame) := by
  have hlast (u : State) (hu : State.Begins start s u) (next : Option Choice) :
      State.Begins start s ((u.onPlaza (fun p => { p with choice := next, ticked := true })).sendTime frame) := by
    have hplaza : State.Begins start s (u.onPlaza (fun p => { p with choice := next, ticked := true })) := ⟨hu.run, hu.tickTime, hu.idle, hu.others⟩
    exact hplaza.outline (State.outline_of_gist (State.gist_sendTime _ frame)) (congrArg Plaza.run (State.sendTime_plaza _ frame))
  have hidle := s.clearBlks_idle
  unfold State.step8
  extract_lets s1 held
  cases start with
  | some ch =>
    have hstart := s1.startFrame_begins ch hidle
    exact hlast _ ⟨hstart.run, hstart.tickTime, hstart.idle, hstart.others⟩ next
  | none =>
    have hcount : State.gist (if held then s1.inc F.FAB0_LIMIT_IDLE 0 0 else s1) = s1.gist := by split <;> simp (disch := decide)
    have hkeeps (m : Nat) := (KeepsDue.of_gist (n := m) hcount).trans (State.keepsDue_startIdle _ m next)
    have hbegins := State.Begins.of_keeps (start := none) hidle hrun hkeeps
    exact hlast _ ⟨hbegins.run, hbegins.tickTime, hbegins.idle, hbegins.others⟩ _

/-! ### The gap (R33) -/

theorem State.toStart_eq_some {loaded : Bool} {frame : Nat} {ch : Choice} (h : s.toStart loaded frame = some ch) :
    s.plaza.choice = some ch ∧ (s.ctx ch.ctx).state = 2 := by
  unfold State.toStart at h
  split at h
  case h_1 ch' hch =>
    obtain ⟨hcond, heq⟩ := Option.ite_none_right_eq_some.mp h
    obtain rfl := Option.some.inj heq
    simp only [State.canStart, Bool.and_eq_true, beq_iff_eq] at hcond
    exact ⟨hch, by tauto⟩
  · cases h

/-- The gap from step 4 on: it starts no frame but that of an ACTIVE context chosen, and keeps every context until then. -/
theorem State.gap_cases (bad : List (Nat × Nat)) (ended : Option (Run × FrameClass)) (frame : Nat) : ∃ start loaded next v,
    (∀ n, State.KeepsDue n ((s.step2 ended).step3 bad ended) v)
    ∧ (∀ ch, start = some ch →
      ((s.step2 ended).step3 bad ended).plaza.choice = some ch ∧ (((s.step2 ended).step3 bad ended).ctx ch.ctx).state = 2)
    ∧ s.gap bad ended frame = ((v.step8 start loaded next frame).onFab (fun f => { f with adopt := none })).onPlaza
        (fun p => { p with ticking := p.ticking && !p.stopping, stopping := false }) := by
  unfold State.gap
  extract_lets s3 loaded s4 start s5
  have h4 : s4.outline = s3.outline := State.outline_of_gist s3.gist_step4
  have h5 (n : Nat) : State.KeepsDue n s3 s5 := .of_gist ((s4.gist_step5 _).trans s3.gist_step4)
  have h6 (n : Nat) := (h5 n).trans s5.keepsDue_step6
  generalize s5.step6 = q at *
  obtain ⟨s6, next⟩ := q
  refine ⟨start, loaded, next, s6.step7 ended, fun n => (h6 n).trans (s6.keepsDue_step7 ended), fun ch hch => ?_, rfl⟩
  obtain ⟨hchoice, hstate⟩ := s4.toStart_eq_some hch
  exact ⟨(congrArg Outline.choice h4).symm.trans hchoice, by rwa [State.ctx_of_outline h4] at hstate⟩

/-- The gap, in a state in which no frame runs. -/
theorem State.gap_starts (bad : List (Nat × Nat)) (ended : Option (Run × FrameClass)) (frame : Nat) (hrun : s.plaza.run = none) :
    let t := s.gap bad ended frame
    (∀ r, t.plaza.run = some r → (t.ctx r.ctx).state = 3 ∧ s.plaza.choice.map Choice.ctx = some r.ctx)
      ∧ t.rd F.TICK_TICK_TIME_TIME = s.rd F.TICK_TICK_TIME_TIME ∧ (∀ p, (t.blk p).q = Queues.reset) ∧ t.fab.adopt = none := by
  obtain ⟨start, loaded, next, v, hkeeps, hstart, hgap⟩ := s.gap_cases bad ended frame
  have htick : State.KeepsTick s ((s.step2 ended).step3 bad ended) := (s.keepsTick_step2 ended).trans (State.keepsTick_step3 _ bad ended)
  have hv : State.KeepsTick s v := htick.trans (hkeeps 0).toKeepsTick
  have hvrun : v.plaza.run = none := Option.isNone_iff_eq_none.mp (Option.isSome_eq_false_iff.mp (hv.running.trans (by rw [hrun]; rfl)))
  have hbegins := (v.step8_begins start loaded next frame hvrun).onPlaza (fun f => { f with adopt := none })
    (g := fun p => { p with ticking := p.ticking && !p.stopping, stopping := false }) fun _ => rfl
  have hadopt : (s.gap bad ended frame).fab.adopt = none := by rw [hgap, State.onPlaza_fab, State.onFab_fab]
  rw [← hgap] at hbegins
  refine ⟨fun r hr => ?_, hbegins.tickTime.trans hv.tickTime, hbegins.idle, hadopt⟩
  obtain ⟨hstate, ch, hch, hctx⟩ := hbegins.run r hr
  refine ⟨hstate, ?_⟩
  rw [← htick.chosen, (hstart ch hch).1, ← hctx]
  rfl

/-- The gap keeps what step 1 decided of a context that does not start, where no context command is queued and no kill is due. -/
theorem State.gap_vital {n : Nat} (bad : List (Nat × Nat)) {ended : Option (Run × FrameClass)} (frame : Nat) (hrun : s.plaza.run = none)
    (hcmds : (s.step2 ended).plaza.cmds = []) (hdue : ∀ run, ended = some (run, .complete) → ((s.step2 ended).ctx run.ctx).killDue = none)
    (hn : ((s.step2 ended).ctx n).state ≠ 2 ∨ (s.step2 ended).plaza.choice = none) :
    ((s.gap bad ended frame).ctx n).vital = ((s.step2 ended).ctx n).vital := by
  obtain ⟨start, loaded, next, v, hkeeps, hstart, hgap⟩ := s.gap_cases bad ended frame
  have hv (m : Nat) : State.KeepsCtx m (s.step2 ended) v := (State.keepsCtx_step3 _ bad hcmds hdue).trans (hkeeps m).toKeepsCtx
  have h3 : State.KeepsCtx n (s.step2 ended) ((s.step2 ended).step3 bad ended) := State.keepsCtx_step3 _ bad hcmds hdue
  have hvrun : v.plaza.run = none := by
    have hsame := (hv 0).running.trans (s.keepsTick_step2 ended).running
    rw [hrun] at hsame
    exact Option.isNone_iff_eq_none.mp (Option.isSome_eq_false_iff.mp hsame)
  have hbegins := (v.step8_begins start loaded next frame hvrun).onPlaza (fun f => { f with adopt := none })
    (g := fun p => { p with ticking := p.ticking && !p.stopping, stopping := false }) fun _ => rfl
  rw [← hgap] at hbegins
  refine (hbegins.others n fun ch hch hctx => ?_).trans (hv n).vital
  obtain ⟨hchoice, hstate⟩ := hstart ch hch
  rcases hn with hstopped | hnone
  · rw [← h3.state, ← hctx] at hstopped
    exact hstopped hstate
  · have hchosen := h3.chosen
    rw [hnone, hchoice] at hchosen
    exact Option.some_ne_none _ hchosen

end

end Sys2Proof.Machine
end

section
/-! PROOFS. TICK: what it writes, the frame that it starts, and what it decides of the context of the ended frame (R33, R38, R42, R54). -/

namespace Sys2Proof.Machine
open Sys2Proof

/-- A tick as it opens: its time is taken, and the pulse that brought it is used up. -/
def State.opened (s : State) : State :=
  let s := (s.wr F.TICK_TICK_TIME_TIME 0 0 s.now).onPlaza (fun p => { p with armed := false, ticks := p.ticks + 1 })
  if s.rd F.TICK_SYNC_TICK_OUT_EN = 1 then s.emit "TICK_OUT" [] else s

theorem Ctx.state_of_vital {c d : Ctx} (h : c.vital = d.vital) : c.state = d.state := congrArg Prod.fst h

section
variable (s : State)

theorem State.opened_frame : s.opened.frame = s.frame := by
  have hkey : keyAt .tick 0 F.TICK_FRAME_NUM_NUM 0 ≠ keyAt .tick 0 F.TICK_TICK_TIME_TIME 0 := by decide
  have hwr (v : Nat) : (s.wr F.TICK_TICK_TIME_TIME 0 0 v).frame = s.frame := State.rdAt_wrAt_ne s .tick .tick 0 0 _ _ 0 0 v hkey
  unfold State.opened
  dsimp only
  split <;> exact hwr s.now

theorem State.opened_tickTime : s.opened.rd F.TICK_TICK_TIME_TIME = s.now % 2 ^ 64 := by
  have hwr := State.rd_wr_same s F.TICK_TICK_TIME_TIME 0 0 s.now (by decide)
  unfold State.opened
  dsimp only
  split <;> exact hwr

theorem State.opened_plaza : s.opened.plaza = { s.plaza with armed := false, ticks := s.plaza.ticks + 1 } := by
  unfold State.opened
  dsimp only
  split <;> rfl

theorem State.opened_ctxs : s.opened.ctxs = s.ctxs := by
  unfold State.opened
  dsimp only
  split <;> rfl

theorem State.opened_slices : s.opened.slices = s.slices := by
  unfold State.opened
  dsimp only
  split <;> rfl

theorem State.opened_ctx (n : Nat) : s.opened.ctx n = s.ctx n := by simp only [State.ctx, State.opened_ctxs]
theorem State.opened_slc (n : Nat) : s.opened.slc n = s.slc n := by simp only [State.slc, State.opened_slices]

/-- A tick is its step 1, and in FATAL no more than that (R315). -/
theorem State.tick_of_fatal (bad : List (Nat × Nat)) (h : s.opened.step1.1.rd F.TOP_STATUS_FATAL = 1) :
    s.tick bad = (s.opened.step1.1.onPlaza (fun p => { p with ticking := false })).wr F.TICK_FRAME_NUM_NUM 0 0 s.nextFrame :=
  if_pos h

theorem State.tick_of_not_fatal (bad : List (Nat × Nat)) (h : s.opened.step1.1.rd F.TOP_STATUS_FATAL ≠ 1) :
    s.tick bad = (s.opened.step1.1.gap bad s.opened.step1.2 s.nextFrame).numberFrame s.nextFrame :=
  if_neg h

theorem State.nextFrame_mod : s.nextFrame % 2 ^ 64 = s.nextFrame := Nat.mod_mod _ _

theorem State.wr_frame (v : Nat) : (s.wr F.TICK_FRAME_NUM_NUM 0 0 v).frame = v % 2 ^ 64 := State.rd_wr_same s F.TICK_FRAME_NUM_NUM 0 0 v (by decide)

theorem State.numberFrame_frame (frame : Nat) : (s.numberFrame frame).frame = frame % 2 ^ 64 := State.wr_frame _ frame

theorem State.numberFrame_ctx (frame n : Nat) : (s.numberFrame frame).ctx n = s.ctx n := rfl
theorem State.numberFrame_plaza (frame : Nat) : (s.numberFrame frame).plaza = s.plaza := rfl

theorem State.numberFrame_tickTime (frame : Nat) : (s.numberFrame frame).rd F.TICK_TICK_TIME_TIME = s.rd F.TICK_TICK_TIME_TIME := by
  have h1 : keyAt .tick 0 F.TICK_TICK_TIME_TIME 0 ≠ keyAt .tick 0 F.TICK_GAP_LAST 0 := by decide
  have h2 : keyAt .tick 0 F.TICK_TICK_TIME_TIME 0 ≠ keyAt .tick 0 F.TICK_GAP_MAX 0 := by decide
  have h3 : keyAt .tick 0 F.TICK_TICK_TIME_TIME 0 ≠ keyAt .tick 0 F.TICK_FRAME_NUM_NUM 0 := by decide
  exact ((State.rdAt_wrAt_ne _ _ _ _ _ _ _ _ _ _ h3).trans (State.rdAt_wrAt_ne _ _ _ _ _ _ _ _ _ _ h2)).trans
    (State.rdAt_wrAt_ne _ _ _ _ _ _ _ _ _ _ h1)

/-- After step 1 no frame runs. -/
theorem State.step1_run : s.step1.1.plaza.run = none :=
  Option.isNone_iff_eq_none.mp (Option.isSome_eq_false_iff.mp s.keepsTick_step1.running)

theorem State.step1_tickTime : s.step1.1.rd F.TICK_TICK_TIME_TIME = s.rd F.TICK_TICK_TIME_TIME := s.keepsTick_step1.tickTime

theorem State.step1_chosen : s.step1.1.plaza.choice.map Choice.ctx = s.plaza.choice.map Choice.ctx := s.keepsTick_step1.chosen

/-! ### The tick as a whole -/

theorem State.tick_gapOrFatal (bad : List (Nat × Nat)) : Claims.gapOrFatal s (s.tick bad) := by
  by_cases h : s.opened.step1.1.rd F.TOP_STATUS_FATAL = 1
  · rw [s.tick_of_fatal bad h]
    refine ⟨(State.wr_frame _ s.nextFrame).trans s.nextFrame_mod, .inr ⟨?_, rfl⟩⟩
    have hkey : keyAt .top 0 F.TOP_STATUS_FATAL 0 ≠ keyAt .tick 0 F.TICK_FRAME_NUM_NUM 0 := by decide
    exact (State.rdAt_wrAt_ne _ .tick .top 0 0 _ _ 0 0 _ hkey).trans h
  · rw [s.tick_of_not_fatal bad h]
    obtain ⟨-, -, hidle, hadopt⟩ := s.opened.step1.1.gap_starts bad s.opened.step1.2 s.nextFrame s.opened.step1_run
    generalize s.opened.step1.1.gap bad s.opened.step1.2 s.nextFrame = t at *
    exact ⟨(t.numberFrame_frame _).trans s.nextFrame_mod, .inl ⟨hadopt, fun p _ => hidle p⟩⟩

theorem State.tick_tickTime (bad : List (Nat × Nat)) : (s.tick bad).rd F.TICK_TICK_TIME_TIME = s.now % 2 ^ 64 := by
  have hstep1 := (s.opened.step1_tickTime).trans s.opened_tickTime
  by_cases h : s.opened.step1.1.rd F.TOP_STATUS_FATAL = 1
  · rw [s.tick_of_fatal bad h]
    have hkey : keyAt .tick 0 F.TICK_TICK_TIME_TIME 0 ≠ keyAt .tick 0 F.TICK_FRAME_NUM_NUM 0 := by decide
    exact (State.rdAt_wrAt_ne _ .tick .tick 0 0 _ _ 0 0 _ hkey).trans hstep1
  · rw [s.tick_of_not_fatal bad h, State.numberFrame_tickTime]
    obtain ⟨-, htime, -, -⟩ := s.opened.step1.1.gap_starts bad s.opened.step1.2 s.nextFrame s.opened.step1_run
    exact htime.trans hstep1

/-- A tick starts no frame but that of the context chosen. -/
theorem State.tick_run (bad : List (Nat × Nat)) {r : Run} (hr : (s.tick bad).plaza.run = some r) :
    Claims.inState (s.tick bad) r.ctx 3 ∧ ∃ ch, s.plaza.choice = some ch ∧ ch.ctx = r.ctx := by
  by_cases h : s.opened.step1.1.rd F.TOP_STATUS_FATAL = 1
  · rw [s.tick_of_fatal bad h] at hr
    rw [State.wr_plaza, State.onPlaza_plaza, State.step1_run] at hr
    cases hr
  · rw [s.tick_of_not_fatal bad h] at hr ⊢
    rw [State.numberFrame_plaza] at hr
    obtain ⟨hrun, -, -, -⟩ := s.opened.step1.1.gap_starts bad s.opened.step1.2 s.nextFrame s.opened.step1_run
    obtain ⟨hstate, hchosen⟩ := hrun r hr
    rw [Claims.inState, State.numberFrame_ctx]
    refine ⟨hstate, ?_⟩
    rw [State.step1_chosen, State.opened_plaza] at hchosen
    exact Option.map_eq_some_iff.mp hchosen

/-! ### The context of the ended frame -/

theorem State.tick_ctx_of_gap (bad : List (Nat × Nat)) {n : Nat} {P : Ctx → Prop} (h1 : P (s.opened.step1.1.ctx n))
    (h2 : P ((s.opened.step1.1.gap bad s.opened.step1.2 s.nextFrame).ctx n)) : P ((s.tick bad).ctx n) := by
  by_cases h : s.opened.step1.1.rd F.TOP_STATUS_FATAL = 1
  · rw [s.tick_of_fatal bad h]
    rw [State.wr_ctx, State.onPlaza_ctx]
    exact h1
  · rw [s.tick_of_not_fatal bad h]
    rw [State.numberFrame_ctx]
    exact h2

variable {s} {run : Run}

/-- Step 1 opens with the class of the frame. -/
theorem State.opened_classed (hrun : s.plaza.run = some run) :
    s.opened.step1.2 = some (run, classOf run (s.ctx run.ctx)) ∧ State.KeepsDue run.ctx (s.opened.classed run) s.opened.step1.1 := by
  have h := s.opened.step1_of_run (run := run) (by rw [State.opened_plaza]; exact hrun)
  rwa [State.opened_ctx] at h

/-- The class of the frame leaves the commands and the context chosen. -/
theorem State.classed_plaza : (s.opened.classed run).plaza.cmds = s.plaza.cmds
    ∧ (s.opened.classed run).plaza.choice.map Choice.ctx = s.plaza.choice.map Choice.ctx := by
  have h := State.keepsDue_classMove_succ (s.opened.onPlaza (fun p => { p with run := none })) run (classOf run (s.opened.ctx run.ctx))
  have hcmds := h.cmds
  have hchosen := h.chosen
  rw [State.onPlaza_plaza, State.opened_plaza] at hcmds hchosen
  exact ⟨hcmds, hchosen⟩

/-- What step 1 decides of the context of a frame that did not complete stands when the tick is over. -/
theorem State.tick_vital_of_not_complete (hrun : s.plaza.run = some run) (hcmds : s.plaza.cmds = [])
    (hk : classOf run (s.ctx run.ctx) ≠ .complete) (hn : ((s.opened.classed run).ctx run.ctx).state ≠ 2 ∨ s.plaza.choice = none) (bad : List (Nat × Nat)) :
    ((s.tick bad).ctx run.ctx).vital = ((s.opened.classed run).ctx run.ctx).vital := by
  obtain ⟨hended, h1⟩ := State.opened_classed hrun
  obtain ⟨hcmds0, hchosen0⟩ := State.classed_plaza (s := s) (run := run)
  have hnot (r : Run) : s.opened.step1.2 ≠ some (r, .complete) := by
    rw [hended]
    intro h
    exact hk (congrArg Prod.snd (Option.some.inj h))
  have h2 : State.KeepsDue run.ctx (s.opened.classed run) (s.opened.step1.1.step2 s.opened.step1.2) := h1.trans (State.keepsDue_step2 _ hnot)
  refine s.tick_ctx_of_gap bad (P := fun c => c.vital = _) h1.vital (Eq.trans ?_ h2.vital)
  refine State.gap_vital _ bad _ s.opened.step1_run (h2.cmds.trans (hcmds0.trans hcmds)) (fun r hr => absurd hr (hnot r)) ?_
  rcases hn with hstate | hnone
  · exact .inl (by rwa [h2.state])
  · refine .inr (Option.map_eq_none_iff.mp (h2.chosen.trans (hchosen0.trans ?_)))
    rw [hnone]
    rfl

/-- The context of a COMPLETE frame is ACTIVE when the tick is over, if no kill of it falls due and no frame starts. -/
theorem State.tick_state_of_complete (hrun : s.plaza.run = some run) (hcmds : s.plaza.cmds = []) (hk : classOf run (s.ctx run.ctx) = .complete)
    (hdue : (s.ctx run.ctx).killDue = none) (hmoved : ∀ n, (s.slc n).moved = []) (hchoice : s.plaza.choice = none) (bad : List (Nat × Nat)) :
    ((s.tick bad).ctx run.ctx).state = 2 := by
  obtain ⟨hended, h1⟩ := State.opened_classed hrun
  obtain ⟨hcmds0, hchosen0⟩ := State.classed_plaza (s := s) (run := run)
  have hclassed : s.opened.classed run = (s.opened.onPlaza (fun p => { p with run := none })).onCtx run.ctx (fun x => { x with state := 2 }) := by
    rw [State.classed, State.opened_ctx, hk]
    rfl
  have hmoved0 (k : Nat) : ((s.opened.classed run).slc k).moved = [] := by
    rw [hclassed, State.onCtx_slc, State.onPlaza_slc, State.opened_slc, hmoved]
  have hctx0 : ((s.opened.classed run).ctx run.ctx).state = 2 ∧ ((s.opened.classed run).ctx run.ctx).killDue = none := by
    rw [hclassed, State.onCtx_ctx_same, State.onPlaza_ctx, State.opened_ctx]
    exact ⟨rfl, hdue⟩
  obtain ⟨u, f, hu, hf, hc⟩ := s.opened.step1.1.step2_complete (n := run.ctx) run _ hk
  rw [← hended] at hc
  have hu0 := h1.trans hu
  obtain ⟨hmovedu, hdueu⟩ := hu0.due hmoved0
  obtain ⟨-, hduec⟩ := hc.due hmovedu
  rw [State.onCtx_ctx_same, (hf _).2, hdueu, hctx0.2] at hduec
  have hstatec := hc.state
  rw [State.onCtx_ctx_same, (hf _).1, hu0.state, hctx0.1] at hstatec
  refine s.tick_ctx_of_gap bad (P := fun c => c.state = 2) (h1.state.trans hctx0.1) ?_
  have hcmdsc : (s.opened.step1.1.step2 s.opened.step1.2).plaza.cmds = [] := hc.cmds.trans (hu0.cmds.trans (hcmds0.trans hcmds))
  have hchoicec : (s.opened.step1.1.step2 s.opened.step1.2).plaza.choice = none := by
    refine Option.map_eq_none_iff.mp (hc.chosen.trans (hu0.chosen.trans (hchosen0.trans ?_)))
    rw [hchoice]
    rfl
  have hown (r : Run) (hr : s.opened.step1.2 = some (r, .complete)) : ((s.opened.step1.1.step2 s.opened.step1.2).ctx r.ctx).killDue = none := by
    rw [hended] at hr
    have hsame : run = r := congrArg Prod.fst (Option.some.inj hr)
    rw [← hsame]
    exact hduec
  exact (Ctx.state_of_vital (State.gap_vital _ bad _ s.opened.step1_run hcmdsc hown (.inr hchoicec))).trans hstatec

/-! ### The classes of a frame (R38, R39, R54) -/

theorem classOf_kill {c : Ctx} {f : FaultRep} (h : run.faults.find? (fun f => f.kill) = some f) : classOf run c = .kill f.cause := by
  simp only [classOf, h]

theorem classOf_of_no_faults {c : Ctx} (hf : run.faults = []) (hdue : c.killDue = none) :
    classOf run c = if run.ended = false then .overrun else .complete := by
  simp [classOf, hf, hdue, ueCount]

theorem classOf_rollback {c : Ctx} (hne : run.faults ≠ []) (hkill : ∀ f ∈ run.faults, f.kill = false) (hdirect : c.directWritten = false)
    (hue : ueCount run.faults < 2) (hreplays : c.replays < 2) (hdue : c.killDue = none) (hended : run.ended = true) : classOf run c = .rollback := by
  have hfind : run.faults.find? (fun f => f.kill) = none := List.find?_eq_none.mpr fun f hf => by simp [hkill f hf]
  simp [classOf, hfind, hdirect, Nat.not_le.mpr hue, hreplays.ne, hdue, hended, hne]

theorem State.onPlaza_frame (s : State) (f : Plaza → Plaza) : (s.onPlaza f).frame = s.frame := rfl
theorem State.holdIntake_frame (s : State) (i : Option Intake) : (s.holdIntake i).frame = s.frame := rfl

theorem State.tick_kill (hrun : s.plaza.run = some run) (hcmds : s.plaza.cmds = []) {f : FaultRep} (hf : run.faults.find? (fun f => f.kill) = some f)
    (bad : List (Nat × Nat)) : Claims.inState (s.tick bad) run.ctx 5 ∧ ((s.tick bad).ctx run.ctx).cause = f.cause
      ∧ ((s.tick bad).ctx run.ctx).stopFrame = s.frame := by
  have hk : classOf run (s.ctx run.ctx) = .kill f.cause := classOf_kill hf
  obtain ⟨hstate, hcause, hframe⟩ :=
    State.killCtx_ctx ((s.opened.onPlaza (fun p => { p with run := none })).holdIntake run.intake) run.ctx f.cause
  have hclassed : s.opened.classed run
      = ((s.opened.onPlaza (fun p => { p with run := none })).holdIntake run.intake).killCtx run.ctx f.cause := by
    rw [State.classed, State.opened_ctx, hk]
    rfl
  rw [State.holdIntake_frame, State.onPlaza_frame, State.opened_frame] at hframe
  rw [← hclassed] at hstate hcause hframe
  have hvital := State.tick_vital_of_not_complete hrun hcmds (by rw [hk]; nofun) (.inl (by rw [hstate]; decide)) bad
  simp only [Ctx.vital, Prod.mk.injEq] at hvital
  obtain ⟨h1, h2, h3, -⟩ := hvital
  exact ⟨h1.trans hstate, h2.trans hcause, h3.trans hframe⟩

theorem State.tick_overrun (hrun : s.plaza.run = some run) (hcmds : s.plaza.cmds = []) (hf : run.faults = []) (hended : run.ended = false)
    (hdue : (s.ctx run.ctx).killDue = none) (bad : List (Nat × Nat)) : Claims.inState (s.tick bad) run.ctx 4
      ∧ ((s.tick bad).ctx run.ctx).faultAtOverrun = false ∧ ((s.tick bad).ctx run.ctx).cause = 0x20 := by
  have hk : classOf run (s.ctx run.ctx) = .overrun := (classOf_of_no_faults hf hdue).trans (if_pos hended)
  obtain ⟨hstate, hfault, hcause⟩ :=
    State.overrunCtx_ctx ((s.opened.onPlaza (fun p => { p with run := none })).holdIntake run.intake) run.ctx (run.faults != [])
  have hclassed : s.opened.classed run
      = ((s.opened.onPlaza (fun p => { p with run := none })).holdIntake run.intake).overrunCtx run.ctx (run.faults != []) := by
    rw [State.classed, State.opened_ctx, hk]
    rfl
  rw [← hclassed] at hstate hcause hfault
  have hvital := State.tick_vital_of_not_complete hrun hcmds (by rw [hk]; nofun) (.inl (by rw [hstate]; decide)) bad
  simp only [Ctx.vital, Prod.mk.injEq] at hvital
  obtain ⟨h1, h2, -, h4, -⟩ := hvital
  exact ⟨h1.trans hstate, h4.trans (hfault.trans (by simp [hf])), h2.trans hcause⟩

theorem State.tick_rollback (hrun : s.plaza.run = some run) (hcmds : s.plaza.cmds = []) (hk : classOf run (s.ctx run.ctx) = .rollback)
    (hchoice : s.plaza.choice = none) (bad : List (Nat × Nat)) : Claims.inState (s.tick bad) run.ctx 2
      ∧ ((s.tick bad).ctx run.ctx).replays = (s.ctx run.ctx).replays + 1 ∧ ((s.tick bad).ctx run.ctx).replayPending = true := by
  have hclassed : (s.opened.classed run).ctx run.ctx
      = { s.ctx run.ctx with state := 2, replays := (s.ctx run.ctx).replays + 1, replayPending := true } := by
    rw [State.classed, State.opened_ctx, hk, State.classMove, State.onCtx_ctx_same, State.onPlaza_ctx, State.opened_ctx]
  have hvital := State.tick_vital_of_not_complete hrun hcmds (by rw [hk]; nofun) (.inr hchoice) bad
  rw [hclassed] at hvital
  simp only [Ctx.vital, Prod.mk.injEq] at hvital
  obtain ⟨h1, -, -, -, h5, h6⟩ := hvital
  exact ⟨h1, h5, h6⟩

end

end Sys2Proof.Machine
end

section
/-! PROOFS. The Plaza's other commands: its pulses and its switch, the end of a frame, and the context commands in the queue and from it (R32, R37,
R42, R43, R340, R485). -/

namespace Sys2Proof.Machine
open Sys2Proof

section
variable {s : State}

/-! ### Pulses and the switch (R32, R485) -/

theorem State.follower_iff : s.follower = true ↔ s.rd F.TICK_SYNC_MODE = 2 := beq_iff_eq

theorem execTickIn_of_follower (h : s.rd F.TICK_SYNC_MODE = 2) : exec .tickIn s
    = .next (s.onPlaza (fun p => { p with armed := true, ticking := p.ticking || p.waitPulse, waitPulse := false })) := by
  rw [exec_tickIn, execTickIn, if_pos (State.follower_iff.mpr h)]

theorem execTickIn_of_not_follower (h : s.rd F.TICK_SYNC_MODE ≠ 2) : exec .tickIn s = .next s := by
  rw [exec_tickIn, execTickIn, if_neg (State.follower_iff.not.mpr h)]

theorem execTickLost_of_ticking (h : s.rd F.TICK_SYNC_MODE = 2) (ht : s.plaza.ticking = true) :
    exec .tickLost s = .next ((s.setEvt .tick 0 0).onPlaza (fun p => { p with armed := true })) := by
  rw [exec_tickLost, execTickLost, if_pos (by rw [State.follower_iff.mpr h, ht]; rfl)]

theorem execTickLost_of_not_follower (h : s.rd F.TICK_SYNC_MODE ≠ 2) : exec .tickLost s = .next s := by
  have hf : s.follower = false := Bool.eq_false_iff.mpr (State.follower_iff.not.mpr h)
  rw [exec_tickLost, execTickLost, hf]
  rfl

theorem State.setEvt_frame (s : State) (b : Nat) : (s.setEvt .tick 0 b).frame = s.frame :=
  State.rd_setEvt_of_off (f := F.TICK_FRAME_NUM_NUM) rfl (by decide) s 0 0 b

/-- The switch of the Plaza, before what it does to the tick. -/
theorem State.rdAt_enable_same (v : Nat) (hv : v < 2) : (s.wrAt .tick 0 F.HDR_CTRL_ENABLE 0 v).rdAt .tick 0 F.HDR_CTRL_ENABLE 0 = v := by
  rw [State.rdAt_wrAt_same _ _ _ _ _ _ (by decide)]
  exact Nat.mod_eq_of_lt hv

theorem State.rd_enable_ne {f : Fld} (hf : keyAt f.page 0 f 0 ≠ keyAt .tick 0 F.HDR_CTRL_ENABLE 0) (v : Nat) :
    (s.wrAt .tick 0 F.HDR_CTRL_ENABLE 0 v).rd f = s.rd f :=
  State.rdAt_wrAt_ne s .tick f.page 0 0 _ f 0 0 v hf

theorem State.tickEnable_true {src : Source} (hsrc : s.mayWrite src = true) (hfatal : s.rd F.TOP_STATUS_FATAL ≠ 1) :
    let t := s.tickEnable src true
    t.rdAt .tick 0 F.HDR_CTRL_ENABLE 0 = 1 ∧ t.plaza.stopping = false ∧ (s.rd F.TICK_SYNC_MODE ≠ 2 → t.plaza.ticking = true)
      ∧ (s.rd F.TICK_SYNC_MODE = 2 → s.plaza.ticking = false → t.plaza.ticking = false ∧ t.plaza.waitPulse = true) := by
  have henable := State.rdAt_enable_same (s := s) 1 (by decide)
  have hmode : (s.wrAt .tick 0 F.HDR_CTRL_ENABLE 0 1).rd F.TICK_SYNC_MODE = s.rd F.TICK_SYNC_MODE := State.rd_enable_ne (by decide) 1
  have hfatal1 : (s.wrAt .tick 0 F.HDR_CTRL_ENABLE 0 1).rd F.TOP_STATUS_FATAL ≠ 1 := by rwa [State.rd_enable_ne (by decide)]
  have hplaza : (s.wrAt .tick 0 F.HDR_CTRL_ENABLE 0 1).plaza = s.plaza := s.wrAt_plaza _ _ _ _ _
  unfold State.tickEnable
  generalize s.wrAt .tick 0 F.HDR_CTRL_ENABLE 0 1 = t at *
  have hfollower : (t.onPlaza (fun p => { p with stopping := false })).follower = true ↔ s.rd F.TICK_SYNC_MODE = 2 := by
    rw [← hmode]
    exact State.follower_iff (s := t)
  simp only [hsrc, Bool.true_eq_false, if_false, if_true]
  split
  case isTrue hticking =>
    have hon : s.plaza.ticking = true := by
      rw [← hplaza]
      exact hticking.resolve_right hfatal1
    refine ⟨henable, rfl, fun _ => (congrArg Plaza.ticking hplaza).trans hon, fun _ hoff => ?_⟩
    rw [hon] at hoff
    cases hoff
  case isFalse hidle =>
    split
    case isTrue hmode2 => exact ⟨henable, rfl, fun hne => absurd (hfollower.mp hmode2) hne, fun _ hoff => ⟨(congrArg Plaza.ticking hplaza).trans hoff, rfl⟩⟩
    case isFalse hmode2 => exact ⟨henable, rfl, fun _ => rfl, fun h2 => absurd (hfollower.mpr h2) hmode2⟩

theorem State.tickEnable_false_of_busy {src : Source} (hbusy : s.anyBusy = true) : s.tickEnable src false = s := by
  simp [State.tickEnable, hbusy]

theorem State.tickEnable_false {src : Source} (hsrc : s.mayWrite src = true) (hidle : s.anyBusy = false) : s.tickEnable src false
    = (s.wrAt .tick 0 F.HDR_CTRL_ENABLE 0 0).onPlaza (fun p => { p with stopping := p.ticking, waitPulse := false }) := by
  simp [State.tickEnable, hsrc, hidle]

/-! ### Frame end (R37, R395) -/

theorem execFrameEnded_of_none (h : s.plaza.run = none) : exec .frameEnded s = .next s := by
  rw [exec_frameEnded, execFrameEnded, h]

theorem execFrameEnded_of_some {run : Run} (h : s.plaza.run = some run) : exec .frameEnded s
    = .next (if run.ended ∨ s.enabledBlks.all (fun p => (s.blk p).q.ended) = false then s
      else if run.faults = [] ∧ s.fabricUse run.ctx = true then (s.onPlaza (fun p => { p with run := some { run with ended := true } })).sendCommit s.frame
      else s.onPlaza (fun p => { p with run := some { run with ended := true } })) := by
  rw [exec_frameEnded, execFrameEnded, h]
  rfl

theorem frameEnded_waits {run : Run} (h : s.plaza.run = some run) (hopen : ∃ p ∈ s.enabledBlks, (s.blk p).q.ended = false) :
    exec .frameEnded s = .next s := by
  obtain ⟨p, hp, hended⟩ := hopen
  rw [execFrameEnded_of_some h, if_pos]
  refine .inr (Bool.eq_false_iff.mpr fun hall => ?_)
  rw [List.all_eq_true.mp hall p hp] at hended
  cases hended

theorem frameEnded_ends {run : Run} (h : s.plaza.run = some run) (hended : run.ended = false) (hall : ∀ p ∈ s.enabledBlks, (s.blk p).q.ended = true) :
    ∃ t, exec .frameEnded s = .next t ∧ t.plaza = { s.plaza with run := some { run with ended := true } } ∧ t.dram = s.dram
      ∧ (run.faults ≠ [] ∨ s.fabricUse run.ctx = false → t = { s with plaza := t.plaza }) := by
  rw [execFrameEnded_of_some h, if_neg (by simp [hended, List.all_eq_true.mpr hall])]
  refine ⟨_, rfl, ?_⟩
  split
  case isTrue hclean =>
    refine ⟨State.sendCommit_plaza _ _, State.sendCommit_dram _ _, fun hno => ?_⟩
    rcases hno with hfaults | huse
    · exact absurd hclean.1 hfaults
    · rw [hclean.2] at huse
      cases huse
  · exact ⟨rfl, rfl, fun _ => rfl⟩

/-! ### The queue of context commands (R43, R340) -/

/-- Commands that need no preparation stay as they are. -/
theorem State.prepareAll_append (s : State) {cs : List CtxCmd} (h : ∀ q ∈ cs, q.op ≠ 1 ∨ q.prep.isSome = true) (before rest : List CtxCmd) :
    s.prepareAll before (cs ++ rest) = s.prepareAll (before ++ cs) rest := by
  induction cs generalizing before with
  | nil => rw [List.nil_append, List.append_nil]
  | cons c cs ih =>
    rw [List.cons_append, State.prepareAll, if_pos (h c (.head _)), ih fun q hq => h q (.tail _ hq), List.append_assoc, List.singleton_append]

theorem State.prepareAll_of_prepared (s : State) {cs : List CtxCmd} (h : ∀ q ∈ cs, q.op ≠ 1 ∨ q.prep.isSome = true) : s.prepareAll [] cs = (s, cs) := by
  have happend := s.prepareAll_append h [] []
  rwa [List.append_nil, List.nil_append, State.prepareAll] at happend

theorem State.ctxCmd_full {src : Source} (hsrc : s.mayWrite src = true) (h : 64 ≤ s.plaza.cmds.length) (op n : Nat) :
    s.ctxCmd src op n = s.setEvt .ctx 0 4 := by
  simp [State.ctxCmd, hsrc, h]

/-- The queue with a command appended. -/
theorem State.ctxCmd_room {src : Source} (hsrc : s.mayWrite src = true) (h : s.plaza.cmds.length < 64) (op n : Nat) :
    s.ctxCmd src op n = (s.onPlaza (fun p => { p with cmds := p.cmds ++ [⟨op, n, none⟩] })).prepareQueue := by
  rw [State.ctxCmd, if_neg (by simp [hsrc]), if_neg (Nat.not_le.mpr h)]

theorem State.ctxCmd_plain {src : Source} (hsrc : s.mayWrite src = true) (h : s.plaza.cmds.length < 64)
    (hq : ∀ q ∈ s.plaza.cmds, q.op ≠ 1 ∨ q.prep.isSome = true) {op : Nat} (hop : op ≠ 1) (n : Nat) :
    s.ctxCmd src op n = s.onPlaza (fun p => { p with cmds := p.cmds ++ [⟨op, n, none⟩] }) := by
  rw [State.ctxCmd_room hsrc h, State.prepareQueue, State.prepareAll_of_prepared]
  · rfl
  · intro q hmem
    rcases List.mem_append.mp hmem with hold | hnew
    · exact hq q hold
    · rw [List.mem_singleton.mp hnew]
      exact .inl hop

/-- What preparation finds says from which state it was. -/
theorem State.prepare_fromEmpty (s : State) (n : Nat) (fromEmpty : Bool) (meas : BitVec 384) : (s.prepare n fromEmpty meas).2.fromEmpty = fromEmpty := by
  unfold State.prepare
  dsimp only
  split
  case isTrue h => exact h.symm
  case isFalse h =>
    have htrue : true = fromEmpty := (Bool.eq_true_of_not_eq_false h).symm
    split
    · exact htrue
    split
    · exact htrue
    case h_2 t prog meas _ =>
      generalize t.regionTable (s.ctx n) = table
      split
      · exact htrue
      split
      · exact htrue
      split
      · exact htrue
      · exact htrue

/-- An entry whose check fails is found first. -/
theorem State.prepare_reason (s : State) (n : Nat) (fromEmpty : Bool) (meas : BitVec 384) :
    (fromEmpty = false → (s.prepare n fromEmpty meas).2.reason = 0)
      ∧ (fromEmpty = true → (s.ctx n).entryOk = false → (s.prepare n fromEmpty meas).2.reason = 2) := by
  unfold State.prepare
  dsimp only
  split
  case isTrue h => exact ⟨fun _ => rfl, fun htrue => absurd (htrue.symm.trans h) nofun⟩
  case isFalse h =>
    refine ⟨fun hfalse => absurd hfalse h, fun _ hbad => ?_⟩
    rw [if_pos hbad]

theorem State.comesEmpty_of_alone {q : List CtxCmd} {n : Nat} (h : (s.ctx n).state = 0) (hq : ∀ c ∈ q, c.ctx ≠ n) : s.comesEmpty q n = true := by
  have hnone : q.any (fun c => c.ctx == n && c.op == 1) = false := List.any_eq_false.mpr fun c hc => by simp [hq c hc]
  simp [State.comesEmpty, h, hnone]

theorem State.comesEmpty_of_state {q : List CtxCmd} {n : Nat} (h : (s.ctx n).state ≠ 0) : s.comesEmpty q n = false := by
  simp [State.comesEmpty, h]

/-- An ACTIVATE is prepared as it is queued. -/
theorem State.ctxCmd_activate {src : Source} (hsrc : s.mayWrite src = true) (h : s.plaza.cmds.length < 64)
    (hq : ∀ q ∈ s.plaza.cmds, q.op ≠ 1 ∨ q.prep.isSome = true) (hent : s.sec.entropyOk = true) (n : Nat) :
    ∃ u meas, u.ctx n = s.ctx n
      ∧ (s.ctxCmd src 1 n).plaza.cmds = s.plaza.cmds ++ [⟨1, n, some (State.prepare u n (s.comesEmpty s.plaza.cmds n) meas).2⟩] := by
  rw [State.ctxCmd_room hsrc h, State.prepareQueue]
  have hctx : (s.onPlaza (fun p => { p with cmds := p.cmds ++ [⟨1, n, none⟩] })).ctx n = s.ctx n := rfl
  have hcmds : (s.onPlaza (fun p => { p with cmds := p.cmds ++ [⟨1, n, none⟩] })).plaza.cmds = s.plaza.cmds ++ [⟨1, n, none⟩] := rfl
  have hent' : (s.onPlaza (fun p => { p with cmds := p.cmds ++ [⟨1, n, none⟩] })).sec.entropyOk = true := hent
  have hempty : (s.onPlaza (fun p => { p with cmds := p.cmds ++ [⟨1, n, none⟩] })).comesEmpty s.plaza.cmds n = s.comesEmpty s.plaza.cmds n := rfl
  generalize s.onPlaza (fun p => { p with cmds := p.cmds ++ [⟨1, n, none⟩] }) = u at *
  refine ⟨u, u.comingMeas s.plaza.cmds n, hctx, ?_⟩
  rw [hcmds, State.prepareAll_append _ hq, List.nil_append, State.prepareAll, if_neg (by simp), if_neg (by simp [hent']), hempty]
  rfl

end

end Sys2Proof.Machine
end

section
/-! PROOFS. What the context commands, writes of an entry and the load of a resident one make of a context (R42, R43, R45, R46, R47), and the
obligation of the tick. -/

namespace Sys2Proof.Machine
open Sys2Proof

/-! ### Maps and entries -/

theorem SMap.find_del_same {α : Type} (k : Nat) (m : SMap α) : SMap.find k (SMap.del k m) = none := by
  induction m with
  | nil => rfl
  | cons e m ih =>
    simp only [SMap.del]
    split
    · exact ih
    case isFalse h => rw [SMap.find, if_neg h, ih]

theorem SMap.find_del_ne {α : Type} {j k : Nat} (h : j ≠ k) (m : SMap α) : SMap.find j (SMap.del k m) = SMap.find j m := by
  induction m with
  | nil => rfl
  | cons e m ih =>
    simp only [SMap.del]
    split
    case isTrue he => rw [ih, SMap.find, if_neg (he.trans_ne (Ne.symm h))]
    case isFalse => rw [SMap.find, SMap.find, ih]

theorem SMap.get_del_same {α : Type} (k : Nat) (d : α) (m : SMap α) : (SMap.del k m).get k d = d := by
  rw [SMap.get, SMap.find_del_same, Option.getD_none]

theorem SMap.get_del_ne {α : Type} {j k : Nat} (h : j ≠ k) (d : α) (m : SMap α) : (SMap.del k m).get j d = m.get j d := by
  rw [SMap.get, SMap.get, SMap.find_del_ne h]

/-- Bytes of an entry that no host write reaches (R45). -/
def deviceByte (i : Nat) : Bool := (decide (4 ≤ i) && decide (i < 8)) || decide (0x200 ≤ i)

/-- A byte of an entry is written (R6, R45): byte i of a write at an offset. -/
def writeEntryByte (off : Nat) (m : SMap Byte) (e : Byte × Nat) : SMap Byte :=
  let v := e.1 &&& entryMask (off + e.2)
  if deviceByte (off + e.2) then m else if v = 0 then SMap.del (off + e.2) m else SMap.put (off + e.2) v m

theorem writeEntryByte_get_ne {off a : Nat} {e : Byte × Nat} (h : a ≠ off + e.2) (m : SMap Byte) : (writeEntryByte off m e).get a 0 = m.get a 0 := by
  unfold writeEntryByte
  dsimp only
  split
  · rfl
  split
  · exact SMap.get_del_ne h 0 m
  · exact SMap.get_put_ne h _ 0 m

theorem writeEntryByte_get_same (off : Nat) (b : Byte) (i : Nat) (m : SMap Byte) :
    (writeEntryByte off m (b, i)).get (off + i) 0 = if deviceByte (off + i) then m.get (off + i) 0 else b &&& entryMask (off + i) := by
  unfold writeEntryByte
  dsimp only
  split
  · rfl
  split
  case isTrue h => rw [SMap.get_del_same, h]
  case isFalse => exact SMap.get_put_same _ _ 0 m

/-- The bytes of an entry after a write. -/
theorem writeEntryBytes_get (off : Nat) (bs : List Byte) (m : SMap Byte) (a : Nat) :
    ((bs.zip (List.range bs.length)).foldl (writeEntryByte off) m).get a 0
      = if off ≤ a ∧ a < off + bs.length ∧ deviceByte a = false then bs.getD (a - off) 0 &&& entryMask a else m.get a 0 := by
  induction bs using List.reverseRecOn with
  | nil => rw [if_neg (by rintro ⟨h1, h2, -⟩; simp only [List.length_nil] at h2; omega)]; rfl
  | append_singleton bs b ih =>
    rw [List.length_append, List.length_singleton, List.range_succ, List.zip_append (by simp), List.foldl_append]
    simp only [List.zip_cons_cons, List.zip_nil_right, List.foldl_cons, List.foldl_nil]
    by_cases ha : a = off + bs.length
    · subst ha
      rw [writeEntryByte_get_same, ih]
      cases hdev : deviceByte (off + bs.length) with
      | true => simp
      | false => simp
    · rw [writeEntryByte_get_ne ha, ih]
      by_cases hin : off ≤ a ∧ a < off + bs.length
      · have hget : (bs ++ [b]).getD (a - off) 0 = bs.getD (a - off) 0 := List.getD_append _ _ _ _ (by omega)
        have hlt : a < off + (bs.length + 1) := by omega
        simp only [hget, hin, hlt, true_and]
      · have hout : ¬ (off ≤ a ∧ a < off + (bs.length + 1)) := by omega
        rw [if_neg fun h => hin ⟨h.1, h.2.1⟩, if_neg fun h => hout ⟨h.1, h.2.1⟩]

theorem deviceByte_eq_false_iff {a : Nat} : deviceByte a = false ↔ a < 0x200 ∧ ¬ (4 ≤ a ∧ a < 8) := by
  simp only [deviceByte, Bool.or_eq_false_iff, Bool.and_eq_false_iff, decide_eq_false_iff_not]
  omega

section
variable {s : State}

theorem State.entryWrite_unaligned {src : Source} (n off : Nat) {bs : List Byte} (h : ¬ (bs.length = 4 ∨ bs.length = 8) ∨ off % bs.length ≠ 0) :
    s.entryWrite src n off bs = s := by
  rw [State.entryWrite]
  exact if_pos (.inr (h.imp id .inl))

theorem State.entryWrite_aligned {src : Source} (hsrc : s.mayWrite src = true) (n : Nat) {off : Nat} {bs : List Byte}
    (hlen : bs.length = 4 ∨ bs.length = 8) (hoff : off % bs.length = 0) (hend : off + bs.length ≤ 1024) : s.entryWrite src n off bs
      = if (s.ctx n).state = 2 ∨ (s.ctx n).state = 3 then s.setEvt .ctx 0 5
        else State.onCtx (if (List.range bs.length).any (fun i => deviceByte (off + i)) then s.setEvt .ctx 0 5 else s) n
          (fun c => { c with host := (bs.zip (List.range bs.length)).foldl (writeEntryByte off) c.host }) := by
  rw [State.entryWrite]
  exact if_neg (by simp [hsrc, hlen, hoff, hend])

theorem State.entryWrite_ctx {src : Source} (hsrc : s.mayWrite src = true) {n off : Nat} {bs : List Byte}
    (hlen : bs.length = 4 ∨ bs.length = 8) (hoff : off % bs.length = 0) (hend : off + bs.length ≤ 1024)
    (hstate : ¬ ((s.ctx n).state = 2 ∨ (s.ctx n).state = 3)) :
    let t := s.entryWrite src n off bs
    t = { s with regs := t.regs, ctxs := t.ctxs } ∧ (∀ m, m ≠ n → t.ctx m = s.ctx m) ∧ t.ctx n = { s.ctx n with host := (t.ctx n).host }
      ∧ ∀ a, (t.ctx n).host.get a 0 = if off ≤ a ∧ a < off + bs.length ∧ a < 0x200 ∧ ¬ (4 ≤ a ∧ a < 8) then bs.getD (a - off) 0 &&& entryMask a
        else (s.ctx n).host.get a 0 := by
  rw [State.entryWrite_aligned hsrc n hlen hoff hend, if_neg hstate]
  have hctx (m : Nat) : (if (List.range bs.length).any (fun i => deviceByte (off + i)) then s.setEvt .ctx 0 5 else s).ctx m = s.ctx m := by
    split <;> rfl
  dsimp only
  refine ⟨?_, fun m hm => ?_, ?_, fun a => ?_⟩
  · split <;> rfl
  · rw [State.onCtx_ctx_ne _ _ _ _ hm, hctx]
  · rw [State.onCtx_ctx_same, hctx]
  · rw [State.onCtx_ctx_same, hctx]
    dsimp only
    rw [writeEntryBytes_get]
    simp only [deviceByte_eq_false_iff]

/-! ### Residency (R46, R47) -/

theorem State.loadFails_ctx (s : State) (n code addr : Nat) : (s.loadFails n code addr).ctx n = { s.ctx n with loadFail := true } := by
  rw [State.loadFails, State.onCtx_ctx_same, State.ctx_of_outline (State.outline_of_gist (State.gist_enqueue _ _ _))]

/-- A context that is to be loaded. -/
def State.awaitsLoad (s : State) (n : Nat) : Prop := n < nCtxs ∧ (s.ctx n).resident = true ∧ (s.ctx n).loaded = false

theorem execResidentLoad_other {n : Nat} (hn : n < nCtxs) (h : (s.ctx n).resident = false ∨ (s.ctx n).loaded = true) :
    exec (.residentLoad n) s = .next s := by
  rw [exec_residentLoad, execResidentLoad, onUnit_of_lt hn]
  exact congrArg _ (if_pos h)

theorem execResidentLoad_entry_bad {n : Nat} (h : s.awaitsLoad n) (hentry : (s.ctx n).entryOk = false) :
    exec (.residentLoad n) s = .next (s.loadFails n 0x0401 0) := by
  obtain ⟨hn, hres, hload⟩ := h
  rw [exec_residentLoad, execResidentLoad, onUnit_of_lt hn]
  simp only [hres, hload, hentry]
  rfl

theorem execResidentLoad_table {n : Nat} (h : s.awaitsLoad n) (hentry : (s.ctx n).entryOk = true) : exec (.residentLoad n) s
    = .next (if (s.regionTable (s.ctx n)).2.2.2 then
        ((s.ctx n).bound.map (fun (e : Nat × Nat) => e.2)).foldl (fun s t => forN nDist s (fun s g => s.keyLoad g t))
          ((s.regionTable (s.ctx n)).1.onCtx n (fun c => { c with loaded := true, regions := (s.regionTable (s.ctx n)).2.1 }))
      else (s.regionTable (s.ctx n)).1.loadFails n 0x0402 ((s.ctx n).num 0x020 8)) := by
  obtain ⟨hn, hres, hload⟩ := h
  rw [exec_residentLoad, execResidentLoad, onUnit_of_lt hn]
  refine congrArg _ ((if_neg (by simp [hres, hload])).trans ((if_neg (by simp [hentry])).trans ?_))
  generalize s.regionTable (s.ctx n) = table
  rfl

theorem State.loadKeys_ctx (s : State) (ts : List Nat) (n : Nat) :
    (ts.foldl (fun s t => forN nDist s (fun s g => s.keyLoad g t)) s).ctx n = s.ctx n :=
  State.ctx_of_outline (State.outline_of_gist (State.gist_foldl (fun u t => State.gist_forN (fun u g => u.gist_keyLoad g t) nDist u) ts s)) n

theorem residentLoad_loads {n : Nat} (h : s.awaitsLoad n) (hentry : (s.ctx n).entryOk = true) (htable : (s.regionTable (s.ctx n)).2.2.2 = true) :
    ∃ t, exec (.residentLoad n) s = .next t ∧ (t.ctx n).loaded = true ∧ (t.ctx n).regions = (s.regionTable (s.ctx n)).2.1 := by
  rw [execResidentLoad_table h hentry, if_pos htable]
  refine ⟨_, rfl, ?_⟩
  rw [State.loadKeys_ctx, State.onCtx_ctx_same]
  exact ⟨rfl, rfl⟩

theorem residentLoad_table_bad {n : Nat} (h : s.awaitsLoad n) (hentry : (s.ctx n).entryOk = true) (htable : (s.regionTable (s.ctx n)).2.2.2 = false) :
    ∃ t, exec (.residentLoad n) s = .next t ∧ (t.ctx n).loadFail = true := by
  rw [execResidentLoad_table h hentry, if_neg (by rw [htable]; nofun)]
  refine ⟨_, rfl, ?_⟩
  rw [State.loadFails_ctx]

theorem residentLoad_entry_bad {n : Nat} (h : s.awaitsLoad n) (hentry : (s.ctx n).entryOk = false) :
    ∃ t, exec (.residentLoad n) s = .next t ∧ (t.ctx n).loadFail = true ∧ (t.ctx n).loaded = false := by
  refine ⟨_, execResidentLoad_entry_bad h hentry, ?_⟩
  rw [State.loadFails_ctx]
  exact ⟨rfl, h.2.2⟩

/-! ### The commands apply (R42, R43) -/

theorem State.refuseCmd_refused (s : State) (op n reason : Nat) (hreason : reason < 16) : Claims.cmdRefused s (s.refuseCmd op n reason) op n reason := by
  refine ⟨rfl, State.rd_wr_same _ _ _ _ _ (by decide), ?_, ?_, ?_⟩
  · rw [State.refuseCmd, State.rd_wr_of_place (f := F.CTX_CMD_RESULT_VALID) (g := F.CTX_CMD_RESULT_REASON) rfl (by decide),
      State.rd_wr_same _ _ _ _ _ (by decide)]
    exact Nat.mod_eq_of_lt hreason
  · rw [State.refuseCmd, State.rd_wr_of_place (f := F.CTX_CMD_RESULT_VALID) (g := F.CTX_CMD_RESULT_OP) rfl (by decide),
      State.rd_wr_of_place (f := F.CTX_CMD_RESULT_REASON) (g := F.CTX_CMD_RESULT_OP) rfl (by decide), State.rd_wr_same _ _ _ _ _ (by decide)]
    rfl
  · rw [State.refuseCmd, State.rd_wr_of_place (f := F.CTX_CMD_RESULT_VALID) (g := F.CTX_CMD_RESULT_CTX) rfl (by decide),
      State.rd_wr_of_place (f := F.CTX_CMD_RESULT_REASON) (g := F.CTX_CMD_RESULT_CTX) rfl (by decide),
      State.rd_wr_of_place (f := F.CTX_CMD_RESULT_OP) (g := F.CTX_CMD_RESULT_CTX) rfl (by decide), State.rd_wr_same _ _ _ _ _ (by decide)]
    rfl

theorem State.stopCtx_state (s : State) (n st : Nat) : ((s.stopCtx n st).ctx n).state = st := by
  rw [State.stopCtx, State.ctx_of_outline (State.outline_of_gist (State.gist_sendAbort _ _ _ _)), State.onCtx_ctx_same]

theorem State.releaseCtx_state (s : State) (n : Nat) : ((s.releaseCtx n).ctx n).state = 0 := by
  unfold State.releaseCtx
  extract_lets left _ s1
  have h1 : (s1.ctx n).state = 0 := by
    unfold s1
    rw [State.onCtx_ctx_same]
    rfl
  split
  · rw [State.ctx_of_outline (State.outline_of_gist (State.gist_dropKey _ _)), h1]
  · exact h1

theorem State.applyCmd_stop (s : State) (n : Nat) (prep : Option Prep) : let st := (s.ctx n).state; let t := s.applyCmd ⟨2, n, prep⟩
    (st = 1 ∨ st = 2 ∨ st = 4 → Claims.inState t n 1) ∧ (st = 0 ∨ st = 3 ∨ st = 5 ∨ st = 6 → Claims.cmdRefused s t 2 n 1) := by
  have happly : s.applyCmd ⟨2, n, prep⟩
      = if (s.ctx n).state = 1 then s else if (s.ctx n).state = 2 ∨ (s.ctx n).state = 4 then s.stopCtx n 1 else s.refuseCmd 2 n 1 := rfl
  dsimp only
  rw [happly]
  refine ⟨fun h => ?_, fun h => ?_⟩
  · split
    case isTrue h1 => exact h1
    case isFalse h1 =>
      rw [if_pos (h.resolve_left h1)]
      exact s.stopCtx_state n 1
  · rw [if_neg (by omega), if_neg (by omega)]
    exact s.refuseCmd_refused 2 n 1 (by decide)

theorem State.applyCmd_abort (s : State) (n : Nat) (prep : Option Prep) : let st := (s.ctx n).state; let t := s.applyCmd ⟨3, n, prep⟩
    (st ≠ 0 → Claims.inState t n 6) ∧ (st = 0 → Claims.cmdRefused s t 3 n 1) := by
  have happly : s.applyCmd ⟨3, n, prep⟩
      = if (s.ctx n).state = 0 then s.refuseCmd 3 n 1 else (s.stopCtx n 6).onCtx n (fun x => { x with stopFrame := s.frame }) := rfl
  dsimp only
  rw [happly]
  refine ⟨fun h => ?_, fun h => ?_⟩
  · rw [if_neg h, Claims.inState, State.onCtx_ctx_same]
    dsimp only
    rw [State.stopCtx_state]
  · rw [if_pos h]
    exact s.refuseCmd_refused 3 n 1 (by decide)

theorem State.applyCmd_resume (s : State) (n : Nat) (prep : Option Prep) : let st := (s.ctx n).state; let t := s.applyCmd ⟨4, n, prep⟩
    (st = 4 → Claims.inState t n 2 ∧ (t.ctx n).replays = 0) ∧ (st ≠ 4 → Claims.cmdRefused s t 4 n 1) := by
  have happly : s.applyCmd ⟨4, n, prep⟩ = if (s.ctx n).state = 4 then
      s.onCtx n (fun x => { x with state := 2, replays := 0, activated := some (s.rd F.TICK_TICK_TIME_TIME) }) else s.refuseCmd 4 n 1 := rfl
  dsimp only
  rw [happly]
  refine ⟨fun h => ?_, fun h => ?_⟩
  · rw [if_pos h, Claims.inState, State.onCtx_ctx_same]
    exact ⟨rfl, rfl⟩
  · rw [if_neg h]
    exact s.refuseCmd_refused 4 n 1 (by decide)

theorem State.applyCmd_release (s : State) (n : Nat) (prep : Option Prep) : let st := (s.ctx n).state; let t := s.applyCmd ⟨5, n, prep⟩
    (st = 1 ∨ st = 4 ∨ st = 5 ∨ st = 6 → Claims.inState t n 0) ∧ (st = 0 ∨ st = 2 ∨ st = 3 → Claims.cmdRefused s t 5 n 1) := by
  have happly : s.applyCmd ⟨5, n, prep⟩
      = if (s.ctx n).state = 1 ∨ (s.ctx n).state = 4 ∨ (s.ctx n).state = 5 ∨ (s.ctx n).state = 6 then s.releaseCtx n else s.refuseCmd 5 n 1 := rfl
  dsimp only
  rw [happly]
  refine ⟨fun h => ?_, fun h => ?_⟩
  · rw [if_pos h]
    exact s.releaseCtx_state n
  · rw [if_neg (by omega)]
    exact s.refuseCmd_refused 5 n 1 (by decide)

theorem State.applyCmd_activate_running (s : State) (n : Nat) (prep : Option Prep) (h : 2 ≤ (s.ctx n).state) :
    Claims.cmdRefused s (s.applyCmd ⟨1, n, prep⟩) 1 n 1 := by
  have happly : s.applyCmd ⟨1, n, prep⟩ = s.refuseCmd 1 n 1 := if_neg (by dsimp only; omega)
  rw [happly]
  exact s.refuseCmd_refused 1 n 1 (by decide)

theorem State.applyCmd_unknown (s : State) {op : Nat} (n : Nat) (prep : Option Prep) (h : op = 0 ∨ 6 ≤ op) :
    Claims.cmdRefused s (s.applyCmd ⟨op, n, prep⟩) op n 5 := by
  have happly : s.applyCmd ⟨op, n, prep⟩ = s.refuseCmd op n 5 := by
    unfold State.applyCmd
    dsimp only
    split
    case h_6 => rfl
    all_goals omega
  rw [happly]
  exact s.refuseCmd_refused op n 5 (by decide)

end

end Sys2Proof.Machine
end

section
/-! PROOFS. The obligation of the tick and the contexts: its clauses by command. -/

namespace Sys2Proof.Machine
open Sys2Proof Sys2Proof.Claims

section
variable (s : State)

/-! ### Each command's clause -/

theorem execTick_of_mayTick (h : s.mayTick = true) (bad : List (Nat × Nat)) : exec (.tick bad) s = .next (s.tick bad) := by
  rw [exec_tick, execTick, if_pos h]

theorem execTick_of_not_mayTick (h : s.mayTick = false) (bad : List (Nat × Nat)) : exec (.tick bad) s = .next s := by
  rw [exec_tick, execTick, if_neg (by rw [h]; nofun)]

theorem tickCtrlEnable_eq {src : Source} (hsrc : mayCommand s src) (v : Bool) : exec (.tickCtrlEnable src v) s = .next (s.tickEnable src v) := by
  rw [exec_tickCtrlEnable, execTickCtrlEnable, onSrc_of_ok hsrc.1]

/-- The rows of the context commands queue their own OP code (R43). -/
theorem ctxRows_exec {src : Source} {n : Nat} (hsrc : sourceOk src = true) (hn : n < nCtxs) {c : Instr × Nat} (hc : c ∈ ctxRows src n) :
    exec c.1 s = .next (s.ctxCmd src c.2 n) := by
  simp only [ctxRows, List.mem_cons, List.not_mem_nil, or_false] at hc
  rcases hc with rfl | rfl | rfl | rfl | rfl
  · rw [exec_activate, execActivate, onSrc_of_ok hsrc, onUnit_of_lt hn]
  · rw [exec_stop, execStop, onSrc_of_ok hsrc, onUnit_of_lt hn]
  · rw [exec_abort, execAbort, onSrc_of_ok hsrc, onUnit_of_lt hn]
  · rw [exec_resume, execResume, onSrc_of_ok hsrc, onUnit_of_lt hn]
  · rw [exec_release, execRelease, onSrc_of_ok hsrc, onUnit_of_lt hn]

theorem ctxRows_activate {src : Source} {n : Nat} (hmay : s.mayWrite src = true) (hroom : s.plaza.cmds.length < 64)
    (hready : ∀ q ∈ s.plaza.cmds, q.op ≠ 1 ∨ q.prep.isSome = true) (hent : s.sec.entropyOk = true) :
    ∃ p, (s.ctxCmd src 1 n).plaza.cmds = s.plaza.cmds ++ [⟨1, n, some p⟩]
      ∧ (inState s n 0 → (∀ q ∈ s.plaza.cmds, q.ctx ≠ n) → p.fromEmpty = true ∧ ((s.ctx n).entryOk = false → p.reason = 2))
      ∧ (¬ inState s n 0 → p.fromEmpty = false ∧ p.reason = 0) := by
  obtain ⟨u, meas, hctx, hcmds⟩ := State.ctxCmd_activate hmay hroom hready hent n
  refine ⟨_, hcmds, fun hempty halone => ?_, fun hstate => ?_⟩
  · rw [State.comesEmpty_of_alone hempty halone]
    exact ⟨u.prepare_fromEmpty n true meas, fun hbad => (u.prepare_reason n true meas).2 rfl (by rw [hctx, hbad])⟩
  · rw [State.comesEmpty_of_state hstate]
    exact ⟨u.prepare_fromEmpty n false meas, (u.prepare_reason n false meas).1 rfl⟩

theorem contextEntryWrite_eq {src : Source} (hsrc : mayCommand s src) {n : Nat} (hn : n < nCtxs) (off : Nat) (bs : List Byte) :
    exec (.contextEntryWrite src n off bs) s = .next (s.entryWrite src n off bs) := by
  rw [exec_contextEntryWrite, execContextEntryWrite, onSrc_of_ok hsrc.1, onUnit_of_lt hn]

end

/-! ### The obligation -/

/-- Settles O57, command by command: of a tick, the class of the ending frame by step 1 and what the gap keeps of it. -/
theorem tickAndContexts : Obligations.TickAndContexts := by
  unfold Obligations.TickAndContexts
  intro s
  refine ⟨fun h bad => execTick_of_not_mayTick s h bad, fun h bad => ?tick, fun h => ⟨_, execTickIn_of_follower h, rfl, rfl, rfl, rfl⟩,
    fun h => ⟨execTickIn_of_not_follower h, execTickLost_of_not_follower h⟩, fun h ht => ?lost, fun src hsrc => ?enable, execFrameEnded_of_none,
    fun run hrun => ⟨frameEnded_waits hrun, frameEnded_ends hrun⟩, fun src n hsrc hn c hc => ?queue, fun op n prep => ?apply,
    fun src n off bytes hsrc hn => ?entry, fun n hn => ?resident⟩
  case tick =>
    refine ⟨_, execTick_of_mayTick s h bad, s.tick_gapOrFatal bad, s.tick_tickTime bad, fun r hr => s.tick_run bad hr, fun run hrun hcmds => ?_⟩
    refine ⟨fun f hf => State.tick_kill hrun hcmds hf bad, fun hf he hd => State.tick_overrun hrun hcmds hf he hd bad, fun hf he hd hchoice hmoved => ?_,
      fun hne hkill hdirect hue hrep hd he hchoice => ?_⟩
    · have hk := (classOf_of_no_faults hf hd).trans (if_neg (by rw [he]; nofun))
      exact State.tick_state_of_complete hrun hcmds hk hd hmoved hchoice bad
    · exact State.tick_rollback hrun hcmds (classOf_rollback hne hkill hdirect hue hrep hd he) hchoice bad
  case lost =>
    exact ⟨_, execTickLost_of_ticking h ht, rfl, s.bitOf_evts_setEvt .tick 0 (by decide), s.setEvt_frame 0⟩
  case enable =>
    simp only [tickCtrlEnable_eq s hsrc]
    refine ⟨fun hfatal => ⟨_, rfl, State.tickEnable_true hsrc.2 hfatal⟩, fun hbusy => congrArg _ (State.tickEnable_false_of_busy hbusy), fun hidle => ?_⟩
    rw [State.tickEnable_false hsrc.2 hidle]
    exact ⟨_, rfl, State.rdAt_enable_same 0 (by decide), rfl, State.rd_enable_ne (f := F.TICK_FRAME_NUM_NUM) (by decide) 0⟩
  case queue =>
    rw [ctxRows_exec s hsrc.1 hn hc]
    refine ⟨fun hfull => congrArg _ (State.ctxCmd_full hsrc.2 hfull _ n), fun hroom hready => ⟨fun hop => ?_, fun hop hent => ?_⟩⟩
    · rw [State.ctxCmd_plain hsrc.2 hroom hready hop n]
      exact ⟨_, rfl, rfl, rfl⟩
    · rw [hop]
      obtain ⟨p, hp⟩ := ctxRows_activate s hsrc.2 hroom hready hent
      exact ⟨_, p, rfl, hp⟩
  case apply =>
    refine ⟨?_, ?_, ?_, ?_, ?_, s.applyCmd_unknown n prep⟩
    · rintro rfl
      exact s.applyCmd_stop n prep
    · rintro rfl
      exact s.applyCmd_abort n prep
    · rintro rfl
      exact s.applyCmd_resume n prep
    · rintro rfl
      exact s.applyCmd_release n prep
    · rintro rfl
      exact s.applyCmd_activate_running n prep
  case entry =>
    rw [contextEntryWrite_eq s hsrc hn]
    refine ⟨fun h => congrArg _ (State.entryWrite_unaligned n off h), fun hlen hoff hend => ⟨fun hrun => ?_, fun hrest => ?_⟩⟩
    · exact congrArg _ ((State.entryWrite_aligned hsrc.2 n hlen hoff hend).trans (if_pos hrun))
    · exact ⟨_, rfl, State.entryWrite_ctx hsrc.2 hlen hoff hend hrest⟩
  case resident =>
    refine ⟨execResidentLoad_other hn, fun hres hload => ?_⟩
    have hawait : s.awaitsLoad n := ⟨hn, hres, hload⟩
    exact ⟨residentLoad_entry_bad hawait, residentLoad_loads hawait, residentLoad_table_bad hawait⟩

end Sys2Proof.Machine
end

section
/-! PROOFS. The ramps, the hold and the issue gates of the matrix arrays (R94 to R98, R426), and the updates of a Block that the matrix
commands share. -/

namespace Sys2Proof.Machine
open Sys2Proof Sys2Proof.Claims

/-! ### Updates of one Block -/

section
variable (s : State) (p : Nat)

@[simp] theorem State.onMx_blk_same (f : Matrix → Matrix) : (s.onMx p f).blk p = { s.blk p with mx := f (s.blk p).mx } :=
  s.onBlk_blk_same p _

theorem State.onMx_blk_ne {p q : Nat} (h : q ≠ p) (f : Matrix → Matrix) : (s.onMx p f).blk q = s.blk q := s.onBlk_blk_ne q p _ h

@[simp] theorem State.onQ_blk_same (f : Queues → Queues) : (s.onQ p f).blk p = { s.blk p with q := f (s.blk p).q } := s.onBlk_blk_same p _

theorem State.onQ_blk_ne {p q : Nat} (h : q ≠ p) (f : Queues → Queues) : (s.onQ p f).blk q = s.blk q := s.onBlk_blk_ne q p _ h

theorem regsBut_cycles (f : Fld) : regsBut [keyOf f p 0] s (s.cycles f p) := regsBut_wrAt s f.page p f 0 _

theorem blksBut_onMx (f : Matrix → Matrix) : blksBut p s (s.onMx p f) := fun _ h => s.onMx_blk_ne h f

end

theorem blksBut.trans {p : Nat} {s t u : State} (h : blksBut p s t) (k : blksBut p t u) : blksBut p s u :=
  fun q hq => (k q hq).trans (h q hq)

theorem regsBut.trans {ks ls : List Nat} {s t u : State} (h : regsBut ks s t) (k : regsBut ls t u) : regsBut (ks ++ ls) s u := by
  intro pg v f i hk
  rw [List.mem_append, not_or] at hk
  exact (k pg v f i hk.2).trans (h pg v f i hk.1)

theorem regsBut_of_regs {ks : List Nat} {s t : State} (h : t.regs = s.regs) : regsBut ks s t := by
  intro pg v f i _
  rw [State.rdAt, State.rdAt, h]

theorem forN_succ {σ : Type} (n : Nat) (s : σ) (f : σ → Nat → σ) : forN (n + 1) s f = f (forN n s f) n := by
  rw [forN, List.range_succ, List.foldl_append]
  rfl

/-! ### The ramp (R94 to R98, R429) -/

theorem State.ballast_eq_true {s : State} {p : Nat} : s.ballast p = true ↔ s.rd F.BLK_MX_TEST_BALLAST_OFF p = 0 := by
  rw [State.ballast, beq_iff_eq]

theorem Ramp.step_up (n : Nat) : (Ramp.up n).step = if n = 4 then .hold else .up (n + 1) := by
  by_cases h : n = 4
  · rw [h]
    rfl
  · rw [if_neg h, Ramp.step]
    exact h

theorem Ramp.step_down (n : Nat) : (Ramp.down n).step = if n < 2 then .off else .down (n - 1) := by
  match n with
  | 0 => rfl
  | 1 => rfl
  | n + 2 => rfl

/-- A step of the ramp, with or without warm-up ballast. -/
theorem rampAfter_eq (s : State) (p : Nat) (r : Ramp) :
    (if s.pwr.warming && s.domOn (distOf p) && !(s.blk p).core.running then r.warm (s.rd F.PWR_WARMUP_LEVEL) else r.step) = rampAfter s p r := by
  cases r with
  | off => rfl
  | hold => exact ite_self _
  | up n =>
    rw [Ramp.step_up, Ramp.warm]
    rfl
  | down n =>
    rw [Ramp.warm, Ramp.step_down]
    · exact ite_self _
    · nofun
    · nofun

theorem execRampStep_of_ballast {s : State} {p : Nat} (hp : p < nBlks) (h : s.rd F.BLK_MX_TEST_BALLAST_OFF p = 0) :
    exec (.rampStep p) s = .next (s.onMx p (fun m => { m with
      ramp := rampAfter s p (s.blk p).mx.ramp
      lfsr := if (s.blk p).mx.ramp = .off then m.lfsr else m.lfsr.map Config.lfsrNext })) := by
  rw [exec_rampStep, execRampStep, onUnit_of_lt hp, if_pos (State.ballast_eq_true.mpr h), ← rampAfter_eq]
  rfl

theorem execHoldExpiry_of_hold {s : State} {p : Nat} (hp : p < nBlks) (h : s.rd F.BLK_MX_TEST_BALLAST_OFF p = 0)
    (hold : (s.blk p).mx.ramp = .hold) (hstarted : ∀ f ∈ (s.blk p).held 0x11, f.started = true) :
    exec (.holdExpiry p) s = .next (s.onMx p (fun m => { m with ramp := .down 4 })) := by
  rw [exec_holdExpiry, execHoldExpiry, onUnit_of_lt hp, if_pos ⟨State.ballast_eq_true.mpr h, hold, List.all_eq_true.mpr hstarted⟩]

/-! ### The issue gates (R426) -/

/-- What a gate boundary does at Block q, under the levels g and h. -/
def State.gateBlk (s : State) (g h q : Nat) : State :=
  (if g = 0 ∧ h = 0 then s else s.cycles F.BLK_MX_GATED q).onMx q (fun m => { m with gate := g, dgate := h })

/-- What the boundary has done after the Blocks `a` to `a + n - 1`. -/
def gatedTo (g h a n : Nat) (s t : State) : Prop :=
  t = { s with regs := t.regs, blks := t.blks, free := t.free }
    ∧ regsBut ((List.range n).map (fun i => keyOf F.BLK_MX_GATED (a + i) 0)) s t
    ∧ (g = 0 → h = 0 → t.regs = s.regs)
    ∧ ∀ q, t.blk q = if a ≤ q ∧ q < a + n then { s.blk q with mx := { (s.blk q).mx with gate := g, dgate := h } } else s.blk q

theorem State.gateBlk_spec (s : State) (g h q : Nat) : gatedTo g h q 1 s (s.gateBlk g h q) := by
  have hblk (u : State) (hu : ∀ r, u.blk r = s.blk r) (r : Nat) : (u.onMx q (fun m => { m with gate := g, dgate := h })).blk r =
      if q ≤ r ∧ r < q + 1 then { s.blk r with mx := { (s.blk r).mx with gate := g, dgate := h } } else s.blk r := by
    by_cases hr : r = q
    · rw [hr, State.onMx_blk_same, hu, if_pos (by omega)]
    · rw [State.onMx_blk_ne _ hr, hu, if_neg (by omega)]
  unfold State.gateBlk
  split
  · exact ⟨rfl, regsBut_of_regs rfl, fun _ _ => rfl, hblk s fun _ => rfl⟩
  · exact ⟨rfl, regsBut_cycles s q F.BLK_MX_GATED, fun hg hh => absurd (And.intro hg hh) ‹_›, hblk _ fun _ => rfl⟩

theorem gatedTo.succ {g h a n : Nat} {s t u : State} (k : gatedTo g h a n s t) (l : gatedTo g h (a + n) 1 t u) : gatedTo g h a (n + 1) s u := by
  obtain ⟨hst, hregs, hzero, hblk⟩ := k
  obtain ⟨hst', hregs', hzero', hblk'⟩ := l
  refine ⟨?_, ?_, fun hg hh => (hzero' hg hh).trans (hzero hg hh), fun q => ?_⟩
  · rw [hst', hst]
  · rw [List.range_succ, List.map_append]
    exact regsBut.trans hregs hregs'
  · rw [hblk']
    by_cases hq : q = a + n
    · rw [if_pos (by omega), if_pos (by omega), hblk, if_neg (by omega)]
    · rw [if_neg (by omega), hblk]
      exact if_congr (by omega) rfl rfl

theorem State.gateBlks_spec (s : State) (g h a n : Nat) : gatedTo g h a n s (forN n s (fun s i => s.gateBlk g h (a + i))) := by
  induction n with
  | zero => exact ⟨rfl, regsBut_of_regs rfl, fun _ _ => rfl, fun q => (if_neg (by omega)).symm⟩
  | succ n ih =>
    rw [forN_succ]
    exact ih.succ (State.gateBlk_spec _ g h (a + n))

theorem execGateBoundary_eq {s : State} {d : Nat} (hd : d < nDist) :
    exec (.gateBoundary d) s = .next (forN 34 s (fun t i => t.gateBlk (s.rd F.PWR_GATE) (s.rd F.PWR_LDO_DGATE 0 d) (34 * d + i))) := by
  rw [exec_gateBoundary, execGateBoundary, onUnit_of_lt hd]
  rfl

/-- Settles O26: the three commands in closed form; the boundary by the Blocks of the district in turn. -/
theorem matrixRampsAndGatesMove : Obligations.MatrixRampsAndGatesMove := by
  refine ⟨fun s p hp hoff => ⟨⟨_, execRampStep_of_ballast hp hoff, rfl, rfl, blksBut_onMx s p _, ?_⟩, fun hold hstarted =>
    ⟨_, execHoldExpiry_of_hold hp hoff hold hstarted, rfl, rfl, blksBut_onMx s p _, s.onMx_blk_same p _⟩⟩, fun s d hd => ?_⟩
  · simp only [State.onMx_blk_same]
  · obtain ⟨hst, hregs, hzero, hblk⟩ := s.gateBlks_spec (s.rd F.PWR_GATE) (s.rd F.PWR_LDO_DGATE 0 d) (34 * d) 34
    refine ⟨_, execGateBoundary_eq hd, hst, hregs, hzero, fun q hq => ?_, fun q hq => ?_⟩
    · rw [hblk, if_pos (by omega)]
    · rw [hblk, if_neg (by omega)]

end Sys2Proof.Machine
end

section
/-! PROOFS. Scratchpad as a unit whose work is one step reads and writes it (R211 to R224): what its accesses leave alone, the bytes that a read
returns, and what a write makes of the words. -/

namespace Sys2Proof.Machine
open Sys2Proof Sys2Proof.Claims

/-! ### What an access of scratchpad goes by -/

/-- Keys of the owner and mapping registers of Block p's scratchpad (R227): 0x600 to 0x643 of its page. -/
def spMapKey (p k : Nat) : Bool := decide ((pageBase .blk p + 0x600) * 64 ≤ k) && decide (k < (pageBase .blk p + 0x644) * 64)

theorem spMapKey_iff {p k : Nat} : spMapKey p k = true ↔ (pageBase .blk p + 0x600) * 64 ≤ k ∧ k < (pageBase .blk p + 0x644) * 64 := by
  rw [spMapKey, Bool.and_eq_true, decide_eq_true_iff, decide_eq_true_iff]

/-- The owner and mapping registers of Block p as they stand. -/
def State.spMapRegs (s : State) (p : Nat) : Nat → Option DWord := fun k => if spMapKey p k then SMap.find k s.regs else none

/-- What accesses of Block p's scratchpad, and the reports that they make, leave alone. -/
structure SpView where
  blks : SMap Block
  dram : List Host.Cell
  slices : SMap Slice
  regs : Nat → Option DWord
  run : Option Nat

def State.spView (s : State) (p : Nat) : SpView := ⟨s.blks, s.dram, s.slices, s.spMapRegs p, s.plaza.run.map Run.ctx⟩

/-- What a read of Block p's scratchpad depends on: the owner and mapping registers, the running context, and the words. -/
def State.spFace (s : State) (p : Nat) : (Nat → Option DWord) × Option Nat × Spad :=
  (s.spMapRegs p, s.plaza.run.map Run.ctx, (s.blk p).sp)

theorem State.blks_of_spView {s t : State} {p : Nat} (h : t.spView p = s.spView p) : t.blks = s.blks := congrArg SpView.blks h

theorem State.blk_of_spView {s t : State} {p : Nat} (h : t.spView p = s.spView p) (q : Nat) : t.blk q = s.blk q := by
  rw [State.blk, State.blks_of_spView h, State.blk]

theorem State.spFace_of_spView {s t : State} {p : Nat} (h : t.spView p = s.spView p) : t.spFace p = s.spFace p :=
  congrArg (fun v => (v.regs, v.run, (v.blks.get p (blkReset p)).sp)) h

/-- Fields of a Block's page beside the owner and mapping registers, and those of the pages below the Blocks'. -/
def Fld.offSpMap (f : Fld) : Bool := decide (f.lo < 64) && (decide (f.off < 0x600) || decide (0x644 ≤ f.off))

theorem not_spMapKey_blk {f : Fld} (h : f.offSpMap = true) (p : Nat) : spMapKey p (keyAt .blk p f 0) = false := by
  simp only [Fld.offSpMap, Bool.and_eq_true, Bool.or_eq_true, decide_eq_true_eq] at h
  rw [← Bool.not_eq_true, spMapKey_iff]
  simp only [keyAt, Nat.zero_div, Nat.zero_mod, Nat.mul_zero, Nat.add_zero]
  omega

theorem not_spMapKey_below {pg : Page} {u : Nat} {f : Fld} (h : keyAt pg u f 0 < 0x20_0000 * 64) (p : Nat) : spMapKey p (keyAt pg u f 0) = false := by
  rw [← Bool.not_eq_true, spMapKey_iff, pageBase]
  omega

theorem State.spMapRegs_wrAt {pg : Page} {u : Nat} {f : Fld} {i : Nat} {p : Nat} (h : spMapKey p (keyAt pg u f i) = false) (s : State) (v : Nat) :
    (s.wrAt pg u f i v).spMapRegs p = s.spMapRegs p := by
  funext k
  unfold State.spMapRegs
  split
  case isTrue hk =>
    refine SMap.find_put_ne ?_ _ _
    rintro rfl
    exact Bool.false_ne_true (h.symm.trans hk)
  case isFalse => rfl

section
variable (s : State) (p : Nat)

theorem State.spView_wrAt {pg : Page} {u : Nat} {f : Fld} {i : Nat} (h : spMapKey p (keyAt pg u f i) = false) (v : Nat) :
    (s.wrAt pg u f i v).spView p = s.spView p :=
  congrArg (SpView.mk s.blks s.dram s.slices · _) (State.spMapRegs_wrAt h s v)

@[simp] theorem State.spView_wr {f : Fld} (hp : f.page = .blk) (h : f.offSpMap = true) (v : Nat) : (s.wr f p 0 v).spView p = s.spView p := by
  rw [State.wr, hp]
  exact s.spView_wrAt p (not_spMapKey_blk h p) v

@[simp] theorem State.spView_inc {f : Fld} (hp : f.page = .blk) (h : f.offSpMap = true) (n : Nat) : (s.inc f p 0 n).spView p = s.spView p :=
  s.spView_wr p hp h _

@[simp] theorem State.spView_cycles {f : Fld} (hp : f.page = .blk) (h : f.offSpMap = true) : (s.cycles f p).spView p = s.spView p :=
  s.spView_inc p hp h _

@[simp] theorem State.spView_setEvt (b : Nat) : (s.setEvt .blk p b).spView p = s.spView p := s.spView_wrAt p (not_spMapKey_blk (by decide) p) _

@[simp] theorem State.spView_used : s.used.spView p = s.spView p := rfl

theorem State.spView_wr_below {f : Fld} (h : keyAt f.page 0 f 0 < 0x20_0000 * 64) (v : Nat) : (s.wr f 0 0 v).spView p = s.spView p :=
  s.spView_wrAt p (not_spMapKey_below h p) v

/-! ### Reports (R300, R310 to R315) -/

@[simp] theorem State.spView_fatal (cause : Nat) : (s.fatal cause).spView p = s.spView p := by
  have hevt (t : State) : (t.setEvt .top 0 5).spView p = t.spView p := t.spView_wrAt p (not_spMapKey_below (by decide) p) _
  have hemit (t : State) : ((t.emit "FAULT#" [1]).smb 0).spView p = t.spView p := rfl
  unfold State.fatal
  split
  · rfl
  · rw [hemit, hevt, State.spView_wr_below _ p (by decide), State.spView_wr_below _ p (by decide), State.spView_wr_below _ p (by decide)]

@[simp] theorem State.spView_record (r : Report) : (s.record r).spView p = s.spView p := by
  unfold State.record
  split
  case h_1 run _ hrun =>
    split
    · exact congrArg (SpView.mk s.blks s.dram s.slices (s.spMapRegs p)) (by rw [hrun]; rfl)
    · rfl
  · rfl

@[simp] theorem State.spView_enqueue (r : Report) (late : Bool) : (s.enqueue r late).spView p = s.spView p := by
  unfold State.enqueue
  split_ifs
  · exact s.spView_wr_below p (by decide) _
  · exact s.spView_fatal p 1
  · exact s.spView_wr_below p (by decide) _

@[simp] theorem State.spView_report (r : Report) : (s.report r).spView p = s.spView p := by
  rw [State.report, State.spView_enqueue, State.spView_record]

@[simp] theorem State.spView_event (code page addr detail : Nat) (writer : Option Nat) : (s.event code page addr detail writer).spView p = s.spView p :=
  s.spView_report p _

@[simp] theorem State.spView_fault (code page addr detail : Nat) : (s.fault code page addr detail).spView p = s.spView p := by
  unfold State.fault
  split
  · exact s.spView_report p _
  · rfl

@[simp] theorem State.spView_faultOnce (ord code page addr : Nat) : (s.faultOnce p ord code page addr).spView p = s.spView p := by
  unfold State.faultOnce State.once
  split
  · rfl
  · exact State.spView_fault _ p _ _ _ _

@[simp] theorem State.spView_ceTable (cls unit addr syndrome : Nat) : (s.ceTable cls unit addr syndrome).spView p = s.spView p := by
  unfold State.ceTable
  dsimp only
  split_ifs
  · rfl
  · rfl
  · exact s.spView_wr_below p (by decide) _

@[simp] theorem State.spView_corrected (cls unit addr : Nat) : (s.corrected cls unit addr).spView p = s.spView p := s.spView_ceTable p _ _ _ _

end

/-- An update that keeps what accesses leave alone, made for each element of a list. -/
theorem State.spView_foldl {α : Type} {p : Nat} {f : State → α → State} (h : ∀ t a, (f t a).spView p = t.spView p) (xs : List α) (s : State) :
    (xs.foldl f s).spView p = s.spView p := by
  induction xs generalizing s with
  | nil => rfl
  | cons x xs ih => rw [List.foldl_cons, ih, h]

/-! ### Accesses (R214, R223, R224) -/

section
variable (s : State) (p : Nat)

@[simp] theorem State.spView_spWake (banks : List Nat) : (s.spWake p banks).spView p = s.spView p := by
  refine State.spView_foldl (fun t b => ?_) banks s
  split
  · simp (disch := decide)
  · rfl

@[simp] theorem State.spView_spRouse (a n : Nat) : (s.spRouse p a n).spView p = s.spView p := by
  unfold State.spRouse
  dsimp only
  split
  · rfl
  · refine (State.spView_foldl (fun t b => ?_) _ _).trans (s.spView_spWake p _)
    exact t.spView_wr p rfl (by decide) _

@[simp] theorem State.spView_spForeign (a : Nat) (u : SpUnit) : (s.spForeign p a u).spView p = s.spView p := by
  unfold State.spForeign
  dsimp only
  split <;> simp (disch := decide)

@[simp] theorem State.spView_spCheck (a w : Nat) : (s.spCheck p a w).spView p = s.spView p := by
  unfold State.spCheck
  split
  · rfl
  · simp (disch := decide)
  · dsimp only
    split <;> split <;> simp (disch := decide)

@[simp] theorem State.spView_spGuest (u : SpUnit) (addrs : List Nat) : (s.spGuest p u addrs).spView p = s.spView p := by
  unfold State.spGuest
  split
  · exact s.spView_cycles p rfl (by decide)
  · rfl

theorem State.spView_checkOnce (xs : List (Nat × Nat)) (acc : State × List Nat) :
    (xs.foldl (fun (acc : State × List Nat) e => if acc.2.contains e.1 then acc else (acc.1.spCheck p e.2 e.1, e.1 :: acc.2)) acc).1.spView p
      = acc.1.spView p := by
  induction xs generalizing acc with
  | nil => rfl
  | cons x xs ih =>
    rw [List.foldl_cons, ih]
    split
    · rfl
    · exact acc.1.spView_spCheck p _ _

@[simp] theorem State.spView_spReadL (u : SpUnit) (addrs : List Nat) : (s.spReadL p u addrs).1.spView p = s.spView p := by
  unfold State.spReadL
  dsimp only
  split
  · rw [State.spView_checkOnce, State.spView_spGuest]
  · rw [State.spView_spForeign, State.spView_checkOnce, State.spView_spGuest]

@[simp] theorem State.spView_spRead (u : SpUnit) (a n : Nat) : (s.spRead p u a n).1.spView p = s.spView p := s.spView_spReadL p u _

end

/-! ### What a read returns -/

/-- Whether a bank serves an access, by the running context. -/
theorem State.spServes_eq (s : State) (p b : Nat) (u : SpUnit) :
    s.spServes p b u = ((s.plaza.run.map Run.ctx).elim false (fun c => (s.blk p).sp.own == some c)
      && (decide (u.code = 4) || (s.rd F.BLK_SP_OWN_UNIT p b == u.code && (decide (u.code ≠ 5) || s.rd F.BLK_SP_OWN_GATH p b == u.gath)))) := by
  unfold State.spServes
  cases s.plaza.run <;> rfl

/-- Scratchpad has 16 banks (R211). -/
theorem spPlace_bank_lt (interleave : Bool) (a : Nat) : (spPlace interleave a).1 < 16 := by
  cases interleave <;> simp only [spPlace, bitsOf] <;> split <;> simp only <;> omega

theorem State.spPlaceOf_bank_lt (s : State) (p a : Nat) : (s.spPlaceOf p a).1 < 16 := spPlace_bank_lt _ _

section
variable {s t : State} {p : Nat} (hregs : t.spMapRegs p = s.spMapRegs p)
include hregs

theorem State.rd_of_spMapRegs {f : Fld} {i : Nat} (hp : f.page = .blk) (hk : spMapKey p (keyAt .blk p f i) = true) : t.rd f p i = s.rd f p i := by
  have hfind : SMap.find (keyAt .blk p f i) t.regs = SMap.find (keyAt .blk p f i) s.regs := by
    simpa [State.spMapRegs, hk] using congrFun hregs (keyAt .blk p f i)
  rw [State.rd, hp, State.rdAt, hfind, State.rd, hp, State.rdAt]

theorem State.spPlaceOf_of_spMapRegs (a : Nat) : t.spPlaceOf p a = s.spPlaceOf p a := by
  have h0 : t.rd F.BLK_SP_MAP_MODE0_EFF p = s.rd F.BLK_SP_MAP_MODE0_EFF p :=
    State.rd_of_spMapRegs hregs rfl (spMapKey_iff.mpr (by simp only [keyAt, F.BLK_SP_MAP_MODE0_EFF]; omega))
  have h1 : t.rd F.BLK_SP_MAP_MODE1_EFF p = s.rd F.BLK_SP_MAP_MODE1_EFF p :=
    State.rd_of_spMapRegs hregs rfl (spMapKey_iff.mpr (by simp only [keyAt, F.BLK_SP_MAP_MODE1_EFF]; omega))
  unfold State.spPlaceOf
  rw [h0, h1]

theorem State.spWord_of_spMapRegs (a : Nat) : t.spWord p a = s.spWord p a := by
  unfold State.spWord
  rw [State.spPlaceOf_of_spMapRegs hregs]

theorem State.spServes_of_spMapRegs (hrun : t.plaza.run.map Run.ctx = s.plaza.run.map Run.ctx) (hown : (t.blk p).sp.own = (s.blk p).sp.own)
    {b : Nat} (hb : b < 16) (u : SpUnit) : t.spServes p b u = s.spServes p b u := by
  have hunit : t.rd F.BLK_SP_OWN_UNIT p b = s.rd F.BLK_SP_OWN_UNIT p b :=
    State.rd_of_spMapRegs hregs rfl (spMapKey_iff.mpr (by simp only [keyAt, F.BLK_SP_OWN_UNIT]; omega))
  have hgath : t.rd F.BLK_SP_OWN_GATH p b = s.rd F.BLK_SP_OWN_GATH p b :=
    State.rd_of_spMapRegs hregs rfl (spMapKey_iff.mpr (by simp only [keyAt, F.BLK_SP_OWN_GATH]; omega))
  rw [State.spServes_eq, State.spServes_eq, hunit, hgath, hrun, hown]

end

section
variable {s t : State} {p : Nat} (h : t.spFace p = s.spFace p)
include h

theorem State.spMapRegs_of_spFace : t.spMapRegs p = s.spMapRegs p := congrArg Prod.fst h

theorem State.run_of_spFace : t.plaza.run.map Run.ctx = s.plaza.run.map Run.ctx := congrArg (fun x => x.2.1) h

theorem State.sp_of_spFace : (t.blk p).sp = (s.blk p).sp := congrArg (fun x => x.2.2) h

theorem State.spByte_of_spFace (a : Nat) : t.spByte p a = s.spByte p a := by
  unfold State.spByte
  rw [State.spWord_of_spMapRegs (State.spMapRegs_of_spFace h), State.sp_of_spFace h]

theorem State.spServed_of_spFace (a : Nat) (u : SpUnit) : t.spServes p (t.spPlaceOf p a).1 u = s.spServes p (s.spPlaceOf p a).1 u := by
  rw [State.spPlaceOf_of_spMapRegs (State.spMapRegs_of_spFace h), State.spServes_of_spMapRegs (State.spMapRegs_of_spFace h) (State.run_of_spFace h)
    (congrArg Spad.own (State.sp_of_spFace h)) (s.spPlaceOf_bank_lt p a)]

end

theorem unitReads_of_spFace {s t : State} {p : Nat} (h : t.spFace p = s.spFace p) (u : SpUnit) (a n : Nat) :
    unitReads t p u a n = unitReads s p u a n := by
  simp only [unitReads, State.spServed_of_spFace h, State.spByte_of_spFace h]

theorem State.spRead_snd (s : State) (p : Nat) (u : SpUnit) (a n : Nat) : (s.spRead p u a n).2 = unitReads s p u a n := by
  have hface := State.spFace_of_spView (s.spView_spGuest p u ((List.range n).map (fun i => a + i)))
  rw [← unitReads_of_spFace hface]
  exact List.map_map

/-! ### Ranges of bytes, row by row (R222) -/

/-- The addresses of a piece. -/
def pieceAddrs (e : Nat × Nat × Nat) : List Nat := List.range' e.1 e.2.1

/-- The first m rows of a range hold its bytes up to the end of the last of them. -/
theorem spPieces_take (a n m : Nat) :
    (List.range m).flatMap (fun i => List.range' (if i = 0 then a else 32 * (a / 32 + i))
      (min (32 * (a / 32 + i + 1)) (a + n) - if i = 0 then a else 32 * (a / 32 + i)))
      = List.range' a (min (a + n) (max a (32 * (a / 32 + m))) - a) := by
  induction m with
  | zero =>
    have hlen : min (a + n) (max a (32 * (a / 32 + 0))) - a = 0 := by omega
    rw [hlen]
    rfl
  | succ m ih =>
    rw [List.range_succ, List.flatMap_append, ih, List.flatMap_singleton]
    by_cases hend : a + n ≤ 32 * (a / 32 + m)
    · have hlo : min (32 * (a / 32 + m + 1)) (a + n) - (if m = 0 then a else 32 * (a / 32 + m)) = 0 := by split <;> omega
      rw [hlo, List.range'_zero, List.append_nil]
      congr 1
      omega
    · have hlo : (if m = 0 then a else 32 * (a / 32 + m)) = a + (min (a + n) (max a (32 * (a / 32 + m))) - a) := by split <;> omega
      rw [hlo, List.range'_append_1]
      congr 1
      omega

/-- The pieces of a range hold its addresses in order. -/
theorem flatMap_spPieces (a n : Nat) : (spPieces a n).flatMap pieceAddrs = List.range' a n := by
  have hall := spPieces_take a n ((a % 32 + n + 31) / 32)
  have hlen : min (a + n) (max a (32 * (a / 32 + (a % 32 + n + 31) / 32))) - a = n := by omega
  rw [hlen] at hall
  rw [spPieces, List.flatMap_map]
  exact hall

theorem unitReads_eq_map (s : State) (p : Nat) (u : SpUnit) (a n : Nat) :
    unitReads s p u a n = (List.range' a n).map (fun x => if s.spServes p (s.spPlaceOf p x).1 u = true then s.spByte p x else 0) := by
  rw [List.range'_eq_map_range, List.map_map]
  rfl

/-- A read row by row of a list of pieces. -/
theorem State.spGet_pieces (p : Nat) (u : SpUnit) (es : List (Nat × Nat × Nat)) (s : State) (bs : List Byte) :
    let r := es.foldl (fun (acc : State × List Byte) e =>
      (((acc.1.spRouse p e.1 e.2.1).spRead p u e.1 e.2.1).1, acc.2 ++ ((acc.1.spRouse p e.1 e.2.1).spRead p u e.1 e.2.1).2)) (s, bs)
    r.1.spView p = s.spView p ∧ r.2 = bs ++ es.flatMap (fun e => unitReads s p u e.1 e.2.1) := by
  induction es generalizing s bs with
  | nil => exact ⟨rfl, (List.append_nil bs).symm⟩
  | cons e es ih =>
    obtain ⟨x, k, o⟩ := e
    have hview : ((s.spRouse p x k).spRead p u x k).1.spView p = s.spView p := by rw [State.spView_spRead, State.spView_spRouse]
    have hread : ((s.spRouse p x k).spRead p u x k).2 = unitReads s p u x k := by
      rw [State.spRead_snd, unitReads_of_spFace (State.spFace_of_spView (s.spView_spRouse p x k))]
    obtain ⟨hst, hbs⟩ := ih ((s.spRouse p x k).spRead p u x k).1 (bs ++ ((s.spRouse p x k).spRead p u x k).2)
    refine ⟨hst.trans hview, hbs.trans ?_⟩
    simp only [unitReads_of_spFace (State.spFace_of_spView hview), hread, List.flatMap_cons, List.append_assoc]

@[simp] theorem State.spView_spGet (s : State) (p : Nat) (u : SpUnit) (a n : Nat) : (s.spGet p u a n).1.spView p = s.spView p :=
  (State.spGet_pieces p u (spPieces a n) s []).1

/-- A read gives the bytes that the unit is served, whatever the reads of its earlier rows report. -/
theorem State.spGet_snd (s : State) (p : Nat) (u : SpUnit) (a n : Nat) : (s.spGet p u a n).2 = unitReads s p u a n := by
  rw [unitReads_eq_map, ← flatMap_spPieces, List.map_flatMap]
  refine (State.spGet_pieces p u (spPieces a n) s []).2.trans ?_
  rw [List.nil_append]
  exact congrArg (List.flatMap · _) (funext fun e => unitReads_eq_map s p u e.1 e.2.1)

end Sys2Proof.Machine
end

section
/-! PROOFS. What writes of scratchpad make of its words, byte by byte (R211, R212, R219). -/

namespace Sys2Proof.Machine
open Sys2Proof Sys2Proof.Claims

/-! ### The bytes of a word -/

/-- Byte b of a number. -/
def natByte (x b : Nat) : Byte := BitVec.ofNat 8 (x / 2 ^ (8 * b))

theorem natByte_eq_iff {x y b c : Nat} : natByte x b = natByte y c ↔ x / 2 ^ (8 * b) % 256 = y / 2 ^ (8 * c) % 256 := by
  rw [← BitVec.toNat_inj, natByte, natByte, BitVec.toNat_ofNat, BitVec.toNat_ofNat]

theorem extractByte_eq_natByte (v : DWord) (b : Nat) : v.extractLsb' (8 * b) 8 = natByte v.toNat b := by
  refine BitVec.eq_of_toNat_eq ?_
  rw [BitVec.extractLsb'_toNat, natByte, BitVec.toNat_ofNat, Nat.shiftRight_eq_div_pow]

theorem natByte_mod {b : Nat} (hb : b < 8) (x : Nat) : natByte (x % 2 ^ 64) b = natByte x b := by
  have hsplit : 2 ^ 64 = 2 ^ (8 * b) * 2 ^ (8 * (8 - b)) := by rw [← pow_add]; congr 1; omega
  have hdvd : 256 ∣ 2 ^ (8 * (8 - b)) := pow_dvd_pow 2 (m := 8) (by omega)
  rw [natByte_eq_iff, hsplit, Nat.mod_mul_right_div_self, Nat.mod_mod_of_dvd _ hdvd]

/-- A number whose byte b is replaced: what stood above it, the new byte, what stood below it. -/
theorem putBits_byte (x b : Nat) (v : Byte) :
    putBits x (8 * b) 8 v.toNat = 2 ^ (8 * b) * (256 * (x / 2 ^ (8 * b) / 256) + v.toNat) + x % 2 ^ (8 * b) := by
  have hx : 2 ^ (8 * b) * (256 * (x / 2 ^ (8 * b) / 256) + x / 2 ^ (8 * b) % 256) + x % 2 ^ (8 * b) = x := by
    rw [Nat.div_add_mod, Nat.div_add_mod]
  rw [putBits, bitsOf, Nat.shiftRight_eq_div_pow, Nat.mod_eq_of_lt v.isLt, Nat.mul_comm _ (2 ^ (8 * b)), Nat.mul_comm v.toNat]
  rw [Nat.mul_add] at hx ⊢
  change x - 2 ^ (8 * b) * (x / 2 ^ (8 * b) % 256) + _ = _
  omega

/-- A number with one byte replaced has that byte, and its other bytes as before. -/
theorem natByte_putBits (x b c : Nat) (v : Byte) : natByte (putBits x (8 * b) 8 v.toNat) c = if c = b then v else natByte x c := by
  have hx : 2 ^ (8 * b) * (x / 2 ^ (8 * b)) + x % 2 ^ (8 * b) = x := Nat.div_add_mod _ _
  have hl : x % 2 ^ (8 * b) < 2 ^ (8 * b) := Nat.mod_lt _ (Nat.two_pow_pos _)
  have hv : v.toNat / 256 = 0 := Nat.div_eq_of_lt v.isLt
  have hshift (K : Nat) : (2 ^ (8 * b) * K + x % 2 ^ (8 * b)) / 2 ^ (8 * b) = K := by
    rw [Nat.mul_add_div (Nat.two_pow_pos _), Nat.div_eq_of_lt hl, Nat.add_zero]
  rw [putBits_byte]
  rcases Nat.lt_trichotomy c b with h | h | h
  · have hpow : 2 ^ (8 * b) = 2 ^ (8 * c) * (256 * 2 ^ (8 * (b - c - 1))) := by
      rw [show (256 : Nat) = 2 ^ 8 from rfl, ← pow_add, ← pow_add]; congr 1; omega
    have hbelow (K l : Nat) : (2 ^ (8 * b) * K + l) / 2 ^ (8 * c) % 256 = l / 2 ^ (8 * c) % 256 := by
      rw [hpow, Nat.mul_assoc, Nat.mul_add_div (Nat.two_pow_pos _), Nat.mul_assoc, Nat.mul_add_mod]
    rw [if_neg (by omega), natByte_eq_iff, hbelow, ← hbelow (x / 2 ^ (8 * b)), hx]
  · rw [if_pos h, h, natByte, hshift]
    refine BitVec.eq_of_toNat_eq ?_
    rw [BitVec.toNat_ofNat]
    omega
  · have hpow : 2 ^ (8 * c) = 2 ^ (8 * b) * (256 * 2 ^ (8 * (c - b - 1))) := by
      rw [show (256 : Nat) = 2 ^ 8 from rfl, ← pow_add, ← pow_add]; congr 1; omega
    rw [if_neg (by omega), natByte_eq_iff, hpow, ← Nat.div_div_eq_div_mul, hshift, ← Nat.div_div_eq_div_mul, Nat.mul_add_div (by decide), hv, Nat.add_zero,
      Nat.div_div_eq_div_mul, Nat.div_div_eq_div_mul]

/-- Byte b of word w as a scratchpad holds it. -/
def Spad.byteAt (sp : Spad) (w b : Nat) : Byte :=
  if 2 ≤ sp.errs.get w 0 then 0 else natByte (sp.words.get w 0).toNat b

theorem State.spByte_eq (s : State) (p a : Nat) : s.spByte p a = (s.blk p).sp.byteAt (s.spWord p a) (a % 8) := by
  have hzero : natByte (BitVec.toNat (0 : DWord)) (a % 8) = 0 := by simp [natByte]
  unfold State.spByte Spad.byteAt SMap.get
  dsimp only
  cases SMap.find (s.spWord p a) (s.blk p).sp.words with
  | none => rw [Option.getD_none, hzero]
  | some v => rw [Option.getD_some, ← extractByte_eq_natByte]

theorem Spad.byteAt_put (sp : Spad) (w : Nat) {b c : Nat} (hc : c < 8) (v : Byte) (k : Nat) :
    (spPutByte sp w b v).byteAt k c = if k = w ∧ c = b then v else sp.byteAt k c := by
  have hzero : natByte 0 c = 0 := by simp [natByte]
  unfold Spad.byteAt spPutByte
  dsimp only
  by_cases hk : k = w
  · subst hk
    rw [SMap.get_del_same, if_neg (by decide), SMap.get_put_same, BitVec.toNat_ofNat, natByte_mod hc, natByte_putBits]
    by_cases hb : c = b
    · simp only [hb, if_true, and_self]
    · simp only [hb, if_false, and_false]
      split
      · exact hzero
      · rfl
  · rw [SMap.get_del_ne hk, SMap.get_put_ne hk]
    simp only [hk, false_and, if_false]

/-! ### A list of bytes -/

/-- The words after bytes are written in turn, each at the word of its address. -/
def storeBytes (word : Nat → Nat) (sp : Spad) (xs : List (Nat × Byte)) : Spad :=
  xs.foldl (fun sp e => spPutByte sp (word e.1) (e.1 % 8) e.2) sp

section
variable (word : Nat → Nat) (sp : Spad)

theorem storeBytes_append (xs ys : List (Nat × Byte)) : storeBytes word sp (xs ++ ys) = storeBytes word (storeBytes word sp xs) ys :=
  List.foldl_append

@[simp] theorem storeBytes_own (xs : List (Nat × Byte)) : (storeBytes word sp xs).own = sp.own := by
  induction xs generalizing sp with
  | nil => rfl
  | cons e xs ih => exact ih _

@[simp] theorem storeBytes_inject (xs : List (Nat × Byte)) : (storeBytes word sp xs).inject = sp.inject := by
  induction xs generalizing sp with
  | nil => rfl
  | cons e xs ih => exact ih _

/-- A byte that no write of the list reaches. -/
theorem storeBytes_byteAt_of_ne {xs : List (Nat × Byte)} {w b : Nat} (hb : b < 8) (h : ∀ e ∈ xs, ¬ (w = word e.1 ∧ b = e.1 % 8)) :
    (storeBytes word sp xs).byteAt w b = sp.byteAt w b := by
  induction xs generalizing sp with
  | nil => rfl
  | cons e xs ih =>
    refine (ih _ fun a ha => h a (.tail _ ha)).trans ?_
    rw [Spad.byteAt_put _ _ hb, if_neg (h e (.head _))]

/-- A byte that one write of the list reaches. -/
theorem storeBytes_byteAt_of_mem {xs : List (Nat × Byte)} {x : Nat} {v : Byte} (hx : (x, v) ∈ xs)
    (hdiff : xs.Pairwise fun e f => ¬ (word e.1 = word f.1 ∧ e.1 % 8 = f.1 % 8)) : (storeBytes word sp xs).byteAt (word x) (x % 8) = v := by
  induction xs generalizing sp with
  | nil => exact absurd hx List.not_mem_nil
  | cons e xs ih =>
    obtain ⟨hfirst, hrest⟩ := List.pairwise_cons.mp hdiff
    rcases List.mem_cons.mp hx with rfl | hx
    · refine (storeBytes_byteAt_of_ne word _ (Nat.mod_lt _ (by decide)) hfirst).trans ?_
      rw [Spad.byteAt_put _ _ (Nat.mod_lt _ (by decide)), if_pos ⟨rfl, rfl⟩]
    · exact ih _ hx hrest

end

/-! ### Where an address stands (R211) -/

/-- Whether a half of Block p's scratchpad is interleaved. -/
def State.interleaves (s : State) (p : Nat) (half : Bool) : Bool :=
  (if half then s.rd F.BLK_SP_MAP_MODE1_EFF p else s.rd F.BLK_SP_MAP_MODE0_EFF p) != 0

/-- The word of an address, by its half, its bank, its row, and its place in the row. -/
def wordIn (interleaved : Bool) (a : Nat) : Nat :=
  8192 * (8 * (a / 2 ^ 19) + a / (if interleaved then 2 ^ 5 else 2 ^ 16) % 8) + 4 * (a / (if interleaved then 2 ^ 8 else 2 ^ 5) % 2048) + a / 8 % 4

theorem State.spWord_eq (s : State) (p a : Nat) : s.spWord p a = wordIn (s.interleaves p (bitOf (a % 2 ^ 20) 19)) (a % 2 ^ 20) := by
  have hplace : s.spPlaceOf p a = spPlace (s.interleaves p (bitOf (a % 2 ^ 20) 19)) (a % 2 ^ 20) := rfl
  rw [State.spWord, hplace]
  cases s.interleaves p (bitOf (a % 2 ^ 20) 19) <;>
    simp only [spPlace, wordIn, bitsOf, Nat.shiftRight_eq_div_pow, Bool.false_eq_true, if_true, if_false] <;> omega

/-- A word gives back the half, the bank, the row and the place in the row. -/
theorem wordIn_fields (interleaved : Bool) (a : Nat) :
    wordIn interleaved a / 65536 = a / 2 ^ 19 ∧ wordIn interleaved a / 8192 % 8 = a / (if interleaved then 2 ^ 5 else 2 ^ 16) % 8
      ∧ wordIn interleaved a / 4 % 2048 = a / (if interleaved then 2 ^ 8 else 2 ^ 5) % 2048 ∧ wordIn interleaved a % 4 = a / 8 % 4 := by
  have hbank := Nat.mod_lt (a / (if interleaved then 2 ^ 5 else 2 ^ 16)) (y := 8) (by decide)
  have hrow := Nat.mod_lt (a / (if interleaved then 2 ^ 8 else 2 ^ 5)) (y := 2048) (by decide)
  unfold wordIn
  generalize a / (if interleaved then 2 ^ 5 else 2 ^ 16) % 8 = b at *
  generalize a / (if interleaved then 2 ^ 8 else 2 ^ 5) % 2048 = r at *
  omega

/-- In one mode, a word and a byte of it determine the address. -/
theorem wordIn_inj {interleaved : Bool} {x y : Nat} (hx : x < 2 ^ 20) (hy : y < 2 ^ 20) (h : wordIn interleaved x = wordIn interleaved y)
    (hb : x % 8 = y % 8) : x = y := by
  obtain ⟨hhalf, hbank, hrow, hplace⟩ := wordIn_fields interleaved x
  obtain ⟨hhalf', hbank', hrow', hplace'⟩ := wordIn_fields interleaved y
  rw [h] at hhalf hbank hrow hplace
  rw [hhalf'] at hhalf
  rw [hbank'] at hbank
  rw [hrow'] at hrow
  rw [hplace'] at hplace
  clear h hhalf' hbank' hrow' hplace'
  cases interleaved <;> simp only [Bool.false_eq_true, if_true, if_false] at hbank hrow <;> omega

/-- Addresses that differ modulo 1 MiB do not share a byte. -/
theorem State.spWord_inj {s : State} {p x y : Nat} (hw : s.spWord p x = s.spWord p y) (hb : x % 8 = y % 8) : x % 2 ^ 20 = y % 2 ^ 20 := by
  rw [State.spWord_eq, State.spWord_eq] at hw
  have hhalf : x % 2 ^ 20 / 2 ^ 19 = y % 2 ^ 20 / 2 ^ 19 := by rw [← (wordIn_fields _ _).1, hw, (wordIn_fields _ _).1]
  have hmode : bitOf (x % 2 ^ 20) 19 = bitOf (y % 2 ^ 20) 19 := by
    rw [bitOf, bitOf, Nat.testBit_eq_decide_div_mod_eq, Nat.testBit_eq_decide_div_mod_eq, hhalf]
  rw [hmode] at hw
  exact wordIn_inj (Nat.mod_lt _ (by decide)) (Nat.mod_lt _ (by decide)) hw (by omega)

end Sys2Proof.Machine
end

section
/-! PROOFS. Writes of scratchpad by a unit whose work is one step (R212 to R224): the words after them, and the parts of a Block that they leave alone. -/

namespace Sys2Proof.Machine
open Sys2Proof Sys2Proof.Claims

/-! ### The Blocks apart from their scratchpad and their L1 -/

/-- What each Block holds, apart from its scratchpad and its L1. -/
def State.besideMem (s : State) : Nat → Block := fun q => { s.blk q with sp := Spad.reset, l1 := [] }

theorem State.besideMem_of_blks {s t : State} (h : t.blks = s.blks) : t.besideMem = s.besideMem :=
  funext fun q => by simp only [State.besideMem, State.blk, h]

theorem State.besideMem_of_spView {s t : State} {p : Nat} (h : t.spView p = s.spView p) : t.besideMem = s.besideMem :=
  State.besideMem_of_blks (State.blks_of_spView h)

theorem State.besideMem_setBlk {s : State} {p : Nat} {b : Block} (h : { b with sp := Spad.reset, l1 := [] } = s.besideMem p) :
    (s.setBlk p b).besideMem = s.besideMem := funext fun q => by
  by_cases hq : q = p
  · subst hq
    rw [← h]
    simp only [State.besideMem, State.blk, State.setBlk, SMap.get_put_same]
  · simp only [State.besideMem, State.blk, State.setBlk, SMap.get_put_ne hq]

theorem State.besideMem_onSp (s : State) (p : Nat) (f : Block → Spad) : (s.onBlk p (fun b => { b with sp := f b })).besideMem = s.besideMem :=
  State.besideMem_setBlk rfl

theorem State.besideMem_foldl {α : Type} {f : State → α → State} (h : ∀ t a, (f t a).besideMem = t.besideMem) (xs : List α) (s : State) :
    (xs.foldl f s).besideMem = s.besideMem := by
  induction xs generalizing s with
  | nil => rfl
  | cons x xs ih => rw [List.foldl_cons, ih, h]

theorem State.core_of_besideMem {s t : State} (h : t.besideMem = s.besideMem) (p : Nat) : (t.blk p).core = (s.blk p).core :=
  (congrArg Block.core (congrFun h p) :)

theorem State.mx_of_besideMem {s t : State} (h : t.besideMem = s.besideMem) (p : Nat) : (t.blk p).mx = (s.blk p).mx :=
  (congrArg Block.mx (congrFun h p) :)

/-! ### The words after a write -/

/-- State t is s with bytes stored in Block p's scratchpad, as far as later accesses of it go. -/
structure storedTo (p : Nat) (s t : State) (xs : List (Nat × Byte)) : Prop where
  regs : t.spMapRegs p = s.spMapRegs p
  run : t.plaza.run.map Run.ctx = s.plaza.run.map Run.ctx
  sp : (t.blk p).sp = storeBytes (s.spWord p) (s.blk p).sp xs

section
variable {p : Nat} {s t w : State} {xs ys : List (Nat × Byte)}

theorem storedTo_of_spFace (h : t.spFace p = s.spFace p) : storedTo p s t [] :=
  ⟨State.spMapRegs_of_spFace h, State.run_of_spFace h, State.sp_of_spFace h⟩

theorem storedTo_of_spView (h : t.spView p = s.spView p) : storedTo p s t [] := storedTo_of_spFace (State.spFace_of_spView h)

theorem storedTo.trans (h : storedTo p s t xs) (k : storedTo p t w ys) : storedTo p s w (xs ++ ys) := by
  refine ⟨k.regs.trans h.regs, k.run.trans h.run, ?_⟩
  rw [k.sp, h.sp, storeBytes_append, funext (State.spWord_of_spMapRegs h.regs)]

theorem storedTo.served (h : storedTo p s t xs) (a : Nat) (u : SpUnit) : t.spServes p (t.spPlaceOf p a).1 u = s.spServes p (s.spPlaceOf p a).1 u := by
  rw [State.spPlaceOf_of_spMapRegs h.regs, State.spServes_of_spMapRegs h.regs h.run (by rw [h.sp, storeBytes_own]) (s.spPlaceOf_bank_lt p a)]

theorem storedTo.inject (h : storedTo p s t xs) : (t.blk p).sp.inject = (s.blk p).sp.inject := by rw [h.sp, storeBytes_inject]

/-- A byte of a list of writes to different addresses is as written. -/
theorem storedTo.spByte_of_mem (h : storedTo p s t xs) {x : Nat} {v : Byte} (hx : (x, v) ∈ xs)
    (hdiff : xs.Pairwise fun e f => e.1 % 2 ^ 20 ≠ f.1 % 2 ^ 20) : t.spByte p x = v := by
  rw [State.spByte_eq, h.sp, State.spWord_of_spMapRegs h.regs]
  exact storeBytes_byteAt_of_mem _ _ hx (hdiff.imp fun hne hsame => hne (State.spWord_inj hsame.1 hsame.2))

end

/-- The writes of one access, once its errors have been met. -/
theorem storedTo_putBytes {p : Nat} (ok : Nat → Bool) (xs : List (Nat × Byte)) (hok : ∀ e ∈ xs, ok e.1 = true) (s : State) :
    storedTo p s (xs.foldl (fun s e => if ok e.1 then s.onBlk p (fun b => { b with sp := spPutByte b.sp (s.spWord p e.1) (e.1 % 8) e.2 }) else s) s) xs := by
  induction xs generalizing s with
  | nil => exact ⟨rfl, rfl, rfl⟩
  | cons e xs ih =>
    rw [List.foldl_cons]
    refine storedTo.trans (xs := [e]) ?_ (ih (fun f hf => hok f (.tail _ hf)) _)
    rw [if_pos (hok e (.head _))]
    exact ⟨rfl, rfl, congrArg Block.sp (s.onBlk_blk_same p _)⟩

section
variable {s : State} {p : Nat} {u : SpUnit}

/-- An access that is served, with no error waiting to be injected, stores its bytes. -/
theorem State.storedTo_spWriteL {xs : List (Nat × Byte)} (hserved : ∀ e ∈ xs, s.spServes p (s.spPlaceOf p e.1).1 u = true)
    (hinj : (s.blk p).sp.inject = 0) : storedTo p s (s.spWriteL p u xs) xs := by
  unfold State.spWriteL
  extract_lets s0 ok addrs part s1 rows s1' s2 inj s3
  have h0 : s0.spView p = s.spView p := s.spView_spGuest p u _
  have h1 : s1.spView p = s.spView p := (State.spView_foldl (fun t w => t.spView_spCheck p _ w) part s0).trans h0
  have h1' : s1'.spView p = s.spView p := by
    unfold s1'
    split
    · exact h1
    · exact (s1.spView_inc p rfl (by decide) _).trans h1
  have hok : ∀ e ∈ xs, ok e.1 = true := fun e he => (State.spServed_of_spFace (State.spFace_of_spView h0) e.1 u).trans (hserved e he)
  have h2 : storedTo p s s2 xs := (storedTo_of_spView h1').trans (storedTo_putBytes ok xs hok s1')
  have h3 : s3 = s2 := if_pos (h2.inject.trans hinj)
  have hall : addrs.all ok = true := by
    rw [List.all_eq_true]
    rintro x hx
    obtain ⟨e, he, rfl⟩ := List.mem_map.mp hx
    exact hok e he
  rw [if_pos hall, h3]
  exact h2

theorem State.besideMem_spWriteL (s : State) (p : Nat) (u : SpUnit) (xs : List (Nat × Byte)) : (s.spWriteL p u xs).besideMem = s.besideMem := by
  unfold State.spWriteL
  extract_lets s0 ok addrs part s1 rows s1' s2 inj s3
  have h1 : s1.spView p = s.spView p :=
    (State.spView_foldl (fun t w => t.spView_spCheck p _ w) part s0).trans (s.spView_spGuest p u _)
  have h1' : s1'.spView p = s.spView p := by
    unfold s1'
    split
    · exact h1
    · exact (s1.spView_inc p rfl (by decide) _).trans h1
  have h2 : s2.besideMem = s.besideMem := by
    refine (State.besideMem_foldl (fun t e => ?_) xs s1').trans (State.besideMem_of_spView h1')
    dsimp only
    split
    · exact t.besideMem_onSp p _
    · rfl
  have h3 : s3.besideMem = s.besideMem := by
    unfold s3
    split
    · exact h2
    · split
      · exact (s2.besideMem_onSp p _).trans h2
      · exact h2
  split
  · exact h3
  · exact (State.besideMem_of_spView (s3.spView_spForeign p _ u)).trans h3

end

/-! ### Ranges of bytes -/

/-- The bytes of a list with their addresses, the first at a. -/
def bytesAt (a : Nat) (bs : List Byte) : List (Nat × Byte) := (List.range' a bs.length).map (fun x => (x, bs.getD (x - a) 0))

theorem mem_bytesAt {a : Nat} {bs : List Byte} {e : Nat × Byte} : e ∈ bytesAt a bs ↔ ∃ j < bs.length, e = (a + j, bs.getD j 0) := by
  simp only [bytesAt, List.mem_map, List.mem_range'_1]
  constructor
  · rintro ⟨x, hx, rfl⟩
    exact ⟨x - a, by omega, by rw [Nat.add_sub_of_le hx.1]⟩
  · rintro ⟨j, hj, rfl⟩
    exact ⟨a + j, by omega, by rw [Nat.add_sub_cancel_left]⟩

/-- Addresses of a range of at most 1 MiB differ modulo 1 MiB. -/
theorem pairwise_bytesAt {a : Nat} {bs : List Byte} (h : bs.length ≤ 2 ^ 20) : (bytesAt a bs).Pairwise fun e f => e.1 % 2 ^ 20 ≠ f.1 % 2 ^ 20 := by
  rw [bytesAt, List.pairwise_map]
  refine (List.pairwise_lt_range' (s := a) (n := bs.length)).imp_of_mem fun hx hy hlt => ?_
  rw [List.mem_range'_1] at hx hy
  omega

theorem take_drop_eq_map {α : Type} {bs : List α} {o k : Nat} (d : α) (h : o + k ≤ bs.length) :
    (bs.drop o).take k = (List.range k).map (fun i => bs.getD (o + i) d) := by
  refine List.ext_getElem ?_ fun i hi _ => ?_
  · simp only [List.length_take, List.length_drop, List.length_map, List.length_range]
    omega
  · rw [List.length_take, List.length_drop] at hi
    rw [List.getElem_take, List.getElem_drop, List.getElem_map, List.getElem_range, List.getD_eq_getElem _ _ (by omega)]

/-- The bytes of a piece, with their addresses. -/
theorem zip_piece {bs : List Byte} {a x k : Nat} (ha : a ≤ x) (hk : x - a + k ≤ bs.length) :
    ((List.range ((bs.drop (x - a)).take k).length).map (fun i => x + i)).zip ((bs.drop (x - a)).take k)
      = (List.range' x k).map (fun y => (y, bs.getD (y - a) 0)) := by
  rw [take_drop_eq_map 0 hk, List.length_map, List.length_range, List.zip_map', List.range'_eq_map_range, List.map_map]
  refine List.map_congr_left fun i _ => ?_
  rw [Function.comp_apply, Nat.sub_add_comm ha]

theorem mem_spPieces {a n : Nat} {e : Nat × Nat × Nat} (h : e ∈ spPieces a n) : a ≤ e.1 ∧ e.1 - a + e.2.1 ≤ n ∧ e.2.2 = e.1 - a := by
  obtain ⟨i, hi, rfl⟩ := List.mem_map.mp h
  rw [List.mem_range] at hi
  dsimp only
  split <;> omega

/-- A write row by row of a list of pieces. -/
theorem State.storedTo_spPieces {p : Nat} {u : SpUnit} {a : Nat} {bs : List Byte} (es : List (Nat × Nat × Nat))
    (hes : ∀ e ∈ es, a ≤ e.1 ∧ e.1 - a + e.2.1 ≤ bs.length ∧ e.2.2 = e.1 - a) (s : State)
    (hserved : ∀ x ∈ es.flatMap pieceAddrs, s.spServes p (s.spPlaceOf p x).1 u = true) (hinj : (s.blk p).sp.inject = 0) :
    storedTo p s (es.foldl (fun s e => (s.spRouse p e.1 e.2.1).spWrite p u e.1 ((bs.drop e.2.2).take e.2.1)) s)
      ((es.flatMap pieceAddrs).map (fun x => (x, bs.getD (x - a) 0))) := by
  induction es generalizing s with
  | nil => exact ⟨rfl, rfl, rfl⟩
  | cons e es ih =>
    obtain ⟨ha, hk, ho⟩ := hes e (.head _)
    have hrouse : storedTo p s (s.spRouse p e.1 e.2.1) [] := storedTo_of_spView (s.spView_spRouse p e.1 e.2.1)
    have hwrite : storedTo p s ((s.spRouse p e.1 e.2.1).spWrite p u e.1 ((bs.drop e.2.2).take e.2.1))
        ((pieceAddrs e).map (fun x => (x, bs.getD (x - a) 0))) := by
      rw [ho, State.spWrite, zip_piece ha hk]
      refine hrouse.trans (State.storedTo_spWriteL (fun f hf => ?_) (hrouse.inject.trans hinj))
      obtain ⟨x, hx, rfl⟩ := List.mem_map.mp hf
      exact (hrouse.served x u).trans (hserved x (List.mem_flatMap_of_mem (.head _) hx))
    rw [List.foldl_cons, List.flatMap_cons, List.map_append]
    refine hwrite.trans (ih (fun f hf => hes f (.tail _ hf)) _ (fun x hx => (hwrite.served x u).trans (hserved x ?_)) (hwrite.inject.trans hinj))
    rw [List.flatMap_cons]
    exact List.mem_append_right _ hx

/-- A write that is served, with no error waiting to be injected, stores its bytes from its address on. -/
theorem State.storedTo_spPut {s : State} {p : Nat} {u : SpUnit} {a : Nat} {bs : List Byte}
    (hserved : ∀ i < bs.length, s.spServes p (s.spPlaceOf p (a + i)).1 u = true) (hinj : (s.blk p).sp.inject = 0) :
    storedTo p s (s.spPut p u a bs) (bytesAt a bs) := by
  rw [bytesAt, ← flatMap_spPieces, State.spPut]
  refine State.storedTo_spPieces (spPieces a bs.length) (fun e he => mem_spPieces he) s (fun x hx => ?_) hinj
  rw [flatMap_spPieces, List.mem_range'_1] at hx
  have hx' := hserved (x - a) (by omega)
  rwa [Nat.add_sub_of_le hx.1] at hx'

theorem State.besideMem_spWrite (s : State) (p : Nat) (u : SpUnit) (a : Nat) (bs : List Byte) : (s.spWrite p u a bs).besideMem = s.besideMem :=
  s.besideMem_spWriteL p u _

theorem State.besideMem_spPut (s : State) (p : Nat) (u : SpUnit) (a : Nat) (bs : List Byte) : (s.spPut p u a bs).besideMem = s.besideMem := by
  unfold State.spPut
  refine State.besideMem_foldl (fun t e => ?_) _ s
  dsimp only
  rw [State.besideMem_spWrite, State.besideMem_of_spView (t.spView_spRouse p _ _)]

end Sys2Proof.Machine
end

section
/-! PROOFS. What the matrix commands leave alone beside the arrays' own state, the head of MXQ, and the fetch of row-slots (R67, R76, R77, R83,
R94 to R98, R110). -/

namespace Sys2Proof.Machine
open Sys2Proof Sys2Proof.Claims

/-! ### What a command of the arrays leaves alone -/

/-- States s and t differ at most in Block p's matrix arrays, there at most in the fields that g erases, and in register fields, reports, counters
of free values and the like, on which no access of scratchpad depends. -/
structure mxOnly (p : Nat) (g : Matrix → Matrix) (s t : State) : Prop where
  blk : { t.blk p with mx := g (t.blk p).mx } = { s.blk p with mx := g (s.blk p).mx }
  others : blksBut p s t
  dram : t.dram = s.dram
  slices : t.slices = s.slices
  regs : t.spMapRegs p = s.spMapRegs p
  run : t.plaza.run.map Run.ctx = s.plaza.run.map Run.ctx

section
variable {p : Nat} {g : Matrix → Matrix} {s t u : State}

theorem mxOnly.refl (s : State) : mxOnly p g s s := ⟨rfl, fun _ _ => rfl, rfl, rfl, rfl, rfl⟩

theorem mxOnly.trans (h : mxOnly p g s t) (k : mxOnly p g t u) : mxOnly p g s u :=
  ⟨k.blk.trans h.blk, blksBut.trans h.others k.others, k.dram.trans h.dram, k.slices.trans h.slices, k.regs.trans h.regs, k.run.trans h.run⟩

theorem mxOnly_of_spView (h : t.spView p = s.spView p) : mxOnly p g s t :=
  ⟨by rw [State.blk_of_spView h], fun q _ => State.blk_of_spView h q, congrArg SpView.dram h, congrArg SpView.slices h, congrArg SpView.regs h,
    congrArg SpView.run h⟩

theorem mxOnly_onMx {f : Matrix → Matrix} (h : g (f (s.blk p).mx) = g (s.blk p).mx) : mxOnly p g s (s.onMx p f) :=
  ⟨by rw [State.onMx_blk_same]; dsimp only; rw [h], blksBut_onMx s p f, rfl, rfl, rfl, rfl⟩

theorem mxOnly_foldl {α : Type} {f : State → α → State} (h : ∀ t a, mxOnly p g t (f t a)) (xs : List α) (s : State) : mxOnly p g s (xs.foldl f s) := by
  induction xs generalizing s with
  | nil => exact .refl s
  | cons x xs ih => exact (h s x).trans (ih _)

theorem mxOnly.q (h : mxOnly p g s t) : (t.blk p).q = (s.blk p).q := (congrArg Block.q h.blk :)
theorem mxOnly.core (h : mxOnly p g s t) : (t.blk p).core = (s.blk p).core := (congrArg Block.core h.blk :)
theorem mxOnly.vx (h : mxOnly p g s t) : (t.blk p).vx = (s.blk p).vx := (congrArg Block.vx h.blk :)
theorem mxOnly.sp (h : mxOnly p g s t) : (t.blk p).sp = (s.blk p).sp := (congrArg Block.sp h.blk :)
theorem mxOnly.mx (h : mxOnly p g s t) : g (t.blk p).mx = g (s.blk p).mx := (congrArg Block.mx h.blk :)

theorem mxOnly.spFace (h : mxOnly p g s t) : t.spFace p = s.spFace p := by rw [State.spFace, h.regs, h.run, h.sp, State.spFace]

end

/-! ### The head of a queue leaves it (R156 to R166) -/

section
variable {s : State} {p : Nat} {k : Q} {e : QEntry}

theorem State.takeHead_of_headLeaves (h : headLeaves s p k e) {op : Nat} (hop : EC.opcode e.cmd = op) (act : State → QEntry → State) :
    s.takeHead p k op act = act (s.leave p k e) e := by
  obtain ⟨-, hstop, hrun, -, hhead, hfresh, hcheck, hq, htakes, hwait⟩ := h
  have hany : (s.blk p).q.inflight.any (fun f => f.ord == e.ord) = false := by
    rw [List.any_eq_false]
    exact fun f hf => by simpa using hfresh f hf
  rw [hop] at hq
  unfold State.takeHead
  rw [if_neg (by simp [hstop, hrun]), hhead]
  simp only [hany, hcheck, hq, hop, htakes, hwait, Bool.false_eq_true, if_false, ne_eq, not_true_eq_false, or_self, Bool.true_eq_false]

theorem Queues.entries_put (q : Queues) (k j : Q) (xs : List QEntry) : (q.put k xs).entries j = if j = k then xs else q.entries j := by
  cases k <;> cases j <;> rfl

/-- The queues of a Block once the head of one has left it. -/
def Queues.leave (q : Queues) (k : Q) (e : QEntry) : Queues :=
  let q := if EC.wait e.cmd then { q with ec := SMap.put (EC.waitEc e.cmd) (q.ec.get (EC.waitEc e.cmd) 0 - 1) q.ec } else q
  let q := if k = .sxq then q else q.put k (q.entries k).tail
  { q with inflight := q.inflight ++ [⟨e.ord, k, e.cmd, false, false⟩] }

theorem Queues.leave_entries (q : Queues) (k j : Q) (e : QEntry) :
    (q.leave k e).entries j = if j = k ∧ k ≠ .sxq then (q.entries k).tail else q.entries j := by
  have hflight (r : Queues) (xs : List InFlight) : ({ r with inflight := xs } : Queues).entries j = r.entries j := by cases j <;> rfl
  have hwait (i : Q) : (if EC.wait e.cmd then { q with ec := SMap.put (EC.waitEc e.cmd) (q.ec.get (EC.waitEc e.cmd) 0 - 1) q.ec } else q).entries i
      = q.entries i := by split <;> cases i <;> rfl
  unfold Queues.leave
  extract_lets r r'
  rw [hflight]
  unfold r'
  split
  case isTrue hk => rw [if_neg (fun h => h.2 hk), hwait]
  case isFalse hk =>
    rw [Queues.entries_put, hwait, hwait]
    exact if_congr (iff_self_and.mpr fun _ => hk) rfl rfl

theorem Queues.leave_ec (q : Queues) (k : Q) (e : QEntry) (n : Nat) :
    (q.leave k e).ec.get n 0 = if EC.wait e.cmd = true ∧ n = EC.waitEc e.cmd then q.ec.get n 0 - 1 else q.ec.get n 0 := by
  have hput (r : Queues) (xs : List QEntry) : (if k = .sxq then r else r.put k xs).ec = r.ec := by cases k <;> rfl
  unfold Queues.leave
  extract_lets r r'
  have hr : r'.ec = r.ec := hput r _
  change r'.ec.get n 0 = _
  rw [hr]
  unfold r
  by_cases hw : EC.wait e.cmd = true
  · by_cases hn : n = EC.waitEc e.cmd
    · subst hn
      rw [if_pos hw, if_pos ⟨hw, rfl⟩, SMap.get_put_same]
    · rw [if_pos hw, if_neg (fun h => hn h.2), SMap.get_put_ne hn]
  · rw [if_neg hw, if_neg (fun h => hw h.1)]

/-- What a head's leaving changes: its Block's queues, and the count of replaced classes. -/
theorem State.leave_eq (s : State) (p : Nat) (k : Q) (e : QEntry) :
    s.leave p k e = (if k ≠ .sxq ∧ s.classMask.testBit (EC.cls e.cmd) = false then s.inc F.BLK_CMD_CLASS_SUBST p 0 else s).onQ p (·.leave k e) := rfl

theorem State.leave_blk_same (s : State) (p : Nat) (k : Q) (e : QEntry) : (s.leave p k e).blk p = { s.blk p with q := (s.blk p).q.leave k e } := by
  rw [State.leave_eq, State.onQ_blk_same]
  split <;> rfl

theorem tookHead_of_leave {s t : State} {p : Nat} {k : Q} {e : QEntry} (h : (t.blk p).q = (s.blk p).q.leave k e) : tookHead s t p k e := by
  refine ⟨?_, fun j hj => ?_, fun n => ?_, ⟨e.ord, k, e.cmd, false, false⟩, ?_, rfl, rfl, rfl, rfl⟩
  · rw [h, Queues.leave_entries, afterHead]
    by_cases hk : k = .sxq
    · rw [if_pos hk, if_neg (fun h => h.2 hk), hk]
      rfl
    · rw [if_neg hk, if_pos ⟨rfl, hk⟩]
  · rw [h, Queues.leave_entries, if_neg (fun h => hj h.1)]
  · rw [State.ec, h, Queues.leave_ec]
    rfl
  · rw [h]
    exact List.mem_append_right _ (.head _)

end

section
variable (s : State) (p : Nat) (k : Q) (e : QEntry)

theorem State.leave_blk_ne {q : Nat} (h : q ≠ p) : (s.leave p k e).blk q = s.blk q := by
  rw [State.leave_eq, State.onQ_blk_ne _ h]
  split <;> rfl

theorem State.leave_dram : (s.leave p k e).dram = s.dram := by
  rw [State.leave_eq]
  split <;> rfl

theorem State.leave_slices : (s.leave p k e).slices = s.slices := by
  rw [State.leave_eq]
  split <;> rfl

theorem State.leave_spFace : (s.leave p k e).spFace p = s.spFace p := by
  have hsub : (if k ≠ .sxq ∧ s.classMask.testBit (EC.cls e.cmd) = false then s.inc F.BLK_CMD_CLASS_SUBST p 0 else s).spView p = s.spView p := by
    split
    · exact s.spView_inc p rfl (by decide) 1
    · rfl
  rw [← State.spFace_of_spView hsub, State.leave_eq, State.spFace, State.onQ_blk_same]
  rfl

theorem State.leave_rampTaken : rampTaken (s.leave p k e) p = rampTaken s p := by
  have hsub : (s.inc F.BLK_CMD_CLASS_SUBST p 0).rd F.BLK_MX_TEST_BALLAST_OFF p = s.rd F.BLK_MX_TEST_BALLAST_OFF p :=
    State.rd_wr_of_place (f := F.BLK_CMD_CLASS_SUBST) (g := F.BLK_MX_TEST_BALLAST_OFF) rfl (by decide) s p _
  have hrd : (s.leave p k e).rd F.BLK_MX_TEST_BALLAST_OFF p = s.rd F.BLK_MX_TEST_BALLAST_OFF p := by
    rw [State.leave_eq, State.onQ, State.onBlk_rd]
    split
    · exact hsub
    · rfl
  rw [rampTaken, hrd, State.leave_blk_same, rampTaken]

end

/-! ### Acceptance (R94, R96, R98) -/

theorem Ramp.accept_eq (r : Ramp) : r.accept = rampAccepts r := by
  cases r with
  | off | up | hold => rfl
  | down n =>
    by_cases h : n = 4
    · rw [h]
      rfl
    · rw [Ramp.accept, rampAccepts]
      · exact (if_neg h).symm
      · exact h

theorem State.mxAccept_blk_same (s : State) (p : Nat) :
    (s.mxAccept p).blk p = { s.blk p with mx := { (s.blk p).mx with ramp := rampTaken s p } } := by
  have hb := @State.ballast_eq_true s p
  unfold State.mxAccept rampTaken
  by_cases h : s.ballast p = true
  · rw [if_pos h, if_pos (hb.mp h), State.onMx_blk_same, ← Ramp.accept_eq]
    split <;> rfl
  · rw [if_neg h, if_neg (fun k => h (hb.mpr k))]

theorem State.mxOnly_mxAccept (s : State) (p : Nat) : mxOnly p (fun m => { m with ramp := .off }) s (s.mxAccept p) := by
  unfold State.mxAccept
  split
  · refine .trans ?_ (mxOnly_onMx rfl)
    split
    · exact mxOnly_of_spView (s.spView_cycles p rfl (by decide))
    · exact .refl s
  · exact .refl s

/-! ### Row-slots (R73, R83, R106, R110) -/

/-- The arrays' state apart from the feeder queues. -/
def Matrix.unfed (m : Matrix) : Matrix := { m with feed := [], tmask := 0 }

/-- Bytes of a row-slot's elements. -/
def PassPlan.slotBytes (pl : PassPlan) : Nat := 32 * pl.d * modeS pl.mode * pl.act.w / 8

section
variable (s : State) (p ord : Nat) (c : Cmd) (pl : PassPlan) (m : Nat)

@[simp] theorem State.spView_fetchSlot : (s.fetchSlot p c pl m).1.spView p = s.spView p := by
  unfold State.fetchSlot
  dsimp only
  split <;> simp

theorem State.fetchSlot_elems : (s.fetchSlot p c pl m).2.elems = leNat (unitReads s p feeder (32 * MX.abase c + 32 * m * MX.astride c) pl.slotBytes) := by
  unfold State.fetchSlot PassPlan.slotBytes
  dsimp only
  split <;> simp only [State.spGet_snd]

theorem State.mxOnly_feedSlot : mxOnly p Matrix.unfed s (s.feedSlot p ord c pl m) := by
  unfold State.feedSlot
  split
  · exact (mxOnly_of_spView (s.spView_fetchSlot p c pl m)).trans (mxOnly_onMx rfl)
  · exact mxOnly_onMx rfl

end

/-- A row-slot of token m of a pass, as the feeders read it under a mask: that of an unmasked token holds the bytes at its address. -/
structure isSlot (s : State) (p ord : Nat) (c : Cmd) (pl : PassPlan) (mask : BitVec 512) (m : Nat) (x : FeedSlot) : Prop where
  ord_eq : x.ord = ord
  token_eq : x.token = m
  masked_eq : x.masked = !mask.getLsbD m
  elems_eq : mask.getLsbD m = true → x.elems = leNat (unitReads s p feeder (32 * MX.abase c + 32 * m * MX.astride c) pl.slotBytes)

/-- The queues hold the row-slots of a pass's first n tokens. -/
structure holdsSlots (s : State) (p ord : Nat) (c : Cmd) (pl : PassPlan) (mask : BitVec 512) (n : Nat) (m : Matrix) : Prop where
  tmask : m.tmask = mask
  length : m.feed.length = n
  slots : ∀ (k : Nat) (x : FeedSlot), m.feed[k]? = some x → isSlot s p ord c pl mask k x

section
variable {s : State} {p ord : Nat} {c : Cmd} {pl : PassPlan}

theorem State.feedSlot_mx (s : State) (p ord : Nat) (c : Cmd) (pl : PassPlan) (m : Nat) : ∃ x, isSlot s p ord c pl (s.blk p).mx.tmask m x
    ∧ ((s.feedSlot p ord c pl m).blk p).mx = { (s.blk p).mx with feed := (s.blk p).mx.feed ++ [x] } := by
  unfold State.feedSlot
  split
  case isTrue h =>
    refine ⟨⟨ord, m, false, (s.fetchSlot p c pl m).2.elems, (s.fetchSlot p c pl m).2.scales⟩, ⟨rfl, rfl, by rw [h]; rfl, fun _ => ?_⟩, ?_⟩
    · exact s.fetchSlot_elems p c pl m
    · rw [State.onMx_blk_same, State.blk_of_spView (s.spView_fetchSlot p c pl m)]
  case isFalse h =>
    exact ⟨⟨ord, m, true, 0, 0⟩, ⟨rfl, rfl, by rw [Bool.not_eq_true] at h; rw [h]; rfl, fun hm => absurd hm h⟩, by rw [State.onMx_blk_same]⟩

theorem isSlot_of_spFace {t : State} (h : t.spFace p = s.spFace p) {mask : BitVec 512} {m : Nat} {x : FeedSlot} (hx : isSlot t p ord c pl mask m x) :
    isSlot s p ord c pl mask m x :=
  ⟨hx.ord_eq, hx.token_eq, hx.masked_eq, fun hm => by rw [hx.elems_eq hm, unitReads_of_spFace h]⟩

/-- The fetch unit puts the row-slots of the first n tokens into empty queues, in token order. -/
theorem State.feedSlots_spec {mask : BitVec 512} (hempty : (s.blk p).mx.feed = []) (hmask : (s.blk p).mx.tmask = mask) (n : Nat) :
    mxOnly p Matrix.unfed s (forN n s (fun s m => s.feedSlot p ord c pl m))
      ∧ holdsSlots s p ord c pl mask n ((forN n s (fun s m => s.feedSlot p ord c pl m)).blk p).mx := by
  induction n with
  | zero => exact ⟨.refl s, hmask, by rw [forN, List.range_zero, List.foldl_nil, hempty]; rfl, fun k x hx => by
      rw [forN, List.range_zero, List.foldl_nil, hempty] at hx; nomatch hx⟩
  | succ n ih =>
    obtain ⟨honly, htmask, hlen, hslots⟩ := ih
    rw [forN_succ]
    obtain ⟨x, hx, hmx⟩ := State.feedSlot_mx (forN n s (fun s m => s.feedSlot p ord c pl m)) p ord c pl n
    rw [htmask] at hx
    refine ⟨honly.trans (State.mxOnly_feedSlot _ p ord c pl n), ?_, ?_, fun k y hy => ?_⟩
    · rw [hmx, htmask]
    · rw [hmx, List.length_append, hlen]
      rfl
    · rw [hmx, List.getElem?_append, hlen] at hy
      split at hy
      · exact hslots k y hy
      · obtain ⟨hk, rfl⟩ : k = n ∧ x = y := by
          rw [List.getElem?_singleton] at hy
          split at hy
          · exact ⟨by omega, Option.some.inj hy⟩
          · cases hy
        rw [hk]
        exact isSlot_of_spFace honly.spFace hx

/-- How many row-slots the fetch unit reads ahead. -/
def State.slotsAhead (s : State) (c : Cmd) : Nat := if MX.tokens c = 1 then 1 else min (MX.tokens c) (1 + s.freeVal % 16)

theorem State.slotsAhead_bounds (s : State) (c : Cmd) : 0 < s.slotsAhead c ∧ s.slotsAhead c ≤ 16 ∧ s.slotsAhead c ≤ MX.tokens c := by
  have htokens : 0 < MX.tokens c := Nat.succ_pos _
  unfold State.slotsAhead
  split <;> omega

/-- The token mask of a pass as the fetch unit reads it (R110): no token is masked where the pass has none. -/
def State.readMask (s : State) (p : Nat) (c : Cmd) : State × Nat :=
  if MX.maskEn c then
    let (s, bs) := s.spGet p feeder (32 * MX.tmask c) 64
    (s, leNat bs)
  else (s, 2 ^ 512 - 1)

theorem ofNat_two_pow_sub_one (w : Nat) : BitVec.ofNat w (2 ^ w - 1) = BitVec.allOnes w := by
  refine BitVec.eq_of_toNat_eq ?_
  rw [BitVec.toNat_ofNat, BitVec.toNat_allOnes, Nat.mod_eq_of_lt (Nat.sub_lt (Nat.two_pow_pos _) Nat.one_pos)]

theorem State.spView_readMask (s : State) (p : Nat) (c : Cmd) : (s.readMask p c).1.spView p = s.spView p := by
  unfold State.readMask
  split
  · exact s.spView_spGet p feeder _ _
  · rfl

/-- The state in which the fetch unit begins: the queues are empty, and the mask is read. -/
def State.feedReady (s : State) (p : Nat) (c : Cmd) : State :=
  (s.readMask p c).1.used.onMx p (fun y => { y with feed := [], tmask := BitVec.ofNat 512 (s.readMask p c).2 })

theorem State.feedStart_of_plan {s : State} (h : (s.blk p).plan ord c = some pl) :
    s.feedStart p ord c = forN ((s.readMask p c).1.slotsAhead c) (s.feedReady p c) (fun s m => s.feedSlot p ord c pl m) := by
  unfold State.feedStart
  rw [h]
  rfl

theorem State.mxOnly_feedReady (s : State) (p : Nat) (c : Cmd) : mxOnly p Matrix.unfed s (s.feedReady p c) :=
  (mxOnly_of_spView (t := (s.readMask p c).1.used) (s.spView_readMask p c)).trans (mxOnly_onMx rfl)

theorem State.feedStart_spec {s : State} (h : (s.blk p).plan ord c = some pl) :
    mxOnly p Matrix.unfed s (s.feedStart p ord c) ∧ ∃ mask n, (0 < n ∧ n ≤ 16 ∧ n ≤ MX.tokens c) ∧ (MX.maskEn c = false → mask = BitVec.allOnes 512)
      ∧ holdsSlots s p ord c pl mask n ((s.feedStart p ord c).blk p).mx := by
  have hready := s.mxOnly_feedReady p c
  have hmx : ((s.feedReady p c).blk p).mx.feed = [] ∧ ((s.feedReady p c).blk p).mx.tmask = BitVec.ofNat 512 (s.readMask p c).2 := by
    rw [State.feedReady, State.onMx_blk_same]
    exact ⟨rfl, rfl⟩
  obtain ⟨honly, htmask, hlen, hslots⟩ := State.feedSlots_spec (p := p) (ord := ord) (c := c) (pl := pl) hmx.1 hmx.2 ((s.readMask p c).1.slotsAhead c)
  rw [State.feedStart_of_plan h]
  refine ⟨hready.trans honly, _, _, State.slotsAhead_bounds _ c, fun hen => ?_, htmask, hlen, fun k x hx => isSlot_of_spFace hready.spFace (hslots k x hx)⟩
  rw [State.readMask, if_neg (by simp [hen])]
  exact ofNat_two_pow_sub_one 512

theorem State.mxOnly_feedStart (s : State) (p ord : Nat) (c : Cmd) : mxOnly p Matrix.unfed s (s.feedStart p ord c) := by
  cases h : (s.blk p).plan ord c with
  | none =>
    rw [State.feedStart, h]
    exact .refl s
  | some pl => exact (State.feedStart_spec h).1

end

/-! ### MPASS (R76, R77, R83) -/

theorem Block.held_leave (b : Block) (k : Q) (e : QEntry) {op : Nat} (h : EC.opcode e.cmd ≠ op) : Block.held { b with q := b.q.leave k e } op = b.held op := by
  have hflight : (b.q.leave k e).inflight = b.q.inflight ++ [⟨e.ord, k, e.cmd, false, false⟩] := by
    unfold Queues.leave
    cases k <;> split <;> rfl
  rw [Block.held, Block.held, hflight, List.filter_append]
  simp [h]

/-- A plan depends on the loads that are in flight and on the buffers. -/
theorem Block.plan_congr {b b' : Block} (hheld : b'.held 0x10 = b.held 0x10) (hbufs : b'.mx.bufs = b.mx.bufs) (ord : Nat) (c : Cmd) :
    b'.plan ord c = b.plan ord c := by
  unfold Block.plan Block.bufFor
  rw [hheld, hbufs]

/-- The waits that the front end counts for an accepted pass (R101). -/
def State.countWaits (s : State) (p : Nat) : State :=
  let s := if (s.blk p).passWaits true then s.cycles F.BLK_MX_LOAD_WAITS p else s
  if (s.blk p).passWaits false then s.cycles F.BLK_MX_DRAIN_WAITS p else s

theorem State.spView_countWaits (s : State) (p : Nat) : (s.countWaits p).spView p = s.spView p := by
  unfold State.countWaits
  extract_lets s1
  have h1 : s1.spView p = s.spView p := by
    unfold s1
    split
    · exact s.spView_cycles p rfl (by decide)
    · rfl
  split
  · exact (s1.spView_cycles p rfl (by decide)).trans h1
  · exact h1

theorem execMpass_of_headLeaves {s : State} {p : Nat} {e : QEntry} (h : headLeaves s p .mxq e) (hop : EC.opcode e.cmd = 0x11) :
    exec (.mpass p) s = .next ((((s.leave p .mxq e).mxAccept p).countWaits p).feedStart p e.ord e.cmd) := by
  rw [exec_mpass, execMpass, onUnit_of_lt h.1, State.takeHead_of_headLeaves h hop]
  rfl

/-- The Block once the front end has accepted the head of MXQ, before its row-slots are fetched. -/
theorem State.accepted_blk (s : State) (p : Nat) (e : QEntry) :
    (((s.leave p .mxq e).mxAccept p).countWaits p).blk p
      = { s.blk p with q := (s.blk p).q.leave .mxq e, mx := { (s.blk p).mx with ramp := rampTaken s p } } := by
  rw [State.blk_of_spView (State.spView_countWaits _ p), State.mxAccept_blk_same, State.leave_rampTaken, State.leave_blk_same]

/-- Settles O21: acceptance changes the queues and the ramp, the fetch of row-slots the feeder queues. -/
theorem matrixPassIsAcceptedAndFed : Obligations.MatrixPassIsAcceptedAndFed := by
  intro s p e hleaves hop
  have hblk := s.accepted_blk p e
  have haccept : mxOnly p (fun m => { m with ramp := .off }) (s.leave p .mxq e) (((s.leave p .mxq e).mxAccept p).countWaits p) :=
    (State.mxOnly_mxAccept _ p).trans (mxOnly_of_spView (State.spView_countWaits _ p))
  refine ⟨_, execMpass_of_headLeaves hleaves hop, ?_⟩
  generalize ((s.leave p .mxq e).mxAccept p).countWaits p = u at *
  have hfeed := u.mxOnly_feedStart p e.ord e.cmd
  have hmx : Matrix.unfed ((u.feedStart p e.ord e.cmd).blk p).mx = Matrix.unfed { (s.blk p).mx with ramp := rampTaken s p } := by rw [hfeed.mx, hblk]
  refine ⟨blksBut.trans (blksBut.trans (fun q hq => s.leave_blk_ne p .mxq e hq) haccept.others) hfeed.others, tookHead_of_leave (by rw [hfeed.q, hblk]),
    (congrArg Matrix.ramp hmx :), (congrArg Matrix.bufs hmx :), (congrArg Matrix.accs hmx :), by rw [hfeed.core, hblk], by rw [hfeed.vx, hblk],
    by rw [hfeed.sp, hblk], by rw [hfeed.dram, haccept.dram, s.leave_dram], by rw [hfeed.slices, haccept.slices, s.leave_slices], fun pl hpl => ?_⟩
  have hplan : (u.blk p).plan e.ord e.cmd = some pl := by
    rw [← hpl, hblk]
    exact Block.plan_congr (Block.held_leave _ _ _ (by rw [hop]; decide)) rfl _ _
  obtain ⟨-, mask, n, ⟨hpos, h16, htokens⟩, hmask, -, hlen, hslots⟩ := State.feedStart_spec hplan
  refine ⟨List.ne_nil_of_length_pos (by omega), by omega, by omega, fun m x hx => ⟨(hslots m x hx).ord_eq, (hslots m x hx).token_eq⟩, fun hen x hx => ?_⟩
  rw [List.head?_eq_getElem?] at hx
  obtain ⟨-, -, hmasked, helems⟩ := hslots 0 x hx
  have hbit : mask.getLsbD 0 = true := by rw [hmask hen, BitVec.getLsbD_allOnes]; rfl
  have hface : u.spFace p = s.spFace p := haccept.spFace.trans (s.leave_spFace p .mxq e)
  refine ⟨by rw [hmasked, hbit]; rfl, ?_⟩
  rw [helems hbit, unitReads_of_spFace hface, Nat.mul_zero, Nat.zero_mul, Nat.add_zero, PassPlan.slotBytes]

end Sys2Proof.Machine
end

section
/-! PROOFS. A pass of the matrix arrays (R73, R76, R79, R89, R110): what it leaves alone, and the token rows that it writes. -/

namespace Sys2Proof.Machine
open Sys2Proof Sys2Proof.Claims

/-! ### A command is done (R164) -/

theorem isDone_cmdDone (s : State) (p n : Nat) : isDone (s.cmdDone p n) p n := by
  intro x hx hord
  rw [State.cmdDone, State.onQ_blk_same] at hx
  rcases List.mem_append.mp hx with h | h
  · rw [List.mem_filter, hord] at h
    simp at h
  · obtain ⟨f, -, rfl⟩ := List.mem_map.mp h
    rfl

theorem State.cmdDone_blk_same (s : State) (p n : Nat) : (s.cmdDone p n).blk p = { s.blk p with q := ((s.cmdDone p n).blk p).q } := by
  rw [State.cmdDone, State.onQ_blk_same]

theorem State.cmdDone_core (s : State) (p n : Nat) : ((s.cmdDone p n).blk p).core = (s.blk p).core := by rw [State.cmdDone_blk_same]
theorem State.cmdDone_mx (s : State) (p n : Nat) : ((s.cmdDone p n).blk p).mx = (s.blk p).mx := by rw [State.cmdDone_blk_same]
theorem State.cmdDone_vx (s : State) (p n : Nat) : ((s.cmdDone p n).blk p).vx = (s.blk p).vx := by rw [State.cmdDone_blk_same]
theorem State.cmdDone_sp (s : State) (p n : Nat) : ((s.cmdDone p n).blk p).sp = (s.blk p).sp := by rw [State.cmdDone_blk_same]

theorem blksBut_cmdDone (s : State) (p n : Nat) : blksBut p s (s.cmdDone p n) := fun _ h => s.onQ_blk_ne h _

theorem mxOnly.mono {p : Nat} {g g' : Matrix → Matrix} {s t : State} (h : mxOnly p g s t) (hg : ∀ m, g' (g m) = g' m) : mxOnly p g' s t := by
  refine ⟨?_, h.others, h.dram, h.slices, h.regs, h.run⟩
  have hblk := congrArg (fun b : Block => { b with mx := g' b.mx }) h.blk
  simpa only [hg] using hblk

/-! ### What a pass leaves alone -/

/-- The arrays' state apart from the sets, the feeder queues and the count of skipped products. -/
def Matrix.unpassed (m : Matrix) : Matrix := { m with accs := [], feed := [], tmask := 0, zeroGated := 0 }

/-- The sets of the arrays of a pass are changed. -/
def State.onSets (s : State) (p : Nat) (c : Cmd) (f : AccSet → AccSet) : State :=
  (MX.arrays (MX.passMask c)).foldl (fun s a => s.onMx p (fun m =>
    { m with accs := SMap.put (2 * a + MX.set c) (f (m.accs.get (2 * a + MX.set c) ⟨none, false, []⟩)) m.accs })) s

/-- The effect of an unmasked row-slot on array a. -/
def State.passArray (s : State) (p : Nat) (c : Cmd) (pl : PassPlan) (row : Nat) (x : RowSlot) (a : Nat) : State :=
  let img := leNat ((s.blk p).mx.bufs.get (2 * a + MX.buf c) ⟨30, 0, []⟩).image
  let (sums, sk) := passRow pl img x
  let s := s.updateRow p a c pl.act.fmt.isNone row (fun old => accRow pl.act.fmt.isNone (MX.add c) old sums)
  let z := (s.blk p).mx.zeroGated + sk
  (s.inc F.BLK_MX_ZERO_GATED p 0 (z / 65536)).onMx p (fun m => { m with zeroGated := z % 65536 })

/-- The state in which a token's row-slot is at the head of the queues. -/
def State.withSlot (s : State) (p ord : Nat) (c : Cmd) (pl : PassPlan) (m : Nat) : State :=
  if (s.blk p).mx.feed.isEmpty then s.feedSlot p ord c pl m else s

/-- The state with the row-slot at the head popped and counted. -/
def State.popSlot (s : State) (p : Nat) : State := (s.onMx p (fun y => { y with feed := y.feed.tail })).inc F.BLK_MX_SLOTS p 0

section
variable (s : State) (p ord : Nat) (c : Cmd) (pl : PassPlan)

theorem State.mxOnly_inc {g : Matrix → Matrix} {f : Fld} (hp : f.page = .blk) (h : f.offSpMap = true) (n : Nat) : mxOnly p g s (s.inc f p 0 n) :=
  mxOnly_of_spView (s.spView_inc p hp h n)

theorem State.mxOnly_onSets (f : AccSet → AccSet) : mxOnly p Matrix.unpassed s (s.onSets p c f) := mxOnly_foldl (fun _ _ => mxOnly_onMx rfl) _ s

theorem State.mxOnly_updateRow (a : Nat) (isInt : Bool) (row : Nat) (f : List Word → List Word) :
    mxOnly p Matrix.unpassed s (s.updateRow p a c isInt row f) := by
  refine mxOnly_onMx ?_
  dsimp only
  split <;> rfl

theorem State.mxOnly_passArray (row : Nat) (x : RowSlot) (a : Nat) : mxOnly p Matrix.unpassed s (s.passArray p c pl row x a) := by
  unfold State.passArray
  extract_lets img
  refine .trans ?_ (mxOnly_onMx rfl)
  exact (s.mxOnly_updateRow p c a _ row _).trans (State.mxOnly_inc (f := F.BLK_MX_ZERO_GATED) _ p rfl (by decide) _)

theorem State.mxOnly_withSlot (m : Nat) : mxOnly p Matrix.unpassed s (s.withSlot p ord c pl m) := by
  unfold State.withSlot
  split
  · exact (s.mxOnly_feedSlot p ord c pl m).mono fun _ => rfl
  · exact .refl s

theorem State.mxOnly_popSlot : mxOnly p Matrix.unpassed s (s.popSlot p) := 
  (mxOnly_onMx rfl).trans (State.mxOnly_inc (f := F.BLK_MX_SLOTS) _ p rfl (by decide) 1)

/-- A token of a pass by the kind of its row-slot: a masked one clears the rows of a pass that does not accumulate. -/
theorem State.passToken_eq (m : Nat) : s.passToken p ord c pl m =
    let t := s.withSlot p ord c pl m
    let slot := (t.blk p).mx.feed.headD ⟨0, 0, false, 0, 0⟩
    if slot.masked then
      if MX.add c then (t.popSlot p).inc F.BLK_MX_MASKED_SLOTS p 0
      else (MX.arrays (MX.passMask c)).foldl (fun s a => s.updateRow p a c pl.act.fmt.isNone (MX.first c + m) (fun _ => List.replicate 32 0))
        ((t.popSlot p).inc F.BLK_MX_MASKED_SLOTS p 0)
    else (MX.arrays (MX.passMask c)).foldl (fun s a => s.passArray p c pl (MX.first c + m) ⟨slot.elems, slot.scales⟩ a) (t.popSlot p) := rfl

theorem State.mxOnly_passToken (m : Nat) : mxOnly p Matrix.unpassed s (s.passToken p ord c pl m) := by
  rw [State.passToken_eq]
  extract_lets t slot
  have hpop : mxOnly p Matrix.unpassed s (t.popSlot p) := (s.mxOnly_withSlot p ord c pl m).trans (t.mxOnly_popSlot p)
  have hmasked := hpop.trans ((t.popSlot p).mxOnly_inc (f := F.BLK_MX_MASKED_SLOTS) p rfl (by decide) 1)
  split
  · split
    · exact hmasked
    · exact hmasked.trans (mxOnly_foldl (fun u a => u.mxOnly_updateRow p c a _ _ _) _ _)
  · exact hpop.trans (mxOnly_foldl (fun u a => u.mxOnly_passArray p c pl _ _ a) _ _)

theorem State.doPass_of_none {s : State} (h : (s.blk p).plan ord c = none) :
    s.doPass p ord c = (s.inc F.BLK_MX_SLOTS p 0 (MX.tokens c)).onSets p c AccSet.spoil := by
  unfold State.doPass
  rw [h]
  rfl

/-- A pass with a plan: a bubble where the queues hold fewer row-slots than it has tokens, the kind of its sets, its tokens in turn. -/
theorem State.doPass_of_plan {s : State} (h : (s.blk p).plan ord c = some pl) :
    s.doPass p ord c = forN (MX.tokens c) ((if (s.blk p).mx.feed.length < MX.tokens c then s.cycles F.BLK_MX_FEED_BUBBLES p else s).onSets p c
      (fun x => accKind x pl.act.fmt.isNone (MX.add c))) (fun s m => s.passToken p ord c pl m) := by
  unfold State.doPass
  rw [h]
  rfl

theorem State.mxOnly_doPass : mxOnly p Matrix.unpassed s (s.doPass p ord c) := by
  cases h : (s.blk p).plan ord c with
  | none =>
    rw [State.doPass_of_none p ord c h]
    exact (s.mxOnly_inc p rfl (by decide) _).trans (State.mxOnly_onSets _ p c _)
  | some pl =>
    rw [State.doPass_of_plan p ord c pl h]
    refine .trans ?_ (mxOnly_foldl (fun t m => t.mxOnly_passToken p ord c pl m) _ _)
    refine .trans ?_ (State.mxOnly_onSets _ p c _)
    split
    · exact mxOnly_of_spView (s.spView_cycles p rfl (by decide))
    · exact .refl s

end

/-! ### The sets of the arrays of a pass -/

/-- Entries of a map changed one after another, each at its own key. -/
def SMap.updates {α : Type} (key : Nat → Nat) (d : α) (f : Nat → α → α) (as : List Nat) (m : SMap α) : SMap α :=
  as.foldl (fun m a => SMap.put (key a) (f a (m.get (key a) d)) m) m

section
variable {α : Type} {key : Nat → Nat} {d : α} {f : Nat → α → α} {as : List Nat}

theorem SMap.updates_cons (a : Nat) (m : SMap α) : SMap.updates key d f (a :: as) m = SMap.updates key d f as (SMap.put (key a) (f a (m.get (key a) d)) m) :=
  rfl

theorem SMap.find_updates_of_ne {k : Nat} (h : ∀ a ∈ as, k ≠ key a) (m : SMap α) : SMap.find k (SMap.updates key d f as m) = SMap.find k m := by
  induction as generalizing m with
  | nil => rfl
  | cons a as ih => rw [SMap.updates_cons, ih fun b hb => h b (.tail _ hb), SMap.find_put_ne (h a (.head _))]

theorem SMap.find_updates_of_mem (hkey : Function.Injective key) (hnodup : as.Nodup) {a : Nat} (ha : a ∈ as) (m : SMap α) :
    SMap.find (key a) (SMap.updates key d f as m) = some (f a (m.get (key a) d)) := by
  induction as generalizing m with
  | nil => exact absurd ha List.not_mem_nil
  | cons b as ih =>
    obtain ⟨hb, hrest⟩ := List.nodup_cons.mp hnodup
    rw [SMap.updates_cons]
    rcases List.mem_cons.mp ha with hab | ha
    · have hne : ∀ i ∈ as, key b ≠ key i := fun i hi => hkey.ne fun h => hb (h ▸ hi)
      rw [hab, SMap.find_updates_of_ne hne, SMap.find_put_same]
    · have hne : key a ≠ key b := hkey.ne fun h => hb (h ▸ ha)
      rw [ih hrest ha, SMap.get_put_ne hne]

end

theorem MX.mem_arrays {m a : Nat} : a ∈ MX.arrays m ↔ a < 4 ∧ m.testBit a = true := by
  rw [MX.arrays, List.mem_filter, List.mem_range]

theorem MX.nodup_arrays (m : Nat) : (MX.arrays m).Nodup := List.nodup_range.filter _

section
variable {s : State} {p ord : Nat} {c : Cmd} {pl : PassPlan}

theorem State.onSets_accs (s : State) (p : Nat) (c : Cmd) (f : AccSet → AccSet) : ((s.onSets p c f).blk p).mx =
    { (s.blk p).mx with accs := SMap.updates (fun a => 2 * a + MX.set c) ⟨none, false, []⟩ (fun _ => f) (MX.arrays (MX.passMask c)) (s.blk p).mx.accs } := by
  unfold State.onSets SMap.updates
  induction MX.arrays (MX.passMask c) generalizing s with
  | nil => rfl
  | cons a as ih => rw [List.foldl_cons, ih, State.onMx_blk_same, List.foldl_cons]

/-- A set after one of its token rows is overwritten. -/
def AccSet.withRow (x : AccSet) (isInt : Bool) (row : Nat) (sums : List Nat) : AccSet :=
  { x with isInt := some isInt, rows := SMap.put row (accRow isInt false (x.rows.get row []) sums) x.rows }

/-- The column sums of array a for a row-slot, under the weights of its buffer. -/
def sumsOf (bufs : SMap WBuf) (c : Cmd) (pl : PassPlan) (x : RowSlot) (a : Nat) : List Nat :=
  (passRow pl (leNat (bufs.get (2 * a + MX.buf c) ⟨30, 0, []⟩).image) x).1

theorem State.passArray_mx (hadd : MX.add c = false) (s : State) (p : Nat) (pl : PassPlan) (row : Nat) (x : RowSlot) (a : Nat) :
    ((s.passArray p c pl row x a).blk p).mx.feed = (s.blk p).mx.feed ∧ ((s.passArray p c pl row x a).blk p).mx.bufs = (s.blk p).mx.bufs
      ∧ ((s.passArray p c pl row x a).blk p).mx.accs = SMap.put (2 * a + MX.set c)
        (AccSet.withRow ((s.blk p).mx.accs.get (2 * a + MX.set c) ⟨none, false, []⟩) pl.act.fmt.isNone row (sumsOf (s.blk p).mx.bufs c pl x a))
        (s.blk p).mx.accs := by
  unfold State.passArray State.updateRow
  simp only [State.onMx_blk_same, State.inc_blk, hadd, Bool.false_and, Bool.false_eq_true, if_false, true_and]
  rfl

theorem State.passArrays_mx (hadd : MX.add c = false) (pl : PassPlan) (row : Nat) (x : RowSlot) (as : List Nat) (s : State) :
    let t := as.foldl (fun s a => s.passArray p c pl row x a) s
    (t.blk p).mx.feed = (s.blk p).mx.feed ∧ (t.blk p).mx.accs = SMap.updates (fun a => 2 * a + MX.set c) ⟨none, false, []⟩
      (fun a y => y.withRow pl.act.fmt.isNone row (sumsOf (s.blk p).mx.bufs c pl x a)) as (s.blk p).mx.accs := by
  induction as generalizing s with
  | nil => exact ⟨rfl, rfl⟩
  | cons a as ih =>
    obtain ⟨hfeed, hbufs, haccs⟩ := State.passArray_mx hadd s p pl row x a
    obtain ⟨hfeed', haccs'⟩ := ih (s.passArray p c pl row x a)
    refine ⟨hfeed'.trans hfeed, haccs'.trans ?_⟩
    rw [hbufs, haccs]
    rfl

/-- An unmasked token at the head of the queues of a pass that does not accumulate: its row-slot is popped, and row FIRST + m of each array's set
holds its column sums. -/
theorem State.passToken_mx (hadd : MX.add c = false) {x : FeedSlot} {xs : List FeedSlot} (hfeed : (s.blk p).mx.feed = x :: xs) (hx : x.masked = false)
    (m : Nat) :
    ((s.passToken p ord c pl m).blk p).mx.feed = xs ∧ ((s.passToken p ord c pl m).blk p).mx.accs
      = SMap.updates (fun a => 2 * a + MX.set c) ⟨none, false, []⟩
        (fun a y => y.withRow pl.act.fmt.isNone (MX.first c + m) (sumsOf (s.blk p).mx.bufs c pl ⟨x.elems, x.scales⟩ a)) (MX.arrays (MX.passMask c))
        (s.blk p).mx.accs := by
  have hslot : s.withSlot p ord c pl m = s := by rw [State.withSlot, hfeed]; rfl
  have hpop : ((s.popSlot p).blk p).mx = { (s.blk p).mx with feed := xs } := by
    rw [State.popSlot, State.inc_blk, State.onMx_blk_same, hfeed]
    rfl
  obtain ⟨hfeed', haccs'⟩ := State.passArrays_mx (p := p) hadd pl (MX.first c + m) ⟨x.elems, x.scales⟩ (MX.arrays (MX.passMask c)) (s.popSlot p)
  rw [State.passToken_eq, hslot]
  dsimp only
  rw [hfeed, List.headD_cons, if_neg (by simp [hx])]
  rw [hpop] at hfeed' haccs'
  exact ⟨hfeed', haccs'⟩

/-- The sets after a pass of one unmasked token that does not accumulate: each of its arrays' has the kind of the pass and its column sums. -/
theorem State.doPass_one (hplan : (s.blk p).plan ord c = some pl) {x : FeedSlot} (hfeed : (s.blk p).mx.feed = [x]) (hx : x.masked = false)
    (hone : MX.tokens c = 1) (hadd : MX.add c = false) :
    ((s.doPass p ord c).blk p).mx.feed = [] ∧ ((s.doPass p ord c).blk p).mx.accs
      = SMap.updates (fun a => 2 * a + MX.set c) ⟨none, false, []⟩
        (fun a y => y.withRow pl.act.fmt.isNone (MX.first c) (sumsOf (s.blk p).mx.bufs c pl ⟨x.elems, x.scales⟩ a)) (MX.arrays (MX.passMask c))
        (SMap.updates (fun a => 2 * a + MX.set c) ⟨none, false, []⟩ (fun _ y => accKind y pl.act.fmt.isNone false) (MX.arrays (MX.passMask c))
          (s.blk p).mx.accs) := by
  have hsets := s.onSets_accs p c (fun y => accKind y pl.act.fmt.isNone (MX.add c))
  have htoken := State.passToken_mx (s := s.onSets p c (fun y => accKind y pl.act.fmt.isNone (MX.add c))) (p := p) (ord := ord) (pl := pl) hadd
    (by rw [hsets, hfeed]) hx 0
  rw [hsets, hadd] at htoken
  rw [State.doPass_of_plan p ord c pl hplan, hfeed, hone, if_neg (show ¬ [x].length < 1 from Nat.lt_irrefl 1), hadd]
  exact htoken

end

/-! ### MPASS_START (R77, R95) -/

theorem execMpassStart_of_ready {s : State} {p : Nat} {f : InFlight} (hp : p < nBlks) (hrun : (s.blk p).core.running = true)
    (hnext : (s.blk p).nextOf 0x11 = some f) (hramp : s.rd F.BLK_MX_TEST_BALLAST_OFF p ≠ 0 ∨ (s.blk p).mx.ramp = .hold)
    (hloads : (s.blk p).allDone 0x10 f.ord (fun c => MX.buf c == MX.buf f.cmd && (MX.loadMask c &&& MX.passMask f.cmd) != 0) = true)
    (hdrains : (s.blk p).allDone 0x12 f.ord (fun c => MX.dset c == MX.set f.cmd) = true) (hfed : (s.blk p).fed f = true) :
    exec (.mpassStart p) s = .next ((s.doPass p f.ord f.cmd).cmdDone p f.ord) := by
  have hballast : s.ballast p = false ∨ (s.blk p).mx.ramp = .hold :=
    hramp.imp_left fun h => Bool.eq_false_iff.mpr fun hb => h (State.ballast_eq_true.mp hb)
  rw [exec_mpassStart, execMpassStart, onUnit_of_lt hp, hnext]
  exact congrArg _ (if_pos ⟨hrun, hballast, hloads, hdrains, hfed⟩)

/-- Settles O24: a pass changes the sets, the feeder queues and counters alone, and one token of it each set of the mask in turn. -/
theorem matrixPassWritesColumnSums : Obligations.MatrixPassWritesColumnSums := by
  intro s p f hp hrun hnext hramp hloads hdrains hfed
  have hpass := s.mxOnly_doPass p f.ord f.cmd
  refine ⟨_, execMpassStart_of_ready hp hrun hnext hramp hloads hdrains hfed, isDone_cmdDone _ p f.ord,
    blksBut.trans hpass.others (blksBut_cmdDone _ p f.ord), ?_, ?_, ?_, hpass.dram, fun pl x hplan hfeed hx hone hadd => ?_⟩
  · rw [State.cmdDone_mx]
    exact (congrArg Matrix.bufs hpass.mx :)
  · rw [State.cmdDone_core, hpass.core]
  · rw [State.cmdDone_vx, hpass.vx]
  · rw [State.cmdDone_mx]
    obtain ⟨hempty, haccs⟩ := State.doPass_one hplan hfeed hx hone hadd
    have hkey : Function.Injective fun a => 2 * a + MX.set f.cmd := fun a b h => by simpa using h
    refine ⟨hempty, fun k hk => ?_, fun a ha hbit => ?_⟩
    · have hne : ∀ a ∈ MX.arrays (MX.passMask f.cmd), k ≠ 2 * a + MX.set f.cmd := fun a ha => hk a (MX.mem_arrays.mp ha).1 (MX.mem_arrays.mp ha).2
      rw [haccs, SMap.find_updates_of_ne hne, SMap.find_updates_of_ne hne]
    · have hmem := MX.mem_arrays.mpr ⟨ha, hbit⟩
      rw [haccs]
      exact ⟨_, SMap.find_updates_of_mem hkey (MX.nodup_arrays _) hmem _, rfl, SMap.find_put_same _ _ _⟩

end Sys2Proof.Machine
end

section
/-! PROOFS. External memory, its controllers and the cache slices change of a Block at most its L1 and its scratchpad: reports, reads and writes of
memory, and the slots of the controllers (R254 to R287). -/

namespace Sys2Proof.Machine
open Sys2Proof Sys2Proof.Claims

/-! ### Updates of one field -/

section
variable (s : State)

@[simp] theorem State.besideMem_wr (f : Fld) (u i v : Nat) : (s.wr f u i v).besideMem = s.besideMem := rfl
@[simp] theorem State.besideMem_inc (f : Fld) (u i n : Nat) : (s.inc f u i n).besideMem = s.besideMem := rfl
@[simp] theorem State.besideMem_cycles (f : Fld) (u : Nat) : (s.cycles f u).besideMem = s.besideMem := rfl
@[simp] theorem State.besideMem_setEvt (pg : Page) (u b : Nat) : (s.setEvt pg u b).besideMem = s.besideMem := rfl
@[simp] theorem State.besideMem_used : s.used.besideMem = s.besideMem := rfl
@[simp] theorem State.besideMem_onSlc (n : Nat) (f : Slice → Slice) : (s.onSlc n f).besideMem = s.besideMem := rfl
@[simp] theorem State.besideMem_onMem (g : Nat) (f : Memc → Memc) : (s.onMem g f).besideMem = s.besideMem := rfl
@[simp] theorem State.besideMem_onCtx (n : Nat) (f : Ctx → Ctx) : (s.onCtx n f).besideMem = s.besideMem := rfl

theorem State.besideMem_memory (m : List Host.Cell) (q : SMap Sector) : State.besideMem { s with dram := m, sectors := q } = s.besideMem := rfl
theorem State.besideMem_reqs (xs : List Req) : State.besideMem { s with reqs := xs } = s.besideMem := rfl
theorem State.besideMem_resps (xs : List Resp) : State.besideMem { s with resps := xs } = s.besideMem := rfl
theorem State.besideMem_invs (xs : List InvMsg) : State.besideMem { s with invs := xs } = s.besideMem := rfl

/-! ### Error reports (R300, R310 to R315) -/

@[simp] theorem State.besideMem_report (r : Report) : (s.report r).besideMem = s.besideMem := State.besideMem_of_spView (s.spView_report 0 r)
@[simp] theorem State.besideMem_record (r : Report) : (s.record r).besideMem = s.besideMem := State.besideMem_of_spView (s.spView_record 0 r)
@[simp] theorem State.besideMem_event (code page addr detail : Nat) (writer : Option Nat) :
    (s.event code page addr detail writer).besideMem = s.besideMem := State.besideMem_of_spView (s.spView_event 0 code page addr detail writer)
@[simp] theorem State.besideMem_corrected (cls unit addr : Nat) : (s.corrected cls unit addr).besideMem = s.besideMem :=
  State.besideMem_of_spView (s.spView_corrected 0 cls unit addr)

/-! ### Controllers (R259 to R269) -/

@[simp] theorem State.besideMem_columns (g : Nat) (br : Nat × Nat) (n : Nat) : (s.columns g br n).besideMem = s.besideMem := by
  unfold State.columns
  split_ifs <;> rfl

@[simp] theorem State.besideMem_writeSector (q h : Nat) (d : BitVec 256) (err : Nat) : (s.writeSector q h d err).besideMem = s.besideMem :=
  s.besideMem_memory _ _

@[simp] theorem State.besideMem_memUe (g q : Nat) : (s.memUe g q).besideMem = s.besideMem := by
  unfold State.memUe
  dsimp only
  split <;> simp

@[simp] theorem State.besideMem_keyLoad (g h : Nat) : (s.keyLoad g h).besideMem = s.besideMem := by
  unfold State.keyLoad
  dsimp only
  split_ifs <;> rfl

@[simp] theorem State.besideMem_keyTouch (g h : Nat) : (s.keyTouch g h).besideMem = s.besideMem := by
  unfold State.keyTouch
  split <;> simp

@[simp] theorem State.besideMem_checkLost (g : Nat) (b : CheckBurst) : (s.checkLost g b).besideMem = s.besideMem := by
  unfold State.checkLost
  split
  · rfl
  · exact s.besideMem_memory _ _

@[simp] theorem State.besideMem_onCheck (g : Nat) (k : Nat × Nat) (f : CheckBurst → CheckBurst) : (s.onCheck g k f).besideMem = s.besideMem := rfl

@[simp] theorem State.besideMem_checkLoad (g : Nat) (k : Nat × Nat) : (s.checkLoad g k).besideMem = s.besideMem := by
  unfold State.checkLoad
  dsimp only
  split
  · rfl
  split
  · simp
  split
  · split <;> simp
  · simp

@[simp] theorem State.besideMem_checkErr (g l : Nat) (k : Nat × Nat) : (s.checkErr g l k).besideMem = s.besideMem := by
  unfold State.checkErr
  split
  · rfl
  split
  · rfl
  · simp
  · split <;> simp

@[simp] theorem State.besideMem_checkTouch (g l : Nat) (write : Bool) : (s.checkTouch g l write).besideMem = s.besideMem := by
  unfold State.checkTouch
  dsimp only
  split <;> split <;> simp

@[simp] theorem State.besideMem_memInject (g l : Nat) : (s.memInject g l).1.besideMem = s.besideMem := by
  unfold State.memInject
  dsimp only
  split_ifs <;> rfl

@[simp] theorem State.besideMem_writePart (g l h i : Nat) (mask : BitVec 128) (d : BitVec 1024) (ctx : Option Nat) :
    (s.writePart g l h i mask d ctx).besideMem = s.besideMem := by
  unfold State.writePart
  dsimp only
  split_ifs <;> simp

@[simp] theorem State.besideMem_issueWrite (g : Nat) (w : MemWrite) : (s.issueWrite g w).besideMem = s.besideMem := by
  simp [State.issueWrite]

@[simp] theorem State.besideMem_slotWrite (g l : Nat) (is : List Nat) : (s.slotWrite g l is).besideMem = s.besideMem := by
  unfold State.slotWrite
  dsimp only
  split
  · rfl
  split
  · split <;> simp
  · rfl

@[simp] theorem State.besideMem_writeLine (g l h : Nat) (mask : BitVec 128) (d : BitVec 1024) (ctx : Option Nat) :
    (s.writeLine g l h mask d ctx).besideMem = s.besideMem := by
  have hparts (is : List Nat) (t : State) : (is.foldl (fun s i => s.writePart g l h i mask d ctx) t).besideMem = t.besideMem :=
    State.besideMem_foldl (fun s i => s.besideMem_writePart g l h i mask d ctx) is t
  unfold State.writeLine
  dsimp only
  split_ifs <;> simp [hparts]

@[simp] theorem State.besideMem_fetchLine (g l h : Nat) : (s.fetchLine g l h).1.besideMem = s.besideMem := by
  have hces (is : List Nat) (t : State) : (is.foldl (fun s i => (s.inc F.MEMC_CE g 0).corrected 4 g (32 * (4 * l + i))) t).besideMem = t.besideMem :=
    State.besideMem_foldl (fun s i => State.besideMem_corrected (s.inc F.MEMC_CE g 0) 4 g _) is t
  have hues (is : List Nat) (t : State) : (is.foldl (fun s i => s.memUe g (4 * l + i)) t).besideMem = t.besideMem :=
    State.besideMem_foldl (fun s i => s.besideMem_memUe g _) is t
  unfold State.fetchLine
  dsimp only
  split <;> simp [hces, hues]

@[simp] theorem State.besideMem_readLine (g l h : Nat) : (s.readLine g l h).1.besideMem = s.besideMem := by
  simp [State.readLine]

/-! ### Slots (R268, R283, R287) -/

@[simp] theorem State.besideMem_onMiss (n l : Nat) (f : Miss → Miss) : (s.onMiss n l f).besideMem = s.besideMem := rfl

@[simp] theorem State.besideMem_toSlot (g n : Nat) (m : Miss) : (s.toSlot g n m).besideMem = s.besideMem := by
  unfold State.toSlot
  dsimp only
  split_ifs <;> rfl

@[simp] theorem State.besideMem_countServed (g : Nat) (m : Miss) (aged : Bool) : (s.countServed g m aged).besideMem = s.besideMem := by
  unfold State.countServed
  dsimp only
  split_ifs <;> rfl

@[simp] theorem State.besideMem_dropIdle (g : Nat) : (s.dropIdle g).besideMem = s.besideMem := by
  unfold State.dropIdle
  dsimp only
  split <;> rfl

@[simp] theorem State.besideMem_serveColumn (g n : Nat) (m : Miss) (aged : Bool) : (s.serveColumn g n m aged).besideMem = s.besideMem := by
  unfold State.serveColumn
  dsimp only
  split_ifs <;> simp

@[simp] theorem State.besideMem_slotReady (g n : Nat) (m : Miss) : (s.slotReady g n m).besideMem = s.besideMem := by
  simp only [State.slotReady, State.besideMem_onMiss]
  split
  · split <;> simp
  · split <;> simp

@[simp] theorem State.besideMem_finishSlot (g n l : Nat) : (s.finishSlot g n l).besideMem = s.besideMem := by
  unfold State.finishSlot forN
  rw [State.besideMem_foldl]
  · split
    · simp
    · rfl
  · intro t _
    split
    · split <;> simp
    · rfl

@[simp] theorem State.besideMem_clearSlots (g : Nat) (m : Miss) : (s.clearSlots g m).besideMem = s.besideMem := by
  unfold State.clearSlots
  split
  · rfl
  · refine State.besideMem_foldl (fun t x => ?_) _ s
    exact t.besideMem_finishSlot g x.1 x.2.line

@[simp] theorem State.besideMem_fetchNow (g n l : Nat) : (s.fetchNow g n l).besideMem = s.besideMem := by
  unfold State.fetchNow
  split
  · rfl
  split <;> simp

end

end Sys2Proof.Machine
end

section
/-! PROOFS. A cache slice changes of a Block at most its L1: lines, victims and answers, what a request makes of a line or of a miss, and the misses that
a settled line takes with it (R236 to R248). -/

namespace Sys2Proof.Machine
open Sys2Proof Sys2Proof.Claims

section
variable (s : State)

theorem State.besideMem_of_eq {α : Type} {p : State × α} {t : State} {a : α} (h : p = (t, a)) : t.besideMem = p.1.besideMem := by rw [h]

/-! ### Lines of a slice and of an L1 -/

@[simp] theorem State.besideMem_errGone (n l : Nat) : (s.errGone n l).besideMem = s.besideMem := rfl
@[simp] theorem State.besideMem_freeMiss (n l : Nat) : (s.freeMiss n l).besideMem = s.besideMem := rfl

@[simp] theorem State.besideMem_l1Drop (p l : Nat) : (s.l1Drop p l).besideMem = s.besideMem := State.besideMem_setBlk rfl

@[simp] theorem State.besideMem_l1Fill (p : Nat) (x : L1Line) : (s.l1Fill p x).besideMem = s.besideMem := by
  unfold State.l1Fill
  dsimp only
  split_ifs <;> exact State.besideMem_setBlk rfl

@[simp] theorem State.besideMem_dropSharers (n : Nat) (x : Line) : (s.dropSharers n x).besideMem = s.besideMem := by
  unfold State.dropSharers
  rw [State.besideMem_foldl fun t p => t.besideMem_l1Drop p x.line]
  exact s.besideMem_inc _ _ _ _

@[simp] theorem State.besideMem_writeBack (n : Nat) (x : Line) : (s.writeBack n x).besideMem = s.besideMem := by
  simp [State.writeBack]

@[simp] theorem State.besideMem_slcUe (n l : Nat) : (s.slcUe n l).besideMem = s.besideMem := by
  unfold State.slcUe
  dsimp only
  split <;> rfl

@[simp] theorem State.besideMem_resolveMem (n : Nat) (x : Line) : (s.resolveMem n x).1.besideMem = s.besideMem := by
  unfold State.resolveMem
  dsimp only
  split <;> simp

@[simp] theorem State.besideMem_evict (n : Nat) (x : Line) : (s.evict n x).besideMem = s.besideMem := by
  unfold State.evict
  dsimp only
  rw [State.besideMem_onSlc]
  split
  · simp
  · have hmem := (s.dropSharers n x).besideMem_resolveMem n x
    split
    case h_1 t _ h => rw [State.besideMem_of_eq h, hmem, State.besideMem_dropSharers]
    case h_2 t h => rw [State.besideMem_inc, State.besideMem_of_eq h, hmem, State.besideMem_dropSharers]
  · simp

@[simp] theorem State.besideMem_settleForeign (n : Nat) (x : Line) : (s.settleForeign n x).besideMem = s.besideMem := by
  simp [State.settleForeign]

/-! ### Answers -/

@[simp] theorem State.besideMem_answer (r : Req) (d : BitVec 1024) (fillL1 : Bool) : (s.answer r d fillL1).besideMem = s.besideMem := by
  unfold State.answer
  dsimp only
  split
  · split
    · rw [State.besideMem_l1Fill, State.besideMem_resps]
    · exact s.besideMem_resps _
  · exact s.besideMem_resps _

@[simp] theorem State.besideMem_slcWrote (n l : Nat) : (s.slcWrote n l).besideMem = s.besideMem := by
  unfold State.slcWrote
  dsimp only
  split <;> rfl

@[simp] theorem State.besideMem_ackWrite (n : Nat) (x : Line) (r : Req) : (s.ackWrite n x r).besideMem = s.besideMem := by
  unfold State.ackWrite
  dsimp only
  split
  · simp
  · rw [State.besideMem_invs]
    simp

@[simp] theorem State.besideMem_pinLine (n l owner : Nat) : (s.pinLine n l owner).1.besideMem = s.besideMem := by
  unfold State.pinLine
  split
  · rfl
  · dsimp only
    split <;> rfl

@[simp] theorem State.besideMem_readHit (n : Nat) (x : Line) (r : Req) : (s.readHit n x r).besideMem = s.besideMem := by
  simp [State.readHit]

@[simp] theorem State.besideMem_poisonHit (n : Nat) (r : Req) : (s.poisonHit n r).besideMem = s.besideMem := by
  unfold State.poisonHit
  dsimp only
  split <;> simp

@[simp] theorem State.besideMem_poisonLine (n : Nat) (x : Line) (writer : Option Nat) : (s.poisonLine n x writer).besideMem = s.besideMem := by
  simp [State.poisonLine]

@[simp] theorem State.besideMem_resolveFailed (n : Nat) (x : Line) : (s.resolveFailed n x).besideMem = s.besideMem := by
  simp [State.resolveFailed]

@[simp] theorem State.besideMem_lineErr (n : Nat) (x : Line) (reads scrub : Bool) : (s.lineErr n x reads scrub).besideMem = s.besideMem := by
  have hgone : (if scrub then s.errGone n x.line else s).besideMem = s.besideMem := by split <;> rfl
  unfold State.lineErr
  split
  · rfl
  dsimp only
  split
  · split
    · simp [hgone]
    · rfl
  · simp [hgone]
  · simp [hgone]
  · simp
  · simp
  · split
    · rfl
    · split <;> simp

@[simp] theorem State.besideMem_findVictim (n set fuel : Nat) : (s.findVictim n set fuel).1.besideMem = s.besideMem := by
  induction fuel generalizing s with
  | zero => rfl
  | succ fuel ih =>
    unfold State.findVictim
    split
    · split
      · split
        · rw [ih, State.besideMem_lineErr]
        · split
          · rw [ih, State.besideMem_resolveFailed, State.besideMem_resolveMem]
          · rfl
      · rfl
    · rfl

/-! ### A request at a slice (R236 to R244) -/

@[simp] theorem State.besideMem_recordHit (n l : Nat) : (s.recordHit n l).besideMem = s.besideMem := by
  unfold State.recordHit
  split <;> rfl

@[simp] theorem State.besideMem_runAhead (n : Nat) (r : Req) (lo hi : Nat) : (s.runAhead n r lo hi).besideMem = s.besideMem := by
  unfold State.runAhead
  refine State.besideMem_foldl (fun t i => ?_) _ s
  dsimp only
  split <;> rfl

@[simp] theorem State.besideMem_raFrom (n : Nat) (r : Req) (next : Bool) : (s.raFrom n r next).besideMem = s.besideMem := by
  unfold State.raFrom
  dsimp only
  split
  · exact s.besideMem_runAhead n r _ _
  · rfl

@[simp] theorem State.besideMem_register (n : Nat) (r : Req) (k : MKind) (alloc fresh : Bool) (f : Slice → Slice) :
    (s.register n r k alloc fresh f).1.besideMem = s.besideMem := by
  unfold State.register
  dsimp only
  split
  · rw [State.besideMem_onSlc]
    split <;> split <;> rfl
  · rfl

@[simp] theorem State.besideMem_beginResolve (n : Nat) (x : Line) (r : Req) (fresh : Bool) : (s.beginResolve n x r fresh).1.besideMem = s.besideMem := by
  unfold State.beginResolve
  split
  case h_1 t h => rw [State.besideMem_onMiss, State.besideMem_of_eq h, State.besideMem_register]
  case h_2 t h => rw [State.besideMem_of_eq h, State.besideMem_register]

@[simp] theorem State.besideMem_hit (n : Nat) (x : Line) (r : Req) (fresh : Bool) : (s.hit n x r fresh).1.besideMem = s.besideMem := by
  have hcount : (if fresh then s.inc F.SLC_HITS n 0 else s).besideMem = s.besideMem := by split <;> rfl
  unfold State.hit
  dsimp only
  split
  · rfl
  · split
    · simp [hcount]
    · simp
    · split <;> simp [hcount]
  · split
    · split <;> simp [hcount]
    · simp
    · simp [hcount]
  · split
    · simp [hcount]
    · split <;> simp [hcount]
    · split <;> simp [hcount]

@[simp] theorem State.besideMem_fetchReports (n q : Nat) (ws : List Req) : (s.fetchReports n q ws).besideMem = s.besideMem := by
  unfold State.fetchReports
  dsimp only
  split
  · split <;> simp
  · rw [State.besideMem_foldl fun t e => t.besideMem_record _, State.besideMem_report]

@[simp] theorem State.besideMem_reduceMem (n : Nat) (r : Req) (op : Nat) : (s.reduceMem n r op).besideMem = s.besideMem := by
  unfold State.reduceMem
  dsimp only
  split <;> simp

@[simp] theorem State.besideMem_missed (n : Nat) (r : Req) (fresh : Bool) : (s.missed n r fresh).1.besideMem = s.besideMem := by
  have hv := s.besideMem_findVictim n (setOf r.line) 16
  unfold State.missed
  generalize s.findVictim n (setOf r.line) 16 = q at *
  obtain ⟨t, v⟩ := q
  extract_lets g cons clear place fetch
  have hclear (u : State) (w : Nat) : (clear u w).besideMem = u.besideMem := by
    unfold clear
    split
    · simp
    · rfl
  have hplace (u : State) (w : Nat) (c : Bool) : (place u w c).1.besideMem = u.besideMem := by
    unfold place
    rw [State.besideMem_pinLine, hclear]
    unfold cons
    split <;> rfl
  have hfetch (u : State) (w : Nat) (c : Bool) : (fetch u w c).1.besideMem = u.besideMem := by
    unfold fetch
    split
    · simp [hplace]
    · rfl
  clear_value cons clear place fetch
  dsimp only at hv ⊢
  split
  · split
    · split
      · simp [hv]
      · split
        · exact hv
        · simp [hplace, hv]
    · simp [hv]
  · split
    · simp [hv]
    · simp [hv]
    · simp [hfetch, hv]
  · split
    · simp [hv]
    · simp [hv]
    · simp [hplace, hv]
  · split
    · simp [hv]
    · simp [hv]
    · split
      · simp [hfetch, hv]
      · split
        · rw [hfetch]
          split <;> simp [hv]
        · simp [hplace, hv]

@[simp] theorem State.besideMem_take (n : Nat) (r : Req) (fresh : Bool) : (s.take n r fresh).1.besideMem = s.besideMem := by
  unfold State.take
  split
  · dsimp only
    split <;> simp
  split
  · split
    · rfl
    split
    · rfl
    · dsimp only
      rw [State.besideMem_onMiss]
      have hmerged : (if fresh then s.inc F.SLC_MERGED n 0 else s).besideMem = s.besideMem := by split <;> rfl
      split
      · simp [hmerged]
      · exact hmerged
  · extract_lets pf s1 s2 wasRec s3
    have h1 : s1.besideMem = s.besideMem := by
      unfold s1
      split
      · split <;> simp
      · rfl
    have h2 : s2.besideMem = s.besideMem := by
      unfold s2
      split
      · split <;> simp [h1]
      · exact h1
    clear_value s1 s2
    split
    · have h3 : s3.besideMem = s.besideMem := by
        unfold s3
        split <;> simp [h2]
      rw [State.besideMem_hit]
      split <;> simp [h3]
    · have hmissed := s2.besideMem_missed n r fresh
      split
      case h_1 t h =>
        have ht := (State.besideMem_of_eq h).trans hmissed
        dsimp only
        split <;> simp [ht, h2]
      case h_2 t h => exact ((State.besideMem_of_eq h).trans hmissed).trans h2

/-! ### Requests that wait (R237, R238) -/

@[simp] theorem State.besideMem_refuse (n : Nat) (r : Req) : (s.refuse n r).besideMem = s.besideMem := by
  unfold State.refuse
  dsimp only
  rw [State.besideMem_reqs]
  split <;> rfl

@[simp] theorem State.besideMem_offer (n : Nat) (r : Req) : (s.offer n r).besideMem = s.besideMem := by
  have htake := s.besideMem_take n r true
  unfold State.offer
  split
  case h_1 t h => exact (State.besideMem_of_eq h).trans htake
  case h_2 t h => rw [State.besideMem_refuse, State.besideMem_of_eq h, htake]

@[simp] theorem State.besideMem_reoffer (n : Nat) (r : Req) : (s.reoffer n r).besideMem = s.besideMem := by
  have htake := s.besideMem_take n r false
  unfold State.reoffer
  split
  case h_1 t h => exact (State.besideMem_of_eq h).trans htake
  case h_2 t h => rw [State.besideMem_refuse, State.besideMem_of_eq h, htake]

@[simp] theorem State.besideMem_serve (n : Nat) (rs : List Req) : (s.serve n rs).besideMem = s.besideMem := by
  induction rs generalizing s with
  | nil => rfl
  | cons r rs ih =>
    unfold State.serve
    dsimp only
    rw [ih]
    split
    · split <;> simp
    · simp

@[simp] theorem State.besideMem_retryVictims (n : Nat) : (s.retryVictims n).besideMem = s.besideMem := by
  simp [State.retryVictims]

@[simp] theorem State.besideMem_serveBare (n keyh : Nat) (data : BitVec 1024) (rs : List Req) (written : Bool) :
    (s.serveBare n keyh data rs written).besideMem = s.besideMem := by
  induction rs generalizing s written with
  | nil => rw [State.serveBare]
  | cons r rs ih =>
    unfold State.serveBare
    split
    · exact ih s written
    · split
      · rw [ih, State.besideMem_answer]
      · dsimp only
        split <;> simp [ih]
    · simp [ih]
    · simp [ih]

@[simp] theorem State.besideMem_fillMiss (n : Nat) (m : Miss) (data : BitVec 1024) (ue : Option Nat) : (s.fillMiss n m data ue).besideMem = s.besideMem := by
  have hanswers (rs : List Req) (t : State) : (rs.foldl (fun (s : State) r => s.answer r 0 false) t).besideMem = t.besideMem :=
    State.besideMem_foldl (fun t r => t.besideMem_answer r 0 false) rs t
  unfold State.fillMiss
  extract_lets s1 old s4
  have h1 : s1.besideMem = s.besideMem := s.besideMem_freeMiss n m.line
  split
  · extract_lets s2 s3
    have h2 : s2.besideMem = s.besideMem := by
      unfold s2
      split <;> simp [h1]
    have h3 : s3.besideMem = s.besideMem := by
      unfold s3
      cases old with
      | none => exact h2
      | some x =>
        dsimp only
        split <;> simp [h2]
    simp only [State.besideMem_retryVictims, State.besideMem_serve]
    exact (hanswers _ s3).trans h3
  · have h4 : s4.besideMem = s.besideMem := by
      unfold s4
      split
      · split <;> simp [h1]
      · exact h1
    cases old <;> simp [h4]

@[simp] theorem State.besideMem_resolveMiss (n : Nat) (m : Miss) : (s.resolveMiss n m).besideMem = s.besideMem := by
  unfold State.resolveMiss
  extract_lets s1
  have h1 : s1.besideMem = s.besideMem := by simp [s1]
  split
  · simp [h1]
  case h_2 x _ =>
    have hmem := (s1.besideMem_resolveMem n x).trans h1
    rw [State.besideMem_retryVictims, State.besideMem_serve, State.besideMem_dropIdle]
    split
    case h_1 t d h => rw [State.besideMem_onSlc, State.besideMem_dropSharers, State.besideMem_of_eq h, hmem]
    case h_2 t h => rw [State.besideMem_resolveFailed, State.besideMem_of_eq h, hmem]

/-! ### Lines settled for an access whose work is one step -/

@[simp] theorem State.besideMem_settleOne (n l : Nat) : (s.settleOne n l).besideMem = s.besideMem := by
  unfold State.settleOne
  split
  · rfl
  split
  · simp
  · dsimp only
    split
    · simp
    · split <;> simp

@[simp] theorem State.besideMem_settleSlice (n : Nat) : (s.settleSlice n).besideMem = s.besideMem :=
  State.besideMem_foldl (fun t l => t.besideMem_settleOne n l) _ s

@[simp] theorem State.besideMem_settleLine (n l : Nat) : (s.settleLine n l).besideMem = s.besideMem := by
  unfold State.settleLine
  split <;> simp

@[simp] theorem State.besideMem_makeRoom (n : Nat) (r : Req) : (s.makeRoom n r).besideMem = s.besideMem := by
  unfold State.makeRoom
  split
  · split <;> simp
  · split <;> simp

@[simp] theorem State.besideMem_settleInv (n id : Nat) : (s.settleInv n id).besideMem = s.besideMem := by
  unfold State.settleInv
  extract_lets ms s1 s2
  have h2 : s2.besideMem = s.besideMem :=
    (s1.besideMem_invs _).trans (State.besideMem_foldl (fun t m => t.besideMem_l1Drop m.blk m.line) ms s)
  split
  · exact h2
  · simp [h2]

@[simp] theorem State.besideMem_loseLine (n : Nat) (x : Line) : (s.loseLine n x).besideMem = s.besideMem := by
  unfold State.loseLine
  dsimp only
  rw [State.besideMem_onSlc]
  split <;> simp

@[simp] theorem State.besideMem_drainLine (n : Nat) (unreadable : List Nat) (x : Line) : (s.drainLine n unreadable x).besideMem = s.besideMem := by
  unfold State.drainLine
  split
  · simp
  · dsimp only
    split
    · simp
    · split <;> simp

@[simp] theorem State.besideMem_drained1 (l : Nat) : (s.drained1 l).besideMem = s.besideMem := by
  unfold State.drained1
  split
  · rfl
  · dsimp only
    split <;> simp

/-! ### Accesses of a unit to memory (R231, R251) -/

@[simp] theorem State.besideMem_access (r : Req) : (s.access r).1.besideMem = s.besideMem := by
  unfold State.access
  split
  · rfl
  case h_2 n _ =>
    extract_lets r' s1 s2 s3 s4
    have h1 : s1.besideMem = s.besideMem := rfl
    have h4 : s4.besideMem = s.besideMem := by simp [s4, s3, s2, h1]
    split
    · exact (s4.besideMem_resps _).trans h4
    · exact (s4.besideMem_reqs _).trans h4

@[simp] theorem State.besideMem_noteWrite (c : Nat) (x : Xlat) : (s.noteWrite c x).besideMem = s.besideMem := by
  unfold State.noteWrite
  split
  · split
    · split <;> rfl
    · rfl
  · rfl

@[simp] theorem State.besideMem_ctxWrite (u : Accessor) (op : ROp) (a : Nat) (bs : List Byte) (fs : CmdFaults) :
    (s.ctxWrite u op a bs fs).1.besideMem = s.besideMem := by
  unfold State.ctxWrite
  generalize pieces a bs.length = xs
  induction xs generalizing s fs with
  | nil => rfl
  | cons x xs ih =>
    rw [List.foldl_cons]
    dsimp only
    split
    · exact ih s _
    · split
      · exact ih s _
      · rw [ih]
        simp

@[simp] theorem State.besideMem_undefinedCmd (p : Nat) (u : Accessor) (unit : SpUnit) : (s.undefinedCmd p u unit).besideMem = s.besideMem := by
  unfold State.undefinedCmd
  dsimp only
  rw [State.besideMem_foldl, State.besideMem_foldl]
  · rfl
  · exact fun t x => t.besideMem_ctxWrite u .write _ _ []
  · intro t x
    split
    · exact t.besideMem_spPut p unit _ _
    · rfl

end

end Sys2Proof.Machine
end

section
/-! PROOFS. Loads and drains of the matrix arrays (R74, R76, R77, R79, R87, R88, R104, R105). -/

namespace Sys2Proof.Machine
open Sys2Proof Sys2Proof.Claims

/-! ### MLOAD -/

/-- What an MLOAD puts into the buffer of array a. -/
def State.loadedBuf (s : State) (p : Nat) (c : Cmd) (a : Nat) : WBuf :=
  match opFmt (MX.wfmt c) with
  | some f => if MX.mode c = 3 then ⟨31, 0, []⟩ else ⟨MX.wfmt c, MX.mode c, unitReads s p feeder (32 * MX.img c a) (imageBytes f (MX.mode c))⟩
  | none => ⟨31, 0, []⟩

/-- The state once the tile image of array a is read. -/
def State.readImage (s : State) (p : Nat) (c : Cmd) (a : Nat) : State :=
  match opFmt (MX.wfmt c) with
  | some f => if MX.mode c = 3 then s else (s.spGet p feeder (32 * MX.img c a) (imageBytes f (MX.mode c))).1
  | none => s

section
variable {s : State} {p : Nat} {c : Cmd}

theorem State.spView_readImage (s : State) (p : Nat) (c : Cmd) (a : Nat) : (s.readImage p c a).spView p = s.spView p := by
  unfold State.readImage
  split
  · split
    · rfl
    · exact s.spView_spGet p feeder _ _
  · rfl

theorem State.loadedBuf_of_spFace {t : State} (h : t.spFace p = s.spFace p) (c : Cmd) (a : Nat) : t.loadedBuf p c a = s.loadedBuf p c a := by
  unfold State.loadedBuf
  simp only [unitReads_of_spFace h]

theorem State.loadedBuf_of_opFmt {o : OpFmt} (hfmt : opFmt (MX.wfmt c) = some o) (hmode : MX.mode c ≠ 3) (a : Nat) :
    s.loadedBuf p c a = ⟨MX.wfmt c, MX.mode c, unitReads s p feeder (32 * MX.img c a) (imageBytes o (MX.mode c))⟩ := by
  rw [State.loadedBuf, hfmt]
  exact if_neg hmode

/-- The load of one array: its image is read and put into the buffer. -/
def State.loadArray (s : State) (p : Nat) (c : Cmd) (a : Nat) : State :=
  (s.readImage p c a).onMx p (fun m => { m with bufs := SMap.put (2 * a + MX.buf c) (s.loadedBuf p c a) m.bufs })

theorem State.doLoad_eq (s : State) (p : Nat) (c : Cmd) : s.doLoad p c = (MX.arrays (MX.loadMask c)).foldl (fun s a => s.loadArray p c a) s := by
  unfold State.doLoad
  congr 1
  funext s a
  unfold State.loadArray State.readImage State.loadedBuf
  cases opFmt (MX.wfmt c) with
  | none => rfl
  | some f =>
    dsimp only
    split
    · rfl
    · rw [State.spGet_snd]

theorem State.mxOnly_loadArray (s : State) (p : Nat) (c : Cmd) (a : Nat) : mxOnly p (fun m => { m with bufs := [] }) s (s.loadArray p c a) :=
  (mxOnly_of_spView (s.spView_readImage p c a)).trans (mxOnly_onMx rfl)

theorem State.mxOnly_doLoad (s : State) (p : Nat) (c : Cmd) : mxOnly p (fun m => { m with bufs := [] }) s (s.doLoad p c) := by
  rw [State.doLoad_eq]
  exact mxOnly_foldl (fun t a => t.mxOnly_loadArray p c a) _ s

theorem State.loadArrays_bufs (as : List Nat) (s : State) : ((as.foldl (fun s a => s.loadArray p c a) s).blk p).mx.bufs =
    SMap.updates (fun a => 2 * a + MX.buf c) ⟨30, 0, []⟩ (fun a _ => s.loadedBuf p c a) as (s.blk p).mx.bufs := by
  induction as generalizing s with
  | nil => rfl
  | cons a as ih =>
    have hbufs : ((s.loadArray p c a).blk p).mx.bufs = SMap.put (2 * a + MX.buf c) (s.loadedBuf p c a) (s.blk p).mx.bufs := by
      rw [State.loadArray, State.onMx_blk_same, State.blk_of_spView (s.spView_readImage p c a)]
    rw [List.foldl_cons, ih, hbufs, SMap.updates_cons]
    simp only [State.loadedBuf_of_spFace (s.mxOnly_loadArray p c a).spFace]

end

/-- The load unit's next MLOAD starts, and is done, once every earlier pass on its buffer is done. -/
theorem execMloadStart_of_ready {s : State} {p : Nat} {f : InFlight} (hp : p < nBlks) (hrun : (s.blk p).core.running = true)
    (hnext : (s.blk p).nextOf 0x10 = some f) (hpasses : (s.blk p).allDone 0x11 f.ord (fun c => MX.buf c == MX.buf f.cmd) = true) :
    exec (.mloadStart p) s = .next ((s.doLoad p f.cmd).cmdDone p f.ord) := by
  rw [exec_mloadStart, execMloadStart, onUnit_of_lt hp, hnext]
  exact congrArg _ (if_pos ⟨hrun, hpasses⟩)

/-! ### The bytes of drained words -/

theorem leBytes_length (n x : Nat) : (leBytes n x).length = n := by
  induction n generalizing x with
  | zero => rfl
  | succ n ih => rw [leBytes, List.length_cons, ih]

theorem leBytes_getD {n b : Nat} (hb : b < n) (x : Nat) : (leBytes n x).getD b 0 = natByte x b := by
  induction n generalizing x b with
  | zero => omega
  | succ n ih =>
    cases b with
    | zero => simp [leBytes, natByte]
    | succ b =>
      rw [leBytes, List.getD_cons_succ, ih (by omega), natByte, natByte, Nat.div_div_eq_div_mul, Nat.mul_succ, Nat.add_comm (8 * b), pow_add,
        show (2 : Nat) ^ 8 = 256 from rfl]

/-- The bytes of a list of words, n of each. -/
def wordBytes (n : Nat) (ws : List Nat) : List Byte := (ws.map (leBytes n)).flatten

theorem wordBytes_length (n : Nat) (ws : List Nat) : (wordBytes n ws).length = n * ws.length := by
  induction ws with
  | nil => rfl
  | cons w ws ih =>
    rw [wordBytes] at ih ⊢
    rw [List.map_cons, List.flatten_cons, List.length_append, ih, leBytes_length, List.length_cons, Nat.mul_succ, Nat.add_comm]

theorem wordBytes_getD {n b : Nat} (hb : b < n) {ws : List Nat} {i : Nat} (hi : i < ws.length) :
    (wordBytes n ws).getD (n * i + b) 0 = natByte (ws.getD i 0) b := by
  induction ws generalizing i with
  | nil => exact absurd hi (Nat.not_lt_zero i)
  | cons w ws ih =>
    rw [wordBytes] at ih ⊢
    rw [List.map_cons, List.flatten_cons]
    cases i with
    | zero => rw [List.getD_append _ _ _ _ (by rw [leBytes_length]; omega), Nat.mul_zero, Nat.zero_add, leBytes_getD hb, List.getD_cons_zero]
    | succ i =>
      rw [List.getD_append_right _ _ _ _ (by rw [leBytes_length, Nat.mul_succ]; omega), leBytes_length, List.getD_cons_succ,
        ← ih (Nat.lt_of_succ_lt_succ hi), Nat.mul_succ]
      congr 1
      omega

/-! ### MDRAIN -/

/-- The address at which a drain puts token row m of array a. -/
def drainAddr (c : Cmd) (es m a : Nat) : Nat := 32 * MX.obase c + 32 * m * MX.ostride c + 32 * a * es

/-- The words of token row m of array a in a drain's output format. -/
def State.drainWords (s : State) (p a : Nat) (c : Cmd) (f : Option Fmt) (m : Nat) : List Nat :=
  (List.range 32).map (fun i =>
    let w := (((accOf s p (2 * a + MX.dset c)).rows.get (MX.dfirst c + m) []).getD i 0).toNat
    match f with | some g => convertF g (MX.sat c) w | none => w)

/-- Whether a drain of array a gives free values. -/
def State.drainsFree (s : State) (p a : Nat) (c : Cmd) (f : Option Fmt) (m : Nat) : Bool :=
  let x := accOf s p (2 * a + MX.dset c)
  (x.bad && (SMap.find (MX.dfirst c + m) x.rows).isNone) || (match x.isInt with | some b => b == f.isSome | none => false)

/-- The values of one drained token row, and the state after the free ones among them. -/
def State.drainVals (s : State) (p a : Nat) (c : Cmd) (f : Option Fmt) (m : Nat) : State × List Nat :=
  if s.drainsFree p a c f m then s.frees 32 else (s, s.drainWords p a c f m)

section
variable {s : State} {p a : Nat} {c : Cmd} {f : Option Fmt}

theorem State.drainRow_eq (s : State) (p a : Nat) (c : Cmd) (f : Option Fmt) (es m : Nat) :
    s.drainRow p a c f es m = (s.drainVals p a c f m).1.spPut p feeder (drainAddr c es m a) (wordBytes es (s.drainVals p a c f m).2) := by
  cases f <;> rfl

theorem State.spView_drainVals (s : State) (p a : Nat) (c : Cmd) (f : Option Fmt) (m : Nat) : (s.drainVals p a c f m).1.spView p = s.spView p := by
  unfold State.drainVals
  split <;> rfl

theorem State.drainVals_length (s : State) (p a : Nat) (c : Cmd) (f : Option Fmt) (m : Nat) : (s.drainVals p a c f m).2.length = 32 := by
  unfold State.drainVals
  split
  · exact (List.length_map _).trans List.length_range
  · exact (List.length_map _).trans List.length_range

/-- A set that is defined and of the kind of the output format gives no free values. -/
theorem State.drainVals_of_good (hbad : (accOf s p (2 * a + MX.dset c)).bad = false) (hkind : (accOf s p (2 * a + MX.dset c)).isInt ≠ some f.isSome)
    (m : Nat) : (s.drainVals p a c f m).2 = s.drainWords p a c f m := by
  have hfree : s.drainsFree p a c f m = false := by
    rw [State.drainsFree, hbad, Bool.false_and, Bool.false_or]
    cases h : (accOf s p (2 * a + MX.dset c)).isInt with
    | none => rfl
    | some b => simpa [h] using hkind
  rw [State.drainVals, hfree]
  rfl

theorem State.besideMem_drainRow (s : State) (p a : Nat) (c : Cmd) (f : Option Fmt) (es m : Nat) : (s.drainRow p a c f es m).besideMem = s.besideMem := by
  rw [State.drainRow_eq, State.besideMem_spPut, State.besideMem_of_spView (s.spView_drainVals p a c f m)]

theorem State.besideMem_doDrain (s : State) (p : Nat) (c : Cmd) : (s.doDrain p c).besideMem = s.besideMem := by
  unfold State.doDrain
  split
  · refine State.besideMem_foldl (fun t m => ?_) _ s
    exact State.besideMem_foldl (fun u a => u.besideMem_drainRow p a c _ _ m) _ t
  · split
    · exact s.besideMem_undefinedCmd p _ feeder
    · rfl

end

/-- Sizes of the output formats (R167). -/
theorem outFmt_size {n es : Nat} {f : Option Fmt} (h : outFmt n = some (f, es)) : es = 1 ∨ es = 2 ∨ es = 4 := by
  unfold outFmt at h
  split at h <;> cases h <;> decide

theorem MX.drainFmt_size {c : Cmd} {es : Nat} {f : Option Fmt} (h : MX.drainFmt c = some (f, es)) : es = 1 ∨ es = 2 ∨ es = 4 := by
  unfold MX.drainFmt at h
  split at h
  case h_1 g k hout =>
    split at h
    · cases h
      exact outFmt_size hout
    · cases h
  case h_2 => cases h

/-- What the first rows of the arrays of a drain have stored: in each array's range of 32 words, those of its set where they are no free values. -/
structure drainedRows (s : State) (p : Nat) (c : Cmd) (f : Option Fmt) (es : Nat) (as : List Nat) (xs : List (Nat × Byte)) : Prop where
  range : ∀ e ∈ xs, ∃ a ∈ as, ∃ j < 32 * es, e.1 = drainAddr c es 0 a + j
  apart : xs.Pairwise fun e f => e.1 % 2 ^ 20 ≠ f.1 % 2 ^ 20
  words : ∀ a ∈ as, (accOf s p (2 * a + MX.dset c)).bad = false → (accOf s p (2 * a + MX.dset c)).isInt ≠ some f.isSome →
    ∀ j < 32 * es, (drainAddr c es 0 a + j, (wordBytes es (s.drainWords p a c f 0)).getD j 0) ∈ xs

section
variable {s : State} {p : Nat} {c : Cmd} {f : Option Fmt} {es : Nat}

theorem State.storedTo_drainRow {a : Nat} (hserved : ∀ j < 32 * es, s.spServes p (s.spPlaceOf p (drainAddr c es 0 a + j)).1 feeder = true)
    (hinj : (s.blk p).sp.inject = 0) :
    storedTo p s (s.drainRow p a c f es 0) (bytesAt (drainAddr c es 0 a) (wordBytes es (s.drainVals p a c f 0).2)) := by
  have hvals : storedTo p s (s.drainVals p a c f 0).1 [] := storedTo_of_spView (s.spView_drainVals p a c f 0)
  have hlength : (wordBytes es (s.drainVals p a c f 0).2).length = 32 * es := by rw [wordBytes_length, State.drainVals_length, Nat.mul_comm]
  rw [State.drainRow_eq]
  refine hvals.trans (State.storedTo_spPut (fun j hj => ?_) (hvals.inject.trans hinj))
  rw [hvals.served]
  exact hserved j (hlength ▸ hj)

/-- Ranges of two arrays of one drained row have no address in common, modulo 1 MiB. -/
theorem drainAddr_apart (hes : es = 1 ∨ es = 2 ∨ es = 4) {a b i j : Nat} (ha : a < 4) (hb : b < 4) (hab : a ≠ b) (hi : i < 32 * es) (hj : j < 32 * es) :
    (drainAddr c es 0 a + i) % 2 ^ 20 ≠ (drainAddr c es 0 b + j) % 2 ^ 20 := by
  unfold drainAddr
  rcases hes with rfl | rfl | rfl <;> omega

theorem drainedRows_cons (hes : es = 1 ∨ es = 2 ∨ es = 4) {a : Nat} {as : List Nat} {xs : List (Nat × Byte)} {t : State}
    (hmx : (t.blk p).mx = (s.blk p).mx) (ha : a ∉ as) (hlt : ∀ b ∈ a :: as, b < 4) (h : drainedRows t p c f es as xs) :
    drainedRows s p c f es (a :: as) (bytesAt (drainAddr c es 0 a) (wordBytes es (s.drainVals p a c f 0).2) ++ xs) := by
  have hlength : (wordBytes es (s.drainVals p a c f 0).2).length = 32 * es := by rw [wordBytes_length, State.drainVals_length, Nat.mul_comm]
  have hrow : ∀ e ∈ bytesAt (drainAddr c es 0 a) (wordBytes es (s.drainVals p a c f 0).2), ∃ j < 32 * es, e.1 = drainAddr c es 0 a + j := by
    intro e he
    obtain ⟨j, hj, rfl⟩ := mem_bytesAt.mp he
    exact ⟨j, hlength ▸ hj, rfl⟩
  refine ⟨fun e he => ?_, List.pairwise_append.mpr ⟨pairwise_bytesAt (by omega), h.apart, fun e he g hg => ?_⟩, fun b hb hbad hkind j hj => ?_⟩
  · rcases List.mem_append.mp he with he | he
    · exact ⟨a, .head _, hrow e he⟩
    · obtain ⟨b, hb, hj⟩ := h.range e he
      exact ⟨b, .tail _ hb, hj⟩
  · obtain ⟨i, hi, hei⟩ := hrow e he
    obtain ⟨b, hb, j, hj, hgj⟩ := h.range g hg
    rw [hei, hgj]
    exact drainAddr_apart hes (hlt a (.head _)) (hlt b (.tail _ hb)) (fun hab => ha (hab ▸ hb)) hi hj
  · have hacc (k : Nat) : accOf t p k = accOf s p k := by rw [accOf, hmx, accOf]
    rcases List.mem_cons.mp hb with rfl | hb
    · rw [← State.drainVals_of_good hbad hkind]
      exact List.mem_append_left _ (mem_bytesAt.mpr ⟨j, by omega, rfl⟩)
    · have hwords := h.words b hb (by rwa [hacc]) (by rwa [hacc]) j hj
      simp only [State.drainWords, hacc] at hwords
      exact List.mem_append_right _ hwords

/-- The arrays of a drain of one row, one after another. -/
theorem State.storedTo_drainArrays (hes : es = 1 ∨ es = 2 ∨ es = 4) {as : List Nat} (hnodup : as.Nodup) (hlt : ∀ a ∈ as, a < 4) (s : State)
    (hserved : ∀ i < 128 * es, s.spServes p (s.spPlaceOf p (32 * MX.obase c + i)).1 feeder = true) (hinj : (s.blk p).sp.inject = 0) :
    ∃ xs, storedTo p s (as.foldl (fun s a => s.drainRow p a c f es 0) s) xs ∧ drainedRows s p c f es as xs := by
  induction as generalizing s with
  | nil => exact ⟨[], ⟨rfl, rfl, rfl⟩, ⟨by simp, .nil, by simp⟩⟩
  | cons a as ih =>
    obtain ⟨ha, hrest⟩ := List.nodup_cons.mp hnodup
    have hrange : ∀ j < 32 * es, s.spServes p (s.spPlaceOf p (drainAddr c es 0 a + j)).1 feeder = true := fun j hj => by
      have ha4 := hlt a (.head _)
      have haddr := hserved (32 * a * es + j) (by rcases hes with rfl | rfl | rfl <;> omega)
      rwa [drainAddr, Nat.mul_zero, Nat.zero_mul, Nat.add_zero, Nat.add_assoc]
    have hrow := State.storedTo_drainRow (f := f) hrange hinj
    obtain ⟨xs, hstored, hrows⟩ := ih hrest (fun b hb => hlt b (.tail _ hb)) (s.drainRow p a c f es 0)
      (fun i hi => (hrow.served _ _).trans (hserved i hi)) (hrow.inject.trans hinj)
    exact ⟨_, hrow.trans hstored, drainedRows_cons hes (State.mx_of_besideMem (s.besideMem_drainRow p a c f es 0) p) ha hlt hrows⟩

theorem State.doDrain_one (hfmt : MX.drainFmt c = some (f, es)) (hone : MX.rows c = 1) (s : State) (p : Nat) :
    s.doDrain p c = (MX.arrays (MX.drainMask c)).foldl (fun s a => s.drainRow p a c f es 0) s := by
  unfold State.doDrain
  rw [hfmt, hone]
  rfl

/-- The bytes that a drain of one row leaves in scratchpad. -/
theorem State.doDrain_spByte (hfmt : MX.drainFmt c = some (f, es)) (hone : MX.rows c = 1) (hinj : (s.blk p).sp.inject = 0)
    (hserved : ∀ i < 128 * es, s.spServes p (s.spPlaceOf p (32 * MX.obase c + i)).1 feeder = true) {a i b : Nat}
    (ha : a ∈ MX.arrays (MX.drainMask c)) (hi : i < 32) (hb : b < es) (hbad : (accOf s p (2 * a + MX.dset c)).bad = false)
    (hkind : (accOf s p (2 * a + MX.dset c)).isInt ≠ some f.isSome) :
    (s.doDrain p c).spByte p (drainAddr c es 0 a + (es * i + b)) = natByte ((s.drainWords p a c f 0).getD i 0) b := by
  have hes := MX.drainFmt_size hfmt
  have hlength : (s.drainWords p a c f 0).length = 32 := (List.length_map _).trans List.length_range
  obtain ⟨xs, hstored, hrows⟩ := State.storedTo_drainArrays (f := f) hes (MX.nodup_arrays _) (fun a ha => (MX.mem_arrays.mp ha).1) s hserved hinj
  have hmem := hrows.words a ha hbad hkind (es * i + b) (by rcases hes with rfl | rfl | rfl <;> omega)
  rw [State.doDrain_one hfmt hone, hstored.spByte_of_mem hmem hrows.apart, wordBytes_getD hb (hlength ▸ hi)]

end

/-- The drain unit's next MDRAIN starts, and is done, once every earlier pass into its set is done. -/
theorem execMdrainStart_of_ready {s : State} {p : Nat} {f : InFlight} (hp : p < nBlks) (hrun : (s.blk p).core.running = true)
    (hnext : (s.blk p).nextOf 0x12 = some f) (hpasses : (s.blk p).allDone 0x11 f.ord (fun c => MX.set c == MX.dset f.cmd) = true) :
    exec (.mdrainStart p) s = .next ((s.doDrain p f.cmd).cmdDone p f.ord) := by
  rw [exec_mdrainStart, execMdrainStart, onUnit_of_lt hp, hnext]
  exact congrArg _ (if_pos ⟨hrun, hpasses⟩)

theorem State.cmdDone_spFace (s : State) (p n : Nat) : (s.cmdDone p n).spFace p = s.spFace p := by
  rw [State.spFace, State.cmdDone_sp]
  rfl

/-- Settles O25: a load puts one image after another into the buffers of its arrays, a drain one array's row after another into scratchpad, and
the stores of an undefined drain change of a Block at most its L1 and its scratchpad. -/
theorem matrixLoadsAndDrains : Obligations.MatrixLoadsAndDrains := by
  refine ⟨fun s p f hp hrun hnext hpasses => ?_, fun s p f hp hrun hnext hpasses => ?_⟩
  · have hload := s.mxOnly_doLoad p f.cmd
    have hbufs : ((s.doLoad p f.cmd).blk p).mx.bufs = _ := s.doLoad_eq p f.cmd ▸ State.loadArrays_bufs _ s
    have hkey : Function.Injective fun a => 2 * a + MX.buf f.cmd := fun a b h => by simpa using h
    refine ⟨_, execMloadStart_of_ready hp hrun hnext hpasses, isDone_cmdDone _ p f.ord, blksBut.trans hload.others (blksBut_cmdDone _ p f.ord), ?_⟩
    rw [State.cmdDone_mx, State.cmdDone_sp, State.cmdDone_core, hbufs]
    refine ⟨fun a ha hbit => ⟨_, SMap.find_updates_of_mem hkey (MX.nodup_arrays _) (MX.mem_arrays.mpr ⟨ha, hbit⟩) _, fun o hfmt hmode => ?_⟩,
      fun k hk => SMap.find_updates_of_ne (fun a ha => hk a (MX.mem_arrays.mp ha).1 (MX.mem_arrays.mp ha).2) _,
      (congrArg Matrix.accs hload.mx :), (congrArg Matrix.ramp hload.mx :), hload.sp, hload.core⟩
    rw [State.loadedBuf_of_opFmt hfmt hmode]
    exact ⟨rfl, rfl, rfl⟩
  · have hdrain := s.besideMem_doDrain p f.cmd
    refine ⟨_, execMdrainStart_of_ready hp hrun hnext hpasses, isDone_cmdDone _ p f.ord, ?_, ?_, ?_⟩
    · rw [State.cmdDone_mx, State.mx_of_besideMem hdrain]
    · rw [State.cmdDone_core, State.core_of_besideMem hdrain]
    · intro g es hfmt hone hinj hserved a i b ha hbit hi hb hbad hkind w v
      have hbyte := State.doDrain_spByte hfmt hone hinj hserved (MX.mem_arrays.mpr ⟨ha, hbit⟩) hi hb hbad hkind
      have hword : (s.drainWords p a f.cmd g 0).getD i 0 = v := by
        rw [State.drainWords, List.getD_eq_getElem _ _ (by simpa using hi), List.getElem_map, List.getElem_range]
        rfl
      rw [hword] at hbyte
      rw [State.spByte_of_spFace (State.cmdDone_spFace _ p f.ord), ← natByte, ← hbyte]
      congr 1
      rw [drainAddr]
      omega

end Sys2Proof.Machine
end

section
/-! PROOFS. The control core (R123 to R155): when its instruction acts, and what completing it, transferring and writing a register make of the
state. -/

namespace Sys2Proof.Machine
open Sys2Proof Sys2Proof.Claims

/-! ### When the instruction acts (R125, R127, R135, R141) -/

theorem IMem.badAt_eq_false {s : State} {p pc : Nat} (h : wordClean s p pc) : (s.blk p).im.badAt (pc / 4) = false :=
  List.any_eq_false.mpr fun x hx => by simpa using h x (List.mem_append_left _ hx)

theorem State.fetchErr_of_clean {s : State} {p pc : Nat} (h : wordClean s p pc) : s.fetchErr p pc = s := by
  have hsoft : (s.blk p).im.soft.any (fun x => x / 2 == (16384 * (s.blk p).im.live + pc / 4) / 2) = false :=
    List.any_eq_false.mpr fun x hx => by simpa using h x (List.mem_append_right _ hx)
  simp only [State.fetchErr, IMem.badAt_eq_false h, hsoft, Bool.false_eq_true, if_false]

section
variable {s : State} {p : Nat} {op : CoreOp} {reads : Nat → List Nat} {body : State → Nat → State}

/-- What a step makes of an instruction whose word is its own and without an error, placed where it may stand: the guard and the loads in
flight decide. -/
theorem coreStep_of_placed (hp : p < nBlks) (hlive : s.coreLive p = true) (hdec : CC.decode (s.coreWord p) = some op) (hclean : fetchClean s p)
    (hend : endExcluded op = true → notAtEnd s p) :
    coreStep p op reads body s = .next (
      if op ≠ .br ∧ op ≠ .cskip ∧ s.preg p (CC.guard (s.coreWord p)) = false then s.retire p
      else if s.waitsLoad p (reads (s.coreWord p)) then s.stall p 2 else body s (s.coreWord p)) := by
  have hskip : ¬ (s.coreLive p = false ∨ CC.decode (s.coreWord p) ≠ some op) := by simp [hlive, hdec]
  have hplace : ¬ (endExcluded op = true ∧ (s.blk p).core.loops.any (fun l => l.2 == (s.blk p).core.pc.toNat) = true) := fun h =>
    Bool.false_ne_true ((hend h.1).symm.trans h.2)
  rw [coreStep, onUnit_of_lt hp, if_neg hskip]
  dsimp only
  rw [State.fetchErr_of_clean hclean, if_neg hplace]

theorem coreStep_of_guarded (hp : p < nBlks) (hlive : s.coreLive p = true) (hdec : CC.decode (s.coreWord p) = some op) (hclean : fetchClean s p)
    (hend : endExcluded op = true → notAtEnd s p) (hguard : op = .br ∨ op = .cskip ∨ s.preg p (CC.guard (s.coreWord p)) = true) :
    coreStep p op reads body s = .next (if s.waitsLoad p (reads (s.coreWord p)) then s.stall p 2 else body s (s.coreWord p)) := by
  refine (coreStep_of_placed hp hlive hdec hclean hend).trans (congrArg _ (if_neg ?_))
  rintro ⟨hbr, hskip, hfalse⟩
  exact (hguard.resolve_left hbr).elim hskip fun htrue => Bool.false_ne_true (hfalse.symm.trans htrue)

theorem coreStep_of_issues (h : coreIssues s p op reads) (hend : endExcluded op = true → notAtEnd s p)
    (hguard : op = .br ∨ op = .cskip ∨ s.preg p (CC.guard (s.coreWord p)) = true) :
    coreStep p op reads body s = .next (body s (s.coreWord p)) := by
  obtain ⟨hp, hlive, hdec, hclean, hwaits⟩ := h
  rw [coreStep_of_guarded hp hlive hdec hclean hend hguard, hwaits, if_neg Bool.false_ne_true]

theorem coreStep_of_ready (h : coreReady s p op reads) (hend : endExcluded op = true → notAtEnd s p) :
    coreStep p op reads body s = .next (body s (s.coreWord p)) :=
  coreStep_of_issues h.1 hend (.inr (.inr h.2))

end

/-! ### Changes of one core -/

@[simp] theorem State.onCore_blk_same (s : State) (p : Nat) (f : Core → Core) : (s.onCore p f).blk p = { s.blk p with core := f (s.blk p).core } :=
  s.onBlk_blk_same p _

theorem State.onCore_blk_ne {p q : Nat} (h : q ≠ p) (s : State) (f : Core → Core) : (s.onCore p f).blk q = s.blk q := s.onBlk_blk_ne q p _ h

/-- From s to t only the core of Block p changes, to `c`, with the register keys listed, which the count of retired instructions is not among. -/
structure coreEdit (s t : State) (p : Nat) (c : Core) (ks : List Nat) : Prop where
  only : onlyBlks s t
  others : blksBut p s t
  blk : t.blk p = { s.blk p with core := c }
  regs : regsBut ks s t
  uncounted : keyOf F.BLK_CC_RETIRED p 0 ∉ ks

theorem onlyBlks.trans {s t u : State} (h : onlyBlks s t) (k : onlyBlks t u) : onlyBlks s u := by
  rw [onlyBlks] at *
  rw [k, h]

section
variable {s t u : State} {p : Nat} {c c' : Core} {ks : List Nat}

theorem coreEdit.refl (s : State) (p : Nat) : coreEdit s s p (s.blk p).core [] :=
  ⟨rfl, fun _ _ => rfl, rfl, fun _ _ _ _ _ => rfl, List.not_mem_nil⟩

theorem coreEdit.onCore (h : coreEdit s t p c ks) (f : Core → Core) : coreEdit s (t.onCore p f) p (f c) ks where
  only := onlyBlks.trans h.only rfl
  others := blksBut.trans h.others fun _ hq => State.onCore_blk_ne hq t f
  blk := by rw [State.onCore_blk_same, h.blk]
  regs := h.regs
  uncounted := h.uncounted

theorem coreEdit.inc (h : coreEdit s t p c ks) {f : Fld} (hf : keyOf F.BLK_CC_RETIRED p 0 ≠ keyOf f p 0) :
    coreEdit s (t.inc f p 0) p c (ks ++ [keyOf f p 0]) where
  only := onlyBlks.trans h.only rfl
  others := h.others
  blk := h.blk
  regs := regsBut.trans h.regs (regsBut_wrAt t f.page p f 0 _)
  uncounted := by simpa using ⟨h.uncounted, hf⟩

theorem coreEdit.setSreg (h : coreEdit s t p c ks) (r v : Nat) : coreEdit s (t.setSreg p r v) p (withS c r v) ks := by
  by_cases hr : r = 0
  · rw [State.setSreg, withS, if_pos hr, if_pos hr]
    exact h
  · have hset : t.setSreg p r v = t.onCore p (withS · r v) := by simp only [State.setSreg, State.onCore, withS, if_neg hr]
    exact hset ▸ h.onCore _

theorem coreEdit.setPreg (h : coreEdit s t p c ks) (r : Nat) (v : Bool) : coreEdit s (t.setPreg p r v) p (withP c r v) ks := by
  by_cases hr : r = 0
  · rw [State.setPreg, withP, if_pos hr, if_pos hr]
    exact h
  · have hset : t.setPreg p r v = t.onCore p (withP · r v) := by simp only [State.setPreg, State.onCore, withP, if_neg hr]
    exact hset ▸ h.onCore _

/-- A change of the core, and then the completion of its instruction. -/
theorem coreEdit.becomes (h : coreEdit s t p c ks) (k : coreBecomes t u p c' []) : coreBecomes s u p c' ks := by
  obtain ⟨honly, hothers, hblk, hregs, hcount⟩ := k
  refine ⟨onlyBlks.trans h.only honly, blksBut.trans h.others hothers, by rw [hblk, h.blk], fun pg v f i hk => ?_, ?_⟩
  · rw [List.mem_cons, not_or] at hk
    exact (hregs pg v f i (by simpa using hk.1)).trans (h.regs pg v f i hk.2)
  · rw [hcount, State.rd, h.regs _ _ _ _ h.uncounted, ← State.rd]

theorem coreBecomes.rd_of_edit (k : coreBecomes s t p c []) {f : Fld} (hf : keyOf f p 0 ≠ keyOf F.BLK_CC_RETIRED p 0) : t.rd f p = s.rd f p :=
  k.2.2.2.1 _ _ _ _ (mt List.mem_singleton.mp hf)

end

/-! ### Completion (R136, R140, R145) -/

/-- What the loops' end and the next instruction depend on (R140). -/
def Core.place (c : Core) : BitVec 16 × List (Nat × Nat) × SMap Word := (c.pc, c.loops, c.lc)

theorem withS_place (c : Core) (r v : Nat) : (withS c r v).place = c.place := by
  unfold withS
  split <;> rfl

theorem withP_place (c : Core) (r : Nat) (v : Bool) : (withP c r v).place = c.place := by
  unfold withP
  split <;> rfl

/-- The count of retired instructions takes one more, and the core is changed. -/
theorem coreBecomes_counted (s : State) (p : Nat) (f : Core → Core) :
    coreBecomes s ((s.inc F.BLK_CC_RETIRED p 0).onCore p f) p (f (s.blk p).core) [] :=
  ⟨rfl, fun _ hq => State.onCore_blk_ne hq _ f, State.onCore_blk_same _ p f, regsBut_wrAt s .blk p F.BLK_CC_RETIRED 0 _,
    s.rd_inc_same F.BLK_CC_RETIRED p 0 1 (by decide)⟩

theorem State.retire_becomes {s : State} {p : Nat} (h : goesOn s p) : coreBecomes s (s.retire p) p (passed s p (s.blk p).core) [] := by
  have hretire : s.retire p = (s.inc F.BLK_CC_RETIRED p 0).onCore p (passed s p) := if_pos (.inl h)
  exact hretire ▸ coreBecomes_counted s p _

theorem Core.mayGo_of_legal {s : State} {p : Nat} {t : Int} {call : Bool} (h : legalTarget s p t (!call)) : (s.blk p).core.mayGo t call = true := by
  obtain ⟨h0, hend, halign, hinside⟩ := h
  have hbodies : call = true ∨ ∀ l ∈ (s.blk p).core.loops, inBody l (s.blk p).core.pc.toNat = false ∨ inBody l t.toNat = true := by
    cases call
    case true => exact .inl rfl
    case false =>
      refine .inr fun l hl => or_iff_not_imp_left.mpr fun hbody => ?_
      simp only [inBody, Bool.not_eq_false, Bool.and_eq_true, decide_eq_true_eq] at hbody ⊢
      have hbounds := hinside rfl l hl hbody.1 hbody.2
      omega
  simpa [Core.mayGo, h0, hend, halign] using hbodies

theorem State.transfer_becomes {s : State} {p : Nat} {t : Int} {call : Bool} (h : legalTarget s p t (!call)) :
    coreBecomes s (s.transfer p t call) p (goneTo (s.blk p).core t) [] := by
  have htransfer : s.transfer p t call = (s.inc F.BLK_CC_RETIRED p 0).onCore p (goneTo · t) := if_pos (Core.mayGo_of_legal h)
  exact htransfer ▸ coreBecomes_counted s p _

section
variable {s t : State} {p : Nat} {c : Core} {ks : List Nat}

theorem coreNext_of_place (h : (t.blk p).core.place = (s.blk p).core.place) : coreNext t p = coreNext s p := by
  simp only [Core.place, Prod.mk.injEq] at h
  rw [coreNext, coreNext, h.1, h.2.1, h.2.2]

theorem coreEdit.retire (h : coreEdit s t p c ks) (hplace : c.place = (s.blk p).core.place) (hgo : goesOn s p) :
    coreBecomes s (t.retire p) p (passed s p c) ks := by
  have hnext : coreNext t p = coreNext s p := coreNext_of_place (h.blk ▸ hplace)
  have hpassed : passed t p (t.blk p).core = passed s p c := by rw [passed, hnext, h.blk, passed]
  exact hpassed ▸ h.becomes (State.retire_becomes (by rwa [goesOn, hnext]))

theorem coreEdit.transfer (h : coreEdit s t p c ks) (hplace : c.place = (s.blk p).core.place) {x : Int} {call : Bool}
    (hx : legalTarget s p x (!call)) : coreBecomes s (t.transfer p x call) p (goneTo c x) ks := by
  have ht : (t.blk p).core.place = (s.blk p).core.place := h.blk ▸ hplace
  simp only [Core.place, Prod.mk.injEq] at ht
  have hcore : goneTo (t.blk p).core x = goneTo c x := by rw [h.blk]
  exact hcore ▸ h.becomes (State.transfer_becomes (by rwa [legalTarget, ht.1, ht.2.1]))

end

theorem State.stall_eq_stalls (s : State) (p : Nat) {k : Nat} (h : k = 1 ∨ k = 2) : s.stall p k = stalls s p k := by
  rcases h with rfl | rfl <;> rfl

end Sys2Proof.Machine
end

section
/-! PROOFS. The control core's rows that write a register or a predicate (R128 to R130). -/

namespace Sys2Proof.Machine
open Sys2Proof Sys2Proof.Claims

/-- A row's command is a step of the core that writes the row's value, as the model computes it, to the row's register and completes. -/
def writesSreg (s : State) (p : Nat) (r : SRow) : Prop :=
  endExcluded r.op = false ∧
    ∃ f : State → Nat → Nat, exec r.i s = coreStep p r.op r.reads (fun s w => (s.setSreg p (r.dest w) (f s w)).retire p) s
      ∧ f s (s.coreWord p) = r.val (s.coreWord p)

/-- A row's command is a step of the core that writes the row's value, as the model computes it, to the row's predicate and completes. -/
def writesPreg (s : State) (p : Nat) (r : PRow) : Prop :=
  endExcluded r.op = false ∧
    ∃ f : State → Nat → Bool, exec r.i s = coreStep p r.op r.reads (fun s w => (s.setPreg p (r.dest w) (f s w)).retire p) s
      ∧ f s (s.coreWord p) = r.val (s.coreWord p)

theorem coreBecomes_of_writesSreg {s : State} {p : Nat} {r : SRow} (h : writesSreg s p r) (hready : coreReady s p r.op r.reads) (hgo : goesOn s p) :
    ∃ t, exec r.i s = .next t ∧ coreBecomes s t p (passed s p (withS (s.blk p).core (r.dest (s.coreWord p)) (r.val (s.coreWord p)))) [] := by
  obtain ⟨hend, f, hexec, hval⟩ := h
  rw [hexec, coreStep_of_ready hready (fun h => absurd (hend.symm.trans h) Bool.false_ne_true), hval]
  exact ⟨_, rfl, ((coreEdit.refl s p).setSreg _ _).retire (withS_place _ _ _) hgo⟩

theorem coreBecomes_of_writesPreg {s : State} {p : Nat} {r : PRow} (h : writesPreg s p r) (hready : coreReady s p r.op r.reads) (hgo : goesOn s p) :
    ∃ t, exec r.i s = .next t ∧ coreBecomes s t p (passed s p (withP (s.blk p).core (r.dest (s.coreWord p)) (r.val (s.coreWord p)))) [] := by
  obtain ⟨hend, f, hexec, hval⟩ := h
  rw [hexec, coreStep_of_ready hready (fun h => absurd (hend.symm.trans h) Bool.false_ne_true), hval]
  exact ⟨_, rfl, ((coreEdit.refl s p).setPreg _ _).retire (withP_place _ _ _) hgo⟩

theorem State.sreg_lt (s : State) (p r : Nat) : s.sreg p r < 2 ^ 64 := by
  unfold State.sreg
  split
  · exact Nat.two_pow_pos 64
  · exact BitVec.isLt _

section
variable {s : State} {p : Nat} {i : Instr} {op : CoreOp} {val : Nat → Nat}

theorem writesSreg_of_coreAlu {reads : Nat → List Nat} {f : State → Nat → Nat} (hend : endExcluded op = false)
    (hexec : exec i s = coreAlu p op reads f s) (hval : f s (s.coreWord p) = val (s.coreWord p)) : writesSreg s p ⟨i, op, reads, CC.rd, val⟩ :=
  ⟨hend, f, hexec, hval⟩

theorem writesSreg_of_coreRR {f : Nat → Nat → Nat} (hend : endExcluded op = false) (hexec : exec i s = coreRR p op f s)
    (hval : f (s.sreg p (CC.rs1 (s.coreWord p))) (s.sreg p (CC.rs2 (s.coreWord p))) = val (s.coreWord p)) :
    writesSreg s p ⟨i, op, fun w => [CC.rs1 w, CC.rs2 w], CC.rd, val⟩ :=
  writesSreg_of_coreAlu hend hexec hval

theorem writesSreg_of_coreRI {f : Nat → Nat → Nat} (hend : endExcluded op = false) (hexec : exec i s = coreRI p op f s)
    (hval : f (s.sreg p (CC.rs1 (s.coreWord p))) (s.coreWord p) = val (s.coreWord p)) :
    writesSreg s p ⟨i, op, fun w => [CC.rs1 w], CC.rd, val⟩ :=
  writesSreg_of_coreAlu hend hexec hval

theorem writesPreg_of_corePred {reads : Nat → List Nat} {d : Nat → Nat} {f : State → Nat → Bool} {val : Nat → Bool}
    (hend : endExcluded op = false) (hexec : exec i s = corePred p op reads d f s) (hval : f s (s.coreWord p) = val (s.coreWord p)) :
    writesPreg s p ⟨i, op, reads, d, val⟩ :=
  ⟨hend, f, hexec, hval⟩

end

theorem writesSreg_aluRows (s : State) (p : Nat) : ∀ r ∈ aluRows s p, writesSreg s p r := by
  have hsub (a r : Nat) : (a + 2 ^ 64 - s.sreg p r) % 2 ^ 64 = (a + (2 ^ 64 - s.sreg p r)) % 2 ^ 64 := by
    rw [Nat.add_sub_assoc (s.sreg_lt p r).le]
  simp only [aluRows, List.forall_mem_cons]
  exact ⟨writesSreg_of_coreRR rfl (exec_add p s) rfl, writesSreg_of_coreRR rfl (exec_sub p s) (hsub _ _),
    writesSreg_of_coreRR rfl (exec_and p s) rfl, writesSreg_of_coreRR rfl (exec_or p s) rfl, writesSreg_of_coreRR rfl (exec_xor p s) rfl,
    writesSreg_of_coreRR rfl (exec_andn p s) rfl, writesSreg_of_coreRR rfl (exec_sll p s) rfl, writesSreg_of_coreRR rfl (exec_srl p s) rfl,
    writesSreg_of_coreRR rfl (exec_sra p s) rfl, writesSreg_of_coreRR rfl (exec_mul p s) rfl, writesSreg_of_coreRR rfl (exec_mulhu p s) rfl,
    writesSreg_of_coreRR rfl (exec_divu p s) rfl, writesSreg_of_coreRR rfl (exec_remu p s) rfl, writesSreg_of_coreRR rfl (exec_min p s) rfl,
    writesSreg_of_coreRR rfl (exec_max p s) rfl, writesSreg_of_coreRR rfl (exec_minu p s) rfl, writesSreg_of_coreRR rfl (exec_maxu p s) rfl,
    List.forall_mem_nil _⟩

theorem writesSreg_readRows (s : State) (p : Nat) : ∀ r ∈ readRows s p, writesSreg s p r := by
  simp only [readRows, List.forall_mem_cons]
  exact ⟨writesSreg_of_coreRI rfl (exec_addi p s) rfl, writesSreg_of_coreRI rfl (exec_andi p s) rfl, writesSreg_of_coreRI rfl (exec_ori p s) rfl,
    writesSreg_of_coreRI rfl (exec_xori p s) rfl, writesSreg_of_coreRI rfl (exec_shi p s) rfl, writesSreg_of_coreAlu rfl (exec_movi p s) rfl,
    writesSreg_of_coreAlu rfl (exec_insi p s) rfl, writesSreg_of_coreAlu rfl (exec_ptos p s) rfl, writesSreg_of_coreAlu rfl (exec_mflc p s) rfl,
    writesSreg_of_coreAlu rfl (exec_mfcb p s) rfl, writesSreg_of_coreAlu rfl (exec_rdid p s) rfl, writesSreg_of_coreAlu rfl (exec_rdtime p s) rfl,
    writesSreg_of_coreAlu rfl (exec_rdframe p s) rfl, ⟨rfl, fun s w => 64 - ((s.blk p).q.entries (qOf (CC.q w))).length, exec_qfree p s, rfl⟩,
    List.forall_mem_nil _⟩

/-- Settles O3: every row's command writes the row's value and completes. -/
theorem coreRowsWriteRegister : Obligations.CoreRowsWriteRegister := by
  intro s p r hr hready hgo
  rcases List.mem_append.mp hr with h | h
  · exact coreBecomes_of_writesSreg (writesSreg_aluRows s p r h) hready hgo
  · exact coreBecomes_of_writesSreg (writesSreg_readRows s p r h) hready hgo

/-- The model's comparison is that of R130. -/
theorem compare_eq_condHolds (cond a b : Nat) : compare cond a b = condHolds cond a b := by
  match cond with
  | 0 => exact beq_eq_decide a b
  | 1 => exact (congrArg not (beq_eq_decide a b)).trans decide_not.symm
  | 2 => rfl
  | 3 => exact decide_not.symm.trans (decide_eq_decide.mpr not_lt)
  | 4 => rfl
  | n + 5 => exact decide_not.symm.trans (by simp [condHolds])

theorem writesPreg_predRows (s : State) (p : Nat) : ∀ r ∈ predRows s p, writesPreg s p r := by
  simp only [predRows, List.forall_mem_cons]
  exact ⟨writesPreg_of_corePred rfl (exec_cmp p s) (compare_eq_condHolds _ _ _),
    writesPreg_of_corePred rfl (exec_cmpi p s) (compare_eq_condHolds _ _ _),
    writesPreg_of_corePred rfl (exec_cmpiu p s) (compare_eq_condHolds _ _ _), writesPreg_of_corePred rfl (exec_aluStop p s) rfl,
    writesPreg_of_corePred rfl (exec_pand p s) rfl, writesPreg_of_corePred rfl (exec_por p s) rfl, writesPreg_of_corePred rfl (exec_pxor p s) rfl,
    writesPreg_of_corePred rfl (exec_pandn p s) rfl, writesPreg_of_corePred rfl (exec_pnot p s) rfl, List.forall_mem_nil _⟩

/-- Settles O4: every row's command writes the row's truth value and completes. -/
theorem corePredicateRowsWritePredicate : Obligations.CorePredicateRowsWritePredicate :=
  fun s p r hr => coreBecomes_of_writesPreg (writesPreg_predRows s p r hr)

end Sys2Proof.Machine
end

section
/-! PROOFS. The control core's guards and waits, its transfers, its loops, and its commands (R127, R133, R135 to R145). -/

namespace Sys2Proof.Machine
open Sys2Proof Sys2Proof.Claims

/-! ### Guards and waits -/

/-- The row's command is a step of the core on the row's operation, which a false guard does not let act. -/
def stepsRow (p : Nat) (r : Instr × CoreOp × (Nat → List Nat)) : Prop :=
  decide (r.2.1 = .br ∨ r.2.1 = .cskip) = false ∧ ∀ s, ∃ body, exec r.1 s = coreStep p r.2.1 r.2.2 body s

section
variable {p : Nat} {i : Instr} {op : CoreOp} {reads : Nat → List Nat} (hop : decide (op = .br ∨ op = .cskip) = false)
include hop

theorem steps_of_coreStep {body : State → Nat → State} (h : ∀ s, exec i s = coreStep p op reads body s) : stepsRow p (i, op, reads) :=
  ⟨hop, fun s => ⟨body, h s⟩⟩

theorem steps_of_coreAlu {f : State → Nat → Nat} (h : ∀ s, exec i s = coreAlu p op reads f s) : stepsRow p (i, op, reads) :=
  steps_of_coreStep hop h

theorem steps_of_coreRR {f : Nat → Nat → Nat} (h : ∀ s, exec i s = coreRR p op f s) : stepsRow p (i, op, fun w => [CC.rs1 w, CC.rs2 w]) :=
  steps_of_coreAlu hop h

theorem steps_of_coreRI {f : Nat → Nat → Nat} (h : ∀ s, exec i s = coreRI p op f s) : stepsRow p (i, op, fun w => [CC.rs1 w]) :=
  steps_of_coreAlu hop h

theorem steps_of_corePred {d : Nat → Nat} {f : State → Nat → Bool} (h : ∀ s, exec i s = corePred p op reads d f s) :
    stepsRow p (i, op, reads) :=
  steps_of_coreStep hop h

end

/-- Every row of the core's instruction set but BR and CSKIP. -/
theorem stepsRow_coreRows (p : Nat) : ∀ r ∈ coreRows p, stepsRow p r := by
  simp only [coreRows, List.forall_mem_cons]
  exact ⟨steps_of_coreRR rfl (exec_add p), steps_of_coreRR rfl (exec_sub p), steps_of_coreRR rfl (exec_and p), steps_of_coreRR rfl (exec_or p),
    steps_of_coreRR rfl (exec_xor p), steps_of_coreRR rfl (exec_andn p), steps_of_coreRR rfl (exec_sll p), steps_of_coreRR rfl (exec_srl p),
    steps_of_coreRR rfl (exec_sra p), steps_of_coreRR rfl (exec_mul p), steps_of_coreRR rfl (exec_mulhu p), steps_of_coreRR rfl (exec_divu p),
    steps_of_coreRR rfl (exec_remu p), steps_of_coreRR rfl (exec_min p), steps_of_coreRR rfl (exec_max p), steps_of_coreRR rfl (exec_minu p),
    steps_of_coreRR rfl (exec_maxu p), steps_of_corePred rfl (exec_cmp p), steps_of_corePred rfl (exec_pand p), steps_of_corePred rfl (exec_por p),
    steps_of_corePred rfl (exec_pxor p), steps_of_corePred rfl (exec_pandn p), steps_of_corePred rfl (exec_pnot p),
    steps_of_coreAlu rfl (exec_ptos p), steps_of_corePred rfl (exec_aluStop p), steps_of_coreAlu rfl (exec_mflc p),
    steps_of_coreAlu rfl (exec_mfcb p), steps_of_coreAlu rfl (exec_rdid p), steps_of_coreAlu rfl (exec_rdtime p),
    steps_of_coreAlu rfl (exec_rdframe p), steps_of_coreStep rfl (exec_setcls p), steps_of_coreStep rfl (exec_jr p),
    steps_of_coreStep rfl (exec_jrl p), steps_of_coreStep rfl (exec_fence p), steps_of_coreStep rfl (exec_halt p),
    steps_of_coreRI rfl (exec_addi p), steps_of_coreRI rfl (exec_andi p), steps_of_coreRI rfl (exec_ori p), steps_of_coreRI rfl (exec_xori p),
    steps_of_coreRI rfl (exec_shi p), steps_of_corePred rfl (exec_cmpi p), steps_of_corePred rfl (exec_cmpiu p),
    steps_of_coreAlu rfl (exec_movi p), steps_of_coreAlu rfl (exec_insi p), steps_of_coreStep rfl (exec_ld p), steps_of_coreStep rfl (exec_st p),
    steps_of_coreStep rfl (exec_lds p), steps_of_coreStep rfl (exec_sts p), steps_of_coreStep rfl (exec_brl p),
    steps_of_coreStep rfl (exec_loop p), steps_of_coreStep rfl (exec_loopi p), steps_of_coreStep rfl (exec_cbw p),
    steps_of_coreStep rfl (exec_cbwh p), steps_of_coreStep rfl (exec_cbins p), steps_of_coreStep rfl (exec_qsend p),
    steps_of_coreStep rfl (exec_qsendm p), steps_of_coreStep rfl (exec_qfree p), List.forall_mem_nil _⟩

theorem State.waitsLoad_eq_true {s : State} {p : Nat} {rs : List Nat} :
    s.waitsLoad p rs = true ↔ ∃ l ∈ (s.blk p).core.loads, l.rd ≠ 0 ∧ l.rd ∈ rs := by
  simp [State.waitsLoad]

/-- Settles O5: the guard is tested first, then the loads in flight. -/
theorem coreGuardFalseRetiresAndLoadWaits : Obligations.CoreGuardFalseRetiresAndLoadWaits := by
  intro s p r hr hp hlive hdec hclean hend
  obtain ⟨hop, hstep⟩ := stepsRow_coreRows p r hr
  obtain ⟨hbr, hskip⟩ := not_or.mp (of_decide_eq_false hop)
  obtain ⟨body, hbody⟩ := hstep s
  refine ⟨fun hguard hgo => ⟨_, ?_, State.retire_becomes hgo⟩, fun hguard hload => ?_⟩
  · rw [hbody, coreStep_of_placed hp hlive hdec hclean hend, if_pos ⟨hbr, hskip, hguard⟩]
  · rw [hbody, coreStep_of_guarded hp hlive hdec hclean hend (.inr (.inr hguard)), if_pos (State.waitsLoad_eq_true.mpr hload),
      State.stall_eq_stalls s p (.inr rfl)]

/-! ### Transfers (R136 to R138, R141) -/

section
variable {s : State} {p : Nat}

theorem keyOf_retired_ne {f : Fld} (hp : f.page = .blk) (hf : f.off * 64 + f.lo ≠ F.BLK_CC_RETIRED.off * 64 + F.BLK_CC_RETIRED.lo) (p : Nat) :
    keyOf F.BLK_CC_RETIRED p 0 ≠ keyOf f p 0 := by
  rw [keyOf, keyOf, hp]
  exact keyAt_ne_of_place hf.symm .blk p

/-- A counter of the Block takes one more, and then the instruction completes. -/
theorem coreBecomes.counting {t : State} {f : Fld} {c : Core} (hp : f.page = .blk)
    (hf : f.off * 64 + f.lo ≠ F.BLK_CC_RETIRED.off * 64 + F.BLK_CC_RETIRED.lo) (hwidth : f.width ≤ 64) (h : coreBecomes (s.inc f p 0) t p c []) :
    coreBecomes s t p c [keyOf f p 0] ∧ t.rd f p = satAdd (2 ^ f.width - 1) (s.rd f p) 1 := by
  have hne := keyOf_retired_ne hp hf p
  exact ⟨((coreEdit.refl s p).inc hne).becomes h, (coreBecomes.rd_of_edit h hne.symm).trans (s.rd_inc_same f p 0 1 hwidth)⟩

theorem execBr_of_issues (h : coreIssues s p .br (fun _ => [])) (hend : notAtEnd s p) :
    exec (.br p) s = .next (if s.preg p (CC.guard (s.coreWord p)) != CC.neg (s.coreWord p) then
      s.transfer p (at' s p + 4 * CC.imm19 (s.coreWord p)) false else s.retire p) := by
  rw [exec_br, execBr, coreStep_of_issues h (fun _ => hend) (.inl rfl)]
  rfl

theorem execCskip_of_issues (h : coreIssues s p .cskip (fun _ => [])) (hend : notAtEnd s p) :
    exec (.cskip p) s = .next (if s.preg p (CC.guard (s.coreWord p)) != CC.neg (s.coreWord p) then
      (s.inc F.BLK_CSKIP_TAKEN p 0).transfer p (at' s p + 4 * CC.imm19 (s.coreWord p)) false
      else (s.inc F.BLK_CSKIP_FALLTHRU p 0).retire p) := by
  rw [exec_cskip, execCskip, coreStep_of_issues h (fun _ => hend) (.inr (.inl rfl))]
  rfl

theorem br_clause (h : coreIssues s p .br (fun _ => [])) (hend : notAtEnd s p) :
    let w := s.coreWord p
    let c := (s.blk p).core
    let rel : Int := at' s p + 4 * CC.imm19 w
    (s.preg p (CC.guard w) ≠ CC.neg w → legalTarget s p rel true → ∃ t, exec (.br p) s = .next t ∧ coreBecomes s t p (goneTo c rel) [])
    ∧ (s.preg p (CC.guard w) = CC.neg w → goesOn s p → ∃ t, exec (.br p) s = .next t ∧ coreBecomes s t p (passed s p c) []) := by
  intro w c rel
  refine ⟨fun hguard hlegal => ⟨_, ?_, State.transfer_becomes (call := false) hlegal⟩, fun hguard hgo => ⟨_, ?_, State.retire_becomes hgo⟩⟩
  · rw [execBr_of_issues h hend, if_pos (bne_iff_ne.mpr hguard)]
  · rw [execBr_of_issues h hend, if_neg (by simp [hguard, w])]

theorem cskip_clause (h : coreIssues s p .cskip (fun _ => [])) (hend : notAtEnd s p) :
    let w := s.coreWord p
    let c := (s.blk p).core
    let rel : Int := at' s p + 4 * CC.imm19 w
    (s.preg p (CC.guard w) ≠ CC.neg w → legalTarget s p rel true →
        ∃ t, exec (.cskip p) s = .next t ∧ coreBecomes s t p (goneTo c rel) [keyOf F.BLK_CSKIP_TAKEN p 0]
          ∧ t.rd F.BLK_CSKIP_TAKEN p = satAdd (2 ^ F.BLK_CSKIP_TAKEN.width - 1) (s.rd F.BLK_CSKIP_TAKEN p) 1)
    ∧ (s.preg p (CC.guard w) = CC.neg w → goesOn s p →
        ∃ t, exec (.cskip p) s = .next t ∧ coreBecomes s t p (passed s p c) [keyOf F.BLK_CSKIP_FALLTHRU p 0]
          ∧ t.rd F.BLK_CSKIP_FALLTHRU p = satAdd (2 ^ F.BLK_CSKIP_FALLTHRU.width - 1) (s.rd F.BLK_CSKIP_FALLTHRU p) 1) := by
  intro w c rel
  refine ⟨fun hguard hlegal => ⟨_, ?_, coreBecomes.counting rfl (by decide) (by decide) (State.transfer_becomes (call := false) hlegal)⟩,
    fun hguard hgo => ⟨_, ?_, coreBecomes.counting rfl (by decide) (by decide) (State.retire_becomes hgo)⟩⟩
  · rw [execCskip_of_issues h hend, if_pos (bne_iff_ne.mpr hguard)]
  · rw [execCskip_of_issues h hend, if_neg (by simp [hguard, w])]

/-- JRL and BRL: the return offset is written, and the core goes to the target. -/
theorem call_becomes (r : Nat) {x : Int} (h : legalTarget s p x false) :
    coreBecomes s ((s.setSreg p r (at' s p + 4)).transfer p x true) p (goneTo (withS (s.blk p).core r (at' s p + 4)) x) [] :=
  ((coreEdit.refl s p).setSreg _ _).transfer (withS_place _ _ _) h

end

/-- Settles O6: every transfer is a transfer or a completion of the state, after a count or a write of the return offset. -/
theorem coreTransfersReachTheirTargets : Obligations.CoreTransfersReachTheirTargets := by
  intro s p w c rel
  refine ⟨fun h hend => ?_, cskip_clause, fun h hend hlegal => ⟨_, ?_, call_becomes (CC.rd w) hlegal⟩,
    fun h hend hlegal => ⟨_, ?_, State.transfer_becomes (call := false) hlegal⟩, fun h hend hlegal => ⟨_, ?_, call_becomes (CC.rd w) hlegal⟩⟩
  · obtain ⟨htaken, hpassed⟩ := br_clause h hend
    have hp0 : CC.guard w = 0 → s.preg p (CC.guard w) = true := fun h0 => if_pos h0
    exact ⟨htaken, hpassed, fun h0 hneg => htaken (by simp [hp0 h0, hneg, w]), fun h0 hneg => hpassed ((hp0 h0).trans hneg.symm)⟩
  · exact (exec_brl p s).trans (coreStep_of_ready h fun _ => hend)
  · exact (exec_jr p s).trans (coreStep_of_ready h fun _ => hend)
  · exact (exec_jrl p s).trans (coreStep_of_ready h fun _ => hend)

/-! ### Loops, class labels, FENCE and HALT (R129, R133, R139, R140, R145) -/

section
variable {s : State} {p : Nat}

theorem Core.mayLoop_eq_true {c : Core} {k e : Nat} (hk : k = c.loops.length) (hdepth : c.loops.length < 4) (he : e < 0x1_0000)
    (hbodies : ∀ l ∈ c.loops, l.1 ≤ c.pc.toNat → c.pc.toNat ≤ l.2 → e ≤ l.2) : c.mayLoop k e = true := by
  have hall : c.loops.all (fun l => !inBody l c.pc.toNat || decide (e ≤ l.2)) = true := List.all_eq_true.mpr fun l hl => by
    by_cases hbody : inBody l c.pc.toNat = true
    · simp only [inBody, Bool.and_eq_true, decide_eq_true_eq] at hbody
      simp [hbodies l hl hbody.1 hbody.2]
    · simp [hbody]
  simp only [Core.mayLoop, hk, hdepth, he, hall, beq_self_eq_true, decide_true, Bool.and_self]

/-- A loop whose place is legal: it is skipped with a count of zero, and entered with another. -/
theorem loopGo_clause {w n : Nat} (hmay : (s.blk p).core.mayLoop (CC.lcf w) (at' s p + 4 * CC.len w) = true) :
    let c := (s.blk p).core
    let e := at' s p + 4 * CC.len w
    (n = 0 → e + 4 < 0x1_0000 → at' s p % 4 = 0 → coreBecomes s (s.loopGo p w n) p (goneTo c (e + 4 : Nat)) [])
    ∧ (n ≠ 0 → coreBecomes s (s.loopGo p w n) p { c with pc := BitVec.ofNat 16 (at' s p + 4), stall := 0, loops := (at' s p + 4, e) :: c.loops,
                                                          lc := SMap.put c.loops.length (BitVec.ofNat 32 n) c.lc } []) := by
  intro c e
  have hgo : s.loopGo p w n = if n = 0 then s.transfer p (e + 4) true else _ := if_neg (by rw [← at', hmay]; decide)
  refine ⟨fun hn hend halign => ?_, fun hn => ?_⟩
  · rw [hgo, if_pos hn]
    exact State.transfer_becomes ⟨by omega, by omega, by omega, fun h => absurd h (by decide)⟩
  · rw [hgo, if_neg hn]
    exact coreBecomes_counted s p _

theorem loops_exec {i : Instr} {op : CoreOp} {reads : Nat → List Nat} {n : Nat}
    (hrow : (i, op, reads, n) = (Instr.loop p, CoreOp.loop, (fun w => [CC.loopRs w]), s.sreg p (CC.loopRs (s.coreWord p)) % 2 ^ 32)
      ∨ (i, op, reads, n) = (Instr.loopi p, CoreOp.loopi, (fun (_ : Nat) => ([] : List Nat)), CC.cnt (s.coreWord p)))
    (h : coreReady s p op reads) (hend : notAtEnd s p) : exec i s = .next (s.loopGo p (s.coreWord p) n) := by
  rcases hrow with hrow | hrow <;> simp only [Prod.mk.injEq] at hrow <;> obtain ⟨rfl, rfl, rfl, rfl⟩ := hrow
  · exact (exec_loop p s).trans (coreStep_of_ready h fun _ => hend)
  · exact (exec_loopi p s).trans (coreStep_of_ready h fun _ => hend)

theorem setcls_becomes (hgo : goesOn s p) (k : Nat) :
    coreBecomes s ((if s.classMask.testBit k then s.onCore p (fun c => { c with cls := BitVec.ofNat 4 k }) else s).retire p) p
      (passed s p (if s.classMask.testBit k then { (s.blk p).core with cls := BitVec.ofNat 4 k } else (s.blk p).core)) [] := by
  split
  · exact ((coreEdit.refl s p).onCore _).retire rfl hgo
  · exact State.retire_becomes hgo

theorem execFence_of_ready (h : coreReady s p .fence (fun _ => [])) :
    exec (.fence p) s = .next (if (s.blk p).core.loads = [] ∧ (s.blk p).core.stores = [] then s.retire p else s.stall p 2) :=
  (exec_fence p s).trans (coreStep_of_ready h nofun)

end

/-- Settles O7: a loop is skipped or entered, and the others write one field of the core, wait, or complete. -/
theorem coreLoopsClassFenceAndHalt : Obligations.CoreLoopsClassFenceAndHalt := by
  intro s p w c e
  refine ⟨fun i op reads n hrow h hend hlcf hdepth he hbodies => ?loop, fun h hgo => ⟨_, ?setcls, setcls_becomes hgo (CC.rs1 w)⟩, fun h => ?fence,
    fun h hend hgo => ⟨_, ?halt, ((coreEdit.refl s p).onCore fun c => { c with halted := true }).retire rfl hgo⟩⟩
  case loop =>
    rw [loops_exec hrow h hend]
    obtain ⟨hskip, henter⟩ := loopGo_clause (n := n) (Core.mayLoop_eq_true hlcf hdepth he hbodies)
    exact ⟨fun hn hlast halign => ⟨_, rfl, hskip hn hlast halign⟩, fun hn => ⟨_, rfl, henter hn⟩⟩
  case setcls => exact (exec_setcls p s).trans (coreStep_of_ready h nofun)
  case fence =>
    rw [execFence_of_ready h]
    refine ⟨fun hloads hstores hgo => ⟨_, congrArg _ (if_pos ⟨hloads, hstores⟩), State.retire_becomes hgo⟩, fun hflight => ?_⟩
    rw [if_neg (by rwa [not_and_or]), State.stall_eq_stalls s p (.inr rfl)]
  case halt => exact (exec_halt p s).trans (coreStep_of_ready h fun _ => hend)

/-! ### Commands (R142 to R145) -/

section
variable {s : State} {p : Nat}

theorem cb_exec {i : Instr} {op : CoreOp} {v : Nat}
    (hrow : (i, op, v) = (Instr.cbw p, CoreOp.cbw, s.cbSum p (s.coreWord p) % 2 ^ 32)
      ∨ (i, op, v) = (Instr.cbwh p, CoreOp.cbwh, s.cbSum p (s.coreWord p) / 2 ^ 32)
      ∨ (i, op, v) = (Instr.cbins p, CoreOp.cbins, putBits (s.cbw p (CC.cb (s.coreWord p))) (CC.pos (s.coreWord p)) (CC.widthM1 (s.coreWord p) + 1)
          (s.sreg p (CC.qrs (s.coreWord p)))))
    (h : coreReady s p op (fun w => [CC.qrs w])) : exec i s = .next ((s.setCb p (CC.cb (s.coreWord p)) v).retire p) := by
  rcases hrow with hrow | hrow | hrow <;> simp only [Prod.mk.injEq] at hrow <;> obtain ⟨rfl, rfl, rfl⟩ := hrow
  · exact (exec_cbw p s).trans (coreStep_of_ready h nofun)
  · exact (exec_cbwh p s).trans (coreStep_of_ready h nofun)
  · exact (exec_cbins p s).trans (coreStep_of_ready h nofun)

theorem setCb_retire_becomes (hgo : goesOn s p) (i v : Nat) :
    coreBecomes s ((s.setCb p i v).retire p) p (passed s p { (s.blk p).core with cb := SMap.put i (BitVec.ofNat 32 v) (s.blk p).core.cb }) [] :=
  ((coreEdit.refl s p).onCore fun c => { c with cb := SMap.put i (BitVec.ofNat 32 v) c.cb }).retire rfl hgo

/-- The model's command of cb0 to cb7 is that of R143. -/
theorem State.cbCmd_eq_buildCommand (s : State) (p : Nat) : s.cbCmd p = buildCommand (s.blk p).core := by
  rw [State.cbCmd, buildCommand, List.sum_eq_foldl, List.foldl_map]
  rfl

@[simp] theorem State.send_blk_same (s : State) (p : Nat) (k : Q) (c : Cmd) : (s.send p k c).blk p = queueTakes (s.blk p) k c := s.onBlk_blk_same p _

theorem queueTakes_place (b : Block) (k : Q) (c : Cmd) : (queueTakes b k c).core.place = b.core.place := by
  unfold queueTakes
  dsimp only
  split <;> rfl

theorem queueTakes_passed (s : State) (p : Nat) (b : Block) (k : Q) (c : Cmd) :
    { queueTakes b k c with core := passed s p (queueTakes b k c).core } = queueTakes { b with core := passed s p b.core } k c := by
  unfold queueTakes
  dsimp only
  split <;> rfl

theorem send_retire_spec (hgo : goesOn s p) (k : Q) (c : Cmd) :
    onlyBlks s ((s.send p k c).retire p) ∧ blksBut p s ((s.send p k c).retire p)
    ∧ ((s.send p k c).retire p).blk p = queueTakes { s.blk p with core := passed s p (s.blk p).core } k c
    ∧ regsBut [keyOf F.BLK_CC_RETIRED p 0] s ((s.send p k c).retire p) := by
  have hnext : coreNext (s.send p k c) p = coreNext s p := coreNext_of_place (by rw [State.send_blk_same, queueTakes_place])
  obtain ⟨honly, hothers, hblk, hregs, _⟩ := State.retire_becomes (s := s.send p k c) (p := p) (by rwa [goesOn, hnext])
  have hpassed : passed (s.send p k c) p = passed s p := funext fun x => by rw [passed, hnext, passed]
  refine ⟨onlyBlks.trans (t := s.send p k c) rfl honly, blksBut.trans (fun _ hq => s.onBlk_blk_ne _ p _ hq) hothers, ?_, hregs⟩
  rw [hblk, hpassed, State.send_blk_same, queueTakes_passed]

theorem execQsend_of_ready (h : coreReady s p .qsend (fun _ => [])) :
    exec (.qsend p) s = .next (if s.full p (qOf (CC.q (s.coreWord p))) then s.stall p 1
      else (s.send p (qOf (CC.q (s.coreWord p))) (s.cbCmd p)).retire p) :=
  (exec_qsend p s).trans (coreStep_of_ready h nofun)

/-- The address of QSENDM (R144). -/
def State.qsendmAddr (s : State) (p : Nat) : Nat := to64 ((s.sreg p (CC.qrs (s.coreWord p)) : Int) + 32 * CC.imm14 (s.coreWord p)) % 2 ^ 20

theorem execQsendm_of_ready (h : coreReady s p .qsendm (fun w => [CC.qrs w])) (ha : s.qsendmAddr p % 32 = 0) :
    exec (.qsendm p) s = .next (if s.full p (qOf (CC.q (s.coreWord p))) then s.stall p 1
      else if s.spAsleep p (s.qsendmAddr p) 32 ≠ [] then (s.spWake p (s.spAsleep p (s.qsendmAddr p) 32)).stall p 2
      else ((s.spRead p spCore (s.qsendmAddr p) 32).1.send p (qOf (CC.q (s.coreWord p)))
        (BitVec.ofNat 256 (leNat (s.spRead p spCore (s.qsendmAddr p) 32).2))).retire p) := by
  have hstep := (exec_qsendm p s).trans (coreStep_of_ready h nofun)
  exact hstep.trans (congrArg _ (if_neg (not_not.mpr ha)))

theorem State.full_eq_true_iff {k : Q} : s.full p k = true ↔ 64 ≤ ((s.blk p).q.entries k).length := decide_eq_true_iff

theorem State.not_full_of_lt {k : Q} (h : ((s.blk p).q.entries k).length < 64) : ¬ s.full p k = true :=
  mt State.full_eq_true_iff.mp h.not_ge

end

/-- Settles O8: a build word is one field of the core, and a send that finds room is an append to its queue. -/
theorem coreBuildsAndSendsCommands : Obligations.CoreBuildsAndSendsCommands := by
  intro s p w c b q sum old
  refine ⟨fun i op v hrow h hgo => ⟨_, cb_exec hrow h, setCb_retire_becomes hgo (CC.cb w) v⟩, fun h => ⟨fun hfull => ?_, fun hroom hgo => ?_⟩,
    fun h => ?_⟩
  · rw [execQsend_of_ready h, if_pos (State.full_eq_true_iff.mpr hfull), State.stall_eq_stalls s p (.inl rfl)]
  · refine ⟨_, ?_, send_retire_spec hgo q (buildCommand c)⟩
    rw [execQsend_of_ready h, if_neg (State.not_full_of_lt hroom), State.cbCmd_eq_buildCommand]
  · refine fun ha => ⟨fun hfull => ?_, fun hroom hawake => ?_⟩
    · rw [execQsendm_of_ready h ha, if_pos (State.full_eq_true_iff.mpr hfull), State.stall_eq_stalls s p (.inl rfl)]
    · exact (execQsendm_of_ready h ha).trans (congrArg _ ((if_neg (State.not_full_of_lt hroom)).trans (if_neg (not_not.mpr hawake))))

end Sys2Proof.Machine
end

section
/-! PROOFS. The control core's accesses (R131 to R135, R224): loads and stores of context addresses, of the scratchpad, and their answers. -/

namespace Sys2Proof.Machine
open Sys2Proof Sys2Proof.Claims

/-! ### Alignment (R134) -/

theorem State.aligned_eq (s : State) (p a n : Nat) : s.aligned p a n = (afterAlign s p a n, a / n * n) := rfl

theorem onlyRegs_afterAlign (s : State) (p a n : Nat) : onlyRegs s (afterAlign s p a n) := by
  unfold afterAlign
  split <;> rfl

theorem coreEdit_afterAlign (s : State) (p a n : Nat) : coreEdit s (afterAlign s p a n) p (s.blk p).core [keyOf F.BLK_CC_MISALIGNED p 0] := by
  have hne := keyOf_retired_ne (f := F.BLK_CC_MISALIGNED) rfl (by decide) p
  unfold afterAlign
  split
  · exact ⟨rfl, fun _ _ => rfl, rfl, fun _ _ _ _ _ => rfl, by simpa using hne⟩
  · exact (coreEdit.refl s p).inc hne

section
variable {s u : State} {p : Nat} (h : onlyRegs s u)
include h

theorem blk_of_onlyRegs (q : Nat) : u.blk q = s.blk q := by rw [h]; rfl

theorem xlat_of_onlyRegs (c a : Nat) (sr write : Bool) : u.xlat c a sr write = s.xlat c a sr write := by rw [h]; rfl

theorem l1Find_of_onlyRegs (l owner k : Nat) : u.l1Find p l owner k = s.l1Find p l owner k := by rw [h]; rfl

end

/-! ### LD (R131, R133, R135, R239) -/

theorem State.l1Clean_of_clean {s : State} {p l : Nat} (h : ∀ y ∈ (s.blk p).l1, y.line = l → y.bad = false) : s.l1Clean p l = s := by
  refine if_neg fun hany => ?_
  obtain ⟨y, hy, hbad⟩ := List.any_eq_true.mp hany
  rw [Bool.and_eq_true, beq_iff_eq] at hbad
  exact Bool.false_ne_true ((h y hy hbad.1).symm.trans hbad.2)

/-- A request whose line has a home is on its way to it. -/
theorem State.issue_of_home {s : State} {r : Req} (h : (s.homeOf r.line).isSome = true) :
    s.issue r = { s with nextReq := s.nextReq + 1, reqs := s.reqs ++ [{ r with id := s.nextReq }] } := by
  obtain ⟨n, hn⟩ := Option.isSome_iff_exists.mp h
  have hhome : State.homeOf { s with nextReq := s.nextReq + 1 } r.line = some n := hn
  rw [State.issue]
  dsimp only
  rw [hhome]

/-- The read request of a load that misses (R239, R291). -/
def State.loadReq (s : State) (p c n : Nat) (x : Xlat) : Req :=
  { plainReq s (.core p) .read (lineOfAddr x) (BitVec.allOnes 128) 0 x.owner x.keyh (some c) 3 with
    cls := (s.blk p).core.cls.toNat, ra := (s.blk p).core.lastMiss == some (lineOfAddr x - 1) && decide (0 < lineOfAddr x),
    raLimit := x.limit, off := byteOfAddr x, size := n }

/-- A core with a load in flight, whose register a load in flight before it no longer writes. -/
def withLoad (c : Core) (l : CoreLoad) (v line : Nat) : Core :=
  { withS c l.rd v with loads := (withS c l.rd v).loads ++ [l], lastMiss := some line }

/-- The state with a load's request sent, and the load in flight. -/
def State.loadSent (s : State) (p : Nat) (r : Req) (l : CoreLoad) : State :=
  ((s.issue r).setSreg p l.rd ((s.issue r).sreg p l.rd)).onCore p (fun c => { c with loads := c.loads ++ [l], lastMiss := some r.line })

section
variable {s : State} {p : Nat} {run : Run} {x : Xlat}

/-- The context address of a load or store at Block p's core, aligned (R131, R134). -/
def State.accessAddr (s : State) (p : Nat) : Nat := s.coreAddr p (s.coreWord p) / szBytes (CC.sz (s.coreWord p)) * szBytes (CC.sz (s.coreWord p))

/-- The state after the alignment check of the access at Block p's core. -/
def State.accessAligned (s : State) (p : Nat) : State := afterAlign s p (s.coreAddr p (s.coreWord p)) (szBytes (CC.sz (s.coreWord p)))

section
variable (h : coreReady s p .ld (fun w => [CC.rs1 w])) (hrun : s.plaza.run = some run) (hroom : (s.blk p).core.loads.length < 8)
include h hrun hroom

theorem execLd_of_untranslated (hx : s.xlat run.ctx (s.accessAddr p) false false = none) :
    exec (.ld p) s = .next ((((s.accessAligned p).fault 0x0303 (pageIdx .blk p) (s.accessAddr p)).setSreg p (CC.rd (s.coreWord p)) 0).retire p) := by
  rw [exec_ld, execLd, coreStep_of_ready h nofun]
  dsimp only
  rw [hrun]
  dsimp only
  rw [if_neg hroom.not_ge, State.aligned_eq]
  dsimp only
  rw [xlat_of_onlyRegs (onlyRegs_afterAlign s p _ _), ← State.accessAddr, hx]
  rfl

variable (hx : s.xlat run.ctx (s.accessAddr p) false false = some x) (hclean : ∀ y ∈ (s.blk p).l1, y.line = lineOfAddr x → y.bad = false)
include hx hclean

theorem execLd_of_translated :
    (∀ y, s.l1Find p (lineOfAddr x) x.owner x.keyh = some y →
      exec (.ld p) s = .next (((s.accessAligned p).setSreg p (CC.rd (s.coreWord p)) (extend (CC.sz (s.coreWord p)) (szBytes (CC.sz (s.coreWord p)))
        (lineNat y.data (byteOfAddr x) (szBytes (CC.sz (s.coreWord p)))))).retire p))
    ∧ (s.l1Find p (lineOfAddr x) x.owner x.keyh = none →
      exec (.ld p) s = .next (((s.accessAligned p).loadSent p ((s.accessAligned p).loadReq p run.ctx (szBytes (CC.sz (s.coreWord p))) x)
        ⟨(s.accessAligned p).nextReq, CC.rd (s.coreWord p), CC.sz (s.coreWord p), s.accessAddr p⟩).retire p)) := by
  have haligned := onlyRegs_afterAlign s p (s.coreAddr p (s.coreWord p)) (szBytes (CC.sz (s.coreWord p)))
  rw [exec_ld, execLd, coreStep_of_ready h nofun]
  dsimp only
  rw [hrun]
  dsimp only
  rw [if_neg hroom.not_ge, State.aligned_eq]
  dsimp only
  rw [xlat_of_onlyRegs haligned, ← State.accessAddr, hx]
  dsimp only
  rw [State.l1Clean_of_clean (by rwa [blk_of_onlyRegs haligned]), l1Find_of_onlyRegs haligned]
  refine ⟨fun y hfind => ?_, fun hfind => ?_⟩
  · rw [← lineOfAddr, hfind]
    rfl
  · rw [← lineOfAddr, hfind]
    rfl

end

/-- A load on its way: what it changes beside the counts. -/
theorem loadSent_retire_spec {u : State} {r : Req} {l : CoreLoad} (hu : onlyRegs s u) (hhome : (u.homeOf r.line).isSome = true) (hgo : goesOn s p) :
    let t := (u.loadSent p r l).retire p
    t = { s with regs := t.regs, blks := t.blks, nextReq := s.nextReq + 1, reqs := s.reqs ++ [{ r with id := s.nextReq }] }
    ∧ blksBut p s t ∧ regsBut [keyOf F.BLK_CC_RETIRED p 0] u t
    ∧ t.blk p = { s.blk p with core := passed s p (withLoad (s.blk p).core l (s.sreg p l.rd) r.line) } := by
  rw [onlyRegs] at hu
  generalize u.regs = rs at hu
  subst hu
  intro t
  have hsent : coreEdit (State.issue { s with regs := rs } r) (State.loadSent { s with regs := rs } p r l) p
      (withLoad (s.blk p).core l (s.sreg p l.rd) r.line) [] := by
    rw [State.loadSent, State.issue_of_home hhome]
    exact ((coreEdit.refl _ p).setSreg l.rd _).onCore fun c => { c with loads := c.loads ++ [l], lastMiss := some r.line }
  rw [State.issue_of_home hhome] at hsent
  obtain ⟨honly, hothers, hblk, hregs, -⟩ := hsent.retire (withS_place _ l.rd _) hgo
  exact ⟨honly, hothers, hregs, hblk⟩

end

/-! ### ST (R131, R133, R134, R239) -/

theorem State.noteWrite_eq (s : State) (c : Nat) (x : Xlat) :
    s.noteWrite c x = { s with ctxs := (s.noteWrite c x).ctxs, plaza := (s.noteWrite c x).plaza } := by
  unfold State.noteWrite
  split
  · split
    · split <;> rfl
    · rfl
  · rfl

/-- The state with a store's marks made and its L1 copy updated (R49, R52, R239). -/
def State.storeNoted (s : State) (p c : Nat) (x : Xlat) (n v : Nat) : State :=
  (s.noteWrite c x).l1Store p (lineOfAddr x) (rangeMask (byteOfAddr x) n) (lineOf (byteOfAddr x) n v)

theorem State.storeNoted_eq (s : State) (p c : Nat) (x : Xlat) (n v : Nat) :
    s.storeNoted p c x n v = { s with blks := (s.storeNoted p c x n v).blks, ctxs := (s.storeNoted p c x n v).ctxs,
                                      plaza := (s.storeNoted p c x n v).plaza } := by
  have hnote := s.noteWrite_eq c x
  rw [State.storeNoted]
  generalize s.noteWrite c x = u at hnote ⊢
  rw [hnote]
  rfl

theorem State.storeNoted_blk_ne (s : State) {p q : Nat} (hq : q ≠ p) (c : Nat) (x : Xlat) (n v : Nat) : (s.storeNoted p c x n v).blk q = s.blk q := by
  rw [State.storeNoted, State.l1Store, State.onBlk_blk_ne _ q p _ hq, s.noteWrite_eq c x]
  rfl

theorem State.storeNoted_core (s : State) (p c : Nat) (x : Xlat) (n v : Nat) : ((s.storeNoted p c x n v).blk p).core = (s.blk p).core := by
  rw [State.storeNoted, State.l1Store, State.onBlk_blk_same, s.noteWrite_eq c x]
  split <;> rfl

/-- What the request of a store says (R131, R234). -/
def storesAt (r : Req) (id : Nat) (src : Src) (c : Nat) (x : Xlat) (n v : Nat) : Prop :=
  r.id = id ∧ r.src = src ∧ r.op = .write ∧ r.line = lineOfAddr x ∧ r.owner = x.owner ∧ r.keyh = x.keyh
    ∧ r.mask = rangeMask (byteOfAddr x) n ∧ r.data = lineOf (byteOfAddr x) n v ∧ r.ctx = some c

/-- From s to t a store's request r is sent, and beside it marks and Block p's L1 copy change. -/
structure storeSends (s t : State) (p : Nat) (r : Req) : Prop where
  only : t = { s with blks := t.blks, ctxs := t.ctxs, plaza := t.plaza, nextReq := s.nextReq + 1, reqs := s.reqs ++ [r] }
  others : blksBut p s t
  core : (t.blk p).core = (s.blk p).core

theorem State.storeReq_of_home {s : State} (p : Nat) (src : Src) (c : Nat) {x : Xlat} (n v cls : Nat) (lc : Bool) (expiry : Nat)
    (hhome : (s.homeOf (lineOfAddr x)).isSome = true) :
    ∃ r, storesAt r s.nextReq src c x n v ∧ storeSends s (s.storeReq p src c x n v cls lc expiry) p r := by
  have hnoted := s.storeNoted_eq p c x n v
  have hothers : blksBut p s (s.storeNoted p c x n v) := fun q hq => s.storeNoted_blk_ne hq c x n v
  have hcore := s.storeNoted_core p c x n v
  have hreq : s.storeReq p src c x n v cls lc expiry
      = (s.storeNoted p c x n v).issue { plainReq (s.storeNoted p c x n v) src .write (lineOfAddr x) (rangeMask (byteOfAddr x) n)
          (lineOf (byteOfAddr x) n v) x.owner x.keyh (some c) 3 with
            shadow := decide (x.kind = 0), cls := cls, lc := lc, expiry := expiry, off := byteOfAddr x, size := n, raLimit := x.limit } := rfl
  generalize s.storeNoted p c x n v = u at hnoted hothers hcore hreq
  have hid : u.nextReq = s.nextReq := by rw [hnoted]
  have hreqs : u.reqs = s.reqs := by rw [hnoted]
  rw [hreq, State.issue_of_home (by rw [hnoted]; exact hhome), hid, hreqs]
  exact ⟨_, ⟨rfl, rfl, rfl, rfl, rfl, rfl, rfl, rfl, rfl⟩, by rw [hnoted], hothers, hcore⟩

/-- The state with a store's request sent, and the store in flight. -/
def State.storeSent (s : State) (p c : Nat) (x : Xlat) (n v : Nat) : State :=
  (s.storeReq p (.core p) c x n v (s.blk p).core.cls.toNat false 0).onCore p (fun c => { c with stores := c.stores ++ [s.nextReq] })

section
variable {s : State} {p : Nat} {run : Run} (h : coreReady s p .st (fun w => [CC.rs1 w, CC.rd w])) (hrun : s.plaza.run = some run)
  (hroom : (s.blk p).core.stores.length < 8)
include h hrun hroom

theorem execSt_of_untranslated (hx : s.xlat run.ctx (s.accessAddr p) false true = none) :
    exec (.st p) s = .next (((s.accessAligned p).fault 0x0303 (pageIdx .blk p) (s.accessAddr p)).retire p) := by
  rw [exec_st, execSt, coreStep_of_ready h nofun]
  dsimp only
  rw [hrun]
  dsimp only
  rw [if_neg hroom.not_ge, State.aligned_eq]
  dsimp only
  rw [xlat_of_onlyRegs (onlyRegs_afterAlign s p _ _), ← State.accessAddr, hx]
  rfl

theorem execSt_of_translated {x : Xlat} (hx : s.xlat run.ctx (s.accessAddr p) false true = some x) :
    (x.forbidden = true → exec (.st p) s = .next (((s.accessAligned p).fault 0x0304 (pageIdx .blk p) (s.accessAddr p)).retire p))
    ∧ (x.forbidden = false → exec (.st p) s = .next (((s.accessAligned p).storeSent p run.ctx x (szBytes (CC.sz (s.coreWord p)))
        ((s.accessAligned p).sreg p (CC.rd (s.coreWord p)))).retire p)) := by
  rw [exec_st, execSt, coreStep_of_ready h nofun]
  dsimp only
  rw [hrun]
  dsimp only
  rw [if_neg hroom.not_ge, State.aligned_eq]
  dsimp only
  rw [xlat_of_onlyRegs (onlyRegs_afterAlign s p _ _), ← State.accessAddr, hx]
  exact ⟨fun hforbidden => congrArg _ (if_pos hforbidden), fun hallowed => congrArg _ (if_neg (by rw [hallowed]; decide))⟩

end

/-- A store on its way: what it changes beside the counts. -/
theorem storeSent_retire_spec {s u : State} {p : Nat} (hu : onlyRegs s u) (c : Nat) {x : Xlat} (n v : Nat)
    (hhome : (u.homeOf (lineOfAddr x)).isSome = true) (hgo : goesOn s p) :
    let t := (u.storeSent p c x n v).retire p
    ∃ r, storesAt r s.nextReq (.core p) c x n v
      ∧ t = { s with regs := t.regs, blks := t.blks, ctxs := t.ctxs, plaza := t.plaza, nextReq := s.nextReq + 1, reqs := s.reqs ++ [r] }
      ∧ blksBut p s t ∧ regsBut [keyOf F.BLK_CC_RETIRED p 0] u t
      ∧ (t.blk p).core = passed s p { (s.blk p).core with stores := (s.blk p).core.stores ++ [s.nextReq] } := by
  rw [onlyRegs] at hu
  generalize u.regs = rs at hu
  subst hu
  intro t
  obtain ⟨r, hr, hsends⟩ := State.storeReq_of_home (s := { s with regs := rs }) p (.core p) c n v (s.blk p).core.cls.toNat false 0 hhome
  have ht : t = (State.onCore (State.storeReq { s with regs := rs } p (.core p) c x n v (s.blk p).core.cls.toNat false 0) p
      (fun c => { c with stores := c.stores ++ [s.nextReq] })).retire p := rfl
  generalize State.storeReq { s with regs := rs } p (.core p) c x n v (s.blk p).core.cls.toNat false 0 = u at hsends ht
  obtain ⟨hsent, hothers, hcore⟩ := hsends
  have hnext : coreNext u p = coreNext s p := coreNext_of_place (congrArg Core.place hcore)
  have hbecomes := ((coreEdit.refl u p).onCore fun c => { c with stores := c.stores ++ [s.nextReq] }).retire rfl (by rwa [goesOn, hnext])
  obtain ⟨honly, hrest, hblk, hregs, -⟩ := ht ▸ hbecomes
  rw [onlyBlks] at honly
  have hctxs : t.ctxs = u.ctxs := by rw [honly]
  have hplaza : t.plaza = u.plaza := by rw [honly]
  have hkept : u.regs = rs := by rw [hsent]
  refine ⟨r, hr, ?_, blksBut.trans hothers hrest, ?_, ?_⟩
  · rw [hctxs, hplaza]
    rw [hsent] at honly
    exact honly
  · exact regsBut.trans (ks := []) (regsBut_of_regs hkept) hregs
  · rw [hblk, passed, hnext, hcore, passed]
    rfl

theorem regsBut.mono {ks ls : List Nat} {s t : State} (h : regsBut ks s t) (hsub : ks ⊆ ls) : regsBut ls s t :=
  fun pg u f i hk => h pg u f i fun hm => hk (hsub hm)

theorem regsBut_of_aligned {s t : State} {p a n : Nat} (h : regsBut [keyOf F.BLK_CC_RETIRED p 0] (afterAlign s p a n) t) :
    regsBut [keyOf F.BLK_CC_RETIRED p 0, keyOf F.BLK_CC_MISALIGNED p 0] s t :=
  regsBut.mono (regsBut.trans (coreEdit_afterAlign s p a n).regs h) (List.Perm.swap _ _ []).subset

/-- Settles O9: a hit is a write of s[RD]; a miss and a store are each one request beside the core's record of it. -/
theorem coreLoadsAndStoresAreSent : Obligations.CoreLoadsAndStoresAreSent := by
  constructor
  case left =>
    intro s p run x w c n a s1 h hrun hroom hx hclean hgo
    have haligned : onlyRegs s s1 := onlyRegs_afterAlign s p _ n
    obtain ⟨hhit, hmiss⟩ := execLd_of_translated h hrun hroom hx hclean
    refine ⟨fun y hfind => ⟨_, hhit y hfind, ?_⟩, fun hfind hhome => ?_⟩
    · exact ((coreEdit_afterAlign s p _ n).setSreg _ _).retire (withS_place _ _ _) hgo
    · obtain ⟨honly, hothers, hregs, hblk⟩ := loadSent_retire_spec (r := s1.loadReq p run.ctx n x)
        (l := ⟨s1.nextReq, CC.rd w, CC.sz w, a⟩) haligned hhome hgo
      have hcls : (s1.blk p).core.cls.toNat = c.cls.toNat := by rw [blk_of_onlyRegs haligned]
      have hid : s1.nextReq = s.nextReq := by rw [haligned]
      refine ⟨_, _, hmiss hfind, honly, rfl, rfl, rfl, rfl, rfl, rfl, rfl, rfl, hcls, rfl, hothers, regsBut_of_aligned hregs, ?_⟩
      exact hid ▸ hblk
  case right =>
    intro s p run x w c n a s1 h hrun hroom hx hallowed hhome hgo
    have haligned : onlyRegs s s1 := onlyRegs_afterAlign s p _ n
    obtain ⟨r, hr, honly, hothers, hregs, hcore⟩ := storeSent_retire_spec haligned run.ctx n (s1.sreg p (CC.rd w)) hhome hgo
    obtain ⟨hid, hsrc, hop, hline, howner, hkeyh, hmask, hdata, hctx⟩ := hr
    have hval : s1.sreg p (CC.rd w) = s.sreg p (CC.rd w) := by rw [State.sreg, blk_of_onlyRegs haligned, State.sreg]
    exact ⟨_, r, (execSt_of_translated h hrun hroom hx).2 hallowed, honly, hid, hsrc, hop, hline, howner, hkeyh, hmask, hval ▸ hdata, hctx,
      hothers, regsBut_of_aligned hregs, hcore⟩

/-! ### Faults and the scratchpad (R131, R132, R224) -/

section
variable {s : State} {p : Nat}

/-- The scratchpad address of a load or store at Block p's core, aligned (R132, R134). -/
def State.spAccessAddr (s : State) (p : Nat) : Nat :=
  s.coreAddr p (s.coreWord p) % 2 ^ 20 / szBytes (CC.sz (s.coreWord p)) * szBytes (CC.sz (s.coreWord p))

/-- The state after the alignment check of the scratchpad access at Block p's core. -/
def State.spAccessAligned (s : State) (p : Nat) : State := afterAlign s p (s.coreAddr p (s.coreWord p) % 2 ^ 20) (szBytes (CC.sz (s.coreWord p)))

theorem execLds_of_ready (h : coreReady s p .lds (fun w => [CC.rs1 w])) :
    exec (.lds p) s = .next (
      if s.spAsleep p (s.spAccessAddr p) (szBytes (CC.sz (s.coreWord p))) ≠ [] then
        (s.spWake p (s.spAsleep p (s.spAccessAddr p) (szBytes (CC.sz (s.coreWord p))))).stall p 2
      else
        (((coreSpRead (s.spAccessAligned p) p (s.spAccessAddr p) (szBytes (CC.sz (s.coreWord p)))).1.setSreg p (CC.rd (s.coreWord p))
          (extend (CC.sz (s.coreWord p)) (szBytes (CC.sz (s.coreWord p)))
            (leNat (coreSpRead (s.spAccessAligned p) p (s.spAccessAddr p) (szBytes (CC.sz (s.coreWord p)))).2))).retire p)) :=
  (exec_lds p s).trans (coreStep_of_ready h nofun)

theorem execSts_of_ready (h : coreReady s p .sts (fun w => [CC.rs1 w, CC.rd w])) :
    exec (.sts p) s = .next (
      if s.spAsleep p (s.spAccessAddr p) (szBytes (CC.sz (s.coreWord p))) ≠ [] then
        (s.spWake p (s.spAsleep p (s.spAccessAddr p) (szBytes (CC.sz (s.coreWord p))))).stall p 2
      else
        ((s.spAccessAligned p).spWrite p spCore (s.spAccessAddr p)
          (leBytes (szBytes (CC.sz (s.coreWord p))) ((s.spAccessAligned p).sreg p (CC.rd (s.coreWord p))))).retire p) :=
  (exec_sts p s).trans (coreStep_of_ready h nofun)

end

/-- Settles O10: an access that reaches no region only reports, and one of the scratchpad acts once its banks are awake. -/
theorem coreFaultsAndScratchpadAccess : Obligations.CoreFaultsAndScratchpadAccess := by
  constructor
  case left =>
    intro s p run w c n a s1 hrun
    exact ⟨fun h hroom => execLd_of_untranslated h hrun hroom, fun h hroom =>
      ⟨execSt_of_untranslated h hrun hroom, fun x hx => (execSt_of_translated h hrun hroom hx).1⟩⟩
  case right =>
    intro s p w n a0 a s1
    have hval : s1.sreg p (CC.rd w) = s.sreg p (CC.rd w) := by rw [State.sreg, blk_of_onlyRegs (onlyRegs_afterAlign s p a0 n), State.sreg]
    refine ⟨fun h => ⟨fun hawake => ?_, fun hasleep => ?_⟩, fun h => ⟨fun hawake => ?_, fun hasleep => ?_⟩⟩
    · exact (execLds_of_ready h).trans (congrArg _ (if_neg (not_not.mpr hawake)))
    · exact (execLds_of_ready h).trans (congrArg _ ((if_pos hasleep).trans (State.stall_eq_stalls _ p (.inr rfl))))
    · rw [← hval]
      exact (execSts_of_ready h).trans (congrArg _ (if_neg (not_not.mpr hawake)))
    · exact (execSts_of_ready h).trans (congrArg _ ((if_pos hasleep).trans (State.stall_eq_stalls _ p (.inr rfl))))

/-! ### Answers (R22, R135, R157) -/

/-- The answers that can reach Block p next are those of the mesh's order. -/
theorem State.arrived_eq_inOrder (s : State) (p : Nat) : s.arrived p = inOrder s p := rfl

theorem State.setSreg_regs (s : State) (p r v : Nat) : (s.setSreg p r v).regs = s.regs := by
  unfold State.setSreg
  split <;> rfl

section
variable {s : State} {p k : Nat} (hp : p < nBlks)
include hp

theorem loadReturn_clause {l : CoreLoad} {r : Resp}
    (hload : ((s.blk p).core.loads.filter (fun l => (inOrder s p).any (fun r => r.req.id == l.req)))[k]? = some l)
    (hanswer : (inOrder s p).find? (fun r => r.req.id == l.req) = some r) :
    ∃ t, exec (.loadReturn p k) s = .next t
      ∧ t = { s with blks := t.blks, resps := s.resps.filter (fun r => r.req.id != l.req) } ∧ blksBut p s t
      ∧ t.blk p = { s.blk p with core := loadLands (s.blk p).core l r } := by
  rw [exec_loadReturn, execLoadReturn, onUnit_of_lt hp, State.arrived_eq_inOrder, hload]
  dsimp only
  rw [hanswer]
  obtain ⟨honly, hothers, hblk, -, -⟩ := ((coreEdit.refl { s with resps := s.resps.filter (fun r => r.req.id != l.req) } p).onCore
    fun c => { c with loads := c.loads.filter (fun y => y.req != l.req), stall := 0 }).setSreg l.rd
      (extend l.sz r.req.size (lineNat r.data r.req.off r.req.size))
  rw [onlyBlks, State.setSreg_regs] at honly
  exact ⟨_, rfl, honly, hothers, hblk⟩

theorem storeAck_clause {r : Resp} (hanswer : ((inOrder s p).filter (fun r => r.req.op != .read))[k]? = some r) :
    ∃ t, exec (.storeAck p k) s = .next t
      ∧ t = { s with blks := t.blks, resps := s.resps.filter (fun q => q.req.id != r.req.id) } ∧ blksBut p s t
      ∧ (t.blk p).core.stores = (s.blk p).core.stores.filter (fun x => x != r.req.id)
      ∧ (t.blk p).core.sreg = (s.blk p).core.sreg := by
  rw [exec_storeAck, execStoreAck, onUnit_of_lt hp, State.arrived_eq_inOrder, hanswer]
  refine ⟨_, rfl, rfl, fun q hq => State.onBlk_blk_ne _ q p _ hq, ?_, ?_⟩ <;> rw [State.onBlk_blk_same] <;> rfl

end

/-- Settles O12: an answer ends the access that it belongs to. -/
theorem coreLoadReturnsAndStoreCompletes : Obligations.CoreLoadReturnsAndStoreCompletes :=
  fun _ _ _ hp => ⟨fun _ _ => loadReturn_clause hp, fun _ => storeAck_clause hp⟩

end Sys2Proof.Machine
end

section
/-! PROOFS. The heads of a Block's queues (R156 to R169): one that is discarded, one that leaves to the arrays, to the thread groups and to the sync
unit, and what the acceptance changes beside the queues. -/

namespace Sys2Proof.Machine
open Sys2Proof Sys2Proof.Claims

/-! ### Changes of one Block -/

/-- From s to t Block p becomes b, the register fields listed change, and free values are used; nothing else. -/
structure blkEdit (s t : State) (p : Nat) (b : Block) (ks : List Nat) : Prop where
  only : t = { s with regs := t.regs, blks := t.blks, free := t.free }
  others : blksBut p s t
  blk : t.blk p = b
  regs : regsBut ks s t

section
variable {s t u : State} {p : Nat} {b c : Block} {ks ls : List Nat}

theorem blkEdit.trans (h : blkEdit s t p b ks) (k : blkEdit t u p c ls) : blkEdit s u p c (ks ++ ls) :=
  ⟨by rw [k.only, h.only], blksBut.trans h.others k.others, k.blk, regsBut.trans h.regs k.regs⟩

theorem blkEdit_of_onlyBlks (honly : onlyBlks s t) (hothers : blksBut p s t) (hregs : regsBut ks s t) : blkEdit s t p (t.blk p) ks := by
  rw [onlyBlks] at honly
  exact ⟨by rw [honly], hothers, rfl, hregs⟩

theorem blkEdit_onBlk (s : State) (p : Nat) (f : Block → Block) : blkEdit s (s.onBlk p f) p (f (s.blk p)) [] :=
  ⟨rfl, fun q hq => s.onBlk_blk_ne q p f hq, s.onBlk_blk_same p f, regsBut_of_regs rfl⟩

theorem blkEdit_cycles (s : State) (p : Nat) (f : Fld) : blkEdit s (s.cycles f p) p (s.blk p) [keyOf f p 0] :=
  ⟨rfl, fun _ _ => rfl, rfl, regsBut_cycles s p f⟩

end

/-! ### What a unit makes of a head (R160, R161, R165) -/

section
variable {s : State} {p : Nat} {k : Q} {e : QEntry}

/-- Each unit of a queue takes its head by the same steps. -/
theorem exec_of_mem_takeRows (hp : p < nBlks) {r : Instr × Q × Nat} (hr : r ∈ takeRows p) :
    ∃ act, exec r.1 s = .next (s.takeHead p r.2.1 r.2.2 act) := by
  simp only [takeRows, List.mem_cons, List.not_mem_nil, or_false] at hr
  rcases hr with rfl | rfl | rfl | rfl | rfl | rfl
  · exact ⟨_, (exec_mload p s).trans (onUnit_of_lt hp s _)⟩
  · exact ⟨_, (exec_mpass p s).trans (onUnit_of_lt hp s _)⟩
  · exact ⟨_, (exec_mdrain p s).trans (onUnit_of_lt hp s _)⟩
  · exact ⟨_, (exec_vlaunch p s).trans (onUnit_of_lt hp s _)⟩
  · exact ⟨_, (exec_dcopy p s).trans (onUnit_of_lt hp s _)⟩
  · exact ⟨_, (exec_sfence p s).trans (onUnit_of_lt hp s _)⟩

theorem any_ord_eq_false (hfresh : ∀ f ∈ (s.blk p).q.inflight, f.ord ≠ e.ord) : (s.blk p).q.inflight.any (fun f => f.ord == e.ord) = false :=
  List.any_eq_false.mpr fun f hf => by simpa using hfresh f hf

/-- A head that is not in flight is checked, and its opcode looked at, before anything else. -/
theorem State.takeHead_of_fresh (hstop : (s.blk p).q.stopped = false) (hrun : (s.blk p).core.running = true)
    (hhead : (s.blk p).q.entries k = e :: ((s.blk p).q.entries k).tail) (hfresh : ∀ f ∈ (s.blk p).q.inflight, f.ord ≠ e.ord) (op : Nat)
    (act : State → QEntry → State) :
    s.takeHead p k op act = if EC.checkOk e.cmd = false then s.checkFail p k else if EC.queueOf (EC.opcode e.cmd) ≠ some k then s.malformed p k
      else if EC.opcode e.cmd ≠ op ∨ s.unitTakes p e.cmd = false ∨ s.waitMet p k e.cmd = false then s else act (s.leave p k e) e := by
  unfold State.takeHead
  rw [if_neg (by simp [hstop, hrun]), hhead]
  simp only [any_ord_eq_false hfresh, Bool.false_eq_true, if_false]

/-- A head that is in flight already stays (R156). -/
theorem State.takeHead_of_inFlight (h : ∀ e, ((s.blk p).q.entries k).head? = some e → ∃ f ∈ (s.blk p).q.inflight, f.ord = e.ord) (op : Nat)
    (act : State → QEntry → State) : s.takeHead p k op act = s := by
  unfold State.takeHead
  split
  · rfl
  · split
    · rfl
    case h_2 e _ hentries =>
      obtain ⟨f, hf, hord⟩ := h e (by rw [hentries]; rfl)
      exact if_pos (List.any_eq_true.mpr ⟨f, hf, by simpa using hord⟩)

theorem State.onlyBlks_leave (s : State) (p : Nat) (k : Q) (e : QEntry) : onlyBlks s (s.leave p k e) := by
  rw [State.leave_eq]
  split <;> rfl

/-- What leaving changes of the state: the queues, and the count of replaced classes (R162). -/
theorem State.leave_edit (s : State) (p : Nat) (k : Q) (e : QEntry) :
    blkEdit s (s.leave p k e) p { s.blk p with q := (s.blk p).q.leave k e } [keyOf F.BLK_CMD_CLASS_SUBST p 0] := by
  have hregs : regsBut [keyOf F.BLK_CMD_CLASS_SUBST p 0] s (s.leave p k e) := by
    rw [State.leave_eq]
    split
    · exact regsBut_wrAt s _ p _ 0 _
    · exact regsBut_of_regs rfl
  rw [← s.leave_blk_same p k e]
  exact blkEdit_of_onlyBlks (s.onlyBlks_leave p k e) (fun _ hq => s.leave_blk_ne p k e hq) hregs

/-- What acceptance by the front end of the arrays changes: the ramp, and the count of its cycles (R94, R96). -/
theorem State.mxAccept_edit (s : State) (p : Nat) :
    blkEdit s (s.mxAccept p) p { s.blk p with mx := { (s.blk p).mx with ramp := rampTaken s p } } [keyOf F.BLK_MX_BALLAST_CYCLES p 0] := by
  refine ⟨?_, (s.mxOnly_mxAccept p).others, s.mxAccept_blk_same p, ?_⟩ <;> unfold State.mxAccept <;> split
  · split <;> rfl
  · rfl
  · split
    · exact regsBut_cycles s p F.BLK_MX_BALLAST_CYCLES
    · exact regsBut_of_regs rfl
  · exact regsBut_of_regs rfl

theorem tookHead_of_queues {t u : State} (h : tookHead s t p k e) (hq : (u.blk p).q = (t.blk p).q) : tookHead s u p k e := by
  unfold tookHead State.ec at *
  rwa [hq]

/-- A command in flight is marked as started: the queues and the counters are as before. -/
theorem tookHead_onInFlight_started {t : State} (h : tookHead s t p k e) (n : Nat) :
    tookHead s (t.onInFlight p n (fun f => { f with started := true })) p k e := by
  obtain ⟨hentries, hothers, hec, f, hf, hord, hcmd, hq, hdone⟩ := h
  unfold State.onInFlight
  refine ⟨?_, fun j hj => ?_, fun m => ?_, ?_⟩
  · rw [State.onQ_blk_same, ← hentries]
    cases k <;> rfl
  · rw [State.onQ_blk_same, ← hothers j hj]
    cases j <;> rfl
  · rw [← hec, State.ec, State.onQ_blk_same]
    rfl
  · rw [State.onQ_blk_same]
    refine ⟨_, List.mem_map_of_mem hf, ?_⟩
    split <;> exact ⟨hord, hcmd, hq, hdone⟩

/-- A head leaves and is marked as started. -/
def State.leaveStarted (s : State) (p : Nat) (k : Q) (e : QEntry) : State := (s.leave p k e).onInFlight p e.ord fun f => { f with started := true }

theorem State.leaveStarted_edit (s : State) (p : Nat) (k : Q) (e : QEntry) :
    ∃ q, blkEdit s (s.leaveStarted p k e) p { s.blk p with q := q } [keyOf F.BLK_CMD_CLASS_SUBST p 0] := by
  have hedit := (s.leave_edit p k e).trans (blkEdit_onBlk (s.leave p k e) p fun b => { b with q :=
    { b.q with inflight := b.q.inflight.map fun x => if x.ord = e.ord then { x with started := true } else x } })
  rw [s.leave_blk_same p k e] at hedit
  exact ⟨_, hedit⟩

theorem tookHead_leave (s : State) (p : Nat) (k : Q) (e : QEntry) : tookHead s (s.leave p k e) p k e :=
  tookHead_of_leave (by rw [State.leave_blk_same])

theorem tookHead_leaveStarted (s : State) (p : Nat) (k : Q) (e : QEntry) : tookHead s (s.leaveStarted p k e) p k e :=
  tookHead_onInFlight_started (tookHead_leave s p k e) e.ord

end

/-! ### MLOAD and MDRAIN (R76, R94) -/

section
variable {s : State} {p : Nat} {e : QEntry}

theorem execMload_of_headLeaves (h : headLeaves s p .mxq e) (hop : EC.opcode e.cmd = 0x10) :
    exec (.mload p) s = .next ((s.leave p .mxq e).mxAccept p) := by
  rw [exec_mload, execMload, onUnit_of_lt h.1, State.takeHead_of_headLeaves h hop]

theorem execMdrain_of_headLeaves (h : headLeaves s p .mxq e) (hop : EC.opcode e.cmd = 0x12) :
    exec (.mdrain p) s = .next ((s.leave p .mxq e).mxAccept p) := by
  rw [exec_mdrain, execMdrain, onUnit_of_lt h.1, State.takeHead_of_headLeaves h hop]

theorem State.accept_edit (s : State) (p : Nat) (e : QEntry) : blkEdit s ((s.leave p .mxq e).mxAccept p) p
    { s.blk p with q := (s.blk p).q.leave .mxq e, mx := { (s.blk p).mx with ramp := rampTaken s p } }
    [keyOf F.BLK_CMD_CLASS_SUBST p 0, keyOf F.BLK_MX_BALLAST_CYCLES p 0] := by
  have hedit := (s.leave_edit p .mxq e).trans (State.mxAccept_edit (s.leave p .mxq e) p)
  rwa [State.leave_rampTaken, State.leave_blk_same] at hedit

end

/-! ### VLAUNCH (R169, R182, R183) -/

/-- The free slots of Block p, lowest first. -/
def State.freeSlots (s : State) (p : Nat) : List Nat := (List.range 16).filter (fun g => (s.grp p g).isNone)

/-- Group y is the i-th one that the launch e starts, in the state in which it starts. -/
structure launched (e : QEntry) (i : Nat) (y : Group) : Prop where
  num : y.num = i
  pc : y.pc = EC.fld e.cmd 4 0 16
  active : y.active = BitVec.allOnes 32
  exited : y.exited = 0

theorem launched_newGroup (s : State) (e : QEntry) (i : Nat) : launched e i (newGroup s e i) := ⟨rfl, rfl, rfl, rfl⟩

theorem SMap.mem_keys_of_find {α : Type} {k : Nat} {m : SMap α} (h : (SMap.find k m).isSome = true) : k ∈ m.map Prod.fst := by
  induction m with
  | nil => cases h
  | cons x m ih =>
    rw [SMap.find] at h
    split at h
    case isTrue hk => exact hk ▸ .head _
    case isFalse => exact .tail _ (ih h)

/-- Every slot that is not in use is free. -/
theorem State.length_freeSlots (s : State) (p : Nat) : 16 ≤ (s.blk p).usedSlots + (s.freeSlots p).length := by
  have hused : ((List.range 16).filter fun g => (s.grp p g).isSome).length ≤ (s.blk p).usedSlots := by
    rw [Block.usedSlots, ← List.length_map (as := (s.blk p).vx) Prod.fst]
    refine (List.nodup_range.filter _).subperm (fun g hg => ?_) |>.length_le
    exact SMap.mem_keys_of_find (List.mem_filter.mp hg).2
  have hall := List.length_eq_length_filter_add (l := List.range 16) fun g => (s.grp p g).isNone
  simp only [Option.not_isNone, List.length_range] at hall
  rw [State.freeSlots]
  omega

/-- The groups 0 to n - 1 of a launch are put into the first n of the slots listed. -/
def State.putGroups (s : State) (p : Nat) (e : QEntry) (slots : List Nat) (n : Nat) : State :=
  forN n s fun s i => s.setGrp p (slots.getD i 0) (newGroup s e i)

section
variable {s : State} {p : Nat} {e : QEntry} {slots : List Nat}

theorem State.putGroups_succ (s : State) (p : Nat) (e : QEntry) (slots : List Nat) (n : Nat) : s.putGroups p e slots (n + 1) =
    (s.putGroups p e slots n).setGrp p (slots.getD n 0) (newGroup (s.putGroups p e slots n) e n) := forN_succ n s _

theorem State.putGroups_edit (s : State) (p : Nat) (e : QEntry) (slots : List Nat) (n : Nat) :
    ∃ vx, blkEdit s (s.putGroups p e slots n) p { s.blk p with vx := vx } [] := by
  induction n with
  | zero => exact ⟨(s.blk p).vx, rfl, fun _ _ => rfl, rfl, regsBut_of_regs rfl⟩
  | succ n ih =>
    obtain ⟨vx, hedit⟩ := ih
    have hset := hedit.trans (blkEdit_onBlk _ p fun b => { b with vx := SMap.put (slots.getD n 0) (newGroup (s.putGroups p e slots n) e n) b.vx })
    rw [hedit.blk] at hset
    rw [State.putGroups_succ]
    exact ⟨_, hset⟩

theorem State.setGrp_grp_same (s : State) (p g : Nat) (x : Group) : (s.setGrp p g x).grp p g = some x := by
  rw [State.grp, State.setGrp, State.onBlk_blk_same, SMap.find_put_same]

theorem State.setGrp_grp_ne (s : State) (p : Nat) {g h : Nat} (hne : h ≠ g) (x : Group) : (s.setGrp p g x).grp p h = s.grp p h := by
  rw [State.grp, State.setGrp, State.onBlk_blk_same, SMap.find_put_ne hne, State.grp]

/-- Slots that differ each hold their group. -/
theorem State.putGroups_grp (hnodup : slots.Nodup) {n : Nat} (hn : n ≤ slots.length) {i : Nat} (hi : i < n) :
    ∃ y, (s.putGroups p e slots n).grp p (slots.getD i 0) = some y ∧ launched e i y := by
  induction n with
  | zero => exact absurd hi (Nat.not_lt_zero i)
  | succ n ih =>
    rw [State.putGroups_succ]
    rcases Nat.lt_succ_iff_lt_or_eq.mp hi with hlt | rfl
    · have hne : slots.getD i 0 ≠ slots.getD n 0 := by
        rw [List.getD_eq_getElem _ _ (by omega), List.getD_eq_getElem _ _ (by omega), ne_eq, hnodup.getElem_inj_iff]
        omega
      rw [State.setGrp_grp_ne _ _ hne]
      exact ih (by omega) hlt
    · exact ⟨_, State.setGrp_grp_same _ _ _ _, launched_newGroup _ e i⟩

/-- The launch of n groups by the head e: it leaves, its groups fill the first free slots, and the idle cycles before it are counted. -/
def State.launch (s : State) (p : Nat) (e : QEntry) (n : Nat) : State :=
  ((s.leaveStarted p .vxq e).putGroups p e (s.freeSlots p) n).cycles F.BLK_VX_IDLE p

theorem State.launch_edit (s : State) (p : Nat) (e : QEntry) (n : Nat) :
    ∃ q vx, blkEdit s (s.launch p e n) p { s.blk p with q := q, vx := vx } [keyOf F.BLK_CMD_CLASS_SUBST p 0, keyOf F.BLK_VX_IDLE p 0] := by
  obtain ⟨q, hleave⟩ := s.leaveStarted_edit p .vxq e
  obtain ⟨vx, hgroups⟩ := State.putGroups_edit (s.leaveStarted p .vxq e) p e (s.freeSlots p) n
  have hedit := (hleave.trans hgroups).trans (blkEdit_cycles _ p F.BLK_VX_IDLE)
  rw [hgroups.blk, hleave.blk] at hedit
  exact ⟨q, vx, hedit⟩

theorem tookHead_launch (s : State) (p : Nat) (e : QEntry) (n : Nat) : tookHead s (s.launch p e n) p .vxq e := by
  obtain ⟨vx, hgroups⟩ := State.putGroups_edit (s.leaveStarted p .vxq e) p e (s.freeSlots p) n
  exact tookHead_of_queues (tookHead_leaveStarted s p .vxq e) (congrArg Block.q hgroups.blk :)

/-- The i-th group of a launch that fits stands in the i-th free slot. -/
theorem State.launch_grp {n : Nat} (hn : n ≤ (s.freeSlots p).length) {i : Nat} (hi : i < n) :
    ∃ g y, (s.freeSlots p)[i]? = some g ∧ (s.launch p e n).grp p g = some y ∧ launched e i y := by
  obtain ⟨y, hy, hlaunched⟩ := State.putGroups_grp (s := s.leaveStarted p .vxq e) (p := p) (e := e) (List.nodup_range.filter _) hn hi
  refine ⟨_, y, ?_, hy, hlaunched⟩
  rw [List.getElem?_eq_getElem (by omega)]
  exact congrArg some (List.getD_eq_getElem _ _ (by omega)).symm

/-- A launch whose size and entry are legal fills the first free slots. -/
theorem execVlaunch_of_headLeaves (h : headLeaves s p .vxq e) (hop : EC.opcode e.cmd = 0x20) (hpos : 0 < EC.fld e.cmd 6 0 5)
    (hle : EC.fld e.cmd 6 0 5 ≤ 16) (hentry : EC.fld e.cmd 4 0 16 % 8 = 0) :
    exec (.vlaunch p) s = .next (s.launch p e (EC.fld e.cmd 6 0 5)) := by
  obtain ⟨q, hedit⟩ := s.leaveStarted_edit p .vxq e
  have hslots : (s.leaveStarted p .vxq e).freeSlots p = s.freeSlots p := by
    simp only [State.freeSlots, State.grp, hedit.blk]
  rw [exec_vlaunch, execVlaunch, onUnit_of_lt h.1, State.takeHead_of_headLeaves h hop, State.launch, ← hslots]
  exact congrArg _ (if_neg (by omega))

theorem le_length_freeSlots_of_headLeaves (h : headLeaves s p .vxq e) (hop : EC.opcode e.cmd = 0x20) (hle : EC.fld e.cmd 6 0 5 ≤ 16) :
    EC.fld e.cmd 6 0 5 ≤ (s.freeSlots p).length := by
  obtain ⟨-, -, -, -, -, -, -, -, htakes, -⟩ := h
  have hfit : (s.blk p).usedSlots + EC.fld e.cmd 6 0 5 ≤ 16 := by
    rw [State.unitTakes, hop] at htakes
    rcases Bool.or_eq_true_iff.mp htakes with hbig | hfit
    · exact absurd (of_decide_eq_true hbig) (by omega)
    · exact of_decide_eq_true hfit
  have hlength := s.length_freeSlots p
  omega

end

/-! ### SFENCE (R176) -/

theorem execSfence_of_headLeaves {s : State} {p : Nat} {e : QEntry} (h : headLeaves s p .sxq e) (hop : EC.opcode e.cmd = 0x40) :
    exec (.sfence p) s = .next (s.leaveStarted p .sxq e) := by
  rw [exec_sfence, execSfence, onUnit_of_lt h.1, State.takeHead_of_headLeaves h hop]
  rfl

/-- Settles O20: the head leaves, and then the ramp rises, the groups fill free slots, or nothing more happens. -/
theorem queueHeadsLeaveInOrder : Obligations.QueueHeadsLeaveInOrder := by
  intro s p e r hr h hop hpass hcopy hlegal
  simp only [takeRows, List.mem_cons, List.not_mem_nil, or_false] at hr
  have haccept := s.accept_edit p e
  have haccepted : tookHead s ((s.leave p .mxq e).mxAccept p) p .mxq e := tookHead_of_leave (by rw [haccept.blk])
  rcases hr with rfl | rfl | rfl | rfl | rfl | rfl
  case inl =>
    refine ⟨_, execMload_of_headLeaves h hop, haccept.only, haccept.others, haccepted, ?_, ?_, ?_, regsBut.mono haccept.regs (by simp), nofun⟩ <;>
      rw [haccept.blk] <;> simp
  case inr.inl => exact absurd rfl hpass
  case inr.inr.inl =>
    refine ⟨_, execMdrain_of_headLeaves h hop, haccept.only, haccept.others, haccepted, ?_, ?_, ?_, regsBut.mono haccept.regs (by simp), nofun⟩ <;>
      rw [haccept.blk] <;> simp
  case inr.inr.inr.inl =>
    obtain ⟨hpos, hle, hentry⟩ := hlegal rfl
    obtain ⟨q, vx, hlaunch⟩ := s.launch_edit p e (EC.fld e.cmd 6 0 5)
    refine ⟨_, execVlaunch_of_headLeaves h hop hpos hle hentry, hlaunch.only, hlaunch.others, tookHead_launch s p e _, ?_, ?_, nofun,
      regsBut.mono hlaunch.regs (by simp), fun _ i hi => ?_⟩
    · rw [hlaunch.blk]
    · rw [hlaunch.blk]
      rfl
    · obtain ⟨g, y, hg, hy, hnum, hpc, hactive, hexited⟩ := State.launch_grp (le_length_freeSlots_of_headLeaves h hop hle) hi
      exact ⟨g, y, hg, hy, hnum, hpc, hactive, hexited⟩
  case inr.inr.inr.inr.inl => exact absurd rfl hcopy
  case inr.inr.inr.inr.inr =>
    obtain ⟨q, hleave⟩ := s.leaveStarted_edit p .sxq e
    refine ⟨_, execSfence_of_headLeaves h hop, hleave.only, hleave.others, tookHead_leaveStarted s p .sxq e, ?_, ?_, ?_,
      regsBut.mono hleave.regs (by simp), nofun⟩ <;> rw [hleave.blk] <;> simp

end Sys2Proof.Machine
end

section
/-! PROOFS. Heads that are discarded, completion and POST, barriers, and a Block's frame end (R37, R156, R160, R161, R164, R165, R176 to R179). -/

namespace Sys2Proof.Machine
open Sys2Proof Sys2Proof.Claims

/-! ### Heads that are discarded (R160, R161) -/

section
variable {s : State} {p : Nat} {k : Q} {e : QEntry} (hstop : (s.blk p).q.stopped = false) (hrun : (s.blk p).core.running = true)
  (hhead : (s.blk p).q.entries k = e :: ((s.blk p).q.entries k).tail) (hfresh : ∀ f ∈ (s.blk p).q.inflight, f.ord ≠ e.ord)
include hstop hrun hhead hfresh

theorem State.takeHead_of_checkFail (hcheck : EC.checkOk e.cmd = false) (op : Nat) (act : State → QEntry → State) :
    s.takeHead p k op act = s.checkFail p k := by
  rw [State.takeHead_of_fresh hstop hrun hhead hfresh, if_pos hcheck]

theorem State.takeHead_of_malformed (hcheck : EC.checkOk e.cmd = true) (hqueue : EC.queueOf (EC.opcode e.cmd) ≠ some k) (op : Nat)
    (act : State → QEntry → State) : s.takeHead p k op act = s.malformed p k := by
  rw [State.takeHead_of_fresh hstop hrun hhead hfresh, if_neg (by simp [hcheck]), if_pos hqueue]

end

/-! ### Completion (R156, R164, R165) -/

theorem State.cmdReady_eq_completes (s : State) (p : Nat) : s.cmdReady p = completes s p := by
  funext f
  unfold State.cmdReady completes
  split
  case h_1 h => simp [h]
  case h_2 h => simp [h]
  case h_3 h => simp [h]
  case h_4 hlaunch hfence hend => rw [if_neg hlaunch, if_neg hfence, if_neg hend]

/-- The queues of a Block once command f has completed, before its POST. -/
def Queues.complete (q : Queues) (f : InFlight) : Queues :=
  let q := { q with inflight := q.inflight.filter (fun x => x.ord != f.ord) }
  let q := if f.q = .sxq then { q with sxq := q.sxq.tail, atBarrier := none } else q
  if EC.opcode f.cmd = 0x41 then
    if EC.fld f.cmd 5 0 1 = 0 then { q with barChip := satAdd 65535 q.barChip 1 } else { q with barDist := satAdd 65535 q.barDist 1 }
  else q

section
variable (q : Queues) (f : InFlight)

theorem Queues.complete_inflight : (q.complete f).inflight = q.inflight.filter (fun x => x.ord != f.ord) := by
  unfold Queues.complete
  split_ifs <;> rfl

theorem Queues.complete_ec : (q.complete f).ec = q.ec := by
  unfold Queues.complete
  split_ifs <;> rfl

theorem Queues.complete_sxq (h : f.q = .sxq) : (q.complete f).sxq = q.sxq.tail := by
  unfold Queues.complete
  split_ifs <;> rfl

end

/-- From s to t the queues of Block p change, and of the registers at most those listed. -/
structure queueEdit (s t : State) (p : Nat) (q : Queues) (ks : List Nat) : Prop where
  only : onlyBlks s t
  others : blksBut p s t
  blk : t.blk p = { s.blk p with q := q }
  regs : regsBut ks s t

theorem queueEdit_onQ (s : State) (p : Nat) (f : Queues → Queues) (ks : List Nat) : queueEdit s (s.onQ p f) p (f (s.blk p).q) ks :=
  ⟨rfl, fun _ h => s.onQ_blk_ne h f, s.onQ_blk_same p f, regsBut_of_regs rfl⟩

theorem queueEdit.trans {s t u : State} {p : Nat} {q r : Queues} {ks ls : List Nat} (h : queueEdit s t p q ks) (k : queueEdit t u p r ls) :
    queueEdit s u p r (ks ++ ls) :=
  ⟨onlyBlks.trans h.only k.only, blksBut.trans h.others k.others, by rw [k.blk, h.blk], regsBut.trans h.regs k.regs⟩

/-- A POST changes its event counter, or where that is full the count of saturated ones. -/
theorem State.postEc_edit (s : State) (p n : Nat) : ∃ ec, queueEdit s (s.postEc p n) p { (s.blk p).q with ec := ec } [keyOf F.BLK_EC_SATURATED p 0]
    ∧ ∀ m, ec.get m 0 = if m = n ∧ s.ec p n ≠ 65535 then s.ec p n + 1 else s.ec p m := by
  by_cases hfull : s.ec p n = 65535
  · refine ⟨(s.blk p).q.ec, ?_, fun m => (if_neg fun h => h.2 hfull).symm⟩
    rw [State.postEc, if_pos hfull]
    exact ⟨rfl, fun _ _ => rfl, rfl, regsBut_wrAt s _ p _ 0 _⟩
  · refine ⟨SMap.put n (s.ec p n + 1) (s.blk p).q.ec, ?_, fun m => ?_⟩
    · rw [State.postEc, if_neg hfull]
      exact queueEdit_onQ s p _ _
    · by_cases hm : m = n
      · rw [hm, SMap.get_put_same, if_pos ⟨rfl, hfull⟩]
      · rw [SMap.get_put_ne hm, if_neg fun h => hm h.1]
        rfl

/-- The state once command f of Block p has completed. -/
def State.complete (s : State) (p : Nat) (f : InFlight) : State :=
  if EC.post f.cmd then (s.onQ p (·.complete f)).postEc p (EC.postEc f.cmd) else s.onQ p (·.complete f)

theorem State.complete_edit (s : State) (p : Nat) (f : InFlight) :
    ∃ ec, queueEdit s (s.complete p f) p { (s.blk p).q.complete f with ec := ec } [keyOf F.BLK_EC_SATURATED p 0]
      ∧ ∀ n, ec.get n 0 = if EC.post f.cmd = true ∧ n = EC.postEc f.cmd ∧ s.ec p n ≠ 65535 then s.ec p n + 1 else s.ec p n := by
  have hec (n : Nat) : (s.onQ p (·.complete f)).ec p n = s.ec p n := by
    rw [State.ec, State.onQ_blk_same, Queues.complete_ec, State.ec]
  have hleft := queueEdit_onQ s p (·.complete f) []
  unfold State.complete
  split
  case isTrue hpost =>
    obtain ⟨ec, hedit, hcount⟩ := State.postEc_edit (s.onQ p (·.complete f)) p (EC.postEc f.cmd)
    rw [State.onQ_blk_same] at hedit
    refine ⟨ec, hleft.trans hedit, fun n => ?_⟩
    rw [hcount, hec, hec]
    by_cases hn : n = EC.postEc f.cmd
    · simp [hn, hpost]
    · simp [hn]
  case isFalse hpost => exact ⟨((s.blk p).q.complete f).ec, queueEdit_onQ s p _ _, fun n => by rw [if_neg fun h => hpost h.1, Queues.complete_ec, State.ec]⟩

theorem execCommandComplete_of_ready {s : State} {p k : Nat} {f : InFlight} (hp : p < nBlks) (hrun : (s.blk p).core.running = true)
    (hready : (firstOfUnit ((s.blk p).q.inflight.filter (completes s p)))[k]? = some f) : exec (.commandComplete p k) s = .next (s.complete p f) := by
  rw [exec_commandComplete, execCommandComplete, onUnit_of_lt hp, if_neg (by simp [hrun]), State.cmdReady_eq_completes, hready]
  rfl

/-- Settles O22: a head is checked before anything else; a completion is a change of the queues and then the POST. -/
theorem queueHeadsAreCheckedAndCommandsComplete : Obligations.QueueHeadsAreCheckedAndCommandsComplete := by
  refine ⟨fun s p e r hr hp hstop hrun hhead hfresh => ?_, fun s p k f hp hrun hready => ?_⟩
  · obtain ⟨act, hexec⟩ := exec_of_mem_takeRows (s := s) hp hr
    refine ⟨fun hcheck => ?_, fun hcheck hqueue => ?_⟩
    · rw [hexec, State.takeHead_of_checkFail hstop hrun hhead hfresh hcheck, State.checkFail]
    · rw [hexec, State.takeHead_of_malformed hstop hrun hhead hfresh hcheck hqueue, State.malformed]
  · obtain ⟨ec, hedit, hcount⟩ := s.complete_edit p f
    refine ⟨_, execCommandComplete_of_ready hp hrun hready, hedit.only, hedit.others, ?_, fun n => ?_, fun hq => ?_, ?_, hedit.regs⟩
    · rw [hedit.blk, ← Queues.complete_inflight]
    · rw [State.ec, hedit.blk, hcount]
    · rw [hedit.blk, ← Queues.complete_sxq _ f hq]
    · rw [hedit.blk]

/-! ### Barriers (R176 to R178) -/

section
variable {s : State} {p : Nat} {f : InFlight}

/-- The queues of a Block whose BARRIER f arrives: f is started, and the Block waits. -/
def Queues.arrive (q : Queues) (f : InFlight) : Queues :=
  { q with inflight := q.inflight.map (fun x => if x.ord = f.ord then { x with started := true } else x), atBarrier := some (EC.fld f.cmd 5 0 1 == 0) }

theorem State.arrive_of_drained (hnext : ((s.blk p).held 0x41).find? (fun f => !f.started) = some f)
    (hdrained : s.drained p f.ord (EC.fld f.cmd 4 0 3) = true) : ∃ t, s.arrive p = t ∧ t = { counted s F.BLK_BAR_WAIT p with blks := t.blks }
      ∧ blksBut p s t ∧ (t.blk p).q = (s.blk p).q.arrive f := by
  refine ⟨_, rfl, ?_⟩
  rw [State.arrive, hnext]
  dsimp only
  rw [if_pos hdrained]
  have harrive := (queueEdit_onQ s p (fun q => { q with inflight := (q.arrive f).inflight }) []).trans
    (queueEdit_onQ _ p (fun q => { q with atBarrier := (q.arrive f).atBarrier }) [])
  rw [State.onQ_blk_same] at harrive
  exact ⟨rfl, harrive.others, (congrArg Block.q harrive.blk :)⟩

theorem execBarrier_of_inFlight (hp : p < nBlks) (hrun : (s.blk p).core.running = true)
    (hflight : ∀ e, (s.blk p).q.sxq.head? = some e → ∃ f ∈ (s.blk p).q.inflight, f.ord = e.ord) :
    exec (.barrier p) s = .next (s.arrive p) := by
  rw [exec_barrier, execBarrier, onUnit_of_lt hp, State.takeHead_of_inFlight (k := .sxq) hflight]
  exact congrArg _ (if_pos hrun)

theorem execFrameEnd_of_drained (hp : p < nBlks) (hrun : (s.blk p).core.running = true)
    (hflight : ∀ e, (s.blk p).q.sxq.head? = some e → ∃ f ∈ (s.blk p).q.inflight, f.ord = e.ord) (hhead : ((s.blk p).held 0x42).head? = some f)
    (hdrained : s.drained p f.ord 7 = true) (hquiet : s.blkQuiet p = true) :
    exec (.frameEnd p) s = .next (s.onQ p (fun q => { q with ended := true })) := by
  rw [exec_frameEnd, execFrameEnd, onUnit_of_lt hp, State.takeHead_of_inFlight (k := .sxq) hflight]
  dsimp only
  rw [hhead]
  exact congrArg _ (if_pos ⟨hrun, hdrained, hquiet⟩)

end

/-- The same change of the queues of several Blocks. -/
theorem State.onQs_spec (f : Queues → Queues) {P : Queues → Prop} (hf : ∀ q, P (f q)) (ps : List Nat) (s : State) :
    let t := ps.foldl (fun s p => s.onQ p f) s
    onlyBlks s t ∧ t.regs = s.regs ∧ (∀ p ∈ ps, P (t.blk p).q) ∧ ∀ p, p ∉ ps → t.blk p = s.blk p := by
  induction ps generalizing s with
  | nil => exact ⟨rfl, rfl, nofun, fun _ _ => rfl⟩
  | cons p ps ih =>
    obtain ⟨honly, hregs, hin, hout⟩ := ih (s.onQ p f)
    refine ⟨onlyBlks.trans (t := s.onQ p f) rfl honly, hregs, fun r hr => ?_, fun r hr => ?_⟩
    · by_cases hrest : r ∈ ps
      · exact hin r hrest
      · obtain rfl : r = p := (List.mem_cons.mp hr).resolve_right hrest
        rw [List.foldl_cons, hout r hrest, State.onQ_blk_same]
        exact hf _
    · rw [List.mem_cons, not_or] at hr
      rw [List.foldl_cons, hout r hr.2, State.onQ_blk_ne _ hr.1]

/-- The queues of a Block that a barrier releases. -/
def Queues.release (q : Queues) : Queues :=
  { q with atBarrier := none, inflight := q.inflight.map (fun f => if EC.opcode f.cmd = 0x41 ∧ f.started = true then { f with done := true } else f) }

/-- No Block waits any more, and its BARRIER is done. -/
def Queues.released (q : Queues) : Prop := q.atBarrier = none ∧ ∀ f ∈ q.inflight, EC.opcode f.cmd = 0x41 → f.started = true → f.done = true

theorem Queues.released_release (q : Queues) : q.release.released := by
  refine ⟨rfl, fun f hf hop hstarted => ?_⟩
  obtain ⟨g, -, hg⟩ := List.mem_map.mp hf
  by_cases h : EC.opcode g.cmd = 0x41 ∧ g.started = true
  · rw [if_pos h] at hg
    rw [← hg]
  · rw [if_neg h] at hg
    exact absurd (hg ▸ ⟨hop, hstarted⟩) h

theorem execBarrierRelease_of_all {s : State} {chip : Bool} {d n : Nat} (hd : d < nDist) {ps : List Nat}
    (hps : ps = if chip then s.enabledBlks else s.blksOf d) (hne : ps ≠ [])
    (hall : ∀ p ∈ ps, (s.blk p).q.atBarrier = some chip ∧ (if chip then (s.blk p).q.barChip else (s.blk p).q.barDist) = n) :
    exec (.barrierRelease chip d) s = .next (ps.foldl (fun s p => s.onQ p Queues.release) s) := by
  have hfirst : ps.headD 0 ∈ ps := by
    cases ps with
    | nil => exact absurd rfl hne
    | cons p ps => exact .head _
  rw [exec_barrierRelease, execBarrierRelease, onUnit_of_lt hd]
  dsimp only
  rw [← hps, if_pos]
  · rfl
  · refine ⟨hne, List.all_eq_true.mpr fun p hp => ?_⟩
    rw [(hall p hp).1, (hall p hp).2, (hall _ hfirst).2, beq_self_eq_true, beq_self_eq_true, Bool.true_and]

/-- Settles O23: arrival marks the command and counts the wait, release goes by the Blocks of the scope in turn, frame end sets one flag. -/
theorem barriersAndFrameEnd : Obligations.BarriersAndFrameEnd := by
  intro s
  refine ⟨fun p f hp hrun hflight hnext hdrained => ?_, fun chip d n hd => ?_, fun p f hp hrun hflight hhead hdrained hquiet => ?_⟩
  · obtain ⟨t, ht, honly, hothers, hq⟩ := State.arrive_of_drained hnext hdrained
    exact ⟨t, ht ▸ execBarrier_of_inFlight hp hrun hflight, honly, hothers, congrArg Queues.atBarrier hq, congrArg Queues.inflight hq⟩
  · intro ps hne hall
    obtain ⟨honly, hregs, hin, hout⟩ := State.onQs_spec Queues.release Queues.released_release ps s
    exact ⟨_, execBarrierRelease_of_all hd rfl hne hall, honly, hregs, hin, hout⟩
  · exact ⟨_, execFrameEnd_of_drained hp hrun hflight hhead hdrained hquiet, rfl, rfl, fun q hq => s.onQ_blk_ne hq _, s.onQ_blk_same p _⟩

end Sys2Proof.Machine
end

section
/-! PROOFS. DCOPY (R158, R169, R170, R290): its reads and writes leave the queues alone, and a row within scratchpad arrives as it was read. -/

namespace Sys2Proof.Machine
open Sys2Proof Sys2Proof.Claims

/-! ### The queues of the Blocks -/

/-- The command queues of each Block. -/
def State.queues (s : State) : Nat → Queues := fun q => (s.blk q).q

theorem State.queues_of_besideMem {s t : State} (h : t.besideMem = s.besideMem) : t.queues = s.queues :=
  funext fun q => (congrArg Block.q (congrFun h q) :)

/-- A fold whose steps each keep the queues of the state that they carry. -/
theorem State.queues_foldl {α β : Type} {f : State × β → α → State × β} (h : ∀ x a, (f x a).1.queues = x.1.queues) (xs : List α) (x : State × β) :
    (xs.foldl f x).1.queues = x.1.queues := by
  induction xs generalizing x with
  | nil => rfl
  | cons a xs ih => rw [List.foldl_cons, ih, h]

theorem State.queues_imemWrite (s : State) (p a : Nat) (bs : List Byte) : (s.imemWrite p a bs).queues = s.queues := by
  unfold State.imemWrite
  dsimp only
  split
  · funext q
    rw [State.queues, State.queues, State.imWrite]
    by_cases hq : q = p
    · rw [hq, State.onBlk_blk_same]
    · rw [State.onBlk_blk_ne _ _ _ _ hq]
  · rfl

/-! ### The source at a context address (R290, R292) -/

section
variable (s : State) (p : Nat) (u : Accessor)

@[simp] theorem State.besideMem_streamPrefetch (d a : Nat) : (s.streamPrefetch p u d a).besideMem = s.besideMem := by
  unfold State.streamPrefetch
  split
  · split
    · split
      · exact State.besideMem_offer _ _ _
      · rfl
    · rfl
  · rfl
  · rfl

@[simp] theorem State.besideMem_pieceRead (a n : Nat) (fs : CmdFaults) : (s.pieceRead u a n fs).1.besideMem = s.besideMem := by
  unfold State.pieceRead
  split
  · rfl
  · exact s.besideMem_access _

@[simp] theorem State.besideMem_dmaReads (depth : Nat) (es : List (Nat × Nat)) (fs : CmdFaults) :
    (State.dmaReads p u depth es s fs).1.besideMem = s.besideMem := by
  induction es generalizing s fs with
  | nil => rfl
  | cons e es ih =>
    obtain ⟨a, k⟩ := e
    rw [State.dmaReads]
    refine (ih _ _).trans ((State.besideMem_pieceRead _ u a k fs).trans ?_)
    split
    · split
      · rfl
      · exact s.besideMem_streamPrefetch p u _ _
    · rfl

@[simp] theorem State.besideMem_dmaSource (base stride rows n : Nat) : (s.dmaSource p u base stride rows n).1.besideMem = s.besideMem := by
  unfold State.dmaSource
  dsimp only
  rw [State.besideMem_dmaReads]
  split
  · exact State.besideMem_foldl (fun t x => t.besideMem_streamPrefetch p u _ _) _ s
  · rfl

end

/-! ### The copy (R170) -/

/-- The source of a copy in scratchpad, row after row. -/
def State.spSource (s : State) (p ord : Nat) (c : Cmd) : State × List Byte :=
  (List.range (DC.rows c)).foldl (fun (acc : State × List Byte) r =>
    ((acc.1.spGet p (spDma ord) (DC.src c + 32 * r * DC.srcStride c) (DC.rowBytes c)).1,
      acc.2 ++ (acc.1.spGet p (spDma ord) (DC.src c + 32 * r * DC.srcStride c) (DC.rowBytes c)).2)) (s, [])

/-- The source of a copy: its bytes, row after row, and the faults that its reads meet. -/
def State.copySource (s : State) (p ord : Nat) (c : Cmd) (u : Accessor) : State × List Byte × CmdFaults :=
  if DC.srcKind c = 1 then s.dmaSource p u (DC.src c) (DC.srcStride c) (DC.rows c) (DC.rowBytes c)
  else ((s.spSource p ord c).1, (s.spSource p ord c).2, [])

/-- One row of a copy is written at its destination. -/
def State.copyRow (s : State) (p ord : Nat) (c : Cmd) (u : Accessor) (fs : CmdFaults) (r : Nat) (bs : List Byte) : State × CmdFaults :=
  match DC.dstKind c with
  | 0 => (s.spPut p (spDma ord) (DC.dst c + 32 * r * DC.dstStride c) bs, fs)
  | 1 => s.ctxWrite u (redOp (DC.redop c)) (DC.dst c + 32 * r * DC.dstStride c) bs fs
  | _ => (s.imemWrite p (DC.dst c + 32 * r * DC.dstStride c) bs, fs)

section
variable (s : State) (p ord : Nat) (c : Cmd) (u : Accessor)

/-- A copy reads its source, then writes its rows, and then reports its faults. -/
theorem State.doCopy_eq : s.doCopy p ord c u =
    let x := s.copySource p ord c u
    let y := (List.range (DC.rows c)).foldl (fun (acc : State × CmdFaults) r =>
      acc.1.copyRow p ord c u acc.2 r ((x.2.1.drop (r * DC.rowBytes c)).take (DC.rowBytes c))) (x.1, x.2.2)
    y.1.cmdFaults p ord (pageIdx .blk p) y.2 := by
  unfold State.doCopy State.copySource
  split <;> rfl

theorem State.queues_spSource : (s.spSource p ord c).1.queues = s.queues := by
  unfold State.spSource
  rw [State.queues_foldl]
  exact fun x r => State.queues_of_besideMem (State.besideMem_of_spView (x.1.spView_spGet p _ _ _))

theorem State.queues_copySource : (s.copySource p ord c u).1.queues = s.queues := by
  unfold State.copySource
  split
  · exact State.queues_of_besideMem (s.besideMem_dmaSource p u _ _ _ _)
  · exact s.queues_spSource p ord c

theorem State.queues_copyRow (fs : CmdFaults) (r : Nat) (bs : List Byte) : (s.copyRow p ord c u fs r bs).1.queues = s.queues := by
  unfold State.copyRow
  split
  · exact State.queues_of_besideMem (s.besideMem_spPut p _ _ _)
  · exact State.queues_of_besideMem (s.besideMem_ctxWrite u _ _ _ fs)
  · exact s.queues_imemWrite p _ bs

theorem State.spView_cmdFaults (page : Nat) (fs : CmdFaults) : (s.cmdFaults p ord page fs).spView p = s.spView p := by
  unfold State.cmdFaults
  rw [State.spView_foldl]
  exact fun t f => t.spView_faultOnce p ord _ _ _

theorem State.queues_doCopy : (s.doCopy p ord c u).queues = s.queues := by
  rw [State.doCopy_eq]
  dsimp only
  rw [State.queues_of_besideMem (State.besideMem_of_spView (State.spView_cmdFaults _ p ord _ _)),
    State.queues_foldl (fun x r => x.1.queues_copyRow p ord c u x.2 r _), State.queues_copySource]

end

section
variable {s : State} {p ord : Nat} {c : Cmd}

theorem unitReads_length (s : State) (p : Nat) (u : SpUnit) (a n : Nat) : (unitReads s p u a n).length = n := by
  rw [unitReads, List.length_map, List.length_range]

theorem State.spSource_of_row (hrows : DC.rows c = 1) : s.spSource p ord c =
    ((s.spGet p (spDma ord) (DC.src c) (DC.rowBytes c)).1, unitReads s p (spDma ord) (DC.src c) (DC.rowBytes c)) := by
  rw [State.spSource, hrows, List.range_one, List.foldl_cons, List.foldl_nil, ← State.spGet_snd]
  simp only [Nat.mul_zero, Nat.zero_mul, Nat.add_zero, List.nil_append]

theorem State.copyRow_of_spad (hdst : DC.dstKind c = 0) (u : Accessor) (fs : CmdFaults) (r : Nat) (bs : List Byte) :
    s.copyRow p ord c u fs r bs = (s.spPut p (spDma ord) (DC.dst c + 32 * r * DC.dstStride c) bs, fs) := by
  rw [State.copyRow, hdst]
  rfl

/-- A copy of one row within scratchpad is a read and a write. -/
theorem State.doCopy_of_row (hrows : DC.rows c = 1) (hsrc : DC.srcKind c = 0) (hdst : DC.dstKind c = 0) (u : Accessor) :
    s.doCopy p ord c u = (s.spGet p (spDma ord) (DC.src c) (DC.rowBytes c)).1.spPut p (spDma ord) (DC.dst c)
      (unitReads s p (spDma ord) (DC.src c) (DC.rowBytes c)) := by
  have hsource : s.copySource p ord c u = ((s.spGet p (spDma ord) (DC.src c) (DC.rowBytes c)).1,
      unitReads s p (spDma ord) (DC.src c) (DC.rowBytes c), []) := by
    rw [State.copySource, if_neg (by omega), State.spSource_of_row hrows]
  rw [State.doCopy_eq, hsource, hrows, List.range_one]
  simp only [List.foldl_cons, List.foldl_nil, State.copyRow_of_spad hdst, Nat.mul_zero, Nat.zero_mul, Nat.add_zero, List.drop_zero,
    List.take_of_length_le (unitReads_length s p (spDma ord) _ _).le]
  rfl

/-- Bytes that a unit is served at both ends arrive as they were read. -/
theorem State.spByte_spPut_unitReads {t : State} {u : SpUnit} {a b n : Nat} (hface : t.spFace p = s.spFace p) (hn : n ≤ 2 ^ 20)
    (hinj : (s.blk p).sp.inject = 0)
    (hserved : ∀ i < n, s.spServes p (s.spPlaceOf p (a + i)).1 u = true ∧ s.spServes p (s.spPlaceOf p (b + i)).1 u = true) {i : Nat} (hi : i < n) :
    (t.spPut p u b (unitReads s p u a n)).spByte p (b + i) = s.spByte p (a + i) := by
  have hlength := unitReads_length s p u a n
  have hstored : storedTo p t (t.spPut p u b (unitReads s p u a n)) (bytesAt b (unitReads s p u a n)) := by
    refine State.storedTo_spPut (fun j hj => ?_) (by rw [State.sp_of_spFace hface, hinj])
    rw [State.spServed_of_spFace hface]
    exact (hserved j (by omega)).2
  have hread : (unitReads s p u a n).getD i 0 = s.spByte p (a + i) := by
    rw [List.getD_eq_getElem _ _ (by omega)]
    simp only [unitReads, List.getElem_map, List.getElem_range, (hserved i hi).1, if_true]
  rw [← hread]
  exact hstored.spByte_of_mem (mem_bytesAt.mpr ⟨i, by omega, rfl⟩) (pairwise_bytesAt (by omega))

end

/-! ### DCOPY -/

/-- What a DCOPY makes of the state in which it has left its queue. -/
def State.copied (s : State) (p ord : Nat) (c : Cmd) (u : Accessor) : State :=
  if DC.rows c = 0 ∨ DC.rowBytes c = 0 then s else if DC.ok c then s.doCopy p ord c u else s.undefinedCmd p u (spDma ord)

theorem State.queues_copied (s : State) (p ord : Nat) (c : Cmd) (u : Accessor) : (s.copied p ord c u).queues = s.queues := by
  unfold State.copied
  split
  · rfl
  · split
    · exact s.queues_doCopy p ord c u
    · exact State.queues_of_besideMem (s.besideMem_undefinedCmd p u _)

theorem execDcopy_of_headLeaves {s : State} {p : Nat} {e : QEntry} {run : Run} (h : headLeaves s p .dxq e) (hop : EC.opcode e.cmd = 0x30)
    (hrun : s.plaza.run = some run) : ∃ u, exec (.dcopy p) s = .next (((s.leave p .dxq e).copied p e.ord e.cmd u).cmdDone p e.ord) := by
  have huser : (s.leave p .dxq e).plaza.run = some run := by
    rw [← hrun, (s.leave_edit p .dxq e).only]
  rw [exec_dcopy, execDcopy, onUnit_of_lt h.1, State.takeHead_of_headLeaves h hop, State.cmdUser, huser]
  exact ⟨_, rfl⟩

theorem State.cmdDone_dxq (s : State) (p n : Nat) : ((s.cmdDone p n).blk p).q.dxq = (s.blk p).q.dxq := by
  rw [State.cmdDone, State.onQ_blk_same]

/-- Settles O27: the copy leaves the queues alone, and a row within scratchpad is one read and one write of the same bytes. -/
theorem dcopyMovesBytes : Obligations.DcopyMovesBytes := by
  intro s p e run h hop hrun
  have hleave := s.leave_edit p .dxq e
  have hface : (s.leave p .dxq e).spFace p = s.spFace p := s.leave_spFace p .dxq e
  obtain ⟨u, hexec⟩ := execDcopy_of_headLeaves h hop hrun
  refine ⟨_, hexec, isDone_cmdDone _ p e.ord, ?_, fun hnone => ?_, fun hrows hsrc hdst hok hend _ hinj hserved i hi => ?_⟩
  · have hq : (((s.leave p .dxq e).copied p e.ord e.cmd u).blk p).q = ((s.leave p .dxq e).blk p).q := congrFun (State.queues_copied _ p e.ord e.cmd u) p
    rw [State.cmdDone_dxq, hq, hleave.blk]
    exact (s.blk p).q.leave_entries .dxq .dxq e
  · rw [State.copied, if_pos hnone]
    refine ⟨onlyBlks.trans (s.onlyBlks_leave p .dxq e) rfl, ?_, ?_⟩ <;> rw [State.cmdDone_blk_same, hleave.blk]
  · have hserves (j : Nat) (hj : j < DC.rowBytes e.cmd) := (hserved j hj).2.2
    have hsome : ¬ (DC.rows e.cmd = 0 ∨ DC.rowBytes e.cmd = 0) := by omega
    rw [State.copied, if_neg hsome, if_pos hok, State.doCopy_of_row hrows hsrc hdst, unitReads_of_spFace hface,
      State.spByte_of_spFace (State.cmdDone_spFace _ p e.ord)]
    exact State.spByte_spPut_unitReads ((State.spFace_of_spView (State.spView_spGet _ p _ _ _)).trans hface) (by omega) hinj hserves hi

end Sys2Proof.Machine
end

section
/-! PROOFS. Thread groups (R182 to R190): lanes and masks, what writes of registers and predicates make of a group, and when an instruction issues. -/

namespace Sys2Proof

theorem SMap.put_put {α : Type} (k : Nat) (v w : α) (m : SMap α) : SMap.put k v (SMap.put k w m) = SMap.put k v m := by
  induction m with
  | nil => simp [SMap.put]
  | cons e m ih =>
    obtain ⟨a, u⟩ := e
    rcases Nat.lt_trichotomy k a with h | h | h
    · simp [SMap.put, h]
    · simp [SMap.put, h]
    · simp [SMap.put, h.not_gt, h.ne, ih]

end Sys2Proof

namespace Sys2Proof.Machine
open Sys2Proof Sys2Proof.Claims

/-! ### Lanes (R187) -/

theorem mem_lanesOf {m : BitVec 32} {l : Nat} : l ∈ lanesOf m ↔ m.getLsbD l = true := by
  rw [lanesOf, List.mem_filter, List.mem_range, and_iff_right_iff_imp]
  exact BitVec.lt_of_getLsbD

/-- A lane stands in the mask of a list of lanes where the list has it. -/
theorem getLsbD_laneMask (ls : List Nat) {l : Nat} (hl : l < 32) : (laneMask ls).getLsbD l = decide (l ∈ ls) := by
  have hfold (m : BitVec 32) : (ls.foldl (fun m l => m ||| (1#32 <<< l)) m).getLsbD l = (m.getLsbD l || decide (l ∈ ls)) := by
    induction ls generalizing m with
    | nil => simp
    | cons k ks ih =>
      have hbit : (1#32 <<< k).getLsbD l = decide (l = k) := by
        rw [BitVec.getLsbD_shiftLeft, BitVec.getLsbD_one, decide_eq_true hl, Bool.eq_iff_iff]
        simp
        omega
      rw [List.foldl_cons, ih, BitVec.getLsbD_or, hbit]
      simp [Bool.or_assoc]
  simpa [laneMask] using hfold 0

/-- The lanes that take part (R187), ascending. -/
def Group.parts (x : Group) (w : Nat) : List Nat := (List.range 32).filter (fun l => takesPart x w l)

theorem Group.mem_parts {x : Group} {w l : Nat} : l ∈ x.parts w ↔ l < 32 ∧ takesPart x w l = true := by
  rw [Group.parts, List.mem_filter, List.mem_range]

theorem Group.getLsbD_guarded (x : Group) (w l : Nat) : (x.guarded w).getLsbD l = takesPart x w l := by
  by_cases hl : l < 32
  · rw [Group.guarded, getLsbD_laneMask _ hl, Bool.eq_iff_iff, decide_eq_true_iff, List.mem_filter, mem_lanesOf, takesPart, Bool.and_eq_true]
  · rw [BitVec.getLsbD_of_ge _ _ (by omega), takesPart, BitVec.getLsbD_of_ge _ _ (by omega), Bool.false_and]

/-- The guard-true lanes of an instruction are those that take part. -/
theorem Group.lanesOf_guarded (x : Group) (w : Nat) : lanesOf (x.guarded w) = x.parts w :=
  congrArg (List.filter · _) (funext (x.getLsbD_guarded w))

/-! ### Registers and predicates of a lane (R183) -/

theorem Group.t_setT (x : Group) (l r v k q : Nat) (hr : r < 64) (hq : q < 64) :
    (x.setT l r v).t k q = if k = l ∧ q = r then v % 2 ^ 32 else x.t k q := by
  unfold Group.t Group.setT
  by_cases h : k = l ∧ q = r
  · obtain ⟨rfl, rfl⟩ := h
    rw [if_pos ⟨rfl, rfl⟩, SMap.get_put_same, BitVec.toNat_ofNat]
  · rw [if_neg h, SMap.get_put_ne (by omega)]

theorem Group.q_setQ (x : Group) (l r k q : Nat) (v : Bool) (hr : r < 8) (hq : q < 8) :
    (x.setQ l r v).q k q = if k = l ∧ q = r ∧ q ≠ 0 then v else x.q k q := by
  unfold Group.q Group.setQ
  by_cases hq0 : q = 0
  · simp [hq0]
  · by_cases hr0 : r = 0
    · rw [if_pos hr0, if_neg hq0, if_neg (by omega)]
    · rw [if_neg hr0, if_neg hq0, if_neg hq0]
      by_cases h : k = l ∧ q = r
      · obtain ⟨rfl, rfl⟩ := h
        rw [if_pos ⟨rfl, rfl, hq0⟩, SMap.get_put_same]
      · rw [if_neg (fun hk => h ⟨hk.1, hk.2.1⟩), SMap.get_put_ne (by omega)]

/-- A group with registers written in turn: lane, register and value of each write. -/
def Group.setTs (x : Group) (es : List (Nat × Nat × Nat)) : Group := es.foldl (fun y e => y.setT e.1 e.2.1 e.2.2) x

section
variable (x : Group)

/-- Writes of registers change nothing else of a group. -/
theorem Group.setTs_eq (es : List (Nat × Nat × Nat)) : x.setTs es = { x with treg := (x.setTs es).treg } := by
  induction es generalizing x with
  | nil => rfl
  | cons e es ih => exact ih (x.setT e.1 e.2.1 e.2.2)

/-- A register that no write reaches. -/
theorem Group.t_setTs_of_ne {es : List (Nat × Nat × Nat)} {l r : Nat} (hr : r < 64) (hes : ∀ e ∈ es, e.2.1 < 64)
    (h : ∀ e ∈ es, ¬ (e.1 = l ∧ e.2.1 = r)) : (x.setTs es).t l r = x.t l r := by
  induction es generalizing x with
  | nil => rfl
  | cons e es ih =>
    refine (ih (x.setT e.1 e.2.1 e.2.2) (fun f hf => hes f (.tail _ hf)) fun f hf => h f (.tail _ hf)).trans ?_
    rw [Group.t_setT _ _ _ _ _ _ (hes e (.head _)) hr, if_neg fun hk => h e (.head _) ⟨hk.1.symm, hk.2.symm⟩]

/-- A register that writes of one value reach. -/
theorem Group.t_setTs_of_mem {es : List (Nat × Nat × Nat)} {l r v : Nat} (hes : ∀ e ∈ es, e.2.1 < 64) (hmem : (l, r, v) ∈ es)
    (huniq : ∀ e ∈ es, e.1 = l → e.2.1 = r → e.2.2 = v) : (x.setTs es).t l r = v % 2 ^ 32 := by
  have hr : r < 64 := hes _ hmem
  induction es generalizing x with
  | nil => exact absurd hmem List.not_mem_nil
  | cons e es ih =>
    by_cases hlater : (l, r, v) ∈ es
    · exact ih (x.setT e.1 e.2.1 e.2.2) (fun f hf => hes f (.tail _ hf)) hlater fun f hf => huniq f (.tail _ hf)
    · obtain rfl : (l, r, v) = e := (List.mem_cons.mp hmem).resolve_right hlater
      refine (Group.t_setTs_of_ne (x.setT l r v) hr (fun f hf => hes f (.tail _ hf)) fun f hf hsame => hlater ?_).trans ?_
      · obtain ⟨a, b, c⟩ := f
        obtain ⟨rfl, rfl⟩ := hsame
        obtain rfl : c = v := huniq _ (.tail _ hf) rfl rfl
        exact hf
      · rw [Group.t_setT _ _ _ _ _ _ hr hr, if_pos ⟨rfl, rfl⟩]

/-- Writes of the same registers, from d on, in each of some lanes. -/
def laneWrites (ls : List Nat) (d n : Nat) (v : Nat → Nat → Nat) : List (Nat × Nat × Nat) :=
  ls.flatMap fun l => (List.range n).map fun i => (l, d + i, v l i)

theorem mem_laneWrites {ls : List Nat} {d n : Nat} {v : Nat → Nat → Nat} {e : Nat × Nat × Nat} :
    e ∈ laneWrites ls d n v ↔ ∃ l ∈ ls, ∃ i < n, e = (l, d + i, v l i) := by
  simp only [laneWrites, List.mem_flatMap, List.mem_map, List.mem_range, eq_comm]

/-- The registers of some lanes after writes from d on. -/
theorem Group.t_setTs_laneWrites {ls : List Nat} {d n : Nat} (v : Nat → Nat → Nat) (hd : d + n ≤ 64) {l r : Nat} (hr : r < 64) :
    (x.setTs (laneWrites ls d n v)).t l r = if l ∈ ls ∧ d ≤ r ∧ r < d + n then v l (r - d) % 2 ^ 32 else x.t l r := by
  have hes : ∀ e ∈ laneWrites ls d n v, e.2.1 < 64 := fun e he => by
    obtain ⟨k, -, i, hi, rfl⟩ := mem_laneWrites.mp he
    dsimp only
    omega
  split
  case isTrue h =>
    obtain ⟨hl, hlo, hhi⟩ := h
    refine x.t_setTs_of_mem hes (mem_laneWrites.mpr ⟨l, hl, r - d, by omega, by rw [Nat.add_sub_cancel' hlo]⟩) fun e he hk hq => ?_
    obtain ⟨k, -, i, -, rfl⟩ := mem_laneWrites.mp he
    dsimp only at hk hq ⊢
    rw [hk, ← hq, Nat.add_sub_cancel_left]
  case isFalse h =>
    refine x.t_setTs_of_ne hr hes fun e he hsame => h ?_
    obtain ⟨k, hk, i, hi, rfl⟩ := mem_laneWrites.mp he
    obtain ⟨rfl, rfl⟩ := hsame
    exact ⟨hk, by simp, by simpa using hi⟩

/-- Registers written in each of some lanes in turn. -/
theorem Group.foldl_laneWrites (ls : List Nat) (d n : Nat) (v : Nat → Nat → Nat) :
    ls.foldl (fun y l => (List.range n).foldl (fun y i => y.setT l (d + i) (v l i)) y) x = x.setTs (laneWrites ls d n v) := by
  simp only [Group.setTs, laneWrites, List.foldl_flatMap, List.foldl_map]

/-- One register written in each of some lanes. -/
theorem Group.foldl_setT (ls : List Nat) (d : Nat) (v : Nat → Nat) :
    ls.foldl (fun y l => y.setT l d (v l)) x = x.setTs (laneWrites ls d 1 fun l _ => v l) :=
  x.foldl_laneWrites ls d 1 fun l _ => v l

/-- One predicate written in each of some lanes. -/
theorem Group.foldl_setQ (ls : List Nat) {d : Nat} (v : Nat → Bool) (hd : d < 8) :
    let y := ls.foldl (fun y l => y.setQ l d (v l)) x
    y = { x with qreg := y.qreg } ∧ ∀ l r, r < 8 → y.q l r = if l ∈ ls ∧ r = d ∧ r ≠ 0 then v l else x.q l r := by
  induction ls generalizing x with
  | nil => exact ⟨rfl, fun _ _ _ => rfl⟩
  | cons k ks ih =>
    obtain ⟨heq, hq⟩ := ih (x.setQ k d (v k))
    constructor
    · have hset (q : SMap Bool) : ({ x.setQ k d (v k) with qreg := q } : Group) = { x with qreg := q } := by
        unfold Group.setQ
        split <;> rfl
      exact heq.trans (hset _)
    · intro l r hr
      refine (hq l r hr).trans ?_
      rw [Group.q_setQ _ _ _ _ _ _ hd hr]
      by_cases hl : l = k
      · subst hl
        by_cases hr : r = d ∧ r ≠ 0
        · rw [if_pos (c := l = l ∧ _) ⟨rfl, hr⟩, ite_self, if_pos ⟨.head _, hr⟩]
        · simp only [hr, and_false, if_false]
      · simp only [List.mem_cons, hl, false_or, false_and, if_false]

end

/-! ### Issue (R187, R190) -/

section
variable {s : State} {p g : Nat} {op : VecOp} {x : Group}

/-- An instruction that is ready issues, unless something holds it. -/
theorem vecStepIf_of_ready (h : vecReady s p g op x) (hold : State → Group → Nat → BitVec 32 → Option State)
    (body : State → Group → Nat → BitVec 32 → State) (hnone : hold s x (vecWord s p x) (x.guarded (vecWord s p x)) = none) :
    vecStepIf p g op hold body s = .next (body (s.inc F.BLK_VX_ISSUED p 0) x (vecWord s p x) (x.guarded (vecWord s p x))) := by
  obtain ⟨hp, hgrp, hrun, hstop, hactive, hclean, hdec, hloads, -⟩ := h
  have hacts : ¬ ((s.blk p).core.running = false ∨ (s.blk p).vxStopped = true ∨ x.active = 0 ∨ VX.decode (vecWord s p x) ≠ some op) := by
    rw [vecWord, hrun, hstop, hdec]
    simpa using hactive
  have hfree : ¬ (x.loads.any (fun l => (List.range (VX.szRegs l.sz)).any fun i => (VX.uses op (vecWord s p x)).contains (l.d + i))) = true := by
    simpa [vecWord] using hloads
  rw [vecWord] at *
  rw [vecStepIf, onUnit_of_lt hp, hgrp]
  dsimp only
  rw [if_neg hacts, if_neg hfree, hnone, State.fetchErr_of_clean hclean]

theorem vecStep_of_ready (h : vecReady s p g op x) (body : State → Group → Nat → BitVec 32 → State) :
    vecStep p g op body s = .next (body (s.inc F.BLK_VX_ISSUED p 0) x (vecWord s p x) (x.guarded (vecWord s p x))) :=
  vecStepIf_of_ready h _ body rfl

end

section
variable {s u : State} {p g : Nat} {y : Group}

/-- A group with a next word in the live half goes on to it. -/
theorem State.setGrp_vecNext (u : State) (p g : Nat) (hpc : y.pc + 8 < 0x1_0000) : (u.setGrp p g y).vecNext p g = u.setGrp p g { y with pc := y.pc + 8 } := by
  have hgrp : (u.setGrp p g y).grp p g = some y := u.setGrp_grp_same p g y
  rw [State.vecNext, hgrp]
  dsimp only
  rw [if_pos hpc, State.setGrp, State.setGrp, State.onBlk, State.onBlk_blk_same]
  simp only [State.setGrp, State.onBlk, State.setBlk, SMap.put_put]

theorem keyOf_issued_ne {f : Fld} (hp : f.page = .blk) (hf : f.off * 64 + f.lo ≠ F.BLK_VX_ISSUED.off * 64 + F.BLK_VX_ISSUED.lo) (p : Nat) :
    keyOf F.BLK_VX_ISSUED p 0 ≠ keyOf f p 0 := by
  rw [keyOf, keyOf, hp]
  exact (keyAt_ne_of_place hf .blk p).symm

/-- An instruction that changes its group alone, and counters. -/
theorem groupBecomes_setGrp {ks : List Nat} (honly : onlyRegs (s.inc F.BLK_VX_ISSUED p 0) u) (hregs : regsBut ks (s.inc F.BLK_VX_ISSUED p 0) u)
    (hissued : keyOf F.BLK_VX_ISSUED p 0 ∉ ks) (y : Group) : groupBecomes s (u.setGrp p g y) p g y ks := by
  have hblk : u.blk p = s.blk p := by
    rw [blk_of_onlyRegs honly]
    rfl
  refine ⟨?_, fun q hq => ?_, ?_, regsBut.trans (regsBut_wrAt s .blk p F.BLK_VX_ISSUED 0 _) hregs, ?_⟩
  · rw [onlyRegs] at honly
    rw [honly]
    rfl
  · rw [State.setGrp, State.onBlk_blk_ne _ _ _ _ hq, blk_of_onlyRegs honly]
    rfl
  · rw [State.setGrp, State.onBlk_blk_same, hblk]
  · exact (hregs _ _ _ _ hissued).trans (s.rd_inc_same F.BLK_VX_ISSUED p 0 1 (by decide))

end

end Sys2Proof.Machine
end

section
/-! PROOFS. The vector engine's rows that write the lanes (R185 to R189), and GMMA (R204, R205). -/

namespace Sys2Proof.Machine
open Sys2Proof Sys2Proof.Claims

/-! ### Fields of an instruction word (R186) -/

theorem VX.d_lt (w : Nat) : VX.d w < 64 := Nat.mod_lt _ (by decide)

/-- What a legal word of an operation says beside its code. -/
theorem VX.legal_of_decode {w : Nat} {op : VecOp} (h : VX.decode w = some op) :
    (op = .gmma → VX.d w % 2 = 0) ∧ (op = .ld → VX.fmtM w (VX.d w) = true) ∧ (op = .red → VX.sp w = 1) := by
  unfold VX.decode at h
  extract_lets on at h
  have hon {c : Bool} {o : VecOp} (hc : on c o = some op) : c = true ∧ o = op := by
    cases c
    · cases hc
    · exact ⟨rfl, Option.some.inj hc⟩
  clear_value on
  split at h
  case h_39 => cases h
  all_goals
    obtain ⟨hc, rfl⟩ := hon h
    simp_all

/-! ### Registers that the rows read, under the counters of a Block (R12, R185) -/

section
variable {s : State} {p : Nat} {f : Fld} (hf : f.page = .blk)
include hf

/-- A counter of a Block is no field of a page below the Blocks' pages. -/
theorem State.rd_inc_of_below {h : Fld} {u i : Nat} (hbelow : keyAt h.page u h i < 0x20_0000 * 64) (n : Nat) :
    (s.inc f p 0 n).rd h u i = s.rd h u i := by
  refine State.rd_wr_ne _ _ _ _ _ _ _ _ (ne_of_lt (hbelow.trans_le ?_))
  rw [hf]
  simp only [keyAt, pageBase]
  omega

theorem State.rd_inc_dist {h : Fld} (hp : h.page = .dist) (hh : h.off = 0x100 ∧ h.stride = 4 ∧ h.bcount = 1 ∧ h.lo < 64) {d i : Nat} (hd : d < nDist)
    (hi : i < 32) (n : Nat) : (s.inc f p 0 n).rd h d i = s.rd h d i := by
  refine State.rd_inc_of_below hf ?_ n
  obtain ⟨hoff, hstride, hcount, hlo⟩ := hh
  have hdist : d < 16 := hd
  rw [keyAt, hp, hoff, hstride, hcount, Nat.div_one, Nat.mod_one]
  simp only [pageBase]
  omega

theorem State.logicalAll_inc (n : Nat) : (s.inc f p 0 n).logicalAll = s.logicalAll := by
  refine congrArg List.sum (List.map_congr_left fun d hd => congrArg List.length (List.filter_congr fun i hi => ?_))
  rw [State.rd_inc_dist hf rfl (by decide) (List.mem_range.mp hd) (List.mem_range.mp hi)]

theorem State.logOf_inc {q : Nat} (hq : q < nBlks) (n : Nat) : (s.inc f p 0 n).logOf q = s.logOf q := by
  have hphys {i : Nat} (hi : i ∈ List.range 32) : (s.inc f p 0 n).phys (32 * distOf q + i) = s.phys (32 * distOf q + i) := by
    have hi' := List.mem_range.mp hi
    have hdist : (32 * distOf q + i) / 32 < nDist := by
      simp only [nDist, nBlks, distOf] at *
      omega
    rw [State.phys, State.rd_inc_dist hf rfl (by decide) hdist (Nat.mod_lt _ (by decide)),
      State.rd_inc_dist hf rfl (by decide) hdist (Nat.mod_lt _ (by decide)), State.phys]
  rw [State.logOf, State.logOf]
  refine congrArg (Option.map _) (List.find?_congr fun i hi => ?_)
  rw [hphys hi]

theorem State.rdid_inc {q : Nat} (hq : q < nBlks) (k n : Nat) : (s.inc f p 0 n).rdid q k = s.rdid q k := by
  unfold State.rdid
  rw [State.logOf_inc hf hq, State.logicalAll_inc hf]
  rfl

end

/-! ### Rows that write a register or a predicate -/

section
variable {s : State} {p g : Nat} {op : VecOp} {x : Group}

/-- An instruction that gives each lane that takes part a value in t[D]. -/
theorem vecAlu_of_ready (h : vecReady s p g op x) {f : State → Group → Nat → Nat → Nat} {v : Nat → Nat}
    (hv : ∀ l, f (s.inc F.BLK_VX_ISSUED p 0) x (vecWord s p x) l = v l) :
    ∃ t y, vecAlu p g op f s = .next t ∧ groupBecomes s t p g y [] ∧ lanesTake x y (vecWord s p x) (VX.d (vecWord s p x)) v := by
  have hd := VX.d_lt (vecWord s p x)
  have hpc : x.pc + 8 < 0x1_0000 := h.2.2.2.2.2.2.2.2
  rw [vecAlu, vecStep_of_ready h]
  simp only [hv, x.lanesOf_guarded, x.foldl_setT]
  have hput := x.setTs_eq (laneWrites (x.parts (vecWord s p x)) (VX.d (vecWord s p x)) 1 fun l _ => v l)
  generalize hy : x.setTs _ = y at hput
  rw [State.setGrp_vecNext _ p g (by rw [hput]; exact hpc)]
  refine ⟨_, _, rfl, groupBecomes_setGrp (u := s.inc F.BLK_VX_ISSUED p 0) rfl (fun _ _ _ _ _ => rfl) List.not_mem_nil _, by rw [hput], fun l r hl hr => ?_⟩
  change y.t l r = _
  rw [← hy, x.t_setTs_laneWrites _ (by omega) hr]
  refine if_congr ?_ rfl rfl
  rw [Group.mem_parts]
  constructor
  · exact fun ⟨⟨_, htakes⟩, hlo, hhi⟩ => ⟨htakes, by omega⟩
  · exact fun ⟨htakes, heq⟩ => ⟨⟨hl, htakes⟩, by omega⟩

/-- An instruction that gives each lane that takes part a predicate q[D[2:0]]. -/
theorem vecPred_of_ready (h : vecReady s p g op x) {f : Group → Nat → Nat → Bool} {v : Nat → Bool} (hv : ∀ l, f x (vecWord s p x) l = v l) :
    ∃ t y, vecPred p g op f s = .next t ∧ groupBecomes s t p g y [] ∧ lanesTakeQ x y (vecWord s p x) (VX.d (vecWord s p x) % 8) v := by
  have hpc : x.pc + 8 < 0x1_0000 := h.2.2.2.2.2.2.2.2
  obtain ⟨hput, hq⟩ := x.foldl_setQ (x.parts (vecWord s p x)) v (Nat.mod_lt (VX.d (vecWord s p x)) (y := 8) (by decide))
  rw [vecPred, vecStep_of_ready h]
  simp only [hv, x.lanesOf_guarded]
  generalize List.foldl _ x _ = y at hput hq ⊢
  rw [State.setGrp_vecNext _ p g (by rw [hput]; exact hpc)]
  refine ⟨_, _, rfl, groupBecomes_setGrp (u := s.inc F.BLK_VX_ISSUED p 0) rfl (fun _ _ _ _ _ => rfl) List.not_mem_nil _, by rw [hput], fun l r hl hr => ?_⟩
  refine (hq l r hr).trans (if_congr ?_ rfl rfl)
  rw [Group.mem_parts, and_iff_right hl]

end

/-- A row's command gives each lane the row's value, as the model computes it from the group and from fields that the count of issued instructions is not
among. -/
def writesLanes (s : State) (p g : Nat) (x : Group) (r : Instr × VecOp × (Nat → Nat)) : Prop :=
  ∃ f : State → Group → Nat → Nat → Nat, exec r.1 s = vecAlu p g r.2.1 f s
    ∧ ∀ l, f (s.inc F.BLK_VX_ISSUED p 0) x (vecWord s p x) l = r.2.2 l

section
variable {s : State} {p g : Nat} {x : Group} {i : Instr} {op : VecOp} {v : Nat → Nat}

theorem writesLanes_of_vecAlu {f : State → Group → Nat → Nat → Nat} (hexec : exec i s = vecAlu p g op f s)
    (hv : ∀ l, f (s.inc F.BLK_VX_ISSUED p 0) x (vecWord s p x) l = v l) : writesLanes s p g x (i, op, v) :=
  ⟨f, hexec, hv⟩

theorem writesLanes_of_vecRR {f : Nat → Nat → Nat → Nat} (hexec : exec i s = vecRR p g op f s)
    (hv : ∀ l, f (VX.t (vecWord s p x)) (x.t l (VX.a (vecWord s p x))) (x.t l (VX.b (vecWord s p x))) = v l) : writesLanes s p g x (i, op, v) :=
  ⟨_, hexec, hv⟩

theorem writesLanes_of_vecFF {f : FVal → FVal → FVal → FVal} (hexec : exec i s = vecFF p g op f s)
    (hv : ∀ l, vecF (VX.t (vecWord s p x)) f (x.t l (VX.a (vecWord s p x))) (x.t l (VX.b (vecWord s p x))) (x.t l (VX.c (vecWord s p x))) = v l) :
    writesLanes s p g x (i, op, v) :=
  ⟨_, hexec, hv⟩

theorem writesLanes_of_vecSpecial {fn : SpecialFn} {f : Word → Word} (hexec : exec i s = vecSpecial p g op fn f s) :
    writesLanes s p g x (i, op, fun l => specialF fn (x.t l (VX.a (vecWord s p x))) (f (BitVec.ofNat 32 (x.t l (VX.a (vecWord s p x)))))) :=
  ⟨_, hexec, fun _ => rfl⟩

end

theorem writesLanes_vecIntRows (s : State) {p : Nat} (hp : p < nBlks) (g : Nat) (x : Group) :
    ∀ r ∈ vecIntRows s p g x (vecWord s p x), writesLanes s p g x r := by
  have hvote : lanesOf (x.guarded (vecWord s p x)) = x.parts (vecWord s p x) := x.lanesOf_guarded _
  simp only [vecIntRows, List.forall_mem_cons]
  refine ⟨writesLanes_of_vecRR (exec_iadd p g s) fun _ => rfl, writesLanes_of_vecRR (exec_isub p g s) fun _ => rfl,
    writesLanes_of_vecRR (exec_imul p g s) fun _ => rfl, writesLanes_of_vecAlu (exec_imad p g s) fun _ => rfl,
    writesLanes_of_vecRR (exec_vxAnd p g s) fun _ => rfl, writesLanes_of_vecRR (exec_vxOr p g s) fun _ => rfl,
    writesLanes_of_vecRR (exec_vxXor p g s) fun _ => rfl, writesLanes_of_vecRR (exec_shl p g s) fun _ => rfl,
    writesLanes_of_vecRR (exec_shr p g s) fun _ => ?_, writesLanes_of_vecRR (exec_vxMin p g s) fun _ => ?_,
    writesLanes_of_vecRR (exec_vxMax p g s) fun _ => ?_, writesLanes_of_vecAlu (exec_sel p g s) fun _ => rfl,
    writesLanes_of_vecAlu (exec_vxMovi p g s) fun _ => rfl, writesLanes_of_vecAlu (exec_iaddi p g s) fun _ => rfl,
    writesLanes_of_vecAlu (exec_vote p g s) fun _ => ?_, writesLanes_of_vecAlu (exec_shfl p g s) fun _ => rfl,
    writesLanes_of_vecAlu (exec_rdsr p g s) fun l => ?_, List.forall_mem_nil _⟩
  · simp only [beq_iff_eq]
  · simp only [beq_iff_eq]
  · simp only [beq_iff_eq]
  · rw [hvote, Group.parts, List.filter_filter]
    simp only [Bool.and_comm]
  · have hframe : (s.inc F.BLK_VX_ISSUED p 0).frame = s.rd F.TICK_FRAME_NUM_NUM := State.rd_inc_of_below rfl (by decide) 1
    simp only [State.rdid_inc (f := F.BLK_VX_ISSUED) rfl hp, State.logicalAll_inc (f := F.BLK_VX_ISSUED) rfl, hframe]
    rfl

theorem writesLanes_vecFloatRows (s : State) (p g : Nat) (x : Group) :
    ∀ r ∈ vecFloatRows p g x (vecWord s p x), writesLanes s p g x r := by
  simp only [vecFloatRows, List.forall_mem_cons]
  exact ⟨writesLanes_of_vecFF (exec_fadd p g s) fun _ => rfl, writesLanes_of_vecFF (exec_fmul p g s) fun _ => rfl,
    writesLanes_of_vecFF (exec_ffma p g s) fun _ => rfl, writesLanes_of_vecFF (exec_fmin p g s) fun _ => rfl,
    writesLanes_of_vecFF (exec_fmax p g s) fun _ => rfl, writesLanes_of_vecSpecial (exec_frcp p g s),
    writesLanes_of_vecSpecial (exec_frsq p g s), writesLanes_of_vecSpecial (exec_fexp2 p g s),
    writesLanes_of_vecSpecial (exec_flog2 p g s), writesLanes_of_vecAlu (exec_cvt p g s) fun _ => rfl, List.forall_mem_nil _⟩

/-- A row's command gives each lane the row's truth value. -/
def writesPreds (s : State) (p g : Nat) (x : Group) (r : Instr × VecOp × (Nat → Bool)) : Prop :=
  ∃ f : Group → Nat → Nat → Bool, exec r.1 s = vecPred p g r.2.1 f s ∧ ∀ l, f x (vecWord s p x) l = r.2.2 l

theorem writesPreds_vecPredRows (s : State) (p g : Nat) (x : Group) : ∀ r ∈ vecPredRows p g x (vecWord s p x), writesPreds s p g x r := by
  have hcode : VX.c (vecWord s p x) % 4 < 4 := Nat.mod_lt _ (by decide)
  simp only [vecPredRows, List.forall_mem_cons]
  refine ⟨⟨_, exec_setp p g s, fun _ => rfl⟩, ⟨_, exec_plop p g s, fun l => ?_⟩, List.forall_mem_nil _⟩
  dsimp only
  generalize VX.c (vecWord s p x) % 4 = code at hcode
  interval_cases code <;> rfl

/-- Settles O14: every row is a write of one register, or of one predicate, in each lane that takes part. -/
theorem vectorRowsWriteLanes : Obligations.VectorRowsWriteLanes := by
  intro s p g x w
  refine ⟨fun r hr hready => ?_, fun r hr hready => ?_⟩
  · have hrow : writesLanes s p g x r := (List.mem_append.mp hr).elim (writesLanes_vecIntRows s hready.1 g x r) (writesLanes_vecFloatRows s p g x r)
    obtain ⟨f, hexec, hv⟩ := hrow
    rw [hexec]
    exact vecAlu_of_ready hready hv
  · obtain ⟨f, hexec, hv⟩ := writesPreds_vecPredRows s p g x r hr
    rw [hexec]
    exact vecPred_of_ready hready hv

/-! ### GMMA (R204, R205) -/

theorem gmmaElem_eq_gmmaOperand (x : Group) (w r i k : Nat) : gmmaElem x (x.guarded w) (VX.t w) r i k = gmmaOperand x w r i k := by
  rw [gmmaElem, x.getLsbD_guarded, gmmaOperand]

/-- Settles O15: GMMA is a write of two registers in each lane that takes part. -/
theorem vectorMatrixProduct : Obligations.VectorMatrixProduct := by
  intro s p g x h w
  have hpc : x.pc + 8 < 0x1_0000 := h.2.2.2.2.2.2.2.2
  have heven : VX.d w % 2 = 0 := (VX.legal_of_decode h.2.2.2.2.2.2.1).1 rfl
  have hd := VX.d_lt w
  have hput := x.setTs_eq (laneWrites (x.parts w) (VX.d w) 2 (gmmaResult x w))
  have hvalue := fun l r => x.t_setTs_laneWrites (ls := x.parts w) (d := VX.d w) (n := 2) (l := l) (r := r) (gmmaResult x w) (by omega)
  have hexec : exec (.gmma p g) s = .next ((((s.inc F.BLK_VX_ISSUED p 0).inc F.BLK_VX_GMMA p 0).setGrp p g
      (x.setTs (laneWrites (x.parts w) (VX.d w) 2 (gmmaResult x w)))).vecNext p g) := by
    rw [exec_gmma, execGmma, vecStep_of_ready h, ← x.foldl_laneWrites, x.lanesOf_guarded]
    simp only [gmmaElem_eq_gmmaOperand]
    rfl
  generalize x.setTs _ = y at hput hvalue hexec
  rw [State.setGrp_vecNext _ p g (by rw [hput]; exact hpc)] at hexec
  have hkey := keyOf_issued_ne (f := F.BLK_VX_GMMA) rfl (by decide) p
  have hcount : (s.inc F.BLK_VX_ISSUED p 0).rd F.BLK_VX_GMMA p = s.rd F.BLK_VX_GMMA p := State.rd_wr_ne _ _ _ _ _ _ _ _ hkey.symm
  refine ⟨_, _, hexec, groupBecomes_setGrp (u := (s.inc F.BLK_VX_ISSUED p 0).inc F.BLK_VX_GMMA p 0) rfl (regsBut_wrAt _ .blk p F.BLK_VX_GMMA 0 _)
    (mt List.mem_singleton.mp hkey) _, ?_, by rw [hput], fun l r hl hr => ?_⟩
  · rw [← hcount]
    exact State.rd_inc_same _ F.BLK_VX_GMMA p 0 1 (by decide)
  · refine (hvalue l r hr).trans ?_
    rcases (by omega : r = VX.d w ∨ r = VX.d w + 1 ∨ (r ≠ VX.d w ∧ r ≠ VX.d w + 1 ∧ ¬ (VX.d w ≤ r ∧ r < VX.d w + 2))) with rfl | rfl | ⟨h0, h1, hout⟩
    · simp [Group.mem_parts, hl]
    · simp [Group.mem_parts, hl]
    · simp [h0, h1, hout]

end Sys2Proof.Machine
end

section
/-! PROOFS. Scratchpad accesses of the vector engine (R192 to R194, R211 to R214): what holds them back, the registers that a load fills, and the bytes
that a store leaves. -/

namespace Sys2Proof.Machine
open Sys2Proof Sys2Proof.Claims

/-! ### Bytes as numbers -/

theorem leNat_append (xs ys : List Byte) : leNat (xs ++ ys) = leNat xs + 2 ^ (8 * xs.length) * leNat ys := by
  induction xs with
  | nil => simp [leNat]
  | cons x xs ih =>
    rw [List.cons_append, leNat, ih, leNat, List.length_cons, Nat.mul_succ, pow_add]
    ring

/-- Bytes summed by their places. -/
theorem foldl_bytes_eq_leNat (f : Nat → Byte) (n : Nat) :
    (List.range n).foldl (fun v i => v + (f i).toNat * 2 ^ (8 * i)) 0 = leNat ((List.range n).map f) := by
  induction n with
  | zero => rfl
  | succ n ih =>
    rw [List.range_succ, List.foldl_append, ih, List.map_append, leNat_append, List.length_map, List.length_range]
    simp [leNat, Nat.mul_comm]

theorem bitsOf_mod_self (x lo w : Nat) : bitsOf x lo w % 2 ^ w = bitsOf x lo w := Nat.mod_mod _ _

/-! ### What holds a memory instruction back (R190, R214) -/

theorem mem_spSectorsOf {as : List Nat} {n k : Nat} : k ∈ spSectorsOf as n ↔ ∃ a ∈ as, ∃ i < n, (a + i) % 2 ^ 20 / 32 = k := by
  simp only [spSectorsOf, List.mem_eraseDups, List.mem_flatten, List.mem_map, exists_exists_and_eq_and, List.mem_range]

section
variable {s : State} {p g : Nat} {x : Group} {w : Nat}

theorem State.vecMemHold_of_ctx (hroom : x.inFlight < 8) (hsp : VX.sp w ≠ 0) (gm : BitVec 32) : s.vecMemHold p x w gm = none := by
  rw [State.vecMemHold, if_neg hroom.not_ge, if_neg hsp]

theorem State.vecMemHold_of_awake (hroom : x.inFlight < 8)
    (hawake : ∀ l ∈ x.parts w, ∀ i, i < VX.szBytes (VX.sz w) → s.spAsleep p (32 * ((x.spAddr w l + i) % 2 ^ 20 / 32)) 32 = []) :
    s.vecMemHold p x w (x.guarded w) = none := by
  have hnone : ((spSectorsOf ((x.parts w).map fun l => x.spAddr w l) (VX.szBytes (VX.sz w))).map fun k => s.spAsleep p (32 * k) 32).flatten = [] := by
    rw [List.flatten_eq_nil_iff]
    intro z hz
    obtain ⟨k, hk, rfl⟩ := List.mem_map.mp hz
    obtain ⟨a, ha, i, hi, rfl⟩ := mem_spSectorsOf.mp hk
    obtain ⟨l, hl, rfl⟩ := List.mem_map.mp ha
    exact hawake l hl i hi
  rw [State.vecMemHold, if_neg hroom.not_ge, x.lanesOf_guarded]
  dsimp only
  rw [hnone]
  split <;> rfl

/-! ### Loads (R193, R194) -/

/-- The registers that a legal access names are registers of the lane (R193). -/
theorem VX.szRegs_fits {w r : Nat} (h : VX.fmtM w r = true) (hr : r < 64) : r + VX.szRegs (VX.sz w) ≤ 64 := by
  simp only [VX.fmtM, Bool.and_eq_true, Bool.or_eq_true, beq_iff_eq, bne_iff_ne] at h
  obtain ⟨⟨-, h3⟩, h4⟩ := h
  unfold VX.szRegs
  split_ifs with hz3 hz4
  · have heven := h3.resolve_left (not_not.mpr hz3)
    omega
  · have hfour := h4.resolve_left (not_not.mpr hz4)
    omega
  · omega

/-- The bytes that a lane loads from scratchpad, as a number. -/
def State.laneRaw (s : State) (p : Nat) (x : Group) (w l : Nat) : Nat :=
  leNat ((List.range (VX.szBytes (VX.sz w))).map fun k =>
    if s.spServes p (s.spPlaceOf p (x.spAddr w l + k)).1 spVec then s.spByte p (x.spAddr w l + k) else 0)

theorem State.laneRaw_of_spFace {t : State} (h : t.spFace p = s.spFace p) (l : Nat) : t.laneRaw p x w l = s.laneRaw p x w l := by
  simp only [State.laneRaw, State.spServed_of_spFace h, State.spByte_of_spFace h]

/-- A load from scratchpad is a write of the lanes' registers, beside what the accesses count and report. -/
theorem State.vecLoadSp_eq (u : State) (p g : Nat) (x : Group) (w : Nat) : ∃ v : State, u.vecLoadSp p g x w (x.guarded w) =
    (v.setGrp p g (x.setTs (laneWrites (x.parts w) (VX.d w) (VX.szRegs (VX.sz w)) fun l i =>
      bitsOf (vecExtend (VX.sz w) (u.laneRaw p x w l)) (32 * i) 32))).vecNext p g := by
  have hbytes (l : Nat) : (List.range (VX.szBytes (VX.sz w))).foldl (fun v i => v + (if u.spServes p (u.spPlaceOf p (x.spAddr w l + i)).1 spVec = true
      then (u.spByte p (x.spAddr w l + i)).toNat else 0) * 2 ^ (8 * i)) 0 = u.laneRaw p x w l := by
    rw [State.laneRaw, ← foldl_bytes_eq_leNat]
    simp only [apply_ite BitVec.toNat]
    rfl
  rw [← x.foldl_laneWrites]
  unfold State.vecLoadSp
  extract_lets n as secs touched s1 byte y
  have hy : y = (x.parts w).foldl (fun y l => y.putLoad l (VX.d w) (VX.sz w) (u.laneRaw p x w l)) x := by
    simp only [y, byte, n, hbytes, x.lanesOf_guarded]
  rw [hy]
  exact ⟨s1, rfl⟩

end

/-! ### Stores (R193, R194) -/

/-- The byte v is the last that a list of writes puts at the address x. -/
def lastWrite (xs : List (Nat × Byte)) (x : Nat) (v : Byte) : Prop := ∃ as bs, xs = as ++ (x, v) :: bs ∧ ∀ e ∈ bs, e.1 % 2 ^ 20 ≠ x % 2 ^ 20

section
variable {x : Nat} {v : Byte}

theorem lastWrite.filter {xs : List (Nat × Byte)} (h : lastWrite xs x v) {q : Nat × Byte → Bool} (hq : q (x, v) = true) : lastWrite (xs.filter q) x v := by
  obtain ⟨as, bs, rfl, hlater⟩ := h
  exact ⟨as.filter q, bs.filter q, by rw [List.filter_append, List.filter_cons_of_pos hq], fun e he => hlater e (List.mem_of_mem_filter he)⟩

/-- The last write of a list's piece, where no later piece writes the address. -/
theorem lastWrite_flatMap {α : Type} {f : α → List (Nat × Byte)} {k : α} (h : lastWrite (f k) x v) (as : List α) {bs : List α}
    (hlater : ∀ j ∈ bs, ∀ e ∈ f j, e.1 % 2 ^ 20 ≠ x % 2 ^ 20) : lastWrite ((as ++ k :: bs).flatMap f) x v := by
  obtain ⟨cs, ds, hk, hrest⟩ := h
  refine ⟨as.flatMap f ++ cs, ds ++ bs.flatMap f, by simp [hk], fun e he => ?_⟩
  rcases List.mem_append.mp he with hd | hb
  · exact hrest e hd
  · obtain ⟨j, hj, hej⟩ := List.mem_flatMap.mp hb
    exact hlater j hj e hej

/-- A byte of scratchpad is as the last write of its address leaves it. -/
theorem storedTo.spByte_of_lastWrite {p : Nat} {s t : State} {xs : List (Nat × Byte)} (h : storedTo p s t xs) (hlast : lastWrite xs x v) :
    t.spByte p x = v := by
  obtain ⟨as, bs, rfl, hlater⟩ := hlast
  have hlt : x % 8 < 8 := Nat.mod_lt _ (by decide)
  rw [State.spByte_eq, h.sp, State.spWord_of_spMapRegs h.regs, storeBytes_append]
  refine (storeBytes_byteAt_of_ne (xs := bs) _ _ hlt fun e he hsame => hlater e he (State.spWord_inj hsame.1 hsame.2).symm).trans ?_
  rw [Spad.byteAt_put _ _ hlt, if_pos ⟨rfl, rfl⟩]

end

/-- The writes of a list that the unit is served. -/
def State.servedOf (s : State) (p : Nat) (u : SpUnit) (xs : List (Nat × Byte)) : List (Nat × Byte) :=
  xs.filter fun e => s.spServes p (s.spPlaceOf p e.1).1 u

section
variable {s : State} {p : Nat} {u : SpUnit}

/-- An access with no error waiting to be injected stores the bytes that it is served. -/
theorem State.storedTo_spWriteL_servedOf (xs : List (Nat × Byte)) (hinj : (s.blk p).sp.inject = 0) :
    storedTo p s (s.spWriteL p u xs) (s.servedOf p u xs) := by
  unfold State.spWriteL
  extract_lets s0 ok addrs part s1 rows s1' s2 inj s3
  have h0 : s0.spView p = s.spView p := s.spView_spGuest p u _
  have h1 : s1.spView p = s.spView p := (State.spView_foldl (fun t w => t.spView_spCheck p _ w) part s0).trans h0
  have h1' : s1'.spView p = s.spView p := by
    unfold s1'
    split
    · exact h1
    · exact (s1.spView_inc p rfl (by decide) _).trans h1
  have hok : (fun e : Nat × Byte => ok e.1) = fun e => s.spServes p (s.spPlaceOf p e.1).1 u :=
    funext fun e => State.spServed_of_spFace (State.spFace_of_spView h0) e.1 u
  have h2 : storedTo p s s2 (s.servedOf p u xs) := by
    have hput := storedTo_putBytes (p := p) ok (xs.filter fun e => ok e.1) (fun e he => (List.mem_filter.mp he).2) s1'
    rw [List.foldl_filter] at hput
    have htwice (c : Bool) (a b : State) : (if c = true then if c = true then a else b else b) = if c = true then a else b := by cases c <;> rfl
    simp only [htwice] at hput
    have hall := (storedTo_of_spView h1').trans hput
    rw [hok] at hall
    exact hall
  have h3 : s3 = s2 := if_pos (h2.inject.trans hinj)
  rw [h3]
  split
  · exact h2
  · simpa using h2.trans (storedTo_of_spView (s2.spView_spForeign p _ u))

/-- Accesses in turn, each with no error waiting to be injected. -/
theorem State.storedTo_spWriteLs (ks : List (List (Nat × Byte))) (hinj : (s.blk p).sp.inject = 0) :
    storedTo p s (ks.foldl (fun s xs => s.spWriteL p u xs) s) (ks.flatMap fun xs => s.servedOf p u xs) := by
  induction ks generalizing s with
  | nil => exact ⟨rfl, rfl, rfl⟩
  | cons xs ks ih =>
    have hfirst := State.storedTo_spWriteL_servedOf (u := u) xs hinj
    have hserved : (s.spWriteL p u xs).servedOf p u = s.servedOf p u := by
      funext ys
      simp only [State.servedOf, hfirst.served]
    have hrest := ih (s := s.spWriteL p u xs) (hfirst.inject.trans hinj)
    rw [hserved] at hrest
    exact hfirst.trans hrest

end

/-! ### Addresses wrap at 1 MiB (R211) -/

section
variable (s : State) (p a : Nat)

theorem State.spPlaceOf_mod : s.spPlaceOf p (a % 2 ^ 20) = s.spPlaceOf p a := by
  simp only [State.spPlaceOf, Nat.mod_mod]

theorem State.spByte_mod : s.spByte p (a % 2 ^ 20) = s.spByte p a := by
  rw [State.spByte_eq, State.spByte_eq, State.spWord_eq, State.spWord_eq, Nat.mod_mod, Nat.mod_mod_of_dvd a (by decide)]

end

/-! ### A store of the lanes (R193, R194) -/

theorem exists_append_last {α : Type} {k : α} {xs : List α} (h : k ∈ xs) : ∃ as bs, xs = as ++ k :: bs ∧ k ∉ bs := by
  obtain ⟨as, bs, heq, hlast⟩ := List.eq_append_cons_of_mem (List.mem_reverse.mpr h)
  refine ⟨bs.reverse, as.reverse, ?_, by simpa using hlast⟩
  rw [← List.reverse_reverse xs, heq]
  simp

/-- The lanes that take part, around one of them. -/
theorem Group.parts_split {x : Group} {w l : Nat} (h : l ∈ x.parts w) :
    ∃ as bs, x.parts w = as ++ l :: bs ∧ (∀ j ∈ as, j ∈ x.parts w ∧ j < l) ∧ ∀ j ∈ bs, j ∈ x.parts w ∧ l < j := by
  obtain ⟨as, bs, heq⟩ := List.append_of_mem h
  have hsorted : (x.parts w).Pairwise (· < ·) := List.pairwise_lt_range.filter _
  rw [heq, List.pairwise_append, List.pairwise_cons] at hsorted
  obtain ⟨-, ⟨hafter, -⟩, hbefore⟩ := hsorted
  rw [heq]
  exact ⟨as, bs, rfl, fun j hj => ⟨by simp [hj], hbefore j hj l (.head _)⟩, fun j hj => ⟨by simp [hj], hafter j hj⟩⟩

/-- The bytes that a lane stores in scratchpad, with their addresses. -/
def Group.laneBytes (x : Group) (w l : Nat) : List (Nat × Byte) :=
  (List.range (VX.szBytes (VX.sz w))).map fun i =>
    ((x.spAddr w l + i) % 2 ^ 20, BitVec.ofNat 8 (x.stored l (VX.b w) (VX.sz w) / 2 ^ (8 * i)))

/-- The bytes that a store puts in scratchpad, lane after lane. -/
def Group.storeBytes (x : Group) (w : Nat) : List (Nat × Byte) := (x.parts w).flatMap (x.laneBytes w)

/-- The bytes of a store by sector, an access for each. -/
def Group.storeSectors (x : Group) (w : Nat) : List (List (Nat × Byte)) :=
  (spSectorsOf ((x.parts w).map fun l => x.spAddr w l) (VX.szBytes (VX.sz w))).map fun k => (x.storeBytes w).filter fun e => e.1 / 32 == k

theorem VX.szBytes_le (z : Nat) : VX.szBytes z ≤ 16 := by
  unfold VX.szBytes
  split <;> decide

section
variable {x : Group} {w l i : Nat}

theorem Group.mem_laneBytes {e : Nat × Byte} : e ∈ x.laneBytes w l ↔ ∃ i < VX.szBytes (VX.sz w),
    e = ((x.spAddr w l + i) % 2 ^ 20, BitVec.ofNat 8 (x.stored l (VX.b w) (VX.sz w) / 2 ^ (8 * i))) := by
  simp only [Group.laneBytes, List.mem_map, List.mem_range, eq_comm]

/-- Of a store's bytes, the last at an address is that of the highest lane that writes it. -/
theorem Group.lastWrite_storeBytes (hl : l ∈ x.parts w) (hi : i < VX.szBytes (VX.sz w))
    (hhighest : ∀ k ∈ x.parts w, l < k → ∀ j, j < VX.szBytes (VX.sz w) → (x.spAddr w k + j) % 2 ^ 20 ≠ (x.spAddr w l + i) % 2 ^ 20) :
    lastWrite (x.storeBytes w) ((x.spAddr w l + i) % 2 ^ 20) (BitVec.ofNat 8 (x.stored l (VX.b w) (VX.sz w) / 2 ^ (8 * i))) := by
  obtain ⟨as, bs, heq, -, hafter⟩ := Group.parts_split hl
  have hsmall := VX.szBytes_le (VX.sz w)
  rw [Group.storeBytes, heq]
  refine lastWrite_flatMap ?_ as fun j hj e he => ?_
  · obtain ⟨cs, ds, hrange⟩ := List.append_of_mem (List.mem_range.mpr hi)
    have hsorted := List.pairwise_lt_range (n := VX.szBytes (VX.sz w))
    rw [hrange, List.pairwise_append, List.pairwise_cons] at hsorted
    obtain ⟨-, ⟨hlater, -⟩, -⟩ := hsorted
    refine ⟨cs.map _, ds.map _, by rw [Group.laneBytes, hrange, List.map_append, List.map_cons], fun e he => ?_⟩
    obtain ⟨j, hj, rfl⟩ := List.mem_map.mp he
    have hij := hlater j hj
    have hjn : j < VX.szBytes (VX.sz w) := List.mem_range.mp (by rw [hrange]; simp [hj])
    dsimp only
    omega
  · obtain ⟨hpart, hlt⟩ := hafter j hj
    obtain ⟨k, hk, rfl⟩ := Group.mem_laneBytes.mp he
    rw [Nat.mod_mod, Nat.mod_mod]
    exact hhighest j hpart hlt k hk

/-- By sectors, too, the last byte at an address is that of the highest lane. -/
theorem Group.lastWrite_storeSectors (s : State) (p : Nat) (u : SpUnit) (hl : l ∈ x.parts w) (hi : i < VX.szBytes (VX.sz w))
    (hserved : s.spServes p (s.spPlaceOf p (x.spAddr w l + i)).1 u = true)
    (hhighest : ∀ k ∈ x.parts w, l < k → ∀ j, j < VX.szBytes (VX.sz w) → (x.spAddr w k + j) % 2 ^ 20 ≠ (x.spAddr w l + i) % 2 ^ 20) :
    lastWrite ((x.storeSectors w).flatMap fun xs => s.servedOf p u xs) ((x.spAddr w l + i) % 2 ^ 20)
      (BitVec.ofNat 8 (x.stored l (VX.b w) (VX.sz w) / 2 ^ (8 * i))) := by
  have hlast := Group.lastWrite_storeBytes hl hi hhighest
  have hsector : (x.spAddr w l + i) % 2 ^ 20 / 32 ∈ spSectorsOf ((x.parts w).map fun l => x.spAddr w l) (VX.szBytes (VX.sz w)) :=
    mem_spSectorsOf.mpr ⟨_, List.mem_map_of_mem hl, i, hi, rfl⟩
  obtain ⟨as, bs, heq, hnot⟩ := exists_append_last hsector
  rw [Group.storeSectors, heq, List.flatMap_map]
  refine lastWrite_flatMap (f := fun k => s.servedOf p u ((x.storeBytes w).filter fun e => e.1 / 32 == k)) ((hlast.filter (by simp)).filter ?_) as fun k hk e he => ?_
  · rw [State.spPlaceOf_mod]
    exact hserved
  · have hin := List.mem_filter.mp (List.mem_of_mem_filter he)
    obtain ⟨j, hj, hej⟩ := List.mem_flatMap.mp hin.1
    obtain ⟨m, -, rfl⟩ := Group.mem_laneBytes.mp hej
    have hk' : (x.spAddr w j + m) % 2 ^ 20 / 32 = k := by simpa using hin.2
    dsimp only
    intro hsame
    rw [Nat.mod_mod, Nat.mod_mod] at hsame
    exact hnot (by rw [← hsame, hk']; exact hk)

end

/-- A store to scratchpad is an access for each sector, beside what it counts. -/
theorem State.vecStoreSp_eq (u : State) (p g : Nat) (x : Group) (w : Nat) : ∃ n, u.vecStoreSp p g x w (x.guarded w) =
    (((x.storeSectors w).foldl (fun s xs => s.spWriteL p spVec xs) (u.inc F.BLK_VX_SECTORS p 0 n)).setGrp p g x).vecNext p g := by
  unfold State.vecStoreSp
  extract_lets n as secs bytes s1
  refine ⟨secs.length, ?_⟩
  have hbytes : bytes = x.storeBytes w := by
    simp only [bytes, n, x.lanesOf_guarded]
    rfl
  have hs1 : s1 = (x.storeSectors w).foldl (fun s xs => s.spWriteL p spVec xs) (u.inc F.BLK_VX_SECTORS p 0 secs.length) := by
    rw [Group.storeSectors, List.foldl_map]
    simp only [s1, secs, as, n, x.lanesOf_guarded, hbytes]
  rw [hs1]

end Sys2Proof.Machine
end

section
/-! PROOFS. Loads, stores and reductions of the vector engine (R192 to R196, R206, R207): requests, faults, and the registers and bytes that they leave. -/

namespace Sys2Proof.Machine
open Sys2Proof Sys2Proof.Claims

/-! ### Reports leave everything but the error state (R300, R310 to R315) -/

/-- From s to t only the frame's faults, the error queue, registers below the Blocks' pages and what leaves the device change. -/
structure reported (s t : State) : Prop where
  only : t = { s with regs := t.regs, plaza := t.plaza, errq := t.errq, out := t.out, mgmt := t.mgmt }
  blkRegs : ∀ u f i, t.rdAt .blk u f i = s.rdAt .blk u f i

section
variable {s t u : State}

theorem reported.refl (s : State) : reported s s := ⟨rfl, fun _ _ _ => rfl⟩

theorem reported.trans (h : reported s t) (k : reported t u) : reported s u :=
  ⟨by rw [k.only, h.only], fun v f i => (k.blkRegs v f i).trans (h.blkRegs v f i)⟩

theorem reported_wr {f : Fld} {v i : Nat} (h : keyAt f.page v f i < 0x20_0000 * 64) (s : State) (x : Nat) : reported s (s.wr f v i x) := by
  refine ⟨rfl, fun w g j => State.rdAt_wrAt_ne s f.page .blk v w f g i j x (ne_of_gt (h.trans_le ?_))⟩
  simp only [keyAt, pageBase]
  omega

theorem reported_fatal (s : State) (cause : Nat) : reported s (s.fatal cause) := by
  have hevt (t : State) : reported t (t.setEvt .top 0 5) := reported_wr (f := { F.HDR_EVT_STATUS with page := .top }) (v := 0) (i := 0) (by decide) t _
  have hemit (t : State) : reported t ((t.emit "FAULT#" [1]).smb 0) := ⟨rfl, fun _ _ _ => rfl⟩
  unfold State.fatal
  split
  · exact .refl s
  · exact (((reported_wr (by decide) s cause).trans (reported_wr (by decide) _ 1)).trans (reported_wr (by decide) _ 1)).trans ((hevt _).trans (hemit _))

theorem reported_report (s : State) (r : Report) : reported s (s.report r) := by
  have hrecord : reported s (s.record r) := by
    unfold State.record
    split
    · split
      · exact ⟨rfl, fun _ _ _ => rfl⟩
      · exact .refl s
    · exact .refl s
  have herrq (t : State) (q : ErrQ) : reported t { t with errq := q } := ⟨rfl, fun _ _ _ => rfl⟩
  refine hrecord.trans ?_
  unfold State.report State.enqueue
  split_ifs
  · exact (reported_wr (f := F.ERRQ_SUPPRESSED) (by decide) _ _).trans (herrq _ _)
  · exact reported_fatal _ 1
  · exact (reported_wr (f := F.ERRQ_ENTRIES) (by decide) _ _).trans (herrq _ _)

theorem reported_fault (s : State) (code page addr detail : Nat) : reported s (s.fault code page addr detail) := by
  unfold State.fault
  split
  · exact reported_report s _
  · exact .refl s

end

/-! ### Faults (R196, R206, R207) -/

theorem laneFault_of_onlyRegs {s u : State} (h : onlyRegs s u) (c a n : Nat) (sr write : Bool) : u.laneFault c a n sr write = s.laneFault c a n sr write := by
  simp only [State.laneFault, xlat_of_onlyRegs h]

theorem State.laneFault_le {s : State} {c a n k : Nat} {sr write : Bool} (h : s.laneFault c a n sr write = some k) : k < 8 := by
  unfold State.laneFault at h
  split at h
  · split_ifs at h <;> cases h <;> decide
  · cases h
    decide

theorem State.xlat_of_laneFault {s : State} {c a n : Nat} {sr write : Bool} (h : s.laneFault c a n sr write = none) :
    ∃ z, s.xlat c a sr write = some z := by
  unfold State.laneFault at h
  split at h
  · exact ⟨_, by assumption⟩
  · cases h

section
variable {s u : State} {p g c : Nat} {x : Group} {w : Nat} {write : Bool}

theorem State.vecFaultOf_of_onlyRegs (h : onlyRegs s u) (gm : BitVec 32) : u.vecFaultOf c x w gm write = s.vecFaultOf c x w gm write := by
  simp only [State.vecFaultOf, laneFault_of_onlyRegs h]

theorem State.vecFaultOf_eq_none (h : ∀ l ∈ x.parts w, s.laneFault c (x.addr w l) (VX.szBytes (VX.sz w)) x.sr write = none) :
    s.vecFaultOf c x w (x.guarded w) write = none := by
  rw [State.vecFaultOf, x.lanesOf_guarded, List.findSome?_eq_none_iff]
  intro l hl
  rw [h l hl]
  rfl

/-- The fault of an access is that of its lowest faulting lane (R207). -/
theorem State.vecFaultOf_eq_some {l k : Nat} (hl : l ∈ x.parts w) (hk : s.laneFault c (x.addr w l) (VX.szBytes (VX.sz w)) x.sr write = some k)
    (hfirst : ∀ j ∈ x.parts w, j < l → s.laneFault c (x.addr w j) (VX.szBytes (VX.sz w)) x.sr write = none) :
    s.vecFaultOf c x w (x.guarded w) write = some (k, l, x.addr w l) := by
  obtain ⟨as, bs, heq, hbefore, -⟩ := Group.parts_split hl
  rw [State.vecFaultOf, x.lanesOf_guarded, heq, List.findSome?_eq_some_iff]
  refine ⟨as, l, bs, rfl, by rw [hk]; rfl, fun j hj => ?_⟩
  rw [hfirst j (hbefore j hj).1 (hbefore j hj).2]
  rfl

end

/-- A fault performs nothing, stops issue, and is recorded where no earlier one is (R207). -/
theorem State.vecFault_spec (s : State) (p g a : Nat) {kind lane : Nat} (hkind : kind < 8) (hlane : lane < 32) :
    let t := s.vecFault p g kind lane a
    (t.blk p).vxStopped = true ∧ (∀ h, t.grp p h = s.grp p h) ∧ t.reqs = s.reqs
      ∧ (s.rd F.BLK_VX_FAULT_KIND p = 0 → t.rd F.BLK_VX_FAULT_KIND p = kind ∧ t.rd F.BLK_VX_FAULT_LANE p = lane) := by
  unfold State.vecFault
  extract_lets pc s1 t
  have hregs : onlyRegs s s1 := by
    unfold s1
    split <;> rfl
  have hkept := reported_fault s1 0x0305 (pageIdx .blk p) a kind
  have ht : t = (s1.fault 0x0305 (pageIdx .blk p) a kind).onBlk p fun b => { b with vxStopped := true } := rfl
  clear_value t
  subst ht
  generalize s1.fault 0x0305 (pageIdx .blk p) a kind = s2 at hkept ⊢
  have hblk : s2.blk p = s.blk p := by
    rw [hkept.only]
    exact blk_of_onlyRegs hregs p
  refine ⟨by rw [State.onBlk_blk_same], fun h => ?_, ?_, fun hnone => ?_⟩
  · rw [State.grp, State.onBlk_blk_same, hblk, State.grp]
  · rw [State.onBlk_reqs, hkept.only, hregs]
  · have h1 : s1 = ((((s.wr F.BLK_VX_FAULT_KIND p 0 kind).wr F.BLK_VX_FAULT_SLOT p 0 g).wr F.BLK_VX_FAULT_LANE p 0 lane).wr F.BLK_VX_FAULT_PC_WORD p 0
        (pc / 8)).wr F.BLK_VX_FAULT_ADDR_ADDR p 0 a := if_pos hnone
    have hrd (f : Fld) (hf : f.page = .blk) : (s2.onBlk p fun b => { b with vxStopped := true }).rd f p = s1.rd f p := by
      rw [State.onBlk_rd, State.rd, hf, hkept.blkRegs, State.rd, hf]
    rw [hrd _ rfl, hrd _ rfl, h1]
    constructor
    · simp (disch := decide) only [State.rd_wr_of_place, State.rd_wr_same]
      exact Nat.mod_eq_of_lt hkind
    · simp (disch := decide) only [State.rd_wr_of_place, State.rd_wr_same]
      exact Nat.mod_eq_of_lt hlane

/-! ### Loads (R192, R196, R239) -/

theorem foldl_eq_self {α β : Type} {f : β → α → β} {b : β} {xs : List α} (h : ∀ a ∈ xs, f b a = b) : xs.foldl f b = b := by
  induction xs with
  | nil => rfl
  | cons x xs ih => rw [List.foldl_cons, h x (.head _), ih fun a ha => h a (.tail _ ha)]

theorem foldl_measure {α β : Type} {f : β → α → β} {m : β → Nat} (h : ∀ b a, m (f b a) = m b + 1) (xs : List α) (b : β) :
    m (xs.foldl f b) = m b + xs.length := by
  induction xs generalizing b with
  | nil => rfl
  | cons x xs ih => rw [List.foldl_cons, ih, h, List.length_cons, Nat.add_assoc, Nat.add_comm 1]

theorem State.l1_l1Clean (s : State) (p l : Nat) : ((s.l1Clean p l).blk p).l1 ⊆ (s.blk p).l1 := by
  unfold State.l1Clean
  split
  · rw [State.l1Drop, State.onBlk_blk_same, State.blk_of_spView (s.spView_corrected p 5 p (128 * l))]
    exact List.filter_subset_self _
  · exact List.Subset.refl _

/-- A line that the L1 does not hold is not found after errors have been met. -/
theorem State.l1Find_foldl_l1Clean {α : Type} {p l owner h : Nat} (f : α → Nat) (xs : List α) {s : State} (hnone : s.l1Find p l owner h = none) :
    (xs.foldl (fun s e => s.l1Clean p (f e)) s).l1Find p l owner h = none := by
  induction xs generalizing s with
  | nil => exact hnone
  | cons e xs ih =>
    rw [State.l1Find, List.find?_eq_none] at hnone
    refine ih ?_
    rw [State.l1Find, List.find?_eq_none]
    exact fun y hy => hnone y (s.l1_l1Clean p (f e) hy)

section
variable {u : State} {p g c : Nat} {x : Group} {w : Nat}

/-- A load of which no line stands in the L1 goes out as requests, and is in flight. -/
theorem State.vecLoadCtx_of_missed (hfault : u.vecFaultOf c x w (x.guarded w) false = none) (hpart : x.parts w ≠ [])
    (hx : ∀ l ∈ x.parts w, ∃ z, u.xlat c (x.addr w l) x.sr false = some z)
    (hmiss : ∀ l ∈ x.parts w, ∀ z, u.xlat c (x.addr w l) x.sr false = some z → u.l1Find p (z.addr / 128) z.owner z.keyh = none) :
    ∃ (v : State) (n : VLoad) (last : Option Nat), u.vecLoadCtx p g c x w (x.guarded w)
      = (v.setGrp p g { x with loads := x.loads ++ [n], lastMiss := last }).vecNext p g := by
  unfold State.vecLoadCtx
  rw [hfault]
  extract_lets n s1 parts items lines s2 got
  have hlines : ∀ e ∈ lines, s2.l1Find p e.1 e.2.1 e.2.2.1 = none := fun e he => by
    obtain ⟨d, hd, rfl⟩ := List.mem_map.mp (List.mem_eraseDups.mp he)
    obtain ⟨l, hl, hsome⟩ := List.mem_filterMap.mp hd
    rw [x.lanesOf_guarded] at hl
    obtain ⟨z, hz, rfl⟩ := Option.map_eq_some_iff.mp hsome
    exact State.l1Find_foldl_l1Clean (fun e : Nat × Nat × Nat × Nat => e.1) lines (hmiss l hl z hz)
  have hgot : got = [] := foldl_eq_self fun e he => by rw [hlines e he]
  have hsome : lines ≠ [] := by
    obtain ⟨l, hl⟩ := List.exists_mem_of_ne_nil _ hpart
    obtain ⟨z, hz⟩ := hx l hl
    refine List.ne_nil_of_mem (a := (z.addr / 128, z.owner, z.keyh, z.limit)) (List.mem_eraseDups.mpr (List.mem_map.mpr ⟨(l, z), ?_, rfl⟩))
    refine List.mem_filterMap.mpr ⟨l, by rwa [x.lanesOf_guarded], ?_⟩
    exact Option.map_eq_some_iff.mpr ⟨z, hz, rfl⟩
  clear_value got lines s2 items
  subst hgot
  generalize hr : List.foldl _ (s2, [], x.lastMiss) lines = r
  have hneed : r.2.1.length = lines.length := by
    rw [← hr]
    exact (foldl_measure (m := fun a : State × List Nat × Option Nat => a.2.1.length) (fun acc e => List.length_append) lines _).trans (Nat.zero_add _)
  obtain ⟨v, need, last⟩ := r
  have hne : need ≠ [] := fun hnil => hsome (List.eq_nil_of_length_eq_zero (by rw [← hneed]; simp [hnil]))
  dsimp only
  rw [if_neg hne]
  exact ⟨v, _, last, rfl⟩

theorem execVxLd_of_ready {s : State} {run : Run} (h : vecReady s p g .ld x) (hrun : s.plaza.run = some run)
    (hhold : s.vecMemHold p x (vecWord s p x) (x.guarded (vecWord s p x)) = none) :
    exec (.vxLd p g) s = .next (
      if VX.sp (vecWord s p x) = 0 then (s.inc F.BLK_VX_ISSUED p 0).vecLoadSp p g x (vecWord s p x) (x.guarded (vecWord s p x))
      else (s.inc F.BLK_VX_ISSUED p 0).vecLoadCtx p g run.ctx x (vecWord s p x) (x.guarded (vecWord s p x))) := by
  rw [exec_vxLd, execVxLd, vecStepIf_of_ready h _ _ hhold, State.inc_plaza, hrun]

end

/-- Settles O17: a load from scratchpad is a write of the lanes' registers, and one that misses is a load in flight. -/
theorem vectorLoadsFillRegisters : Obligations.VectorLoadsFillRegisters := by
  intro s p g x run h hrun w n part
  have hpc : x.pc + 8 < 0x1_0000 := h.2.2.2.2.2.2.2.2
  have hcount : onlyRegs s (s.inc F.BLK_VX_ISSUED p 0) := rfl
  constructor
  · intro hsp hroom hawake
    have hfits : VX.d w + VX.szRegs (VX.sz w) ≤ 64 := VX.szRegs_fits ((VX.legal_of_decode h.2.2.2.2.2.2.1).2.1 rfl) (VX.d_lt w)
    have hface : (s.inc F.BLK_VX_ISSUED p 0).spFace p = s.spFace p := State.spFace_of_spView (s.spView_inc p rfl (by decide) 1)
    have hexec := execVxLd_of_ready h hrun (State.vecMemHold_of_awake hroom hawake)
    rw [if_pos hsp] at hexec
    obtain ⟨v, hload⟩ := (s.inc F.BLK_VX_ISSUED p 0).vecLoadSp_eq p g x w
    rw [hload] at hexec
    have hput := x.setTs_eq (laneWrites (x.parts w) (VX.d w) (VX.szRegs (VX.sz w)) fun l i =>
      bitsOf (vecExtend (VX.sz w) ((s.inc F.BLK_VX_ISSUED p 0).laneRaw p x w l)) (32 * i) 32)
    have hvalue := fun l r => x.t_setTs_laneWrites (ls := x.parts w) (l := l) (r := r) (fun l i =>
      bitsOf (vecExtend (VX.sz w) ((s.inc F.BLK_VX_ISSUED p 0).laneRaw p x w l)) (32 * i) 32) hfits
    generalize x.setTs _ = y at hput hvalue hexec
    rw [State.setGrp_vecNext _ p g (by rw [hput]; exact hpc)] at hexec
    refine ⟨_, _, hexec, State.setGrp_grp_same _ _ _ _, by rw [hput], by rw [hput], fun l i hl hi => ?_⟩
    refine (hvalue l (VX.d w + i) (by omega)).trans ?_
    rw [if_pos ⟨hl, by omega, by omega⟩, Nat.add_sub_cancel_left, bitsOf_mod_self, State.laneRaw_of_spFace hface]
    rfl
  · intro hsp hfault hroom hpart hmiss
    have hspace : ¬ VX.sp w = 0 := by omega
    have hexec := execVxLd_of_ready h hrun (State.vecMemHold_of_ctx hroom hspace _)
    rw [if_neg hspace] at hexec
    obtain ⟨v, l, last, hload⟩ := State.vecLoadCtx_of_missed (u := s.inc F.BLK_VX_ISSUED p 0) (p := p) (g := g)
      ((State.vecFaultOf_of_onlyRegs hcount _).trans (State.vecFaultOf_eq_none hfault)) hpart
      (fun l hl => State.xlat_of_laneFault (hfault l hl)) hmiss
    rw [hload, State.setGrp_vecNext (y := { x with loads := x.loads ++ [l], lastMiss := last }) v p g hpc] at hexec
    exact ⟨_, _, hexec, State.setGrp_grp_same _ _ _ _, rfl, List.length_append, rfl⟩

/-! ### Stores and reductions (R192, R193, R195) -/

/-- From s to t k requests are sent, and external memory and the slices are as before. -/
structure sends (k : Nat) (s t : State) : Prop where
  nextReq : t.nextReq = s.nextReq + k
  dram : t.dram = s.dram
  slices : t.slices = s.slices

theorem sends.trans {j k : Nat} {s t u : State} (h : sends j s t) (h' : sends k t u) : sends (j + k) s u :=
  ⟨by rw [h'.nextReq, h.nextReq, Nat.add_assoc], h'.dram.trans h.dram, h'.slices.trans h.slices⟩

theorem sends_noteWrite (s : State) (c : Nat) (z : Xlat) : sends 0 s (s.noteWrite c z) := by
  rw [s.noteWrite_eq c z]
  exact ⟨rfl, rfl, rfl⟩

theorem sends_report (s : State) (r : Report) : sends 0 s (s.report r) := by
  rw [(reported_report s r).only]
  exact ⟨rfl, rfl, rfl⟩

theorem sends_issue (s : State) (r : Req) : sends 1 s (s.issue r) := by
  unfold State.issue
  extract_lets r' s1
  split
  · exact ⟨rfl, rfl, rfl⟩
  · rename_i s2 _ _
    have h2 : sends 0 s1 s2 := by
      unfold s2
      split
      · exact sends_report s1 _
      · exact ⟨rfl, rfl, rfl⟩
    exact ⟨h2.nextReq, h2.dram, h2.slices⟩

theorem sends_foldl {α : Type} {f : State → α → State} (h : ∀ t a, sends 0 t (f t a)) (xs : List α) (s : State) : sends 0 s (xs.foldl f s) := by
  induction xs generalizing s with
  | nil => exact ⟨rfl, rfl, rfl⟩
  | cons x xs ih => exact (h s x).trans (ih _)

/-- Requests sent one after another, each for an element of a list or for none: their ids, of which there are some where one element always sends. -/
theorem foldl_sends {α : Type} {f : State × List Nat → α → State × List Nat} {k : α} {xs : List α} (hk : k ∈ xs)
    (hstep : ∀ acc a, f acc a = acc ∨ ∃ id, (f acc a).2 = acc.2 ++ [id] ∧ sends 1 acc.1 (f acc a).1) (hsent : ∀ acc, (f acc k).2 ≠ []) (s : State) :
    (xs.foldl f (s, [])).2 ≠ [] ∧ sends (xs.foldl f (s, [])).2.length s (xs.foldl f (s, [])).1 := by
  have hall (ys : List α) (acc : State × List Nat) (hacc : sends acc.2.length s acc.1) :
      acc.2.length ≤ (ys.foldl f acc).2.length ∧ sends (ys.foldl f acc).2.length s (ys.foldl f acc).1 := by
    induction ys generalizing acc with
    | nil => exact ⟨le_rfl, hacc⟩
    | cons a ys ih =>
      rw [List.foldl_cons]
      rcases hstep acc a with hsame | ⟨id, hids, hsends⟩
      · rw [hsame]
        exact ih acc hacc
      · have hlength : (f acc a).2.length = acc.2.length + 1 := by rw [hids, List.length_append, List.length_singleton]
        obtain ⟨hle, hrest⟩ := ih (f acc a) (hlength ▸ hacc.trans hsends)
        exact ⟨by omega, hrest⟩
  obtain ⟨as, bs, rfl⟩ := List.append_of_mem hk
  have hstart : sends (s, ([] : List Nat)).2.length s (s, ([] : List Nat)).1 := ⟨rfl, rfl, rfl⟩
  have hfirst := (hall (as ++ [k]) _ hstart).2
  rw [List.foldl_append, List.foldl_cons, List.foldl_nil] at hfirst
  have hmore := (hall bs _ hfirst).1
  have hpos := List.length_pos_of_ne_nil (hsent (as.foldl f (s, [])))
  refine ⟨List.ne_nil_of_length_pos ?_, (hall _ _ hstart).2⟩
  rw [List.foldl_append, List.foldl_cons]
  omega

theorem mem_sectorsOf {as : List Nat} {n k : Nat} : k ∈ sectorsOf as n ↔ ∃ a ∈ as, ∃ i < n, (a + i) / 32 = k := by
  simp only [sectorsOf, List.mem_eraseDups, List.mem_flatten, List.mem_map, exists_exists_and_eq_and, List.mem_range]

theorem VX.szBytes_pos (z : Nat) : 0 < VX.szBytes z := by
  unfold VX.szBytes
  split <;> decide

section
variable {u : State} {p g c : Nat} {x : Group} {w : Nat}

/-- A store or reduction that meets no fault is sent, a request for each sector, and is in flight. -/
theorem State.vecStoreCtx_of_clear (op : ROp) (hfault : u.vecFaultOf c x w (x.guarded w) true = none) (hpart : x.parts w ≠ [])
    (hx : ∀ l ∈ x.parts w, ∃ z, u.xlat c (x.addr w l) x.sr true = some z) :
    ∃ (v : State) (ids : List Nat), ids ≠ [] ∧ sends ids.length u v ∧ u.vecStoreCtx p g c x w (x.guarded w) op
      = (v.setGrp p g { x with stores := x.stores ++ [ids] }).vecNext p g := by
  unfold State.vecStoreCtx
  rw [hfault]
  extract_lets n secs s1 parts s2 data mask
  obtain ⟨l, hl⟩ := List.exists_mem_of_ne_nil _ hpart
  obtain ⟨z, hz⟩ := hx l hl
  have hplace : (l, x.addr w l, z) ∈ parts :=
    List.mem_filterMap.mpr ⟨l, by rwa [x.lanesOf_guarded], Option.map_eq_some_iff.mpr ⟨z, hz, rfl⟩⟩
  have hsector : x.addr w l / 32 ∈ secs :=
    mem_sectorsOf.mpr ⟨_, List.mem_map_of_mem (by rwa [x.lanesOf_guarded]), 0, VX.szBytes_pos _, rfl⟩
  have h2 : sends 0 u s2 := sends.trans (j := 0) (t := s1) ⟨rfl, rfl, rfl⟩ (sends_foldl (fun t e => sends_noteWrite t c e.2.2) parts s1)
  clear_value parts s2 secs
  generalize hr : List.foldl _ (s2, []) secs = r
  have hsent : r.2 ≠ [] ∧ sends r.2.length s2 r.1 := by
    rw [← hr]
    refine foldl_sends hsector (fun acc k => ?_) (fun acc => ?_) s2
    · dsimp only
      split
      · exact .inl rfl
      · refine .inr ⟨_, rfl, ?_⟩
        refine sends.trans (j := 0) ?_ (sends_issue _ _)
        cases op <;> exact ⟨rfl, rfl, rfl⟩
    · have hes : (parts.filter fun e => e.2.1 / 32 == x.addr w l / 32) ≠ [] := List.ne_nil_of_mem (List.mem_filter.mpr ⟨hplace, by simp⟩)
      dsimp only
      split
      · contradiction
      · exact List.append_ne_nil_of_right_ne_nil _ (List.cons_ne_nil _ _)
  obtain ⟨v, ids⟩ := r
  refine ⟨v, ids, hsent.1, Nat.zero_add ids.length ▸ h2.trans hsent.2, ?_⟩
  dsimp only at hsent ⊢
  rw [if_neg hsent.1]

end

section
variable {s : State} {p g : Nat} {x : Group} {run : Run}

theorem execVxSt_of_ready (h : vecReady s p g .st x) (hrun : s.plaza.run = some run)
    (hhold : s.vecMemHold p x (vecWord s p x) (x.guarded (vecWord s p x)) = none) :
    exec (.vxSt p g) s = .next (
      if VX.sp (vecWord s p x) = 0 then (s.inc F.BLK_VX_ISSUED p 0).vecStoreSp p g x (vecWord s p x) (x.guarded (vecWord s p x))
      else (s.inc F.BLK_VX_ISSUED p 0).vecStoreCtx p g run.ctx x (vecWord s p x) (x.guarded (vecWord s p x)) .write) := by
  rw [exec_vxSt, execVxSt, vecStepIf_of_ready h _ _ hhold, State.inc_plaza, hrun]

theorem execRed_of_ready (h : vecReady s p g .red x) (hrun : s.plaza.run = some run)
    (hhold : s.vecMemHold p x (vecWord s p x) (x.guarded (vecWord s p x)) = none) :
    exec (.red p g) s = .next ((s.inc F.BLK_VX_ISSUED p 0).vecStoreCtx p g run.ctx x (vecWord s p x) (x.guarded (vecWord s p x))
      (.reduce (VX.t (vecWord s p x)))) := by
  rw [exec_red, execRed, vecStepIf_of_ready h _ _ hhold, State.inc_plaza, hrun]

/-- A store to context space and a reduction take the same steps. -/
theorem exec_ctxStore {c : Instr} {op : VecOp} (hop : ((c, op) = (Instr.vxSt p g, VecOp.st) ∧ VX.sp (vecWord s p x) = 1) ∨ (c, op) = (Instr.red p g, VecOp.red))
    (h : vecReady s p g op x) (hrun : s.plaza.run = some run) (hroom : x.inFlight < 8) :
    ∃ r, exec c s = .next ((s.inc F.BLK_VX_ISSUED p 0).vecStoreCtx p g run.ctx x (vecWord s p x) (x.guarded (vecWord s p x)) r) := by
  rcases hop with ⟨heq, hsp⟩ | heq
  · obtain ⟨rfl, rfl⟩ := Prod.mk.inj heq
    have hspace : ¬ VX.sp (vecWord s p x) = 0 := by omega
    exact ⟨_, (execVxSt_of_ready h hrun (State.vecMemHold_of_ctx hroom hspace _)).trans (congrArg _ (if_neg hspace))⟩
  · obtain ⟨rfl, rfl⟩ := Prod.mk.inj heq
    have hsp : VX.sp (vecWord s p x) = 1 := (VX.legal_of_decode h.2.2.2.2.2.2.1).2.2 rfl
    exact ⟨_, execRed_of_ready h hrun (State.vecMemHold_of_ctx hroom (by omega) _)⟩

theorem State.setGrp_spFace (s : State) (p g : Nat) (y : Group) : (s.setGrp p g y).spFace p = s.spFace p := by
  rw [State.spFace, State.setGrp, State.onBlk_blk_same]
  rfl

end

/-- Settles O18: a store to scratchpad is a write of bytes lane after lane, one to context space a request for each sector, and a fault a record. -/
theorem vectorStoresAndReductionsAreSent : Obligations.VectorStoresAndReductionsAreSent := by
  intro s p g x run hrun w n part
  have hcount : onlyRegs s (s.inc F.BLK_VX_ISSUED p 0) := rfl
  refine ⟨fun h hsp hroom hinj hawake => ?_, fun c op hop h hroom hpart => ⟨fun hclear => ?_, fun l k hl hk hfirst => ?_⟩⟩
  · have hpc : x.pc + 8 < 0x1_0000 := h.2.2.2.2.2.2.2.2
    have hexec := execVxSt_of_ready h hrun (State.vecMemHold_of_awake hroom hawake)
    obtain ⟨m, hstore⟩ := (s.inc F.BLK_VX_ISSUED p 0).vecStoreSp_eq p g x w
    rw [if_pos hsp, hstore, State.setGrp_vecNext _ p g hpc] at hexec
    refine ⟨_, hexec, State.setGrp_grp_same _ _ _ _, fun l i hl hi hserved hhighest => ?_⟩
    have hview : ((s.inc F.BLK_VX_ISSUED p 0).inc F.BLK_VX_SECTORS p 0 m).spView p = s.spView p :=
      (State.spView_inc _ p rfl (by decide) m).trans (s.spView_inc p rfl (by decide) 1)
    have hserves := (State.spServed_of_spFace (State.spFace_of_spView hview) (x.spAddr w l + i) spVec).trans hserved
    have hstored := State.storedTo_spWriteLs (s := (s.inc F.BLK_VX_ISSUED p 0).inc F.BLK_VX_SECTORS p 0 m) (p := p) (u := spVec) (x.storeSectors w)
      ((congrArg Spad.inject (State.sp_of_spFace (State.spFace_of_spView hview))).trans hinj)
    rw [State.spByte_of_spFace (State.setGrp_spFace _ p g _), ← State.spByte_mod]
    exact hstored.spByte_of_lastWrite (Group.lastWrite_storeSectors _ p spVec hl hi hserves hhighest)
  · obtain ⟨r, hexec⟩ := exec_ctxStore hop h hrun hroom
    obtain ⟨v, ids, hids, hsends, hstore⟩ := State.vecStoreCtx_of_clear (u := s.inc F.BLK_VX_ISSUED p 0) (p := p) (g := g) r
      ((State.vecFaultOf_of_onlyRegs hcount _).trans (State.vecFaultOf_eq_none hclear)) hpart fun l hl => State.xlat_of_laneFault (hclear l hl)
    rw [hstore, State.setGrp_vecNext (y := { x with stores := x.stores ++ [ids] }) v p g h.2.2.2.2.2.2.2.2] at hexec
    exact ⟨_, ids, hexec, hids, State.setGrp_grp_same _ _ _ _, hsends.nextReq, hsends.dram, hsends.slices⟩
  · obtain ⟨r, hexec⟩ := exec_ctxStore hop h hrun hroom
    have hgrp : s.grp p g = some x := h.2.1
    have hfault : (s.inc F.BLK_VX_ISSUED p 0).vecFaultOf run.ctx x w (x.guarded w) true = some (k, l, x.addr w l) :=
      (State.vecFaultOf_of_onlyRegs hcount _).trans (State.vecFaultOf_eq_some hl hk hfirst)
    rw [State.vecStoreCtx, hfault] at hexec
    obtain ⟨hstop, hgroups, hreqs, hrecord⟩ := (s.inc F.BLK_VX_ISSUED p 0).vecFault_spec p g (x.addr w l) (State.laneFault_le hk) (Group.mem_parts.mp hl).1
    have hkind : (s.inc F.BLK_VX_ISSUED p 0).rd F.BLK_VX_FAULT_KIND p = s.rd F.BLK_VX_FAULT_KIND p :=
      State.rd_wr_of_place (f := F.BLK_VX_ISSUED) (g := F.BLK_VX_FAULT_KIND) rfl (by decide) s p _
    exact ⟨_, hexec, hstop, (hgroups g).trans hgrp, hreqs, fun hnone => hrecord (hkind.trans hnone)⟩

end Sys2Proof.Machine
end

section
/-! PROOFS. External memory, its controllers and the cache slices leave the device beside it as it is: reports, reads and writes of memory, the
controllers' slots, and an access of a unit (R231, R236 to R287). -/

namespace Sys2Proof.Machine
open Sys2Proof Sys2Proof.Claims

/-- What of the device no access of memory concerns: all but registers, free values, Blocks, contexts, what stands between a request and the cells of
memory, and what a report changes. -/
def State.offMem (s : State) : State :=
  { s with regs := [], free := 0, nextReq := 0, out := [], blks := [], slices := [], pins := [], memcs := [], dram := [], sectors := [], reqs := []
           resps := [], invs := [], ctxs := [], plaza := State.reset.plaza, errq := State.reset.errq, mgmt := State.reset.mgmt }

theorem State.offMem_foldl {α : Type} {f : State → α → State} (h : ∀ t a, (f t a).offMem = t.offMem) (xs : List α) (s : State) :
    (xs.foldl f s).offMem = s.offMem := by
  induction xs generalizing s with
  | nil => rfl
  | cons x xs ih => rw [List.foldl_cons, ih, h]

theorem State.offMem_of_eq {α : Type} {p : State × α} {t : State} {a : α} (h : p = (t, a)) : t.offMem = p.1.offMem := by rw [h]

section
variable (s : State)

@[simp] theorem State.offMem_wr (f : Fld) (u i v : Nat) : (s.wr f u i v).offMem = s.offMem := rfl
@[simp] theorem State.offMem_inc (f : Fld) (u i n : Nat) : (s.inc f u i n).offMem = s.offMem := rfl
@[simp] theorem State.offMem_setEvt (pg : Page) (u b : Nat) : (s.setEvt pg u b).offMem = s.offMem := rfl
@[simp] theorem State.offMem_used : s.used.offMem = s.offMem := rfl
@[simp] theorem State.offMem_onSlc (n : Nat) (f : Slice → Slice) : (s.onSlc n f).offMem = s.offMem := rfl
@[simp] theorem State.offMem_onMem (g : Nat) (f : Memc → Memc) : (s.onMem g f).offMem = s.offMem := rfl
@[simp] theorem State.offMem_onCtx (n : Nat) (f : Ctx → Ctx) : (s.onCtx n f).offMem = s.offMem := rfl
@[simp] theorem State.offMem_setBlk (p : Nat) (b : Block) : (s.setBlk p b).offMem = s.offMem := rfl
@[simp] theorem State.offMem_onBlk (p : Nat) (f : Block → Block) : (s.onBlk p f).offMem = s.offMem := rfl
@[simp] theorem State.offMem_cycles (f : Fld) (u : Nat) : (s.cycles f u).offMem = s.offMem := rfl

theorem State.offMem_memory (m : List Host.Cell) (q : SMap Sector) : State.offMem { s with dram := m, sectors := q } = s.offMem := rfl
theorem State.offMem_reqs (xs : List Req) : State.offMem { s with reqs := xs } = s.offMem := rfl
theorem State.offMem_resps (xs : List Resp) : State.offMem { s with resps := xs } = s.offMem := rfl
theorem State.offMem_invs (xs : List InvMsg) : State.offMem { s with invs := xs } = s.offMem := rfl

/-! ### Error reports (R300, R310 to R315) -/

theorem reported.offMem {s t : State} (h : reported s t) : t.offMem = s.offMem := by
  rw [h.only]
  rfl

@[simp] theorem State.offMem_report (r : Report) : (s.report r).offMem = s.offMem := (reported_report s r).offMem
@[simp] theorem State.offMem_fault (code page addr detail : Nat) : (s.fault code page addr detail).offMem = s.offMem :=
  (reported_fault s code page addr detail).offMem

@[simp] theorem State.offMem_record (r : Report) : (s.record r).offMem = s.offMem := by
  unfold State.record
  split
  · split <;> rfl
  · rfl

@[simp] theorem State.offMem_event (code page addr detail : Nat) (writer : Option Nat) : (s.event code page addr detail writer).offMem = s.offMem := by
  simp [State.event]

@[simp] theorem State.offMem_corrected (cls unit addr : Nat) : (s.corrected cls unit addr).offMem = s.offMem := by
  unfold State.corrected State.ceTable
  dsimp only
  split_ifs <;> rfl

/-! ### Controllers (R259 to R269) -/

@[simp] theorem State.offMem_columns (g : Nat) (br : Nat × Nat) (n : Nat) : (s.columns g br n).offMem = s.offMem := by
  unfold State.columns
  split_ifs <;> rfl

@[simp] theorem State.offMem_writeSector (q h : Nat) (d : BitVec 256) (err : Nat) : (s.writeSector q h d err).offMem = s.offMem :=
  s.offMem_memory _ _

@[simp] theorem State.offMem_memUe (g q : Nat) : (s.memUe g q).offMem = s.offMem := by
  unfold State.memUe
  dsimp only
  split <;> simp

@[simp] theorem State.offMem_keyLoad (g h : Nat) : (s.keyLoad g h).offMem = s.offMem := by
  unfold State.keyLoad
  dsimp only
  split_ifs <;> rfl

@[simp] theorem State.offMem_keyTouch (g h : Nat) : (s.keyTouch g h).offMem = s.offMem := by
  unfold State.keyTouch
  split <;> simp

@[simp] theorem State.offMem_checkLost (g : Nat) (b : CheckBurst) : (s.checkLost g b).offMem = s.offMem := by
  unfold State.checkLost
  split
  · rfl
  · exact s.offMem_memory _ _

@[simp] theorem State.offMem_onCheck (g : Nat) (k : Nat × Nat) (f : CheckBurst → CheckBurst) : (s.onCheck g k f).offMem = s.offMem := rfl

@[simp] theorem State.offMem_checkLoad (g : Nat) (k : Nat × Nat) : (s.checkLoad g k).offMem = s.offMem := by
  unfold State.checkLoad
  dsimp only
  split
  · rfl
  split
  · simp
  split
  · split <;> simp
  · simp

@[simp] theorem State.offMem_checkErr (g l : Nat) (k : Nat × Nat) : (s.checkErr g l k).offMem = s.offMem := by
  unfold State.checkErr
  split
  · rfl
  split
  · rfl
  · simp
  · split <;> simp

@[simp] theorem State.offMem_checkTouch (g l : Nat) (write : Bool) : (s.checkTouch g l write).offMem = s.offMem := by
  unfold State.checkTouch
  dsimp only
  split <;> split <;> simp

@[simp] theorem State.offMem_memInject (g l : Nat) : (s.memInject g l).1.offMem = s.offMem := by
  unfold State.memInject
  dsimp only
  split_ifs <;> rfl

@[simp] theorem State.offMem_writePart (g l h i : Nat) (mask : BitVec 128) (d : BitVec 1024) (ctx : Option Nat) :
    (s.writePart g l h i mask d ctx).offMem = s.offMem := by
  unfold State.writePart
  dsimp only
  split_ifs <;> simp

@[simp] theorem State.offMem_issueWrite (g : Nat) (w : MemWrite) : (s.issueWrite g w).offMem = s.offMem := by
  simp [State.issueWrite]

@[simp] theorem State.offMem_slotWrite (g l : Nat) (is : List Nat) : (s.slotWrite g l is).offMem = s.offMem := by
  unfold State.slotWrite
  dsimp only
  split
  · rfl
  split
  · split <;> simp
  · rfl

@[simp] theorem State.offMem_writeLine (g l h : Nat) (mask : BitVec 128) (d : BitVec 1024) (ctx : Option Nat) :
    (s.writeLine g l h mask d ctx).offMem = s.offMem := by
  have hparts (is : List Nat) (t : State) : (is.foldl (fun s i => s.writePart g l h i mask d ctx) t).offMem = t.offMem :=
    State.offMem_foldl (fun s i => s.offMem_writePart g l h i mask d ctx) is t
  unfold State.writeLine
  dsimp only
  split_ifs <;> simp [hparts]

@[simp] theorem State.offMem_fetchLine (g l h : Nat) : (s.fetchLine g l h).1.offMem = s.offMem := by
  have hces (is : List Nat) (t : State) : (is.foldl (fun s i => (s.inc F.MEMC_CE g 0).corrected 4 g (32 * (4 * l + i))) t).offMem = t.offMem :=
    State.offMem_foldl (fun s i => State.offMem_corrected (s.inc F.MEMC_CE g 0) 4 g _) is t
  have hues (is : List Nat) (t : State) : (is.foldl (fun s i => s.memUe g (4 * l + i)) t).offMem = t.offMem :=
    State.offMem_foldl (fun s i => s.offMem_memUe g _) is t
  unfold State.fetchLine
  dsimp only
  split <;> simp [hces, hues]

@[simp] theorem State.offMem_readLine (g l h : Nat) : (s.readLine g l h).1.offMem = s.offMem := by
  simp [State.readLine]

/-! ### Slots (R268, R283, R287) -/

@[simp] theorem State.offMem_onMiss (n l : Nat) (f : Miss → Miss) : (s.onMiss n l f).offMem = s.offMem := rfl

@[simp] theorem State.offMem_toSlot (g n : Nat) (m : Miss) : (s.toSlot g n m).offMem = s.offMem := by
  unfold State.toSlot
  dsimp only
  split_ifs <;> rfl

@[simp] theorem State.offMem_countServed (g : Nat) (m : Miss) (aged : Bool) : (s.countServed g m aged).offMem = s.offMem := by
  unfold State.countServed
  dsimp only
  split_ifs <;> rfl

@[simp] theorem State.offMem_dropIdle (g : Nat) : (s.dropIdle g).offMem = s.offMem := by
  unfold State.dropIdle
  dsimp only
  split <;> rfl

@[simp] theorem State.offMem_serveColumn (g n : Nat) (m : Miss) (aged : Bool) : (s.serveColumn g n m aged).offMem = s.offMem := by
  unfold State.serveColumn
  dsimp only
  split_ifs <;> simp

@[simp] theorem State.offMem_slotReady (g n : Nat) (m : Miss) : (s.slotReady g n m).offMem = s.offMem := by
  simp only [State.slotReady, State.offMem_onMiss]
  split
  · split <;> simp
  · split <;> simp

@[simp] theorem State.offMem_finishSlot (g n l : Nat) : (s.finishSlot g n l).offMem = s.offMem := by
  unfold State.finishSlot forN
  rw [State.offMem_foldl]
  · split
    · simp
    · rfl
  · intro t _
    split
    · split <;> simp
    · rfl

@[simp] theorem State.offMem_clearSlots (g : Nat) (m : Miss) : (s.clearSlots g m).offMem = s.offMem := by
  unfold State.clearSlots
  split
  · rfl
  · refine State.offMem_foldl (fun t x => ?_) _ s
    exact t.offMem_finishSlot g x.1 x.2.line

@[simp] theorem State.offMem_fetchNow (g n l : Nat) : (s.fetchNow g n l).offMem = s.offMem := by
  unfold State.fetchNow
  split
  · rfl
  split <;> simp

/-! ### Lines of a slice and of an L1 -/

@[simp] theorem State.offMem_errGone (n l : Nat) : (s.errGone n l).offMem = s.offMem := rfl
@[simp] theorem State.offMem_freeMiss (n l : Nat) : (s.freeMiss n l).offMem = s.offMem := rfl

@[simp] theorem State.offMem_l1Drop (p l : Nat) : (s.l1Drop p l).offMem = s.offMem := State.offMem_setBlk s _ _

@[simp] theorem State.offMem_l1Fill (p : Nat) (x : L1Line) : (s.l1Fill p x).offMem = s.offMem := by
  unfold State.l1Fill
  dsimp only
  split_ifs <;> rfl

@[simp] theorem State.offMem_dropSharers (n : Nat) (x : Line) : (s.dropSharers n x).offMem = s.offMem := by
  unfold State.dropSharers
  rw [State.offMem_foldl fun t p => t.offMem_l1Drop p x.line]
  exact s.offMem_inc _ _ _ _

@[simp] theorem State.offMem_writeBack (n : Nat) (x : Line) : (s.writeBack n x).offMem = s.offMem := by
  simp [State.writeBack]

@[simp] theorem State.offMem_slcUe (n l : Nat) : (s.slcUe n l).offMem = s.offMem := by
  unfold State.slcUe
  dsimp only
  split <;> rfl

@[simp] theorem State.offMem_resolveMem (n : Nat) (x : Line) : (s.resolveMem n x).1.offMem = s.offMem := by
  unfold State.resolveMem
  dsimp only
  split <;> simp

@[simp] theorem State.offMem_evict (n : Nat) (x : Line) : (s.evict n x).offMem = s.offMem := by
  unfold State.evict
  dsimp only
  rw [State.offMem_onSlc]
  split
  · simp
  · have hmem := (s.dropSharers n x).offMem_resolveMem n x
    split
    case h_1 t _ h => rw [State.offMem_of_eq h, hmem, State.offMem_dropSharers]
    case h_2 t h => rw [State.offMem_inc, State.offMem_of_eq h, hmem, State.offMem_dropSharers]
  · simp

@[simp] theorem State.offMem_settleForeign (n : Nat) (x : Line) : (s.settleForeign n x).offMem = s.offMem := by
  simp [State.settleForeign]

/-! ### Answers -/

@[simp] theorem State.offMem_answer (r : Req) (d : BitVec 1024) (fillL1 : Bool) : (s.answer r d fillL1).offMem = s.offMem := by
  unfold State.answer
  dsimp only
  split
  · split
    · rw [State.offMem_l1Fill, State.offMem_resps]
    · exact s.offMem_resps _
  · exact s.offMem_resps _

@[simp] theorem State.offMem_slcWrote (n l : Nat) : (s.slcWrote n l).offMem = s.offMem := by
  unfold State.slcWrote
  dsimp only
  split <;> rfl

@[simp] theorem State.offMem_ackWrite (n : Nat) (x : Line) (r : Req) : (s.ackWrite n x r).offMem = s.offMem := by
  unfold State.ackWrite
  dsimp only
  split
  · simp
  · rw [State.offMem_invs]
    simp

@[simp] theorem State.offMem_pinLine (n l owner : Nat) : (s.pinLine n l owner).1.offMem = s.offMem := by
  unfold State.pinLine
  split
  · rfl
  · dsimp only
    split <;> rfl

@[simp] theorem State.offMem_readHit (n : Nat) (x : Line) (r : Req) : (s.readHit n x r).offMem = s.offMem := by
  simp [State.readHit]

@[simp] theorem State.offMem_poisonHit (n : Nat) (r : Req) : (s.poisonHit n r).offMem = s.offMem := by
  unfold State.poisonHit
  dsimp only
  split <;> simp

@[simp] theorem State.offMem_poisonLine (n : Nat) (x : Line) (writer : Option Nat) : (s.poisonLine n x writer).offMem = s.offMem := by
  simp [State.poisonLine]

@[simp] theorem State.offMem_resolveFailed (n : Nat) (x : Line) : (s.resolveFailed n x).offMem = s.offMem := by
  simp [State.resolveFailed]

@[simp] theorem State.offMem_lineErr (n : Nat) (x : Line) (reads scrub : Bool) : (s.lineErr n x reads scrub).offMem = s.offMem := by
  have hgone : (if scrub then s.errGone n x.line else s).offMem = s.offMem := by split <;> rfl
  unfold State.lineErr
  split
  · rfl
  dsimp only
  split
  · split
    · simp [hgone]
    · rfl
  · simp [hgone]
  · simp [hgone]
  · simp
  · simp
  · split
    · rfl
    · split <;> simp

@[simp] theorem State.offMem_findVictim (n set fuel : Nat) : (s.findVictim n set fuel).1.offMem = s.offMem := by
  induction fuel generalizing s with
  | zero => rfl
  | succ fuel ih =>
    unfold State.findVictim
    split
    · split
      · split
        · rw [ih, State.offMem_lineErr]
        · split
          · rw [ih, State.offMem_resolveFailed, State.offMem_resolveMem]
          · rfl
      · rfl
    · rfl

/-! ### A request at a slice (R236 to R244) -/

@[simp] theorem State.offMem_recordHit (n l : Nat) : (s.recordHit n l).offMem = s.offMem := by
  unfold State.recordHit
  split <;> rfl

@[simp] theorem State.offMem_runAhead (n : Nat) (r : Req) (lo hi : Nat) : (s.runAhead n r lo hi).offMem = s.offMem := by
  unfold State.runAhead
  refine State.offMem_foldl (fun t i => ?_) _ s
  dsimp only
  split <;> rfl

@[simp] theorem State.offMem_raFrom (n : Nat) (r : Req) (next : Bool) : (s.raFrom n r next).offMem = s.offMem := by
  unfold State.raFrom
  dsimp only
  split
  · exact s.offMem_runAhead n r _ _
  · rfl

@[simp] theorem State.offMem_register (n : Nat) (r : Req) (k : MKind) (alloc fresh : Bool) (f : Slice → Slice) :
    (s.register n r k alloc fresh f).1.offMem = s.offMem := by
  unfold State.register
  dsimp only
  split
  · rw [State.offMem_onSlc]
    split <;> split <;> rfl
  · rfl

@[simp] theorem State.offMem_beginResolve (n : Nat) (x : Line) (r : Req) (fresh : Bool) : (s.beginResolve n x r fresh).1.offMem = s.offMem := by
  unfold State.beginResolve
  split
  case h_1 t h => rw [State.offMem_onMiss, State.offMem_of_eq h, State.offMem_register]
  case h_2 t h => rw [State.offMem_of_eq h, State.offMem_register]

@[simp] theorem State.offMem_hit (n : Nat) (x : Line) (r : Req) (fresh : Bool) : (s.hit n x r fresh).1.offMem = s.offMem := by
  have hcount : (if fresh then s.inc F.SLC_HITS n 0 else s).offMem = s.offMem := by split <;> rfl
  unfold State.hit
  dsimp only
  split
  · rfl
  · split
    · simp [hcount]
    · simp
    · split <;> simp [hcount]
  · split
    · split <;> simp [hcount]
    · simp
    · simp [hcount]
  · split
    · simp [hcount]
    · split <;> simp [hcount]
    · split <;> simp [hcount]

@[simp] theorem State.offMem_fetchReports (n q : Nat) (ws : List Req) : (s.fetchReports n q ws).offMem = s.offMem := by
  unfold State.fetchReports
  dsimp only
  split
  · split <;> simp
  · rw [State.offMem_foldl fun t e => t.offMem_record _, State.offMem_report]

@[simp] theorem State.offMem_reduceMem (n : Nat) (r : Req) (op : Nat) : (s.reduceMem n r op).offMem = s.offMem := by
  unfold State.reduceMem
  dsimp only
  split <;> simp

@[simp] theorem State.offMem_missed (n : Nat) (r : Req) (fresh : Bool) : (s.missed n r fresh).1.offMem = s.offMem := by
  have hv := s.offMem_findVictim n (setOf r.line) 16
  unfold State.missed
  generalize s.findVictim n (setOf r.line) 16 = q at *
  obtain ⟨t, v⟩ := q
  extract_lets g cons clear place fetch
  have hclear (u : State) (w : Nat) : (clear u w).offMem = u.offMem := by
    unfold clear
    split
    · simp
    · rfl
  have hplace (u : State) (w : Nat) (c : Bool) : (place u w c).1.offMem = u.offMem := by
    unfold place
    rw [State.offMem_pinLine, hclear]
    unfold cons
    split <;> rfl
  have hfetch (u : State) (w : Nat) (c : Bool) : (fetch u w c).1.offMem = u.offMem := by
    unfold fetch
    split
    · simp [hplace]
    · rfl
  clear_value cons clear place fetch
  dsimp only at hv ⊢
  split
  · split
    · split
      · simp [hv]
      · split
        · exact hv
        · simp [hplace, hv]
    · simp [hv]
  · split
    · simp [hv]
    · simp [hv]
    · simp [hfetch, hv]
  · split
    · simp [hv]
    · simp [hv]
    · simp [hplace, hv]
  · split
    · simp [hv]
    · simp [hv]
    · split
      · simp [hfetch, hv]
      · split
        · rw [hfetch]
          split <;> simp [hv]
        · simp [hplace, hv]

@[simp] theorem State.offMem_take (n : Nat) (r : Req) (fresh : Bool) : (s.take n r fresh).1.offMem = s.offMem := by
  unfold State.take
  split
  · dsimp only
    split <;> simp
  split
  · split
    · rfl
    split
    · rfl
    · dsimp only
      rw [State.offMem_onMiss]
      have hmerged : (if fresh then s.inc F.SLC_MERGED n 0 else s).offMem = s.offMem := by split <;> rfl
      split
      · simp [hmerged]
      · exact hmerged
  · extract_lets pf s1 s2 wasRec s3
    have h1 : s1.offMem = s.offMem := by
      unfold s1
      split
      · split <;> simp
      · rfl
    have h2 : s2.offMem = s.offMem := by
      unfold s2
      split
      · split <;> simp [h1]
      · exact h1
    clear_value s1 s2
    split
    · have h3 : s3.offMem = s.offMem := by
        unfold s3
        split <;> simp [h2]
      rw [State.offMem_hit]
      split <;> simp [h3]
    · have hmissed := s2.offMem_missed n r fresh
      split
      case h_1 t h =>
        have ht := (State.offMem_of_eq h).trans hmissed
        dsimp only
        split <;> simp [ht, h2]
      case h_2 t h => exact ((State.offMem_of_eq h).trans hmissed).trans h2

/-! ### Requests that wait (R237, R238) -/

@[simp] theorem State.offMem_refuse (n : Nat) (r : Req) : (s.refuse n r).offMem = s.offMem := by
  unfold State.refuse
  dsimp only
  rw [State.offMem_reqs]
  split <;> rfl

@[simp] theorem State.offMem_offer (n : Nat) (r : Req) : (s.offer n r).offMem = s.offMem := by
  have htake := s.offMem_take n r true
  unfold State.offer
  split
  case h_1 t h => exact (State.offMem_of_eq h).trans htake
  case h_2 t h => rw [State.offMem_refuse, State.offMem_of_eq h, htake]

@[simp] theorem State.offMem_reoffer (n : Nat) (r : Req) : (s.reoffer n r).offMem = s.offMem := by
  have htake := s.offMem_take n r false
  unfold State.reoffer
  split
  case h_1 t h => exact (State.offMem_of_eq h).trans htake
  case h_2 t h => rw [State.offMem_refuse, State.offMem_of_eq h, htake]

@[simp] theorem State.offMem_serve (n : Nat) (rs : List Req) : (s.serve n rs).offMem = s.offMem := by
  induction rs generalizing s with
  | nil => rfl
  | cons r rs ih =>
    unfold State.serve
    dsimp only
    rw [ih]
    split
    · split <;> simp
    · simp

@[simp] theorem State.offMem_retryVictims (n : Nat) : (s.retryVictims n).offMem = s.offMem := by
  simp [State.retryVictims]

@[simp] theorem State.offMem_serveBare (n keyh : Nat) (data : BitVec 1024) (rs : List Req) (written : Bool) :
    (s.serveBare n keyh data rs written).offMem = s.offMem := by
  induction rs generalizing s written with
  | nil => rw [State.serveBare]
  | cons r rs ih =>
    unfold State.serveBare
    split
    · exact ih s written
    · split
      · rw [ih, State.offMem_answer]
      · dsimp only
        split <;> simp [ih]
    · simp [ih]
    · simp [ih]

@[simp] theorem State.offMem_fillMiss (n : Nat) (m : Miss) (data : BitVec 1024) (ue : Option Nat) : (s.fillMiss n m data ue).offMem = s.offMem := by
  have hanswers (rs : List Req) (t : State) : (rs.foldl (fun (s : State) r => s.answer r 0 false) t).offMem = t.offMem :=
    State.offMem_foldl (fun t r => t.offMem_answer r 0 false) rs t
  unfold State.fillMiss
  extract_lets s1 old s4
  have h1 : s1.offMem = s.offMem := s.offMem_freeMiss n m.line
  split
  · extract_lets s2 s3
    have h2 : s2.offMem = s.offMem := by
      unfold s2
      split <;> simp [h1]
    have h3 : s3.offMem = s.offMem := by
      unfold s3
      cases old with
      | none => exact h2
      | some x =>
        dsimp only
        split <;> simp [h2]
    simp only [State.offMem_retryVictims, State.offMem_serve]
    exact (hanswers _ s3).trans h3
  · have h4 : s4.offMem = s.offMem := by
      unfold s4
      split
      · split <;> simp [h1]
      · exact h1
    cases old <;> simp [h4]

@[simp] theorem State.offMem_resolveMiss (n : Nat) (m : Miss) : (s.resolveMiss n m).offMem = s.offMem := by
  unfold State.resolveMiss
  extract_lets s1
  have h1 : s1.offMem = s.offMem := by simp [s1]
  split
  · simp [h1]
  case h_2 x _ =>
    have hmem := (s1.offMem_resolveMem n x).trans h1
    rw [State.offMem_retryVictims, State.offMem_serve, State.offMem_dropIdle]
    split
    case h_1 t d h => rw [State.offMem_onSlc, State.offMem_dropSharers, State.offMem_of_eq h, hmem]
    case h_2 t h => rw [State.offMem_resolveFailed, State.offMem_of_eq h, hmem]

/-! ### Lines settled for an access whose work is one step -/

@[simp] theorem State.offMem_settleOne (n l : Nat) : (s.settleOne n l).offMem = s.offMem := by
  unfold State.settleOne
  split
  · rfl
  split
  · simp
  · dsimp only
    split
    · simp
    · split <;> simp

@[simp] theorem State.offMem_settleSlice (n : Nat) : (s.settleSlice n).offMem = s.offMem :=
  State.offMem_foldl (fun t l => t.offMem_settleOne n l) _ s

@[simp] theorem State.offMem_settleLine (n l : Nat) : (s.settleLine n l).offMem = s.offMem := by
  unfold State.settleLine
  split <;> simp

@[simp] theorem State.offMem_makeRoom (n : Nat) (r : Req) : (s.makeRoom n r).offMem = s.offMem := by
  unfold State.makeRoom
  split
  · split <;> simp
  · split <;> simp

@[simp] theorem State.offMem_settleInv (n id : Nat) : (s.settleInv n id).offMem = s.offMem := by
  unfold State.settleInv
  extract_lets ms s1 s2
  have h2 : s2.offMem = s.offMem :=
    (s1.offMem_invs _).trans (State.offMem_foldl (fun t m => t.offMem_l1Drop m.blk m.line) ms s)
  split
  · exact h2
  · simp [h2]

@[simp] theorem State.offMem_loseLine (n : Nat) (x : Line) : (s.loseLine n x).offMem = s.offMem := by
  unfold State.loseLine
  dsimp only
  rw [State.offMem_onSlc]
  split <;> simp

@[simp] theorem State.offMem_drainLine (n : Nat) (unreadable : List Nat) (x : Line) : (s.drainLine n unreadable x).offMem = s.offMem := by
  unfold State.drainLine
  split
  · simp
  · dsimp only
    split
    · simp
    · split <;> simp

@[simp] theorem State.offMem_drained1 (l : Nat) : (s.drained1 l).offMem = s.offMem := by
  unfold State.drained1
  split
  · rfl
  · dsimp only
    split <;> simp

/-! ### Accesses of a unit to memory (R231, R251) -/

@[simp] theorem State.offMem_access (r : Req) : (s.access r).1.offMem = s.offMem := by
  unfold State.access
  split
  · rfl
  case h_2 n _ =>
    extract_lets r' s1 s2 s3 s4
    have h1 : s1.offMem = s.offMem := rfl
    have h4 : s4.offMem = s.offMem := by simp [s4, s3, s2, h1]
    split
    · exact (s4.offMem_resps _).trans h4
    · exact (s4.offMem_reqs _).trans h4

@[simp] theorem State.offMem_noteWrite (c : Nat) (x : Xlat) : (s.noteWrite c x).offMem = s.offMem := by
  unfold State.noteWrite
  split
  · split
    · split <;> rfl
    · rfl
  · rfl

@[simp] theorem State.offMem_ctxWrite (u : Accessor) (op : ROp) (a : Nat) (bs : List Byte) (fs : CmdFaults) :
    (s.ctxWrite u op a bs fs).1.offMem = s.offMem := by
  unfold State.ctxWrite
  generalize pieces a bs.length = xs
  induction xs generalizing s fs with
  | nil => rfl
  | cons x xs ih =>
    rw [List.foldl_cons]
    dsimp only
    split
    · exact ih s _
    · split
      · exact ih s _
      · rw [ih]
        simp

end

end Sys2Proof.Machine
end

section
/-! PROOFS. Thread groups that complete a load, retire, or meet an illegal word (R182, R194, R199, R202, R208). -/

namespace Sys2Proof.Machine
open Sys2Proof Sys2Proof.Claims

/-! ### Answers of loads (R194, R239) -/

section
variable (x : Group)

theorem Group.putLoad_eq_setTs (l d z raw : Nat) :
    x.putLoad l d z raw = x.setTs ((List.range (VX.szRegs z)).map fun i => (l, d + i, bitsOf (vecExtend z raw) (32 * i) 32)) := by
  rw [Group.setTs, List.foldl_map]
  rfl

/-- The items of a load that has its lines change registers alone. -/
theorem Group.foldl_putLoad_eq (d z : Nat) (raw : VItem → Nat) (is : List VItem) :
    let y := is.foldl (fun (y : Group) i => y.putLoad i.lane d z (raw i)) x
    y = { x with treg := y.treg } := by
  induction is generalizing x with
  | nil => rfl
  | cons i is ih =>
    have hput := x.putLoad_eq_setTs i.lane d z (raw i) ▸ x.setTs_eq _
    rw [List.foldl_cons]
    exact (ih (x.putLoad i.lane d z (raw i))).trans (by rw [hput])

end

/-- The answer to the last request of a group's only load writes the load's registers and ends it. -/
theorem execVxLoadReturn_of_last {s : State} {p g k : Nat} {x : Group} {r : Resp} {l : VLoad} (hp : p < nBlks) (hgrp : s.grp p g = some x)
    (hanswer : ((inOrder s p).filter (fun r => x.loads.any (fun l => l.need.contains r.req.id)))[k]? = some r) (hloads : x.loads = [l])
    (hneed : l.need = [r.req.id]) :
    exec (.vxLoadReturn p g k) s = .next (State.setGrp { s with resps := s.resps.filter (fun q => q.req.id != r.req.id) } p g
      { l.items.foldl (fun (y : Group) i => y.putLoad i.lane l.d l.sz (lineNat ((SMap.put r.req.line r.data l.got).get i.line 0) i.off i.size)) x with
        loads := [] }) := by
  rw [exec_vxLoadReturn, execVxLoadReturn, onUnit_of_lt hp, hgrp]
  dsimp only
  rw [State.arrived_eq_inOrder, hanswer]
  dsimp only
  rw [hloads]
  simp [hneed]

/-! ### Retirement and the Block barrier (R182, R202) -/

theorem SMap.mem_ne_of_find_eq_none {α : Type} {k : Nat} {m : SMap α} (h : SMap.find k m = none) : ∀ e ∈ m, e.1 ≠ k := by
  induction m with
  | nil => simp
  | cons e m ih =>
    obtain ⟨a, v⟩ := e
    unfold SMap.find at h
    split_ifs at h with ha
    exact fun e he => (List.mem_cons.mp he).elim (fun heq => heq ▸ ha) (ih h e)

/-- From s to t, slots of Block p other than g may change, and nothing of its core or of memory. -/
structure slotKept (p g : Nat) (s t : State) : Prop where
  dram : t.dram = s.dram
  core : (t.blk p).core = (s.blk p).core
  slot : t.grp p g = s.grp p g

section
variable {p g : Nat} {s t : State}

theorem slotKept.setGrp (k : slotKept p g s t) {h : Nat} (hne : g ≠ h) (y : Group) : slotKept p g s (t.setGrp p h y) where
  dram := k.dram
  core := (congrArg Block.core (t.onBlk_blk_same p _)).trans k.core
  slot := (t.setGrp_grp_ne p hne y).trans k.slot

/-- A release of the Block barrier leaves an empty slot empty. -/
theorem State.slotKept_blkBarrier (hnone : s.grp p g = none) : slotKept p g s (s.blkBarrier p) := by
  have hrefl : slotKept p g s s := ⟨rfl, rfl, rfl⟩
  unfold State.blkBarrier
  split
  · refine List.foldlRecOn _ _ hrefl fun t ht e he => ?_
    have hne : g ≠ e.1 := (SMap.mem_ne_of_find_eq_none hnone e (List.mem_of_mem_filter he)).symm
    split
    · exact ht.setGrp hne _
    · exact ht
  · exact hrefl

end

/-! ### Illegal words (R186, R208) -/

/-- From s to t, Block p keeps its thread groups, its core and its queues, and the device its security state. -/
structure confined (p : Nat) (s t : State) : Prop where
  groups : (t.blk p).vx = (s.blk p).vx
  core : (t.blk p).core = (s.blk p).core
  queues : (t.blk p).q = (s.blk p).q
  sec : t.sec = s.sec

section
variable {p : Nat} {s t u : State}

theorem confined.trans (h : confined p s t) (k : confined p t u) : confined p s u :=
  ⟨k.groups.trans h.groups, k.core.trans h.core, k.queues.trans h.queues, k.sec.trans h.sec⟩

theorem confined_of_besideMem (hblk : t.besideMem = s.besideMem) (hoff : t.offMem = s.offMem) : confined p s t where
  groups := (congrArg Block.vx (congrFun hblk p) :)
  core := State.core_of_besideMem hblk p
  queues := (congrArg Block.q (congrFun hblk p) :)
  sec := (congrArg State.sec hoff :)

theorem confined_onBlk {f : Block → Block} (s : State) (p : Nat) (hvx : (f (s.blk p)).vx = (s.blk p).vx) (hcore : (f (s.blk p)).core = (s.blk p).core)
    (hq : (f (s.blk p)).q = (s.blk p).q) : confined p s (s.onBlk p f) := by
  constructor <;> simp only [State.onBlk_blk_same, State.onBlk_sec, hvx, hcore, hq]

theorem confined_fault (s : State) (p code page addr detail : Nat) : confined p s (s.fault code page addr detail) := by
  refine confined_of_besideMem ?_ (s.offMem_fault code page addr detail)
  rw [(reported_fault s code page addr detail).only]
  rfl

theorem confined_fetchErr (s : State) (p pc : Nat) : confined p s (s.fetchErr p pc) := by
  unfold State.fetchErr
  dsimp only
  split_ifs
  · exact (confined_fault s p _ _ _ _).trans (confined_onBlk _ p rfl rfl rfl)
  · exact confined_of_besideMem (s.besideMem_corrected _ _ _) (s.offMem_corrected _ _ _)
  · exact ⟨rfl, rfl, rfl, rfl⟩

theorem confined_vecFault (s : State) (p g kind lane a : Nat) : confined p s (s.vecFault p g kind lane a) := by
  unfold State.vecFault
  extract_lets pc s1
  have h1 : confined p s s1 := by
    unfold s1
    split <;> exact ⟨rfl, rfl, rfl, rfl⟩
  exact (h1.trans (confined_fault s1 p _ _ _ _)).trans (confined_onBlk _ p rfl rfl rfl)

/-- The undefined result of a group reaches nothing of its place in the launch and its loads, and nothing of the Block's other groups, core or queues. -/
theorem State.vecUndefined_spec {g : Nat} {x : Group} (hgrp : s.grp p g = some x) :
    ∃ y, (s.vecUndefined p g).grp p g = some y ∧ y.ord = x.ord ∧ y.num = x.num ∧ y.groups = x.groups ∧ y.loads = x.loads ∧ y.stores = x.stores
      ∧ (∀ l, l < 32 → x.exited.getLsbD l = true → y.exited.getLsbD l = true) ∧ (∀ h, h ≠ g → (s.vecUndefined p g).grp p h = s.grp p h)
      ∧ ((s.vecUndefined p g).blk p).core = (s.blk p).core ∧ ((s.vecUndefined p g).blk p).q = (s.blk p).q ∧ (s.vecUndefined p g).sec = s.sec := by
  generalize ht : s.vecUndefined p g = t
  rw [State.vecUndefined, hgrp] at ht
  split at ht
  case h_1 _ run heq _ =>
    cases heq
    extract_lets st s1 at ht
    have hstores : confined p s s1 := by
      refine List.foldlRecOn _ _ ⟨rfl, rfl, rfl, rfl⟩ fun t ht a _ => ht.trans ?_
      dsimp only
      split
      · exact confined_vecFault t p g _ _ _
      · exact confined_of_besideMem (t.besideMem_ctxWrite _ _ _ _ _) (t.offMem_ctxWrite _ _ _ _ _)
    have hfrees : confined p s (s1.frees (2048 + 224 + 5 + 64 + 64)).1 := hstores.trans ⟨rfl, rfl, rfl, rfl⟩
    generalize s1.frees (2048 + 224 + 5 + 64 + 64) = q at ht hfrees
    obtain ⟨s2, v⟩ := q
    dsimp only at ht hfrees
    subst ht
    refine ⟨_, State.setGrp_grp_same _ p g _, rfl, rfl, rfl, rfl, rfl, fun l _ hl => ?_, fun h hne => ?_, ?_, ?_, hfrees.sec⟩
    · rw [BitVec.getLsbD_or, hl, Bool.true_or]
    · exact (State.setGrp_grp_ne _ p hne _).trans (congrArg (SMap.find h) hfrees.groups)
    · exact (congrArg Block.core (s2.onBlk_blk_same p _)).trans hfrees.core
    · exact (congrArg Block.q (s2.onBlk_blk_same p _)).trans hfrees.queues
  · subst ht
    exact ⟨x, hgrp, rfl, rfl, rfl, rfl, rfl, fun _ _ h => h, fun _ _ => rfl, rfl, rfl, rfl⟩

end

/-- Settles O19: an answer writes the load's registers, a retired group leaves its slot, and an illegal word reaches only what it may. -/
theorem vectorGroupsStartLoadAndRetire : Obligations.VectorGroupsStartLoadAndRetire := by
  unfold Obligations.VectorGroupsStartLoadAndRetire
  intro s p g x hp hgrp
  refine ⟨fun k r l hanswer hloads hneed => ?_, fun halive hstores => ?_, fun hdec hrun hstop hactive => ?_⟩
  · have hput := x.foldl_putLoad_eq l.d l.sz (fun i => lineNat ((SMap.put r.req.line r.data l.got).get i.line 0) i.off i.size) l.items
    refine ⟨_, _, execVxLoadReturn_of_last hp hgrp hanswer hloads hneed, State.setGrp_grp_same _ p g _, rfl, ?_, rfl, rfl⟩
    dsimp only
    rw [hput]
  · have hgone : (s.onBlk p fun b => { b with vx := SMap.del g b.vx }).grp p g = none := by
      rw [State.grp, State.onBlk_blk_same, SMap.find_del_same]
    have hkept := State.slotKept_blkBarrier hgone
    refine ⟨_, ?_, hkept.dram, hkept.core.trans (by rw [State.onBlk_blk_same]), hkept.slot.trans hgone⟩
    rw [exec_groupRetire, execGroupRetire, onUnit_of_lt hp, hgrp]
    dsimp only
    rw [if_pos ⟨halive, hstores⟩]
  · have hbefore : confined p s ((s.fetchErr p x.pc).inc F.BLK_VX_ISSUED p 0) := (confined_fetchErr s p x.pc).trans ⟨rfl, rfl, rfl, rfl⟩
    have hslot (h : Nat) : ((s.fetchErr p x.pc).inc F.BLK_VX_ISSUED p 0).grp p h = s.grp p h := congrArg (SMap.find h) hbefore.groups
    obtain ⟨y, hy, hord, hnum, hgroups, hloads, hstores, hexited, hothers, hcore, hqueues, hsec⟩ := State.vecUndefined_spec ((hslot g).trans hgrp)
    refine ⟨_, y, ?_, hy, hord, hnum, hgroups, hloads, hstores, hexited, fun h hne => (hothers h hne).trans (hslot h), hcore.trans hbefore.core,
      hqueues.trans hbefore.queues, hsec.trans hbefore.sec⟩
    have hacts : ¬ ((s.blk p).core.running = false ∨ (s.blk p).vxStopped = true ∨ x.active = 0 ∨ VX.decode ((s.blk p).im.fetch64 x.pc) ≠ none) := by
      rw [vecWord] at hdec
      simpa [hrun, hstop, hdec] using hactive
    rw [exec_illegalVectorEncoding, execIllegalVectorEncoding, onUnit_of_lt hp, hgrp]
    dsimp only
    rw [if_neg hacts]

end Sys2Proof.Machine
end

section
/-! PROOFS. One byte written to scratchpad by a unit that its bank serves (R211, R212, R214, R219, R220), and the changes of one Block and of register
fields that the scratchpad's commands make. -/

namespace Sys2Proof.Machine
open Sys2Proof Sys2Proof.Claims

/-! ### Changes of one Block and of some register fields -/

/-- From s to t nothing changes but Block p and the register fields with the keys listed. -/
structure inBlk (p : Nat) (ks : List Nat) (s t : State) : Prop where
  only : onlyBlks s t
  others : blksBut p s t
  regs : regsBut ks s t

section
variable {p : Nat} {ks ls : List Nat} {s t u : State}

theorem inBlk.refl (p : Nat) (ks : List Nat) (s : State) : inBlk p ks s s := ⟨rfl, fun _ _ => rfl, regsBut_of_regs rfl⟩

theorem inBlk.mono (h : inBlk p ks s t) (hsub : ks ⊆ ls) : inBlk p ls s t := ⟨h.only, h.others, regsBut.mono h.regs hsub⟩

theorem regsBut.wrAt (h : regsBut ks s t) {pg : Page} {n i : Nat} {f : Fld} (hk : keyAt pg n f i ∈ ks) (v : Nat) : regsBut ks s (t.wrAt pg n f i v) :=
  regsBut.mono (regsBut.trans h (regsBut_wrAt t pg n f i v)) (List.append_subset.mpr ⟨List.Subset.refl ks, fun _ hm => List.mem_singleton.mp hm ▸ hk⟩)

theorem regsBut.wr (h : regsBut ks s t) {f : Fld} {n i : Nat} (hk : keyOf f n i ∈ ks) (v : Nat) : regsBut ks s (t.wr f n i v) := regsBut.wrAt h hk v

theorem inBlk.wr (h : inBlk p ks s t) {f : Fld} {n i : Nat} (hk : keyOf f n i ∈ ks) (v : Nat) : inBlk p ks s (t.wr f n i v) :=
  ⟨onlyBlks.trans h.only rfl, h.others, regsBut.wr h.regs hk v⟩

theorem inBlk.setEvt (h : inBlk p ks s t) {pg : Page} {n : Nat} (hk : evtKey pg n ∈ ks) (b : Nat) : inBlk p ks s (t.setEvt pg n b) :=
  ⟨onlyBlks.trans h.only rfl, h.others, regsBut.wrAt h.regs hk _⟩

theorem inBlk.onBlk (h : inBlk p ks s t) (f : Block → Block) : inBlk p ks s (t.onBlk p f) :=
  ⟨onlyBlks.trans h.only rfl, blksBut.trans h.others fun q hq => t.onBlk_blk_ne q p f hq, h.regs⟩

theorem inBlk.foldl {α : Type} {f : State → α → State} (hf : ∀ t a, inBlk p ks s t → inBlk p ks s (f t a)) (xs : List α) (h : inBlk p ks s t) :
    inBlk p ks s (xs.foldl f t) := by
  induction xs generalizing t with
  | nil => exact h
  | cons x xs ih => exact ih (hf t x h)

theorem inBlk.trans (h : inBlk p ks s t) (k : inBlk p ks t u) : inBlk p ks s u :=
  ⟨onlyBlks.trans h.only k.only, blksBut.trans h.others k.others, regsBut.mono (regsBut.trans h.regs k.regs) (by simp)⟩

theorem inBlk.rd_eq (h : inBlk p ks s t) {f : Fld} {n i : Nat} (hk : keyOf f n i ∉ ks) : t.rd f n i = s.rd f n i := h.regs _ _ _ _ hk

end

/-! ### One byte -/

/-- A byte that no write of the list reaches. -/
theorem storedTo.spByte_of_ne {p : Nat} {s t : State} {xs : List (Nat × Byte)} (h : storedTo p s t xs) {x : Nat}
    (hne : ∀ e ∈ xs, ¬ (s.spWord p x = s.spWord p e.1 ∧ x % 8 = e.1 % 8)) : t.spByte p x = s.spByte p x := by
  rw [State.spByte_eq, h.sp, State.spWord_of_spMapRegs h.regs, State.spByte_eq]
  exact storeBytes_byteAt_of_ne _ _ (Nat.mod_lt _ (by decide)) hne

section
variable {s : State} {p a : Nat} {u : SpUnit}

/-- A unit other than the Block DMA is no guest, and in a bank of its own neither is the Block DMA (R215). -/
theorem State.spGuest_of_own (h : u.code = 4 → s.rd F.BLK_SP_OWN_UNIT p (s.spPlaceOf p a).1 = 4) : s.spGuest p u [a] = s := by
  refine if_neg fun ⟨hdma, hguest⟩ => ?_
  simp [h hdma] at hguest

/-- A word without errors has none to meet (R223). -/
theorem State.spCheck_of_errs_nil (h : (s.blk p).sp.errs = []) (x w : Nat) : s.spCheck p x w = s := by
  unfold State.spCheck
  rw [h]
  rfl

/-- A write that is served, to words without errors and not as a guest, changes the Block and its count of partial writes (R212). -/
theorem State.inBlk_spWriteL {xs : List (Nat × Byte)} (hguest : s.spGuest p u (xs.map (fun e => e.1)) = s)
    (hserved : ∀ e ∈ xs, s.spServes p (s.spPlaceOf p e.1).1 u = true) (herrs : (s.blk p).sp.errs = []) :
    inBlk p [keyOf F.BLK_SP_RMW p 0] s (s.spWriteL p u xs) := by
  unfold State.spWriteL
  rw [hguest]
  extract_lets s0 ok addrs part s1 rows s1' s2 inj s3
  have h1 : s1 = s := List.foldl_fixed' (fun w => State.spCheck_of_errs_nil herrs _ w) part
  have h1' : inBlk p [keyOf F.BLK_SP_RMW p 0] s s1' := by
    unfold s1'
    rw [h1]
    split
    · exact inBlk.refl p _ s
    · exact (inBlk.refl p _ s).wr (List.mem_singleton_self _) _
  have h2 : inBlk p [keyOf F.BLK_SP_RMW p 0] s s2 := inBlk.foldl (fun t e ht => by
    dsimp only
    split
    · exact ht.onBlk _
    · exact ht) xs h1'
  have hall : addrs.all ok = true := by
    rw [List.all_eq_true]
    rintro x hx
    obtain ⟨e, he, rfl⟩ := List.mem_map.mp hx
    exact hserved e he
  rw [if_pos hall]
  unfold s3
  split
  · exact h2
  · split
    · exact h2.onBlk _
    · exact h2

end

/-- Settles O11: the byte is stored in its word, and beside it a count changes. -/
theorem scratchpadByteWriteThenRead : Obligations.ScratchpadByteWriteThenRead := by
  intro s p a b u v hserved hown herrs hinj t
  have hbyte : ∀ e ∈ [(a, v)], s.spServes p (s.spPlaceOf p e.1).1 u = true := by simpa using hserved
  have hstored : storedTo p s t [(a, v)] := State.storedTo_spWriteL hbyte hinj
  have hedit : inBlk p [keyOf F.BLK_SP_RMW p 0] s t := State.inBlk_spWriteL (State.spGuest_of_own hown) hbyte herrs
  refine ⟨hstored.spByte_of_mem (List.mem_singleton_self _) (List.pairwise_singleton _ _), fun hne => hstored.spByte_of_ne ?_,
    hedit.only, hedit.others, hedit.regs⟩
  rw [List.forall_mem_singleton, not_and_or]
  exact hne

end Sys2Proof.Machine
end

section
/-! PROOFS. Owners and banks of scratchpad, and Clove (R213, R216, R217, R220, R224 to R227). -/

namespace Sys2Proof.Machine
open Sys2Proof Sys2Proof.Claims

/-! ### Owners (R217, R227) -/

theorem bitsOf_mod (x lo w : Nat) : bitsOf x lo w % 2 ^ w = bitsOf x lo w := Nat.mod_mod _ _

/-- Copies of two fields at different places of one register, which is not split within itself, have different keys. -/
theorem keyAt_ne_of_lo {f g : Fld} (hreg : (f.off, f.stride, f.bcount, f.bstride) = (g.off, g.stride, g.bcount, g.bstride)) (hlo : f.lo ≠ g.lo)
    (pg : Page) (u i : Nat) : keyAt pg u f i ≠ keyAt pg u g i := by
  simp only [Prod.mk.injEq] at hreg
  obtain ⟨hoff, hstride, hbcount, hbstride⟩ := hreg
  simp only [keyAt, hoff, hstride, hbcount, hbstride]
  omega

/-- A write of one field of a register leaves the others of the same copy. -/
theorem State.rd_wr_of_lo {f g : Fld} (hp : g.page = f.page)
    (hreg : (g.off, g.stride, g.bcount, g.bstride) = (f.off, f.stride, f.bcount, f.bstride)) (hlo : g.lo ≠ f.lo) (s : State) (u i v : Nat) :
    (s.wr f u i v).rd g u i = s.rd g u i :=
  State.rd_wr_ne _ _ _ _ _ _ _ _ (hp ▸ keyAt_ne_of_lo hreg hlo _ u i)

/-- The state after the request for an owner unit of bank b of Block p is recorded, before it takes effect or waits. -/
def State.spOwnAsked (s : State) (p b v : Nat) : State := (s.wr F.BLK_SP_OWN_UNIT_REQ p b (bitsOf v 0 3)).wr F.BLK_SP_OWN_GATH_REQ p b (bitsOf v 3 4)

section
variable {s : State} {p b : Nat} {src : Source} {v : Nat}

/-- The owner registers of the banks lie apart from the banks' power states. -/
theorem State.waking_wr_spOwn {f : Fld} (hp : f.page = .blk) (hreg : (f.off, f.stride, f.bcount, f.bstride) = (0x600, 4, 1, 0)) (hlo : f.lo < 64)
    (s : State) (p : Nat) (hb : b < 16) (x : Nat) : (s.wr f p b x).rd F.BLK_SP_STATUS_WAKING p = s.rd F.BLK_SP_STATUS_WAKING p := by
  refine State.rd_wr_ne _ _ _ _ _ _ _ _ ?_
  simp only [Prod.mk.injEq] at hreg
  obtain ⟨hoff, hstride, hbcount, hbstride⟩ := hreg
  simp only [keyAt, F.BLK_SP_STATUS_WAKING, hp, hoff, hstride, hbcount, hbstride]
  omega

theorem State.spIdle_spOwnAsked (s : State) (p v : Nat) (hb : b < 16) : (s.spOwnAsked p b v).spIdle p b = s.spIdle p b := by
  rw [State.spIdle, State.spOwnAsked, State.waking_wr_spOwn rfl rfl (by decide) _ p hb, State.waking_wr_spOwn rfl rfl (by decide) s p hb]
  rfl

theorem State.spOwnWrite_of_code (hmay : s.mayWrite src = true) (hb : b < 16) (hcode : bitsOf v 0 3 ≤ 5) :
    s.spOwnWrite src p b v = if s.spIdle p b then (s.spOwnAsked p b v).spOwnApply p b else (s.spOwnAsked p b v).wr F.BLK_SP_OWN_PENDING p b 1 := by
  rw [State.spOwnWrite, if_neg (by simp [hmay, hb]), if_neg (by omega), ← s.spIdle_spOwnAsked p v hb]
  rfl

theorem State.spOwnWrite_of_reserved (hmay : s.mayWrite src = true) (hb : b < 16) (hcode : 5 < bitsOf v 0 3) :
    s.spOwnWrite src p b v = s.setEvt .blk p 0 := by
  rw [State.spOwnWrite, if_neg (by simp [hmay, hb]), if_pos hcode]
  rfl

theorem State.spIdle_iff : s.spIdle p b = true ↔ bitOf (s.rd F.BLK_SP_STATUS_WAKING p) b = false ∧ (s.blk p).sp.clove = none := by
  rw [State.spIdle, Bool.and_eq_true, Bool.not_eq_true', Option.isNone_iff_eq_none]

theorem execSpOwnWrite_eq (hsrc : sourceOk src = true) (hp : p < nBlks) (b : Nat) (v : Word) :
    exec (.spOwnWrite src p b v) s = .next (s.spOwnWrite src p b v.toNat) := by
  rw [exec_spOwnWrite, execSpOwnWrite, onSrc_of_ok hsrc, onUnit_of_lt hp]

end

section
variable (s : State) (p b v : Nat)

theorem State.regsBut_spOwnAsked : regsBut (ownKeys p b) s (s.spOwnAsked p b v) :=
  regsBut.wr (regsBut.wr (regsBut_of_regs rfl) (.head _) _) (.tail _ (.head _)) _

/-- The request fields hold what was asked for, whether it takes effect or waits. -/
theorem State.rd_spOwnAsked : (s.spOwnAsked p b v).rd F.BLK_SP_OWN_UNIT_REQ p b = bitsOf v 0 3
    ∧ (s.spOwnAsked p b v).rd F.BLK_SP_OWN_GATH_REQ p b = bitsOf v 3 4
    ∧ (s.spOwnAsked p b v).rd F.BLK_SP_OWN_UNIT p b = s.rd F.BLK_SP_OWN_UNIT p b := by
  unfold State.spOwnAsked
  refine ⟨?_, ?_, ?_⟩ <;> simp (disch := decide) only [State.rd_wr_of_lo, State.rd_wr_same]
  · exact bitsOf_mod v 0 3
  · exact bitsOf_mod v 3 4

theorem State.spOwnApply_spec : onlyRegs s (s.spOwnApply p b) ∧ regsBut (ownKeys p b) s (s.spOwnApply p b)
    ∧ (s.spOwnApply p b).rd F.BLK_SP_OWN_UNIT_REQ p b = s.rd F.BLK_SP_OWN_UNIT_REQ p b
    ∧ (s.spOwnApply p b).rd F.BLK_SP_OWN_GATH_REQ p b = s.rd F.BLK_SP_OWN_GATH_REQ p b
    ∧ (s.spOwnApply p b).rd F.BLK_SP_OWN_UNIT p b = s.rd F.BLK_SP_OWN_UNIT_REQ p b % 2 ^ 3
    ∧ (s.spOwnApply p b).rd F.BLK_SP_OWN_GATH p b = s.rd F.BLK_SP_OWN_GATH_REQ p b % 2 ^ 4
    ∧ (s.spOwnApply p b).rd F.BLK_SP_OWN_PENDING p b = 0 := by
  unfold State.spOwnApply
  refine ⟨rfl, ?_, ?_⟩
  · exact regsBut.wr (regsBut.wr (regsBut.wr (regsBut_of_regs rfl) (by simp [ownKeys]) _) (by simp [ownKeys]) _) (by simp [ownKeys]) _
  · simp (disch := decide) only [State.rd_wr_of_lo, State.rd_wr_same]
    exact ⟨trivial, trivial, rfl, rfl, rfl⟩

end

/-! ### Banks that wake (R224) -/

theorem testBit_clrBit (x n i : Nat) : (clrBit x n).testBit i = (x.testBit i && decide (n ≠ i)) := by
  unfold clrBit
  split
  case isFalse h =>
    by_cases hi : n = i
    · subst hi
      simpa using h
    · simp [hi]
  case isTrue h =>
    have hodd : x / 2 ^ n % 2 = 1 := by simpa [Nat.testBit_eq_decide_div_mod_eq] using h
    have hlow : x % 2 ^ n < 2 ^ n := Nat.mod_lt _ (Nat.two_pow_pos n)
    have hx : x = 2 ^ n * (2 * (x / 2 ^ n / 2) + 1) + x % 2 ^ n := by
      rw [show 2 * (x / 2 ^ n / 2) + 1 = x / 2 ^ n by omega, Nat.div_add_mod]
    have hsub : x - 2 ^ n = 2 ^ n * (2 * (x / 2 ^ n / 2)) + x % 2 ^ n := by
      rw [Nat.mul_add] at hx
      omega
    rw [hsub, Nat.testBit_two_pow_mul_add _ hlow]
    conv_rhs => rw [hx, Nat.testBit_two_pow_mul_add _ hlow]
    rcases Nat.lt_trichotomy i n with hi | rfl | hi
    · simp [hi, hi.ne']
    · simp
    · obtain ⟨m, rfl⟩ := Nat.exists_eq_add_of_lt hi
      simp [Nat.add_assoc, Nat.testBit_add_one, show (2 * (x / 2 ^ n / 2) + 1) / 2 = x / 2 ^ n / 2 by omega]

/-- The register fields of Block p that the wake of a bank changes. -/
def wakeKeys (p : Nat) : List Nat := [keyOf F.BLK_SP_STATUS_WAKING p 0, keyOf F.BLK_SP_STATUS_RETAINED p 0, keyOf F.BLK_SP_WAKE p 0]

section
variable (s : State) (p : Nat)

theorem State.spWake_cons (b : Nat) (bs : List Nat) : s.spWake p (b :: bs) = (s.spWake p [b]).spWake p bs := rfl

theorem State.inBlk_spWake (banks : List Nat) : inBlk p (wakeKeys p) s (s.spWake p banks) := by
  refine inBlk.foldl (fun t b h => ?_) banks (inBlk.refl p _ s)
  split
  · exact ((h.wr (by simp [wakeKeys]) _).wr (by simp [wakeKeys]) _).wr (by simp [wakeKeys]) _
  · exact h

/-- A bank that is told to wake is no longer retained, and the others are as they were. -/
theorem State.retained_spWake_one (b : Nat) {k : Nat} (hk : k < 16) :
    bitOf ((s.spWake p [b]).rd F.BLK_SP_STATUS_RETAINED p) k = (bitOf (s.rd F.BLK_SP_STATUS_RETAINED p) k && decide (b ≠ k)) := by
  rw [State.spWake, List.foldl_cons, List.foldl_nil]
  split
  case isTrue =>
    have hin : decide (k < F.BLK_SP_STATUS_RETAINED.width) = true := decide_eq_true hk
    simp (disch := decide) only [State.inc, State.rd_wr_of_place, State.rd_wr_same, bitOf, Nat.testBit_mod_two_pow, hin, Bool.true_and, testBit_clrBit]
  case isFalse h =>
    by_cases hbk : b = k
    · subst hbk
      simpa using h
    · simp [hbk]

theorem State.retained_spWake {k : Nat} (hk : k < 16) (banks : List Nat) :
    bitOf ((s.spWake p banks).rd F.BLK_SP_STATUS_RETAINED p) k = (bitOf (s.rd F.BLK_SP_STATUS_RETAINED p) k && decide (k ∉ banks)) := by
  induction banks generalizing s with
  | nil => simp [State.spWake]
  | cons b bs ih =>
    rw [State.spWake_cons, ih, State.retained_spWake_one s p b hk]
    simp [Bool.and_assoc, eq_comm]

end

theorem execBankWake_of_waking {s : State} {p b : Nat} (hp : p < nBlks) (hb : b < 16) (h : bitOf (s.rd F.BLK_SP_STATUS_WAKING p) b = true) :
    exec (.bankWake p b) s = .next (s.wr F.BLK_SP_STATUS_WAKING p 0 (clrBit (s.rd F.BLK_SP_STATUS_WAKING p) b)) := by
  rw [exec_bankWake, execBankWake, onUnit_of_lt hp, if_pos ⟨hb, h⟩]

/-! ### A Clove run starts (R225) -/

theorem execCloveStart_of_start {s : State} {p : Nat} {src : Source} {v : Word} (hsrc : mayCommand s src) (hp : p < nBlks)
    (hout : s.enabled .blk p = false) (hstart : bitOf v.toNat 0 = true) (hnone : (s.blk p).sp.clove = none) :
    exec (.cloveStart src p v) s = .next ((s.wr F.BLK_CLOVE_CTRL_MODE p 0 (bitsOf v.toNat 1 1)).cloveGo p (bitOf v.toNat 1)) := by
  rw [exec_cloveStart, execCloveStart, onSrc_of_ok hsrc.1, onUnit_of_lt hp, State.cloveWrite, if_neg (by simp [hsrc.2]), if_neg (by simp [hout])]
  exact congrArg _ (if_pos ⟨hstart, hnone⟩)

section
variable (s : State) (p : Nat) (pres : Bool)

theorem State.inBlk_cloveGo : inBlk p (keyOf F.BLK_CLOVE_RESULT_BUSY p 0 :: wakeKeys p) s (s.cloveGo p pres) := by
  unfold State.cloveGo
  have hwoken := (s.inBlk_spWake p (List.range 16)).mono (List.subset_cons_self (keyOf F.BLK_CLOVE_RESULT_BUSY p 0) _)
  exact ((hwoken.wr (.tail _ (.head _)) 0).wr (.head _) 1).onBlk _

theorem State.cloveGo_blk : (s.cloveGo p pres).blk p = { s.blk p with sp := { (s.blk p).sp with clove := some pres } } := by
  have hblk : ((s.spWake p (List.range 16)).blk p) = s.blk p := State.blk_of_spView (s.spView_spWake p _) p
  exact (State.onBlk_blk_same _ p _).trans (by rw [← hblk]; rfl)

/-- Every bank wakes before the run, and the run is busy. -/
theorem State.rd_cloveGo : (s.cloveGo p pres).rd F.BLK_CLOVE_RESULT_BUSY p = 1 ∧ (s.cloveGo p pres).rd F.BLK_SP_STATUS_WAKING p = 0
    ∧ ∀ k < 16, bitOf ((s.cloveGo p pres).rd F.BLK_SP_STATUS_RETAINED p) k = false := by
  unfold State.cloveGo
  simp (disch := decide) only [State.onBlk_rd, State.rd_wr_of_place, State.rd_wr_same]
  refine ⟨rfl, Nat.zero_mod _, fun k hk => ?_⟩
  rw [State.retained_spWake s p hk]
  simp [hk]

end

/-! ### A Clove run ends (R220, R226) -/

/-- A word whose valid bit is clear stays so when words are cleared. -/
theorem SMap.find_filter_of_none {α : Type} {k : Nat} {m : SMap α} (h : SMap.find k m = none) (q : Nat × α → Bool) : SMap.find k (m.filter q) = none := by
  induction m with
  | nil => rfl
  | cons e m ih =>
    obtain ⟨a, v⟩ := e
    rw [SMap.find] at h
    split at h
    case isTrue => nomatch h
    case isFalse hne =>
      rw [List.filter_cons]
      split
      · rw [SMap.find, if_neg hne, ih h]
      · exact ih h

section
variable (s : State) (p : Nat)

theorem State.spClear_find {w : Nat} {b : Nat} (h : w / 8192 = b ∨ SMap.find w (s.blk p).sp.words = none) :
    SMap.find w ((s.spClear p b).blk p).sp.words = none := by
  rw [State.spClear, State.onBlk_blk_same]
  rcases h with h | h
  · exact SMap.find_filter_of_false (by simp [h]) _
  · exact SMap.find_filter_of_none h _

/-- The words of the banks that are cleared are invalid (R220). -/
theorem State.foldl_spClear_find {w : Nat} {banks : List Nat} (h : w / 8192 ∈ banks ∨ SMap.find w (s.blk p).sp.words = none) :
    SMap.find w ((banks.foldl (fun s b => s.spClear p b) s).blk p).sp.words = none := by
  induction banks generalizing s with
  | nil => exact h.resolve_left List.not_mem_nil
  | cons b bs ih =>
    refine ih _ ?_
    rcases h with h | h
    · rcases List.mem_cons.mp h with h | h
      · exact .inr (s.spClear_find p (.inl h))
      · exact .inl h
    · exact .inr (s.spClear_find p (.inr h))

theorem State.spWord_bank (a : Nat) : s.spWord p a / 8192 < 16 := by
  have hhalf := (wordIn_fields (s.interleaves p (bitOf (a % 2 ^ 20) 19)) (a % 2 ^ 20)).1
  rw [← State.spWord_eq] at hhalf
  omega

theorem State.spByte_of_invalid {a : Nat} (h : SMap.find (s.spWord p a) (s.blk p).sp.words = none) : s.spByte p a = 0 := by
  unfold State.spByte
  dsimp only
  rw [h, ite_self]

/-- What the run leaves of Block p's scratchpad when it ends, before its result is recorded. -/
def State.cloveLeaves (s : State) (p : Nat) (pres : Bool) : State :=
  (if pres then s else (List.range 16).foldl (fun s b => s.spClear p b) s).onBlk p (fun b => { b with sp := { b.sp with clove := none } })

theorem State.cloveLeaves_words :
    ((s.cloveLeaves p false).blk p).sp.words = (((List.range 16).foldl (fun s b => s.spClear p b) s).blk p).sp.words := by
  rw [State.cloveLeaves, if_neg Bool.false_ne_true, State.onBlk_blk_same]

/-- The keys of the fields that record the result. -/
def cloveKeys (p : Nat) : List Nat :=
  [keyOf F.BLK_CLOVE_RESULT_FAIL p 0, keyOf F.BLK_CLOVE_RESULT_ROW p 0, keyOf F.BLK_CLOVE_RESULT_BUSY p 0, evtKey .blk p]

theorem State.inBlk_cloveLeaves (pres : Bool) (ks : List Nat) : inBlk p ks s (s.cloveLeaves p pres) := by
  refine inBlk.onBlk ?_ _
  split
  · exact inBlk.refl p ks s
  · exact inBlk.foldl (fun t b h => h.onBlk _) _ (inBlk.refl p ks s)

/-- The state with the result of a run recorded. -/
def State.cloveResult (s : State) (p : Nat) (fail : BitVec 16) (row : BitVec 11) : State :=
  (((s.wr F.BLK_CLOVE_RESULT_FAIL p 0 fail.toNat).wr F.BLK_CLOVE_RESULT_ROW p 0 (if fail = 0 then 0 else row.toNat)).wr F.BLK_CLOVE_RESULT_BUSY p 0 0).setEvt
    .blk p 11

theorem State.cloveEnd_of_running {s : State} {p : Nat} {pres : Bool} (h : (s.blk p).sp.clove = some pres) (fail : BitVec 16) (row : BitVec 11) :
    s.cloveEnd p fail row = (s.cloveLeaves p pres).cloveResult p fail row := by
  rw [State.cloveEnd, h]
  rfl

theorem State.inBlk_cloveResult (fail : BitVec 16) (row : BitVec 11) : inBlk p (cloveKeys p) s (s.cloveResult p fail row) := by
  have hwritten := (((inBlk.refl p (cloveKeys p) s).wr (.head _) fail.toNat).wr (.tail _ (.head _)) (if fail = 0 then 0 else row.toNat)).wr
    (.tail _ (.tail _ (.head _))) 0
  exact hwritten.setEvt (.tail _ (.tail _ (.tail _ (.head _)))) 11

@[simp] theorem State.cloveResult_blk (fail : BitVec 16) (row : BitVec 11) (q : Nat) : (s.cloveResult p fail row).blk q = s.blk q := rfl

theorem State.rd_cloveResult (fail : BitVec 16) (row : BitVec 11) :
    (s.cloveResult p fail row).rd F.BLK_CLOVE_RESULT_BUSY p = 0 ∧ (s.cloveResult p fail row).rd F.BLK_CLOVE_RESULT_FAIL p = fail.toNat
    ∧ (s.cloveResult p fail row).rd F.BLK_CLOVE_RESULT_ROW p = (if fail = 0 then 0 else row.toNat)
    ∧ bitOf ((s.cloveResult p fail row).evts .blk p) 11 = true := by
  have hrow : (if fail = 0 then 0 else row.toNat) < 2 ^ 11 := by
    split
    · decide
    · exact row.isLt
  unfold State.cloveResult
  simp (disch := decide) only [State.rd_setEvt_of_off, State.rd_wr_of_place, State.rd_wr_same]
  refine ⟨rfl, ?_, ?_, State.bitOf_evts_setEvt _ .blk p (by decide)⟩
  · exact Nat.mod_eq_of_lt fail.isLt
  · exact Nat.mod_eq_of_lt hrow

theorem State.inBlk_cloveEnd (pres : Bool) (fail : BitVec 16) (row : BitVec 11) :
    inBlk p (cloveKeys p) s ((s.cloveLeaves p pres).cloveResult p fail row) :=
  (s.inBlk_cloveLeaves p pres _).trans (State.inBlk_cloveResult _ p fail row)

theorem stage_notMem_cloveKeys : keyOf F.BOOT_STATUS_STAGE 0 0 ∉ cloveKeys p := by
  simp only [cloveKeys, evtKey, keyOf, keyAt, pageBase, List.mem_cons, List.not_mem_nil, or_false, F.BOOT_STATUS_STAGE, F.BLK_CLOVE_RESULT_FAIL,
    F.BLK_CLOVE_RESULT_ROW, F.BLK_CLOVE_RESULT_BUSY, F.HDR_EVT_STATUS]
  omega

/-- A destructive run leaves every byte zero (R220, R225). -/
theorem State.spByte_cloveEnd_destructive (fail : BitVec 16) (row : BitVec 11) (a : Nat) :
    ((s.cloveLeaves p false).cloveResult p fail row).spByte p a = 0 := by
  refine State.spByte_of_invalid _ p ?_
  rw [State.cloveResult_blk, State.cloveLeaves_words]
  exact s.foldl_spClear_find p (.inl (List.mem_range.mpr (State.spWord_bank _ p a)))

end

section
variable {s : State}

/-- Step 5 of bring-up is not over while a slice's run is not, and no other step waits for Clove (R460). -/
theorem State.cloveStep_of_not (h : s.rd F.BOOT_STATUS_STAGE ≠ 5 ∨ s.sec.cloves ≠ []) : s.cloveStep = s :=
  if_neg fun ⟨hstage, hnone, _⟩ => h.elim (· hstage) (· hnone)

theorem execCloveDone_blk {p : Nat} (hp : p < nBlks) {pres : Bool} (hrun : (s.blk p).sp.clove = some pres) {fail : BitVec 16}
    (h : s.rd F.BOOT_STATUS_STAGE ≠ 5 ∨ (fail = 0 ∧ s.sec.cloves ≠ [])) (row : BitVec 11) :
    exec (.cloveDone false p fail row) s = .next ((s.cloveLeaves p pres).cloveResult p fail row) := by
  have hedit := s.inBlk_cloveEnd p pres fail row
  have hstage : ((s.cloveLeaves p pres).cloveResult p fail row).rd F.BOOT_STATUS_STAGE = s.rd F.BOOT_STATUS_STAGE :=
    hedit.rd_eq (stage_notMem_cloveKeys p)
  have hsec : ((s.cloveLeaves p pres).cloveResult p fail row).sec = s.sec := by rw [hedit.only]
  have hkeeps : ¬ (s.rd F.BOOT_STATUS_STAGE = 5 ∧ fail ≠ 0) := fun ⟨hs, hf⟩ => h.elim (· hs) (hf ·.1)
  rw [exec_cloveDone, execCloveDone, if_neg Bool.false_ne_true, onUnit_of_lt hp, if_neg (by simp [hrun]), State.cloveEnd_of_running hrun]
  dsimp only
  rw [hstage, if_neg hkeeps, State.cloveStep_of_not (by rw [hstage, hsec]; exact h.imp_right And.right)]

theorem execCloveDone_slice {n : Nat} (hn : n < nSlices) (hrun : s.sec.cloves.contains n = true)
    (h : s.rd F.BOOT_STATUS_STAGE ≠ 5 ∨ (s.sec.cloves.filter (fun k => k != n)) ≠ []) (row : BitVec 11) :
    exec (.cloveDone true n 0 row) s = .next (s.onSec (fun e => { e with cloves := e.cloves.filter (fun k => k != n) })) := by
  rw [exec_cloveDone, execCloveDone, if_pos rfl, onUnit_of_lt hn, if_neg (by rw [hrun]; nofun)]
  exact congrArg _ (State.cloveStep_of_not h)

end

/-! ### The obligation -/

section
variable {s : State} {p b : Nat} {src : Source} {v : Nat}

/-- A request for an owner unit is recorded; in an idle bank it takes effect, in any other it waits (R217). -/
theorem spOwnWrite_spec (hmay : s.mayWrite src = true) (hb : b < 16) (hcode : bitsOf v 0 3 ≤ 5) :
    onlyRegs s (s.spOwnWrite src p b v) ∧ regsBut (ownKeys p b) s (s.spOwnWrite src p b v)
    ∧ (s.spOwnWrite src p b v).rd F.BLK_SP_OWN_UNIT_REQ p b = bitsOf v 0 3 ∧ (s.spOwnWrite src p b v).rd F.BLK_SP_OWN_GATH_REQ p b = bitsOf v 3 4
    ∧ (s.spIdle p b = true → (s.spOwnWrite src p b v).rd F.BLK_SP_OWN_UNIT p b = bitsOf v 0 3
        ∧ (s.spOwnWrite src p b v).rd F.BLK_SP_OWN_GATH p b = bitsOf v 3 4 ∧ (s.spOwnWrite src p b v).rd F.BLK_SP_OWN_PENDING p b = 0)
    ∧ (s.spIdle p b = false → (s.spOwnWrite src p b v).rd F.BLK_SP_OWN_UNIT p b = s.rd F.BLK_SP_OWN_UNIT p b
        ∧ (s.spOwnWrite src p b v).rd F.BLK_SP_OWN_PENDING p b = 1) := by
  obtain ⟨hunitReq, hgathReq, hunit⟩ := s.rd_spOwnAsked p b v
  have hasked := s.regsBut_spOwnAsked p b v
  rw [State.spOwnWrite_of_code hmay hb hcode]
  cases hidle : s.spIdle p b with
  | true =>
    rw [if_pos rfl]
    obtain ⟨-, hregs, hunitReq', hgathReq', hunit', hgath', hpending⟩ := (s.spOwnAsked p b v).spOwnApply_spec p b
    rw [hunitReq] at hunitReq' hunit'
    rw [hgathReq] at hgathReq' hgath'
    exact ⟨rfl, regsBut.mono (regsBut.trans hasked hregs) (by simp), hunitReq', hgathReq',
      fun _ => ⟨hunit'.trans (bitsOf_mod v 0 3), hgath'.trans (bitsOf_mod v 3 4), hpending⟩, nofun⟩
  | false =>
    rw [if_neg Bool.false_ne_true]
    simp (disch := decide) only [State.rd_wr_of_lo, State.rd_wr_same]
    exact ⟨rfl, regsBut.wr hasked (by simp [ownKeys]) 1, hunitReq, hgathReq, nofun, fun _ => ⟨hunit, rfl⟩⟩

end

/-- Settles O30: every command in closed form; a run of Clove by what its start wakes and by what its end leaves of the words. -/
theorem scratchpadOwnersAndClove : Obligations.ScratchpadOwnersAndClove := by
  intro s p b src v hp hb
  refine ⟨execBankWake_of_waking hp hb, fun hsrc hcode => ?reserved, fun hsrc hcode => ?owner, fun hsrc hout hstart hnone => ?start,
    fun fail row pres hrun hstep => ?done, fun n fail row hn hrun hstep hfail => hfail ▸ execCloveDone_slice hn hrun hstep row⟩
  case reserved => rw [execSpOwnWrite_eq hsrc.1 hp, State.spOwnWrite_of_reserved hsrc.2 hb hcode]
  case owner =>
    obtain ⟨honly, hregs, hunitReq, hgathReq, hidle, hbusy⟩ := spOwnWrite_spec (p := p) hsrc.2 hb hcode
    refine ⟨_, execSpOwnWrite_eq hsrc.1 hp b v, honly, hregs, hunitReq, hgathReq, fun hawake hnone => hidle (State.spIdle_iff.mpr ⟨hawake, hnone⟩),
      fun h => hbusy ?_⟩
    rw [← Bool.not_eq_true, State.spIdle_iff]
    rintro ⟨hawake, hnone⟩
    simp [hawake, hnone] at h
  case start =>
    have hmode := (inBlk.refl p [keyOf F.BLK_CLOVE_CTRL_MODE p 0] s).wr (.head _) (bitsOf v.toNat 1 1)
    obtain ⟨honly, hothers, hregs⟩ := State.inBlk_cloveGo (s.wr F.BLK_CLOVE_CTRL_MODE p 0 (bitsOf v.toNat 1 1)) p (bitOf v.toNat 1)
    exact ⟨_, execCloveStart_of_start hsrc hp hout hstart hnone, onlyBlks.trans hmode.only honly, blksBut.trans hmode.others hothers,
      regsBut.trans hmode.regs hregs, State.cloveGo_blk _ p _, State.rd_cloveGo _ p _⟩
  case done =>
    obtain ⟨hbusy, hfail, hrow, hevt⟩ := State.rd_cloveResult (s.cloveLeaves p pres) p fail row
    obtain ⟨honly, hothers, -⟩ := s.inBlk_cloveEnd p pres fail row
    refine ⟨_, execCloveDone_blk hp hrun hstep row, honly, hothers, ?_, hbusy, hfail, hrow, hevt, ?_, ?_⟩
    · rw [State.cloveResult_blk, State.cloveLeaves, State.onBlk_blk_same]
    · rintro rfl
      exact s.spByte_cloveEnd_destructive p fail row
    · rintro rfl
      rw [State.cloveResult_blk, State.cloveLeaves, if_pos rfl, State.onBlk_blk_same]

end Sys2Proof.Machine
end

section
/-! PROOFS. What a cache slice makes of a request that it takes: the lines and their ways, what an answer changes, and the lookup of a line that the slice
holds (R233 to R236, R241). -/

namespace Sys2Proof.Machine
open Sys2Proof Sys2Proof.Claims

/-! ### The lines of a slice (R229, R233) -/

theorem Slice.line_of_at {sl : Slice} {l : Nat} {x : Line} (h : sl.at l = some x) : x.line = l := by
  simpa using List.find?_some h

theorem Slice.at_eq_none_iff {sl : Slice} {l : Nat} : sl.at l = none ↔ ∀ x ∈ sl.lines, x.line ≠ l := by
  simp [Slice.at]

@[simp] theorem Slice.touch_at (sl : Slice) (l way k : Nat) : (sl.touch l way).at k = sl.at k := rfl

theorem Slice.putLine_at_same {sl : Slice} {x : Line} {l : Nat} (h : x.line = l) : (sl.putLine x).at l = some x := by
  simp [Slice.at, Slice.putLine, h]

/-- A line keeps its place when another is put into a way that is not its own. -/
theorem Slice.putLine_at_ne {sl : Slice} {x : Line} {l : Nat} (hl : l ≠ x.line)
    (hway : ∀ y, sl.at l = some y → ¬ (y.way = x.way ∧ setOf y.line = setOf x.line)) : (sl.putLine x).at l = sl.at l := by
  have hhead : (x.line == l) = false := beq_eq_false_iff_ne.mpr hl.symm
  rw [Slice.at, Slice.putLine, List.find?_cons, hhead, List.find?_filter, Slice.at]
  cases hat : sl.at l with
  | none =>
    rw [show sl.lines.find? (fun y => y.line == l) = none from hat, List.find?_eq_none]
    intro y hy
    simp [Slice.at_eq_none_iff.mp hat y hy]
  | some y =>
    obtain ⟨hy, before, after, hlines, hbefore⟩ := List.find?_eq_some_iff_append.mp hat
    have hkept := hway y hat
    rw [show sl.lines.find? (fun y => y.line == l) = some y from hat, List.find?_eq_some_iff_append]
    refine ⟨by simpa [hy, imp_iff_not_or] using hkept, before, after, hlines, fun z hz => ?_⟩
    simp [show (z.line == l) = false by simpa using hbefore z hz]

/-! ### Answers (R236, R239) -/

section
variable (s : State)

theorem State.l1Fill_only (p : Nat) (x : L1Line) : s.l1Fill p x = { s with blks := (s.l1Fill p x).blks, free := (s.l1Fill p x).free } := by
  unfold State.l1Fill
  dsimp only
  split_ifs <;> rfl

/-- An answer that fills no L1 is only on its way. -/
theorem State.answer_bare (r : Req) (d : BitVec 1024) : s.answer r d false = { s with resps := s.resps ++ [⟨r, d⟩] } := by
  unfold State.answer
  dsimp only
  split
  · exact if_neg (by simp)
  · rfl

theorem State.answer_only (r : Req) (d : BitVec 1024) (fillL1 : Bool) : s.answer r d fillL1
    = { s with resps := s.resps ++ [⟨r, d⟩], blks := (s.answer r d fillL1).blks, free := (s.answer r d fillL1).free } := by
  unfold State.answer
  dsimp only
  split
  · split
    · exact State.l1Fill_only _ _ _
    · rfl
  · rfl

@[simp] theorem State.answer_resps (r : Req) (d : BitVec 1024) (fillL1 : Bool) : (s.answer r d fillL1).resps = s.resps ++ [⟨r, d⟩] := by
  rw [State.answer_only]
@[simp] theorem State.answer_slc (r : Req) (d : BitVec 1024) (fillL1 : Bool) (n : Nat) : (s.answer r d fillL1).slc n = s.slc n := by
  rw [State.answer_only]; rfl
@[simp] theorem State.answer_regs (r : Req) (d : BitVec 1024) (fillL1 : Bool) : (s.answer r d fillL1).regs = s.regs := by
  rw [State.answer_only]
@[simp] theorem State.answer_reqs (r : Req) (d : BitVec 1024) (fillL1 : Bool) : (s.answer r d fillL1).reqs = s.reqs := by
  rw [State.answer_only]
@[simp] theorem State.answer_dram (r : Req) (d : BitVec 1024) (fillL1 : Bool) : (s.answer r d fillL1).dram = s.dram := by
  rw [State.answer_only]
@[simp] theorem State.answer_sectors (r : Req) (d : BitVec 1024) (fillL1 : Bool) : (s.answer r d fillL1).sectors = s.sectors := by
  rw [State.answer_only]
@[simp] theorem State.answer_memcs (r : Req) (d : BitVec 1024) (fillL1 : Bool) : (s.answer r d fillL1).memcs = s.memcs := by
  rw [State.answer_only]

end

/-! ### Reads that hit (R236, R241) -/

/-- The line after a read: its directory entry names a reader with an L1. -/
def Line.readBy (x : Line) (r : Req) : Line := match r.src with | .core p | .vx p _ => x.addSharer p | _ => x

theorem Line.addSharer_only (x : Line) (p : Nat) :
    x.addSharer p = { x with dmode := (x.addSharer p).dmode, ptrs := (x.addSharer p).ptrs, bitmap := (x.addSharer p).bitmap } := by
  unfold Line.addSharer
  split
  · rfl
  · split_ifs <;> rfl

theorem Line.readBy_only (x : Line) (r : Req) :
    x.readBy r = { x with dmode := (x.readBy r).dmode, ptrs := (x.readBy r).ptrs, bitmap := (x.readBy r).bitmap } := by
  unfold Line.readBy
  split
  · exact x.addSharer_only _
  · exact x.addSharer_only _
  · rfl

/-- Whether a requester keeps the lines that it reads in an L1. -/
def Req.hasL1 (r : Req) : Bool := match r.src with | .core _ | .vx _ _ => true | _ => false

theorem State.readHit_eq (s : State) (n : Nat) (x : Line) (r : Req) : s.readHit n x r
    = (s.onSlc n (fun sl => (sl.putLine (x.readBy r)).touch r.line x.way)).answer r x.data (r.hasL1 && decide (x.bvalid = BitVec.allOnes 128)) := by
  unfold State.readHit Line.readBy Req.hasL1
  cases r.src <;> rfl

/-! ### Writes to a line without sharers (R236, R241) -/

theorem State.invalTargets_of_no_sharers (s : State) {x : Line} (r : Req) (h : x.dmode = 0) : s.invalTargets x r = ([], x.noSharers) := by
  unfold State.invalTargets
  split
  case h_1 hmode => rw [h] at hmode; nomatch hmode
  case h_2 hmode => rw [h] at hmode; nomatch hmode
  case h_3 =>
    rw [State.sharers, h]
    rfl

/-- A slice without an injection that waits writes a line: the error that stood there is gone (R323). -/
theorem State.slcWrote_of_no_inject {s : State} {n : Nat} (h : (s.slc n).inject = 0) (l : Nat) :
    s.slcWrote n l = s.onSlc n (fun sl => { sl with errs := (s.slc n).errs.filter (fun e => e.1 != l) }) :=
  if_pos h

theorem State.ackWrite_of_no_sharers {s : State} {n : Nat} {x : Line} (r : Req) (hmode : x.dmode = 0) :
    s.ackWrite n x r = ((s.onSlc n (fun sl => sl.putLine x.noSharers)).slcWrote n r.line).answer r 0 false := by
  rw [State.ackWrite, s.invalTargets_of_no_sharers r hmode]
  exact if_pos rfl

theorem State.slcWrote_at {s : State} {n : Nat} (hinj : (s.slc n).inject = 0) (l k : Nat) : ((s.slcWrote n l).slc n).at k = (s.slc n).at k := by
  rw [State.slcWrote_of_no_inject hinj, State.onSlc_slc_same]
  rfl

/-- A write that is acknowledged at once changes nothing but its slice and the answers. -/
theorem State.ackWrite_spec {s : State} {n : Nat} {x : Line} {r : Req} (hmode : x.dmode = 0) (hinj : (s.slc n).inject = 0) (hline : x.line = r.line) :
    s.ackWrite n x r = { s with slices := (s.ackWrite n x r).slices, resps := s.resps ++ [⟨r, 0⟩] }
    ∧ ((s.ackWrite n x r).slc n).at r.line = some x.noSharers ∧ ((s.ackWrite n x r).slc n).miss = (s.slc n).miss := by
  have hput : ((s.onSlc n (fun sl => sl.putLine x.noSharers)).slc n).inject = 0 := by rw [State.onSlc_slc_same]; exact hinj
  rw [State.ackWrite_of_no_sharers r hmode, State.answer_slc, State.slcWrote_at hput, State.onSlc_slc_same]
  refine ⟨?_, Slice.putLine_at_same hline, ?_⟩
  · rw [State.answer_bare, State.slcWrote_of_no_inject hput]
    rfl
  · rw [State.slcWrote_of_no_inject hput, State.onSlc_slc_same, State.onSlc_slc_same]
    rfl

/-! ### What a slice takes (R235, R236) -/

/-- The state after a request has left for its slice. -/
def State.without (s : State) (r : Req) : State := { s with reqs := othersThan s r }

/-- Slice n has met no parity error, and no miss register of it is for line l. -/
def State.clearFor (s : State) (n l : Nat) : Prop := (s.slc n).parity = none ∧ ∀ m ∈ (s.slc n).miss, m.line ≠ l

section
variable {s : State} {n : Nat} {r : Req} {x : Line}

theorem State.clearFor.find (h : s.clearFor n r.line) : (s.slc n).miss.find? (fun m => m.line == r.line) = none :=
  List.find?_eq_none.mpr fun m hm => by simpa using h.2 m hm

theorem State.lineErr_of_no_errs (h : (s.slc n).errs = []) (x : Line) (reads scrub : Bool) : s.lineErr n x reads scrub = s := by
  unfold State.lineErr
  rw [h]
  rfl

theorem State.recordHit_of_no_record (h : (s.slc n).record = []) (l : Nat) : s.recordHit n l = s := by
  unfold State.recordHit
  rw [h]
  rfl

/-- A request for a line that the slice holds under its owner and key, and without errors or prefetches recorded, hits it. -/
theorem State.take_of_held (hclear : s.clearFor n r.line) (herrs : (s.slc n).errs = []) (hrec : (s.slc n).record = [])
    (hat : (s.slc n).at r.line = some x) (howner : x.owner = r.owner) (hkey : x.keyh = r.keyh) (fresh : Bool) : s.take n r fresh = s.hit n x r fresh := by
  unfold State.take
  rw [hclear.1]
  dsimp only
  rw [hclear.find]
  simp [hat, herrs, hrec, howner, hkey, State.lineErr_of_no_errs, State.recordHit_of_no_record]

theorem State.raFrom_of_not_ra (h : r.ra = false) (next : Bool) : s.raFrom n r next = s := by
  simp [State.raFrom, h]

/-- A request for a line of which the slice knows nothing misses. -/
theorem State.take_of_missing (hclear : s.clearFor n r.line) (hat : (s.slc n).at r.line = none) (hra : r.ra = false) (fresh : Bool) :
    s.take n r fresh = s.missed n r fresh := by
  unfold State.take
  rw [hclear.1]
  dsimp only
  rw [hclear.find]
  simp only [hat, State.raFrom_of_not_ra hra, ite_self]
  split <;> simp_all

theorem State.takeNext_of_pick {pf : Bool} (h : s.pick n = some r) (hpf : r.isPf = pf) :
    s.takeNext n pf = (s.without r).offer n r := by
  rw [State.takeNext, h]
  exact if_pos (beq_iff_eq.mpr hpf)

theorem execSliceRequest_of_taken {t : State} (hn : n < nSlices) (hpick : s.pick n = some r) (hpf : r.isPf = false)
    (htake : (s.without r).take n r true = (t, .taken)) : exec (.sliceRequest n []) s = .next t := by
  rw [exec_sliceRequest, execSliceRequest, onUnit_of_lt hn, List.foldl_nil, State.takeNext_of_pick hpick hpf, State.offer, htake]

theorem execPrefetch_of_taken {t : State} (hn : n < nSlices) (hpick : s.pick n = some r) (hpf : r.isPf = true)
    (htake : (s.without r).take n r true = (t, .taken)) : exec (.prefetch n) s = .next t := by
  rw [exec_prefetch, execPrefetch, onUnit_of_lt hn, State.takeNext_of_pick hpick hpf, State.offer, htake]

/-! ### Hits (R236) -/

/-- The state after a lookup is counted, on its first time (R238). -/
def State.looked (s : State) (n : Nat) (fresh : Bool) : State := if fresh then s.inc F.SLC_HITS n 0 else s

theorem State.hit_read_of_whole (hop : r.op = .read) (hst : x.st = .clean ∨ x.st = .dirty) (hwhole : r.mask &&& x.bvalid = r.mask) (fresh : Bool) :
    s.hit n x r fresh = ((s.looked n fresh).readHit n x r, .taken) := by
  unfold State.hit
  rw [hop]
  rcases hst with hst | hst <;> simp [hst, hwhole, State.looked]

theorem State.hit_write (hop : r.op = .write) (hst : x.st = .clean ∨ x.st = .dirty) (fresh : Bool) :
    s.hit n x r fresh = (((s.looked n fresh).onSlc n (fun sl => sl.touch r.line x.way)).ackWrite n (x.written r r.mask r.data) r, .taken) := by
  unfold State.hit
  rw [hop]
  rcases hst with hst | hst <;> simp [hst, State.looked]

theorem State.hit_reduce_of_whole {op : Nat} (hop : r.op = .reduce op) (hst : x.st = .clean ∨ x.st = .dirty) (hwhole : r.mask &&& x.bvalid = r.mask)
    (fresh : Bool) : s.hit n x r fresh
      = (((s.looked n fresh).onSlc n (fun sl => sl.touch r.line x.way)).ackWrite n (x.written r r.mask (r.combine op x.data)) r, .taken) := by
  unfold State.hit
  rw [hop]
  rcases hst with hst | hst <;> simp [hst, hwhole, State.looked]

end

/-! ### The obligation -/

section
variable {s : State} {n : Nat} {r : Req} {x : Line}

theorem sliceHits_line (h : sliceHits s n r x) : x.line = r.line ∧ (x.st = .clean ∨ x.st = .dirty) := by
  obtain ⟨-, -, -, -, -, -, -, -, -, hline, -, -, hst⟩ := h
  exact ⟨hline, hst⟩

theorem sliceHits_take (h : sliceHits s n r x) : (s.without r).take n r true = (s.without r).hit n x r true := by
  obtain ⟨-, -, -, -, hparity, hmiss, herrs, hrec, hat, -, howner, hkey, -⟩ := h
  exact State.take_of_held (s := s.without r) ⟨hparity, hmiss⟩ herrs hrec hat howner hkey true

theorem sliceHits_exec (h : sliceHits s n r x) {t : State} (ht : (s.without r).hit n x r true = (t, .taken)) :
    exec (.sliceRequest n []) s = .next t := by
  have htake := (sliceHits_take h).trans ht
  obtain ⟨hn, hpick, hpf, -⟩ := h
  exact execSliceRequest_of_taken hn hpick hpf htake

theorem sliceHits_read (h : sliceHits s n r x) (hop : r.op = .read) (hwhole : r.mask &&& x.bvalid = r.mask) :
    ∃ t y, exec (.sliceRequest n []) s = .next t ∧ t.resps = s.resps ++ [⟨r, x.data⟩] ∧ t.reqs = othersThan s r
      ∧ t.dram = s.dram ∧ t.sectors = s.sectors ∧ t.memcs = s.memcs ∧ regsBut [keyOf F.SLC_HITS n 0] s t
      ∧ t.rd F.SLC_HITS n = satAdd (2 ^ F.SLC_HITS.width - 1) (s.rd F.SLC_HITS n) 1
      ∧ (∀ l, l ≠ r.line → (∀ y, (s.slc n).at l = some y → ¬ (y.way = x.way ∧ setOf y.line = setOf x.line)) → (t.slc n).at l = (s.slc n).at l)
      ∧ (t.slc n).at r.line = some y ∧ y.st = x.st ∧ y.data = x.data ∧ y.bvalid = x.bvalid := by
  obtain ⟨hline, hst⟩ := sliceHits_line h
  have honly := x.readBy_only r
  have hputLine : (x.readBy r).line = x.line := by rw [honly]
  have hputWay : (x.readBy r).way = x.way := by rw [honly]
  refine ⟨_, x.readBy r, sliceHits_exec h (State.hit_read_of_whole hop hst hwhole true), ?_⟩
  rw [State.readHit_eq]
  simp only [State.answer_resps, State.answer_reqs, State.answer_dram, State.answer_sectors, State.answer_memcs, State.answer_slc,
    State.onSlc_slc_same, Slice.touch_at]
  refine ⟨rfl, rfl, rfl, rfl, rfl, ?_, ?_, ?_, Slice.putLine_at_same (hputLine.trans hline), ?_, ?_, ?_⟩
  · exact regsBut.trans (regsBut_wrAt s .slc n F.SLC_HITS 0 _) (regsBut_of_regs (ks := []) (State.answer_regs _ _ _ _))
  · rw [State.rd, State.rdAt, State.answer_regs]
    exact State.rd_inc_same s F.SLC_HITS n 0 1 (by decide)
  · intro l hl hway
    exact Slice.putLine_at_ne (by rwa [hputLine, hline]) (by rwa [hputLine, hputWay])
  all_goals rw [honly]

/-- What a write or an in-place reduction makes of the device, with `x'` the line after it. -/
theorem sliceHits_ack {x' : Line} {P : Line → Prop} (h : sliceHits s n r x) (hmode : x'.dmode = 0) (hinj : (s.slc n).inject = 0) (hline : x'.line = r.line)
    (hhit : (s.without r).hit n x r true
      = ((((s.without r).looked n true).onSlc n (fun sl => sl.touch r.line x.way)).ackWrite n x' r, .taken)) (hP : P x'.noSharers) :
    ∃ t y, exec (.sliceRequest n []) s = .next t ∧ t.resps = s.resps ++ [⟨r, 0⟩] ∧ t.reqs = othersThan s r ∧ t.invs = s.invs
      ∧ t.dram = s.dram ∧ t.sectors = s.sectors ∧ t.memcs = s.memcs ∧ t.blks = s.blks ∧ regsBut [keyOf F.SLC_HITS n 0] s t
      ∧ (t.slc n).at r.line = some y ∧ P y := by
  have hinj' : ((((s.without r).looked n true).onSlc n (fun sl => sl.touch r.line x.way)).slc n).inject = 0 := by
    rw [State.onSlc_slc_same]
    exact hinj
  obtain ⟨honly, hat, -⟩ := State.ackWrite_spec (r := r) hmode hinj' hline
  refine ⟨_, x'.noSharers, sliceHits_exec h hhit, ?_⟩
  rw [hat, honly]
  exact ⟨rfl, rfl, rfl, rfl, rfl, rfl, rfl, regsBut_wrAt s .slc n F.SLC_HITS 0 _, rfl, hP⟩

end

/-- Settles O31: the slice finds the line, so the request is a hit; the cases are those of the request's operation. -/
theorem sliceHitsAnswerAndMerge : Obligations.SliceHitsAnswerAndMerge := by
  intro s n r x h
  obtain ⟨hline, hst⟩ := sliceHits_line h
  refine ⟨sliceHits_read h, fun hmode hinj hop => ?_⟩
  rcases hop with hop | ⟨op, hop, hwhole⟩
  · exact sliceHits_ack (x' := x.written r r.mask r.data) h hmode hinj hline (State.hit_write hop hst true)
      ⟨rfl, rfl, rfl, fun _ => rfl, fun op hop' => nomatch hop.symm.trans hop'⟩
  · refine sliceHits_ack (x' := x.written r r.mask (r.combine op x.data)) h hmode hinj hline (State.hit_reduce_of_whole hop hst hwhole true)
      ⟨rfl, rfl, rfl, fun hop' => (nomatch hop.symm.trans hop'), fun op' hop' => ?_⟩
    obtain rfl : op = op' := by simpa using hop.symm.trans hop'
    rfl

end Sys2Proof.Machine
end

section
/-! PROOFS. Misses of a slice: the way that is free, the room for a miss register, and the line that a request takes (R237, R238, R243, R293). -/

namespace Sys2Proof.Machine
open Sys2Proof Sys2Proof.Claims

/-! ### The way and its pin (R237, R247) -/

section
variable (s : State)

theorem State.findVictim_of_free {s : State} {n set w : Nat} {c : Bool} (hway : (s.slc n).victim set = .way w c)
    (hfree : (s.slc n).lines.find? (fun x => x.way == w && setOf x.line == set) = none) (fuel : Nat) : s.findVictim n set (fuel + 1) = (s, .way w c) := by
  rw [State.findVictim, hway]
  dsimp only
  rw [hfree]

/-- The pin of a new line counts at most a line for which its entry has no place. -/
theorem State.pinLine_cases (n l owner : Nat) : (s.pinLine n l owner).1 = s ∨ (s.pinLine n l owner).1 = s.inc F.SLC_PIN_OVERFLOW n 0 := by
  unfold State.pinLine
  split
  · exact .inl rfl
  · dsimp only
    split
    · exact .inl rfl
    · exact .inr rfl

theorem State.pinLine_only (n l owner : Nat) : onlyRegs s (s.pinLine n l owner).1 := by
  rcases s.pinLine_cases n l owner with h | h <;> rw [h] <;> rfl

theorem State.pinLine_slc (n l owner k : Nat) : (s.pinLine n l owner).1.slc k = s.slc k := by rw [s.pinLine_only n l owner]; rfl

theorem State.pinLine_rd {f : Fld} (hp : f.page = .slc) (h : f.off * 64 + f.lo ≠ F.SLC_PIN_OVERFLOW.off * 64 + F.SLC_PIN_OVERFLOW.lo) (n l owner : Nat) :
    (s.pinLine n l owner).1.rd f n = s.rd f n := by
  rcases s.pinLine_cases n l owner with hs | hs <;> rw [hs]
  exact State.rd_wr_of_place hp h s n _

end

/-! ### Room for a miss register (R238, R282, R287) -/

section
variable {s t : State} {g : Nat}

theorem State.bankOf_congr (hmem : t.mem g = s.mem g) (hbase : t.rd F.MEMC_RANGE_BASE_BASE g = s.rd F.MEMC_RANGE_BASE_BASE g)
    (hchans : ∀ c, t.rd F.MEMC_CHAN_EXCLUDED g c = s.rd F.MEMC_CHAN_EXCLUDED g c) (l : Nat) : t.bankOf g l = s.bankOf g l := by
  simp only [State.bankOf, State.rowOf, State.chanOf, State.chansOf, hmem, hbase, hchans]

theorem State.missRoom_of_bankOf {n : Nat} {r : Req} (honly : onlyRegs s t) (hcap : t.rd F.SLC_CLASS_CAP_CAP_EFF n r.cls = s.rd F.SLC_CLASS_CAP_CAP_EFF n r.cls)
    (hbank : ∀ l, t.bankOf (n / 8) l = s.bankOf (n / 8) l) : t.missRoom n r = s.missRoom n r := by
  have hslc (k : Nat) : t.slc k = s.slc k := by rw [honly]; rfl
  have hmem (k : Nat) : t.mem k = s.mem k := by rw [honly]; rfl
  simp only [State.missRoom, State.bankSlots, State.inSlots, State.groupMiss, hslc, hmem, hcap, hbank]
  rfl

/-- The counters of a slice stand apart from what room goes by. -/
theorem State.missRoom_pinLine {n : Nat} (hn : n < nSlices) (l owner : Nat) (r : Req) : (s.pinLine n l owner).1.missRoom n r = s.missRoom n r := by
  rcases s.pinLine_cases n l owner with h | h
  · rw [h]
  · have hn' : n < 128 := hn
    rw [h]
    have hrd (f : Fld) (u i : Nat) (hkey : keyAt f.page u f i ≠ keyAt .slc n F.SLC_PIN_OVERFLOW 0) : (s.inc F.SLC_PIN_OVERFLOW n 0).rd f u i = s.rd f u i :=
      State.rd_wr_ne _ _ _ _ _ _ _ _ hkey
    refine State.missRoom_of_bankOf rfl (hrd _ _ _ ?_) (State.bankOf_congr (s := s) rfl (hrd _ _ _ ?_) fun c => hrd _ _ _ ?_)
    · simp only [keyAt, pageBase, F.SLC_CLASS_CAP_CAP_EFF, F.SLC_PIN_OVERFLOW]; omega
    · simp only [keyAt, pageBase, F.MEMC_RANGE_BASE_BASE, F.SLC_PIN_OVERFLOW]; omega
    · simp only [keyAt, pageBase, F.MEMC_CHAN_EXCLUDED, F.SLC_PIN_OVERFLOW]; omega

theorem State.register_of_room {n : Nat} {r : Req} {k : MKind} (h : s.missRoom n r = true) (hk : k ≠ .victim) (alloc fresh : Bool) (f : Slice → Slice) :
    s.register n r k alloc fresh f
      = ((if fresh then s.inc F.SLC_MISSES n 0 else s).onSlc n (fun sl => { f sl with miss := (f sl).miss ++ [newMiss r k alloc [r]] }), .taken) := by
  rw [State.register, if_pos h]
  dsimp only
  rw [if_neg hk]

end

/-! ### The line that a request takes (R237, R243, R293) -/

/-- The line that a request of slice n takes, by its state, the way and the device. -/
def State.lineTaken (s : State) (n w : Nat) (r : Req) (st : LState) : Line := newLine w r st (s.pinLine n r.line r.owner).2

section
variable {s : State} {n w : Nat} {r : Req} (hway : (s.slc n).victim (setOf r.line) = .way w false)
  (hfree : (s.slc n).lines.find? (fun x => x.way == w && setOf x.line == setOf r.line) = none) (fresh : Bool)
include hway hfree

theorem State.missed_read (hop : r.op = .read) (hroom : s.missRoom n r = true) : s.missed n r fresh = (s.pinLine n r.line r.owner).1.register n r .fetch true fresh
    (fun sl => (sl.putLine (s.lineTaken n w r .filling)).touch r.line w) := by
  unfold State.missed
  simp only [State.findVictim_of_free hway hfree 15, hop, hroom, Bool.false_eq_true, if_false, hfree, if_true]
  rfl

theorem State.missed_write (hop : r.op = .write) : s.missed n r fresh
    = (((s.pinLine n r.line r.owner).1.onSlc n (fun sl => sl.touch r.line w)).ackWrite n ((s.lineTaken n w r .dirty).written r r.mask r.data) r, .taken) := by
  unfold State.missed
  simp only [State.findVictim_of_free hway hfree 15, hop, Bool.false_eq_true, if_false, hfree]
  rfl

theorem State.missed_reduce {op : Nat} (hop : r.op = .reduce op) (hskew : r.skew op = false) (hshadow : r.shadow = false) : s.missed n r fresh
    = ((((s.pinLine n r.line r.owner).1.inc F.SLC_REDUCE_ALLOC n 0).onSlc n (fun sl => sl.touch r.line w)).ackWrite n
        (reduceLine w r op (s.pinLine n r.line r.owner).2 false) r, .taken) := by
  unfold State.missed
  simp only [State.findVictim_of_free hway hfree 15, hop, Bool.false_eq_true, if_false, hfree, hskew, hshadow]
  rfl

theorem State.missed_prefetch {st : Bool} (hop : r.op = .prefetch st) (hregs : (s.slc n).miss.length ≤ 72) (hroom : s.missRoom n r = true) : s.missed n r fresh
    = (((s.pinLine n r.line r.owner).1.inc F.SLC_PF_ISSUED n 0).onSlc n (fun sl =>
        { (sl.putLine (s.lineTaken n w r .filling)).touch r.line w with miss := sl.miss ++ [newMiss r (.prefetch st) true []] }), .taken) := by
  unfold State.missed
  simp only [State.findVictim_of_free hway hfree 15, hop, Bool.false_eq_true, if_false, hfree, hroom, if_neg (show ¬ 96 - (s.slc n).miss.length < 24 by omega)]
  rfl

end

/-! ### The obligation -/

section
variable {s : State} {n w : Nat} {r : Req}

theorem sliceMisses_take (h : sliceMisses s n r w) : (s.without r).take n r true = (s.without r).missed n r true := by
  obtain ⟨-, -, hra, hparity, hmiss, hat, -⟩ := h
  exact State.take_of_missing (s := s.without r) ⟨hparity, hmiss⟩ hat hra true

theorem sliceMisses_way (h : sliceMisses s n r w) : n < nSlices ∧ s.pick n = some r ∧ (s.slc n).victim (setOf r.line) = .way w false
    ∧ (s.slc n).lines.find? (fun x => x.way == w && setOf x.line == setOf r.line) = none := by
  obtain ⟨hn, hpick, -, -, -, -, hway, hfree⟩ := h
  exact ⟨hn, hpick, hway, hfree⟩

/-- A request that takes its way with a miss register, on the state `q` with the line `y` and the register `m`. -/
theorem sliceMisses_registers {q : State} {y : Line} {m : Miss} {f : Slice → Slice} (hq : q = { s.without r with regs := q.regs }) (hline : y.line = r.line)
    (hf : ∀ sl, (f sl).at r.line = (sl.putLine y).at r.line ∧ (f sl).miss = sl.miss ++ [m]) :
    (q.onSlc n f).reqs = othersThan s r ∧ (q.onSlc n f).resps = s.resps ∧ (q.onSlc n f).dram = s.dram ∧ (q.onSlc n f).memcs = s.memcs
      ∧ (q.onSlc n f).blks = s.blks ∧ ((q.onSlc n f).slc n).at r.line = some y ∧ ((q.onSlc n f).slc n).miss = (s.slc n).miss ++ [m] := by
  rw [State.onSlc_slc_same, (hf _).1, (hf _).2, Slice.putLine_at_same hline, hq]
  exact ⟨rfl, rfl, rfl, rfl, rfl, rfl, rfl⟩

theorem sliceMisses_read (h : sliceMisses s n r w) (hop : r.op = .read) (hroom : s.missRoom n r = true) :
    ∃ t y m, exec (.sliceRequest n []) s = .next t ∧ t.reqs = othersThan s r ∧ t.resps = s.resps ∧ t.dram = s.dram ∧ t.memcs = s.memcs ∧ t.blks = s.blks
      ∧ (t.slc n).at r.line = some y ∧ y.st = .filling ∧ y.way = w ∧ y.owner = r.owner ∧ y.keyh = r.keyh
      ∧ (t.slc n).miss = (s.slc n).miss ++ [m] ∧ m.line = r.line ∧ m.kind = .fetch ∧ m.stage = .waiting ∧ m.waiters = [r]
      ∧ t.rd F.SLC_MISSES n = satAdd (2 ^ F.SLC_MISSES.width - 1) (s.rd F.SLC_MISSES n) 1 := by
  obtain ⟨hn, hpick, hway, hfree⟩ := sliceMisses_way h
  have hroom' : ((s.without r).pinLine n r.line r.owner).1.missRoom n r = true := (State.missRoom_pinLine hn _ _ r).trans hroom
  have htake := (sliceMisses_take h).trans (State.missed_read (s := s.without r) hway hfree true hop hroom)
  rw [State.register_of_room (k := .fetch) hroom' nofun] at htake
  have hpf : r.isPf = false := by rw [Req.isPf, hop]
  have hpin := (s.without r).pinLine_only n r.line r.owner
  obtain ⟨hreqs, hresps, hdram, hmemcs, hblks, hat, hmiss⟩ := sliceMisses_registers (s := s) (r := r) (n := n)
    (q := ((s.without r).pinLine n r.line r.owner).1.inc F.SLC_MISSES n 0) (y := (s.without r).lineTaken n w r .filling) (m := newMiss r .fetch true [r])
    (f := fun sl => { (sl.putLine ((s.without r).lineTaken n w r .filling)).touch r.line w with miss := sl.miss ++ [newMiss r .fetch true [r]] })
    (by rw [State.inc, State.wr, State.wrAt, hpin]) rfl fun sl => ⟨rfl, rfl⟩
  refine ⟨_, _, _, execSliceRequest_of_taken hn hpick hpf htake, hreqs, hresps, hdram, hmemcs, hblks, hat, rfl, rfl, rfl, rfl, hmiss, rfl, rfl, rfl, rfl, ?_⟩
  rw [State.onSlc_rd, if_pos rfl, State.rd_inc_same _ _ _ _ _ (by decide), State.pinLine_rd _ rfl (by decide)]
  rfl

/-- A write or a reduction that takes its way, on the state `q`, with `y` the line after it. -/
theorem sliceMisses_ack {q : State} {y : Line} {P : Line → Prop} (h : sliceMisses s n r w) (hpf : r.isPf = false)
    (hmissed : (s.without r).missed n r true = (q.ackWrite n y r, .taken)) (hq : q = { s.without r with regs := q.regs, slices := q.slices })
    (hmiss : (q.slc n).miss = (s.slc n).miss) (hinj : (q.slc n).inject = 0) (hmode : y.dmode = 0) (hline : y.line = r.line) (hP : P y.noSharers) :
    ∃ t y, exec (.sliceRequest n []) s = .next t ∧ t.reqs = othersThan s r ∧ t.resps = s.resps ++ [⟨r, 0⟩] ∧ t.dram = s.dram ∧ t.memcs = s.memcs
      ∧ t.blks = s.blks ∧ (t.slc n).miss = (s.slc n).miss ∧ (t.slc n).at r.line = some y ∧ P y := by
  obtain ⟨hn, hpick, -⟩ := sliceMisses_way h
  obtain ⟨honly, hat, hkept⟩ := State.ackWrite_spec (r := r) hmode hinj hline
  refine ⟨_, y.noSharers, execSliceRequest_of_taken hn hpick hpf ((sliceMisses_take h).trans hmissed), ?_⟩
  rw [hat, hkept, hmiss, honly, hq]
  exact ⟨rfl, rfl, rfl, rfl, rfl, rfl, rfl, hP⟩

theorem sliceMisses_merge (h : sliceMisses s n r w) (hinj : (s.slc n).inject = 0)
    (hop : r.op = .write ∨ ∃ op, r.op = .reduce op ∧ r.skew op = false ∧ r.shadow = false) :
    ∃ t y, exec (.sliceRequest n []) s = .next t ∧ t.reqs = othersThan s r ∧ t.resps = s.resps ++ [⟨r, 0⟩] ∧ t.dram = s.dram ∧ t.memcs = s.memcs
      ∧ t.blks = s.blks ∧ (t.slc n).miss = (s.slc n).miss ∧ (t.slc n).at r.line = some y ∧ y.way = w ∧ y.owner = r.owner ∧ y.keyh = r.keyh
      ∧ (r.op = .write → y.st = .dirty ∧ y.bvalid = r.mask ∧ y.data = mergeLine 0 r.data r.mask)
      ∧ (∀ op, r.op = .reduce op → y.st = .reduce ∧ y.redop = op) := by
  obtain ⟨-, -, hway, hfree⟩ := sliceMisses_way h
  have hpin := (s.without r).pinLine_only n r.line r.owner
  have hslc : ((s.without r).pinLine n r.line r.owner).1.slc n = s.slc n := (s.without r).pinLine_slc _ _ _ _
  rcases hop with hop | ⟨op, hop, hskew, hshadow⟩
  · refine sliceMisses_ack h (by rw [Req.isPf, hop]) (State.missed_write (s := s.without r) hway hfree true hop) (by rw [State.onSlc, State.setSlc, hpin])
      ?_ ?_ rfl rfl ⟨rfl, rfl, rfl, fun _ => ⟨rfl, BitVec.zero_or, rfl⟩, fun op hop' => nomatch hop.symm.trans hop'⟩
    · rw [State.onSlc_slc_same, hslc]; rfl
    · rw [State.onSlc_slc_same, hslc]; exact hinj
  · refine sliceMisses_ack h (by rw [Req.isPf, hop]) (State.missed_reduce (s := s.without r) hway hfree true hop hskew hshadow)
      (by rw [State.onSlc, State.setSlc, State.inc, State.wr, State.wrAt, hpin]) ?_ ?_ rfl rfl
      ⟨rfl, rfl, rfl, fun hop' => (nomatch hop.symm.trans hop'), fun op' hop' => ?_⟩
    · rw [State.onSlc_slc_same, State.inc_slc, hslc]; rfl
    · rw [State.onSlc_slc_same, State.inc_slc, hslc]; exact hinj
    · obtain rfl : op = op' := by simpa using hop.symm.trans hop'
      exact ⟨rfl, rfl⟩

theorem sliceMisses_prefetch {st : Bool} (h : sliceMisses s n r w) (hop : r.op = .prefetch st) (hregs : (s.slc n).miss.length ≤ 72)
    (hroom : s.missRoom n r = true) :
    ∃ t y m, exec (.prefetch n) s = .next t ∧ t.reqs = othersThan s r ∧ t.resps = s.resps ∧ t.dram = s.dram ∧ t.memcs = s.memcs ∧ t.blks = s.blks
      ∧ (t.slc n).at r.line = some y ∧ y.st = .filling ∧ y.way = w
      ∧ (t.slc n).miss = (s.slc n).miss ++ [m] ∧ m.line = r.line ∧ m.kind = .prefetch st ∧ m.waiters = []
      ∧ t.rd F.SLC_PF_ISSUED n = satAdd (2 ^ F.SLC_PF_ISSUED.width - 1) (s.rd F.SLC_PF_ISSUED n) 1 := by
  obtain ⟨hn, hpick, hway, hfree⟩ := sliceMisses_way h
  have htake := (sliceMisses_take h).trans (State.missed_prefetch (s := s.without r) hway hfree true hop hregs hroom)
  have hpin := (s.without r).pinLine_only n r.line r.owner
  obtain ⟨hreqs, hresps, hdram, hmemcs, hblks, hat, hmiss⟩ := sliceMisses_registers (s := s) (r := r) (n := n)
    (q := ((s.without r).pinLine n r.line r.owner).1.inc F.SLC_PF_ISSUED n 0) (y := (s.without r).lineTaken n w r .filling)
    (m := newMiss r (.prefetch st) true [])
    (f := fun sl => { (sl.putLine ((s.without r).lineTaken n w r .filling)).touch r.line w with miss := sl.miss ++ [newMiss r (.prefetch st) true []] })
    (by rw [State.inc, State.wr, State.wrAt, hpin]) rfl fun sl => ⟨rfl, rfl⟩
  refine ⟨_, _, _, execPrefetch_of_taken hn hpick (by rw [Req.isPf, hop]) htake, hreqs, hresps, hdram, hmemcs, hblks, hat, rfl, rfl, hmiss, rfl, rfl, rfl, ?_⟩
  rw [State.onSlc_rd, State.rd_inc_same _ _ _ _ _ (by decide), State.pinLine_rd _ rfl (by decide)]
  rfl

end

/-- Settles O32: the way is free, so each operation takes it at once; a retry names the request that it offers again. -/
theorem sliceMissesTakeRegisters : Obligations.SliceMissesTakeRegisters := by
  intro s n
  refine ⟨fun r w h hop hroom => sliceMisses_read h hop hroom, fun r w h hinj hop => sliceMisses_merge h hinj hop,
    fun r w st h hop hregs hroom => sliceMisses_prefetch h hop hregs hroom, fun r hn hbest => ?_⟩
  rw [exec_requestRetry, execRequestRetry, onUnit_of_lt hn, hbest]

end Sys2Proof.Machine
end

section
/-! PROOFS. Pin requests: the entry's registers, the entry that is taken or freed, and the outcome in PIN_RESULT (R246, R247). -/

namespace Sys2Proof.Machine
open Sys2Proof Sys2Proof.Claims

/-! ### Registers of a pin entry and of a result -/

section
variable (s : State)

/-- A write of a single register leaves the copies of the registers that lie past it on the page. -/
theorem State.rd_wr_of_past {f g : Fld} (hp : g.page = f.page) (hoff : f.off < g.off) (hlo : f.lo < 64) (u i v : Nat) :
    (s.wr f u 0 v).rd g u i = s.rd g u i := by
  refine State.rd_wr_ne _ _ _ _ _ _ _ _ ?_
  rw [hp, keyAt_zero, keyAt]
  have hcopy : (pageBase f.page u + f.off + 1) * 64 ≤ (pageBase f.page u + g.off + g.stride * (i / g.bcount)) * 64 := Nat.mul_le_mul_right _ (by omega)
  omega

theorem State.pinResult_only (g e c : Nat) : onlyRegs s (s.pinResult g e c) := rfl

theorem State.pinResult_code (g e c : Nat) : (s.pinResult g e c).rd F.SLC_PIN_RESULT_CODE (8 * g) = c % 8 := by
  simp (disch := decide) only [State.pinResult, State.rd_wr_of_place, State.rd_wr_same]
  rfl

theorem State.pinResult_entry (g e c : Nat) : (s.pinResult g e c).rd F.SLC_PIN_RESULT_ENTRY (8 * g) = e % 16 := by
  simp (disch := decide) only [State.pinResult, State.rd_wr_of_place, State.rd_wr_same]
  rfl

/-- The registers of the entries lie past PIN_RESULT. -/
theorem State.pinResult_rd {f : Fld} (hp : f.page = .slc) (hoff : 0x158 < f.off) (g e c k : Nat) : (s.pinResult g e c).rd f (8 * g) k = s.rd f (8 * g) k := by
  rw [State.pinResult, State.rd_wr_of_past _ hp hoff (by decide), State.rd_wr_of_past _ hp hoff (by decide), State.rd_wr_of_past _ hp hoff (by decide)]

theorem State.pinResult_regs (g e c : Nat) :
    regsBut [keyOf F.SLC_PIN_RESULT_CODE (8 * g) 0, keyOf F.SLC_PIN_RESULT_ENTRY (8 * g) 0, keyOf F.SLC_PIN_RESULT_VALID (8 * g) 0] s (s.pinResult g e c) :=
  regsBut.wr (regsBut.wr (regsBut.wr (regsBut_of_regs rfl) (by simp) c) (by simp) e) (by simp) 1

theorem State.pinEntryRegs_only (g e valid filled ways owner : Nat) : onlyRegs s (s.pinEntryRegs g e valid filled ways owner) := rfl

theorem State.pinEntryRegs_valid (g e valid filled ways owner : Nat) :
    (s.pinEntryRegs g e valid filled ways owner).rd F.SLC_PIN_ENTRY_VALID (8 * g) e = valid % 2 := by
  simp (disch := decide) only [State.pinEntryRegs, State.rd_wr_of_past, State.rd_wr_of_lo, State.rd_wr_same]
  rfl

theorem State.pinEntryRegs_filled (g e valid filled ways owner : Nat) :
    (s.pinEntryRegs g e valid filled ways owner).rd F.SLC_PIN_ENTRY_FILLED (8 * g) e = filled % 2 := by
  simp (disch := decide) only [State.pinEntryRegs, State.rd_wr_of_past, State.rd_wr_of_lo, State.rd_wr_same]
  rfl

/-- The registers after a request that is accepted. -/
def State.pinOutcome (s : State) (g e valid ways owner : Nat) : State := (s.pinEntryRegs g e valid 0 ways owner).pinResult g e 1

variable (g e valid ways owner : Nat)

theorem State.pinOutcome_only : onlyRegs s (s.pinOutcome g e valid ways owner) := by
  rw [onlyRegs, State.pinOutcome, State.pinResult_only, State.pinEntryRegs_only]

theorem State.pinOutcome_code : (s.pinOutcome g e valid ways owner).rd F.SLC_PIN_RESULT_CODE (8 * g) = 1 := State.pinResult_code _ g e 1

theorem State.pinOutcome_entry : (s.pinOutcome g e valid ways owner).rd F.SLC_PIN_RESULT_ENTRY (8 * g) = e % 16 := State.pinResult_entry _ g e 1

theorem State.pinOutcome_valid : (s.pinOutcome g e valid ways owner).rd F.SLC_PIN_ENTRY_VALID (8 * g) e = valid % 2 :=
  (State.pinResult_rd _ rfl (by decide) g e 1 e).trans (State.pinEntryRegs_valid _ _ _ _ _ _ _)

theorem State.pinOutcome_filled : (s.pinOutcome g e valid ways owner).rd F.SLC_PIN_ENTRY_FILLED (8 * g) e = 0 :=
  (State.pinResult_rd _ rfl (by decide) g e 1 e).trans (State.pinEntryRegs_filled _ _ _ _ _ _ _)

end

/-! ### One change to each slice of a group -/

theorem State.onSlices_only (s : State) (g k : Nat) (f : Slice → Slice) :
    (List.range k).foldl (fun s i => s.onSlc (8 * g + i) f) s = { s with slices := ((List.range k).foldl (fun s i => s.onSlc (8 * g + i) f) s).slices } := by
  induction k with
  | zero => rfl
  | succ k ih =>
    rw [List.range_succ, List.foldl_append, ih]
    rfl

theorem State.onSlices_slc (s : State) (g k n : Nat) (f : Slice → Slice) :
    ((List.range k).foldl (fun s i => s.onSlc (8 * g + i) f) s).slc n = if 8 * g ≤ n ∧ n < 8 * g + k then f (s.slc n) else s.slc n := by
  induction k with
  | zero => exact (if_neg (by omega)).symm
  | succ k ih =>
    rw [List.range_succ, List.foldl_append, List.foldl_cons, List.foldl_nil]
    by_cases hn : n = 8 * g + k
    · rw [← hn, State.onSlc_slc_same, ih, if_neg (by omega), if_pos (by omega)]
    · rw [State.onSlc_slc_ne _ _ _ _ hn, ih]
      exact if_congr (by omega) rfl rfl

theorem State.onGroup_slc (s : State) (g n : Nat) (f : Slice → Slice) :
    ((List.range 8).foldl (fun s i => s.onSlc (8 * g + i) f) s).slc n = if n / 8 = g then f (s.slc n) else s.slc n := by
  rw [State.onSlices_slc]
  exact if_congr (by omega) rfl rfl

/-! ### Requests that are refused, that take an entry and that free one (R246, R247) -/

section
variable {s : State} {src : Source} {g v : Nat}

theorem State.pinReq_of_refused {c : Nat} (hmay : s.mayWrite src = true) (h : s.pinRefusals g v = [c]) :
    s.pinReq src g v = s.pinResult g (bitsOf v 2 4) c := by
  rw [State.pinReq, hmay, h]
  rfl

theorem State.pinReq_of_take (hmay : s.mayWrite src = true) (h : s.pinRefusals g v = []) (hop : bitsOf v 0 2 = 1) : s.pinReq src g v = s.pinTake g v := by
  rw [State.pinReq, hmay, h]
  exact if_pos hop

theorem State.pinReq_of_free {p : PinEntry} (hmay : s.mayWrite src = true) (h : s.pinRefusals g v = []) (hop : bitsOf v 0 2 ≠ 1)
    (hp : SMap.find (16 * g + bitsOf v 2 4) s.pins = some p) : s.pinReq src g v = s.pinFree g (bitsOf v 2 4) p := by
  rw [State.pinReq, hmay, h, if_neg nofun]
  dsimp only
  rw [if_neg hop, hp]

/-- PIN_RESULT has room for every reason. -/
theorem State.pinRefusals_lt {c : Nat} (h : c ∈ s.pinRefusals g v) : c < 8 := by
  have hif {p : Prop} [Decidable p] {k : Nat} (hk : k < 8) (hc : c ∈ if p then [k] else []) : c < 8 := by
    split at hc
    · exact List.mem_singleton.mp hc ▸ hk
    · exact absurd hc List.not_mem_nil
  have hif' {p : Prop} [Decidable p] {k : Nat} (hk : k < 8) (hc : c ∈ if p then [] else [k]) : c < 8 := by
    split at hc
    · exact absurd hc List.not_mem_nil
    · exact List.mem_singleton.mp hc ▸ hk
  unfold State.pinRefusals at h
  dsimp only at h
  split at h
  · simp only [List.mem_append] at h
    obtain ((h | h) | h) | h := h
    · exact hif (by decide) h
    · exact hif (by decide) h
    · exact hif' (by decide) h
    · exact hif (by decide) h
  · split at h
    · exact hif' (by decide) h
    · exact List.mem_singleton.mp h ▸ by decide

/-- An UNPIN request that no reason refuses is of an entry in use. -/
theorem State.find_of_no_pinRefusals (h : s.pinRefusals g v = []) (hop : bitsOf v 0 2 ≠ 1) : ∃ p, SMap.find (16 * g + bitsOf v 2 4) s.pins = some p := by
  rw [State.pinRefusals, if_neg hop] at h
  refine Option.isSome_iff_exists.mp ?_
  by_contra hfree
  rw [if_neg hfree] at h
  split at h <;> cases h

/-- The entry that a request asks for. -/
def State.pinAsked (s : State) (g v : Nat) : PinEntry :=
  ⟨s.rd F.SLC_PIN_BASE_BASE (8 * g), s.rd F.SLC_PIN_SIZE_SIZE (8 * g), bitsOf v 16 14, bitsOf v 6 4, bitOf v 10⟩

theorem State.pinTake_eq (s : State) (g v : Nat) : s.pinTake g v
    = { s with pins := SMap.put (16 * g + bitsOf v 2 4) (s.pinAsked g v) s.pins }.pinOutcome g (bitsOf v 2 4) 1 (bitsOf v 6 4) (bitsOf v 16 14) := rfl

theorem State.pinTake_spec (s : State) (g v : Nat) : let t := s.pinTake g v
    t = { s with regs := t.regs, pins := t.pins } ∧ t.rd F.SLC_PIN_RESULT_CODE (8 * g) = 1 ∧ t.rd F.SLC_PIN_RESULT_ENTRY (8 * g) = bitsOf v 2 4
      ∧ t.rd F.SLC_PIN_ENTRY_VALID (8 * g) (bitsOf v 2 4) = 1 ∧ t.rd F.SLC_PIN_ENTRY_FILLED (8 * g) (bitsOf v 2 4) = 0
      ∧ SMap.find (16 * g + bitsOf v 2 4) t.pins = some (s.pinAsked g v) := by
  dsimp only
  rw [State.pinTake_eq, State.pinOutcome_code, State.pinOutcome_entry, State.pinOutcome_valid, State.pinOutcome_filled, State.pinOutcome_only]
  exact ⟨rfl, rfl, bitsOf_mod v 2 4, rfl, rfl, SMap.find_put_same _ _ _⟩

/-- A line that an entry covers is no longer pinned by it. -/
def PinEntry.unpin (q : PinEntry) (x : Line) : Line :=
  if decide (q.base ≤ x.line * 128) && decide (x.line * 128 < q.base + q.size) && x.owner == q.owner then { x with pin := false } else x

theorem PinEntry.unpin_pin {q : PinEntry} {x : Line} (hlo : q.base ≤ (q.unpin x).line * 128) (hhi : (q.unpin x).line * 128 < q.base + q.size)
    (howner : (q.unpin x).owner = q.owner) : (q.unpin x).pin = false := by
  by_cases hin : (decide (q.base ≤ x.line * 128) && decide (x.line * 128 < q.base + q.size) && x.owner == q.owner) = true
  · rw [PinEntry.unpin, if_pos hin]
  · rw [PinEntry.unpin, if_neg hin] at hlo hhi howner
    simp [hlo, hhi, howner] at hin

/-- The lines of a group as an UNPIN request leaves them. -/
def State.unpinned (s : State) (g : Nat) (q : PinEntry) : State :=
  (List.range 8).foldl (fun s i => s.onSlc (8 * g + i) (fun sl => { sl with lines := sl.lines.map q.unpin })) s

theorem State.unpinned_only (s : State) (g : Nat) (q : PinEntry) : s.unpinned g q = { s with slices := (s.unpinned g q).slices } := by
  rw [State.unpinned, State.onSlices_only]

theorem State.unpinned_slc (s : State) (g : Nat) (q : PinEntry) (n : Nat) :
    (s.unpinned g q).slc n = if n / 8 = g then { s.slc n with lines := (s.slc n).lines.map q.unpin } else s.slc n := by
  rw [State.unpinned, State.onGroup_slc]

theorem State.pinFree_eq (s : State) (g e : Nat) (q : PinEntry) : s.pinFree g e q
    = { s.unpinned g q with pins := SMap.del (16 * g + e) (s.unpinned g q).pins }.pinOutcome g e 0 0 0 := rfl

theorem State.pinFree_slc (s : State) (g e : Nat) (q : PinEntry) (n : Nat) :
    (s.pinFree g e q).slc n = if n / 8 = g then { s.slc n with lines := (s.slc n).lines.map q.unpin } else s.slc n := by
  rw [State.pinFree_eq, State.pinOutcome_only, ← State.unpinned_slc]
  rfl

theorem State.pinFree_spec (s : State) (g e : Nat) (q : PinEntry) : let t := s.pinFree g e q
    t.rd F.SLC_PIN_RESULT_CODE (8 * g) = 1 ∧ SMap.find (16 * g + e) t.pins = none
      ∧ (∀ n, n / 8 = g → ∀ x ∈ (t.slc n).lines, q.base ≤ x.line * 128 → x.line * 128 < q.base + q.size → x.owner = q.owner → x.pin = false)
      ∧ (∀ n, n / 8 ≠ g → t.slc n = s.slc n) ∧ t.dram = s.dram := by
  refine ⟨?_, ?_, fun n hn x hx => ?_, fun n hn => ?_, ?_⟩
  · rw [State.pinFree_eq, State.pinOutcome_code]
  · rw [State.pinFree_eq, State.pinOutcome_only]
    exact SMap.find_del_same _ _
  · rw [State.pinFree_slc, if_pos hn] at hx
    obtain ⟨z, -, rfl⟩ := List.mem_map.mp hx
    exact PinEntry.unpin_pin
  · rw [State.pinFree_slc, if_neg hn]
  · rw [State.pinFree_eq, State.pinOutcome_only, State.unpinned_only]

end

/-! ### The obligation -/

/-- PIN and UNPIN are the same write of PIN_REQ. -/
theorem exec_pinRequest {s : State} {src : Source} {d : Nat} {v : Word} (hmay : mayCommand s src) (hd : d < nDist) :
    ∀ c ∈ [Instr.pin src d v, Instr.unpin src d v], exec c s = .next (s.pinReq src d v.toNat) := by
  have hpin : execPin src d v s = .next (s.pinReq src d v.toNat) := by rw [execPin, onSrc_of_ok hmay.1, onUnit_of_lt hd]
  exact List.forall_mem_cons.mpr ⟨hpin, List.forall_mem_singleton.mpr hpin⟩

/-- PIN_DONE, whatever the fetches of the fill did. -/
theorem exec_pinDone_of_fill {s : State} {d k : Nat} {q : PinEntry} (hd : d < nDist) (hk : k < 16) (hfind : SMap.find (16 * d + k) s.pins = some q)
    (hfill : q.fill = true) (hopen : s.rd F.SLC_PIN_ENTRY_FILLED (8 * d) k = 0) :
    ∃ t : State, exec (.pinDone d k) s = .next ((t.wr F.SLC_PIN_ENTRY_FILLED (8 * d) k 1).setEvt .slc (8 * d) 8) := by
  rw [exec_pinDone, execPinDone, onUnit_of_lt hd, hfind]
  dsimp only
  rw [if_pos ⟨hk, hfill, hopen⟩]
  exact ⟨_, rfl⟩

/-- Settles O34: the request is one function of the refusals, and PIN_DONE writes FILLED and the event last. -/
theorem pinRequestsTakeAndFreeEntries : Obligations.PinRequestsTakeAndFreeEntries := by
  intro s src d v hmay hd
  refine ⟨fun c hc => ?_, fun q k hk hfind hfill hopen => ?_⟩
  · rw [exec_pinRequest hmay hd c hc]
    refine ⟨fun hok hop => ⟨_, rfl, ?_⟩, fun hok hop => ?_, fun r hr => ⟨_, rfl, ?_⟩⟩
    · rw [State.pinReq_of_take hmay.2 hok hop]
      exact State.pinTake_spec s d v.toNat
    · obtain ⟨q, hq⟩ := State.find_of_no_pinRefusals hok hop
      refine ⟨_, q, rfl, hq, ?_⟩
      rw [State.pinReq_of_free hmay.2 hok hop hq]
      exact State.pinFree_spec s d _ q
    · rw [State.pinReq_of_refused hmay.2 hr]
      have hlt : r < 8 := State.pinRefusals_lt (hr ▸ List.mem_singleton_self r)
      exact ⟨State.pinResult_only _ _ _ _, (State.pinResult_code _ _ _ _).trans (Nat.mod_eq_of_lt hlt), State.pinResult_regs _ _ _ _⟩
  · obtain ⟨t, ht⟩ := exec_pinDone_of_fill hd hk hfind hfill hopen
    refine ⟨_, ht, ?_, State.bitOf_evts_setEvt _ _ _ (b := 8) (by decide)⟩
    rw [State.rd_setEvt_of_off (f := F.SLC_PIN_ENTRY_FILLED) (pg := .slc) rfl (by decide), State.rd_wr_same _ _ _ _ _ (by decide)]
    rfl

end Sys2Proof.Machine
end

section
/-! PROOFS. Registers that memory traffic writes: counters, error addresses and event bits, which lie at the same places of every page (R484, R486). What the
other registers hold, the map of a district and the state of a slice among them, stays. -/

namespace Sys2Proof.Machine
open Sys2Proof Sys2Proof.Claims

/-! ### Places of the registers -/

/-- The pages of top, error queue, controllers, gather engines and slices. -/
def Page.traffic : Page → Bool
  | .top | .errq | .memc | .gath | .slc => true
  | _ => false

/-- Places on a page at which memory traffic writes: event bits, FATAL with its cause, counters, and the addresses of uncorrectable errors. -/
def trafficOff (o : Nat) : Bool := decide (0x40 ≤ o ∧ o < 0x100) || [0x14, 0x20, 0x120, 0x124, 0x12c, 0x168].contains o

/-- Keys of such places, on pages other than those from the domains' to the fabric's. -/
def trafficKey (k : Nat) : Bool := decide (k < 0x1_0000 * 64 ∨ 0x6_0000 * 64 ≤ k) && trafficOff (k / 64 % 0x1000)

/-- A field that memory traffic writes, an event bit excepted. -/
def Fld.traffic (f : Fld) : Bool := f.page.traffic && decide (f.lo < 64) && decide (f.off < 0x1000) && decide (f.off ≠ 0x20) && trafficOff f.off

/-- What memory traffic leaves of the registers: those at other places, and the RETIRED events of the slices (R251). -/
def State.quiet (s : State) : (Nat → Option DWord) × (Nat → Bool) :=
  (fun k => if trafficKey k then none else SMap.find k s.regs, fun n => bitOf (s.evts .slc n) 7)

theorem Page.base_of_traffic {pg : Page} (h : pg.traffic = true) (u : Nat) :
    pageBase pg u % 0x1000 = 0 ∧ (pageBase pg u < 0xF000 ∨ 0x6_0000 ≤ pageBase pg u) := by
  match pg, h with
  | .top, _ | .errq, _ => simp [pageBase]
  | .memc, _ | .gath, _ | .slc, _ => simp only [pageBase]; omega

theorem trafficKey_of_place {pg : Page} {o lo : Nat} (hpg : pg.traffic = true) (hlo : lo < 64) (hoff : o < 0x1000) (ho : trafficOff o = true) (u : Nat) :
    trafficKey (pageBase pg u * 64 + (o * 64 + lo)) = true := by
  obtain ⟨hmod, hbase⟩ := Page.base_of_traffic hpg u
  have hplace : (pageBase pg u * 64 + (o * 64 + lo)) / 64 % 0x1000 = o := by omega
  rw [trafficKey, hplace, ho, Bool.and_true]
  exact decide_eq_true (by omega)

/-! ### Event bits -/

theorem State.evts_of_key {pg qg : Page} {u w : Nat} (h : evtKey pg u = evtKey qg w) (s : State) : s.evts pg u = s.evts qg w := by
  rw [evtKey, evtKey] at h
  rw [State.evts, State.evts, State.rdAt, State.rdAt, h]
  rfl

theorem bitOf_setBit_ne {b c : Nat} (h : c ≠ b) (x : Nat) : bitOf (setBit x b) c = bitOf x c := by
  simp [bitOf, setBit, Nat.one_shiftLeft, Nat.testBit_or, Nat.testBit_two_pow_of_ne h.symm]

theorem bitOf_mod {b : Nat} (hb : b < 32) (x : Nat) : bitOf (x % 2 ^ 32) b = bitOf x b := by
  rw [bitOf, Nat.testBit_mod_two_pow, decide_eq_true hb, Bool.true_and, bitOf]

/-- An event leaves the other event bits of every page. -/
theorem State.bitOf_evts_setEvt_ne {b c : Nat} (hc : c < 32) (h : c ≠ b) (s : State) (pg qg : Page) (u w : Nat) :
    bitOf ((s.setEvt pg u b).evts qg w) c = bitOf (s.evts qg w) c := by
  by_cases hkey : evtKey qg w = evtKey pg u
  · rw [State.evts_of_key hkey, State.evts_of_key hkey, State.setEvt, State.evts_wrAt, bitOf_mod hc, bitOf_setBit_ne h]
  · rw [State.evts, State.setEvt, State.rdAt_wrAt_ne _ _ _ _ _ _ _ _ _ _ hkey, State.evts]

/-! ### What traffic leaves -/

section
variable {s t : State}

theorem State.quiet_find (h : t.quiet = s.quiet) {k : Nat} (hk : trafficKey k = false) : SMap.find k t.regs = SMap.find k s.regs := by
  have hfind := congrFun (congrArg Prod.fst h) k
  simpa [State.quiet, hk] using hfind

/-- A register at another place reads as before. -/
theorem State.quiet_rd (h : t.quiet = s.quiet) {f : Fld} {u i : Nat} (hk : trafficKey (keyOf f u i) = false) : t.rd f u i = s.rd f u i := by
  rw [State.rd, State.rd, State.rdAt, State.rdAt, State.quiet_find (k := keyAt f.page u f i) h hk]

theorem State.quiet_retired (h : t.quiet = s.quiet) (n : Nat) : bitOf (t.evts .slc n) 7 = bitOf (s.evts .slc n) 7 := congrFun (congrArg Prod.snd h) n

theorem State.quiet_wr {f : Fld} (h : f.traffic = true) (s : State) (u v : Nat) : (s.wr f u 0 v).quiet = s.quiet := by
  simp only [Fld.traffic, Bool.and_eq_true, decide_eq_true_eq] at h
  obtain ⟨⟨⟨⟨hpage, hlo⟩, hoff⟩, hevt⟩, ho⟩ := h
  have hkey : trafficKey (keyAt f.page u f 0) = true := by rw [keyAt_zero]; exact trafficKey_of_place hpage hlo hoff ho u
  refine Prod.ext (funext fun k => ?_) (funext fun n => ?_)
  · dsimp only [State.quiet]
    split
    · rfl
    next hk => exact SMap.find_put_ne (ne_of_apply_ne trafficKey (by rw [hkey]; exact hk)) _ _
  · have hne : evtKey .slc n ≠ keyAt f.page u f 0 := by
      obtain ⟨hmod, -⟩ := Page.base_of_traffic hpage u
      rw [evtKey, keyAt_zero, keyAt_zero]
      have hslc : pageBase .slc n % 0x1000 = 0 := (Page.base_of_traffic rfl n).1
      have hplace : F.HDR_EVT_STATUS.off * 64 + F.HDR_EVT_STATUS.lo = 0x20 * 64 := rfl
      omega
    exact congrArg (bitOf · 7) (State.rdAt_wrAt_ne s f.page .slc u n f F.HDR_EVT_STATUS 0 0 v hne)

theorem State.quiet_inc {f : Fld} (h : f.traffic = true) (s : State) (u n : Nat) : (s.inc f u 0 n).quiet = s.quiet := State.quiet_wr h s u _

theorem State.quiet_setEvt {pg : Page} {b : Nat} (hpg : pg.traffic = true) (hb : 7 ≠ b) (s : State) (u : Nat) : (s.setEvt pg u b).quiet = s.quiet := by
  have hkey : trafficKey (keyAt pg u F.HDR_EVT_STATUS 0) = true := by
    rw [keyAt_zero]
    exact trafficKey_of_place hpg (by decide) (by decide) (by decide) u
  refine Prod.ext (funext fun k => ?_) (funext fun n => State.bitOf_evts_setEvt_ne (by decide) hb s pg .slc u n)
  dsimp only [State.quiet]
  split
  · rfl
  next hk => exact SMap.find_put_ne (ne_of_apply_ne trafficKey (by rw [hkey]; exact hk)) _ _

end

/-- The maps of the districts stay, and so do the Blocks that a directory entry names (R241). -/
theorem State.quiet_phys {s t : State} (h : t.quiet = s.quiet) {l : Nat} (hl : l < 512) : t.phys l = s.phys l := by
  have hplace (f : Fld) (hp : f.page = .dist) (ho : f.off = 0x100) (hstride : f.stride = 4) (hb : f.bcount = 1) (hlo : f.lo < 64) :
      trafficKey (keyOf f (l / 32) (l % 32)) = false := by
    have hkey : ¬ (keyOf f (l / 32) (l % 32) < 0x1_0000 * 64 ∨ 0x6_0000 * 64 ≤ keyOf f (l / 32) (l % 32)) := by
      simp only [keyOf, keyAt, hp, pageBase, ho, hstride, hb, Nat.div_one, Nat.mod_one, Nat.mul_zero]
      omega
    rw [trafficKey, decide_eq_false hkey, Bool.false_and]
  rw [State.phys, State.phys, State.quiet_rd h (hplace _ rfl rfl rfl rfl (by decide)), State.quiet_rd h (hplace _ rfl rfl rfl rfl (by decide))]

theorem State.quiet_sharers {s t : State} (h : t.quiet = s.quiet) (x : Line) : t.sharers x = s.sharers x := by
  have hblks (d : Nat) (hd : d < nDist) : t.blksOf d = s.blksOf d := by
    refine List.filterMap_congr fun i hi => State.quiet_phys h ?_
    have hi' := List.mem_range.mp hi
    have hd' : d < 16 := hd
    omega
  unfold State.sharers
  split
  · rfl
  · exact congrArg List.flatten (List.map_congr_left fun d hd => hblks d (List.mem_range.mp (List.mem_of_mem_filter hd)))
  · rfl

theorem trafficKey_mode (n : Nat) : trafficKey (keyOf F.SLC_SLICE_STATE_MODE n 0) = false := by
  have hplace : keyOf F.SLC_SLICE_STATE_MODE n 0 / 64 % 0x1000 = 0x100 := by
    rw [keyOf, keyAt_zero]
    simp only [pageBase, F.SLC_SLICE_STATE_MODE]
    omega
  rw [trafficKey, hplace]
  exact Bool.and_false _

end Sys2Proof.Machine
end

section
/-! PROOFS. Reads and writes of external memory leave the device beside its registers, its controllers and its memory as it is, and of the registers
those that traffic does not write (R254 to R269, R300 to R315). -/

namespace Sys2Proof.Machine
open Sys2Proof Sys2Proof.Claims

/-- What of the device no read or write of external memory changes. -/
def State.aside (s : State) : State × ((Nat → Option DWord) × (Nat → Bool)) :=
  ({ s with regs := [], free := 0, out := [], memcs := [], dram := [], sectors := [], plaza := State.reset.plaza, errq := State.reset.errq
            mgmt := State.reset.mgmt }, s.quiet)

theorem State.aside_foldl {α : Type} {f : State → α → State} (h : ∀ t a, (f t a).aside = t.aside) (xs : List α) (s : State) :
    (xs.foldl f s).aside = s.aside := by
  induction xs generalizing s with
  | nil => rfl
  | cons x xs ih => rw [List.foldl_cons, ih, h]

section
variable {s t : State} (h : t.aside = s.aside)
include h

theorem State.aside_quiet : t.quiet = s.quiet := congrArg Prod.snd h

theorem State.aside_slices : t.slices = s.slices := congrArg (fun p => p.1.slices) h

theorem State.aside_slc (n : Nat) : t.slc n = s.slc n := by rw [State.slc, State.slc, State.aside_slices h]

theorem State.aside_blks : t.blks = s.blks := congrArg (fun p => p.1.blks) h

theorem State.aside_resps : t.resps = s.resps := congrArg (fun p => p.1.resps) h

end

section
variable (s : State)

/-! ### Updates of one field -/

theorem State.aside_wr {f : Fld} (h : f.traffic = true) (u v : Nat) : (s.wr f u 0 v).aside = s.aside := Prod.ext rfl (State.quiet_wr h s u v)
theorem State.aside_inc {f : Fld} (h : f.traffic = true) (u n : Nat) : (s.inc f u 0 n).aside = s.aside := Prod.ext rfl (State.quiet_inc h s u n)
theorem State.aside_setEvt {pg : Page} {b : Nat} (hpg : pg.traffic = true) (hb : 7 ≠ b) (u : Nat) : (s.setEvt pg u b).aside = s.aside :=
  Prod.ext rfl (State.quiet_setEvt hpg hb s u)
@[simp] theorem State.aside_used : s.used.aside = s.aside := rfl
@[simp] theorem State.aside_onMem (g : Nat) (f : Memc → Memc) : (s.onMem g f).aside = s.aside := rfl
@[simp] theorem State.aside_smb (b : Nat) : (s.smb b).aside = s.aside := rfl
@[simp] theorem State.aside_emit (k : String) (as : List Nat) (bs : List Byte) : (s.emit k as bs).aside = s.aside := rfl
theorem State.aside_memory (m : List Host.Cell) (q : SMap Sector) : State.aside { s with dram := m, sectors := q } = s.aside := rfl
theorem State.aside_errq (q : ErrQ) : State.aside { s with errq := q } = s.aside := rfl
theorem State.aside_free (k : Nat) : State.aside { s with free := k } = s.aside := rfl

/-! ### Error reports (R300, R303, R310 to R315) -/

@[simp] theorem State.aside_fatal (cause : Nat) : (s.fatal cause).aside = s.aside := by
  unfold State.fatal
  split
  · rfl
  · simp (disch := decide) [State.aside_wr, State.aside_setEvt]

@[simp] theorem State.aside_record (r : Report) : (s.record r).aside = s.aside := by
  unfold State.record
  split
  · split <;> rfl
  · rfl

@[simp] theorem State.aside_enqueue (r : Report) (late : Bool) : (s.enqueue r late).aside = s.aside := by
  unfold State.enqueue
  dsimp only
  split
  · rw [State.aside_errq, State.aside_inc _ (by decide)]
  split
  · exact s.aside_fatal 1
  · rw [State.aside_errq, State.aside_inc _ (by decide)]

@[simp] theorem State.aside_report (r : Report) : (s.report r).aside = s.aside := by
  rw [State.report, State.aside_enqueue, State.aside_record]

@[simp] theorem State.aside_event (code page addr detail : Nat) (writer : Option Nat) : (s.event code page addr detail writer).aside = s.aside :=
  s.aside_report _

@[simp] theorem State.aside_ceTable (cls unit addr syndrome : Nat) : (s.ceTable cls unit addr syndrome).aside = s.aside := by
  unfold State.ceTable
  dsimp only
  split
  · exact s.aside_errq _
  split
  · exact s.aside_errq _
  · rw [State.aside_errq, State.aside_inc _ (by decide)]

@[simp] theorem State.aside_corrected (cls unit addr : Nat) : (s.corrected cls unit addr).aside = s.aside := by
  rw [State.corrected, State.aside_free, State.aside_ceTable]

/-! ### Controllers (R259 to R269) -/

@[simp] theorem State.aside_columns (g : Nat) (br : Nat × Nat) (n : Nat) : (s.columns g br n).aside = s.aside := by
  unfold State.columns
  split_ifs <;> simp (disch := decide) [State.aside_inc]

@[simp] theorem State.aside_writeSector (q h : Nat) (d : BitVec 256) (err : Nat) : (s.writeSector q h d err).aside = s.aside := s.aside_memory _ _

@[simp] theorem State.aside_memUe (g q : Nat) : (s.memUe g q).aside = s.aside := by
  unfold State.memUe
  dsimp only
  split <;> simp (disch := decide) [State.aside_wr, State.aside_inc, State.aside_setEvt]

@[simp] theorem State.aside_keyLoad (g h : Nat) : (s.keyLoad g h).aside = s.aside := by
  unfold State.keyLoad
  dsimp only
  split_ifs <;> rfl

@[simp] theorem State.aside_keyTouch (g h : Nat) : (s.keyTouch g h).aside = s.aside := by
  unfold State.keyTouch
  split <;> simp (disch := decide) [State.aside_inc]

@[simp] theorem State.aside_checkLost (g : Nat) (b : CheckBurst) : (s.checkLost g b).aside = s.aside := by
  unfold State.checkLost
  split
  · rfl
  · exact s.aside_memory _ _

@[simp] theorem State.aside_onCheck (g : Nat) (k : Nat × Nat) (f : CheckBurst → CheckBurst) : (s.onCheck g k f).aside = s.aside := rfl

@[simp] theorem State.aside_checkLoad (g : Nat) (k : Nat × Nat) : (s.checkLoad g k).aside = s.aside := by
  unfold State.checkLoad
  dsimp only
  split
  · rfl
  split
  · simp
  split
  · split <;> simp
  · simp

@[simp] theorem State.aside_checkErr (g l : Nat) (k : Nat × Nat) : (s.checkErr g l k).aside = s.aside := by
  unfold State.checkErr
  split
  · rfl
  split
  · rfl
  · simp (disch := decide) [State.aside_inc]
  · split <;> simp

@[simp] theorem State.aside_checkTouch (g l : Nat) (write : Bool) : (s.checkTouch g l write).aside = s.aside := by
  unfold State.checkTouch
  dsimp only
  split <;> split <;> simp (disch := decide) [State.aside_inc]

@[simp] theorem State.aside_memInject (g l : Nat) : (s.memInject g l).1.aside = s.aside := by
  unfold State.memInject
  dsimp only
  split_ifs <;> rfl

@[simp] theorem State.aside_writePart (g l h i : Nat) (mask : BitVec 128) (d : BitVec 1024) (ctx : Option Nat) :
    (s.writePart g l h i mask d ctx).aside = s.aside := by
  unfold State.writePart
  dsimp only
  split_ifs <;> simp (disch := decide) [State.aside_inc]

@[simp] theorem State.aside_issueWrite (g : Nat) (w : MemWrite) : (s.issueWrite g w).aside = s.aside := by
  simp (disch := decide) [State.issueWrite, State.aside_inc]

@[simp] theorem State.aside_slotWrite (g l : Nat) (is : List Nat) : (s.slotWrite g l is).aside = s.aside := by
  unfold State.slotWrite
  dsimp only
  split
  · rfl
  split
  · split <;> simp
  · rfl

@[simp] theorem State.aside_writeLine (g l h : Nat) (mask : BitVec 128) (d : BitVec 1024) (ctx : Option Nat) :
    (s.writeLine g l h mask d ctx).aside = s.aside := by
  have hparts (is : List Nat) (t : State) : (is.foldl (fun s i => s.writePart g l h i mask d ctx) t).aside = t.aside :=
    State.aside_foldl (fun s i => s.aside_writePart g l h i mask d ctx) is t
  unfold State.writeLine
  dsimp only
  split_ifs <;> simp (disch := decide) [hparts, State.aside_inc]

/-- The single-bit errors of a line are counted and recorded. -/
@[simp] theorem State.aside_fetchLine (g l h : Nat) : (s.fetchLine g l h).1.aside = s.aside := by
  have hces (is : List Nat) (t : State) : (is.foldl (fun s i => (s.inc F.MEMC_CE g 0).corrected 4 g (32 * (4 * l + i))) t).aside = t.aside :=
    State.aside_foldl (fun s i => (State.aside_corrected _ 4 g _).trans (s.aside_inc (by decide) g 1)) is t
  have hues (is : List Nat) (t : State) : (is.foldl (fun s i => s.memUe g (4 * l + i)) t).aside = t.aside :=
    State.aside_foldl (fun s i => s.aside_memUe g _) is t
  unfold State.fetchLine
  dsimp only
  split <;> simp [hces, hues]

@[simp] theorem State.aside_readLine (g l h : Nat) : (s.readLine g l h).1.aside = s.aside := by
  simp (disch := decide) [State.readLine, State.aside_inc]

@[simp] theorem State.aside_countServed (g : Nat) (m : Miss) (aged : Bool) : (s.countServed g m aged).aside = s.aside := by
  unfold State.countServed
  dsimp only
  split_ifs <;> simp (disch := decide) [State.aside_inc]

@[simp] theorem State.aside_dropIdle (g : Nat) : (s.dropIdle g).aside = s.aside := by
  unfold State.dropIdle
  dsimp only
  split <;> rfl

@[simp] theorem State.aside_slcUe (n l : Nat) : (s.slcUe n l).aside = s.aside := by
  unfold State.slcUe
  dsimp only
  split <;> simp (disch := decide) [State.aside_wr, State.aside_setEvt]

@[simp] theorem State.aside_writeBack (n : Nat) (x : Line) : (s.writeBack n x).aside = s.aside := by
  simp (disch := decide) [State.writeBack, State.aside_inc]

@[simp] theorem State.aside_resolveMem (n : Nat) (x : Line) : (s.resolveMem n x).1.aside = s.aside := by
  unfold State.resolveMem
  dsimp only
  split <;> simp (disch := decide) [State.aside_inc]

end

end Sys2Proof.Machine
end

section
/-! PROOFS. A controller whose check cache holds no error reads memory without changing it: its bytes, its sectors, and where its walker stands (R259 to R269,
R305, R307). -/

namespace Sys2Proof

/-- A value that a map gives stands in it. -/
theorem SMap.mem_of_get {α : Type} {k : Nat} {m : SMap (List α)} {b : α} (h : b ∈ m.get k []) : (k, m.get k []) ∈ m := by
  induction m with
  | nil => simp [SMap.get, SMap.find] at h
  | cons e m ih =>
    obtain ⟨a, v⟩ := e
    simp only [SMap.get, SMap.find] at h ih ⊢
    split at h
    next hk => simp [hk]
    next hk => rw [if_neg hk]; exact List.mem_cons_of_mem _ (ih h)

theorem SMap.mem_put {α : Type} {k : Nat} {v : α} {m : SMap α} {e : Nat × α} (h : e ∈ SMap.put k v m) : e = (k, v) ∨ e ∈ m := by
  induction m with
  | nil => exact .inl (List.mem_singleton.mp h)
  | cons x m ih =>
    obtain ⟨a, w⟩ := x
    rw [SMap.put] at h
    split at h
    · exact List.mem_cons.mp h
    split at h
    · exact (List.mem_cons.mp h).imp_right (List.mem_cons_of_mem _)
    · rcases List.mem_cons.mp h with rfl | h
      · exact .inr List.mem_cons_self
      · exact (ih h).imp_right (List.mem_cons_of_mem _)

end Sys2Proof

namespace Sys2Proof.Machine
open Sys2Proof Sys2Proof.Claims

/-- No check word that controller g holds stands in error. -/
def State.checksClean (s : State) (g : Nat) : Prop := ∀ e ∈ (s.mem g).checks, ∀ b ∈ e.2, b.err = 0

/-- Work of controller g that writes nothing: the bytes of memory, its walker and its self-test stand, and where its check words hold no error, so do the sectors. -/
structure readOnly (g : Nat) (s t : State) : Prop where
  dram : t.dram = s.dram
  failed : (t.mem g).failed = (s.mem g).failed
  scrub : (t.mem g).scrub = (s.mem g).scrub
  sectors : s.checksClean g → t.sectors = s.sectors
  clean : s.checksClean g → t.checksClean g

section
variable {g : Nat} {s t u : State}

theorem readOnly.refl (g : Nat) (s : State) : readOnly g s s := ⟨rfl, rfl, rfl, fun _ => rfl, id⟩

theorem readOnly.trans (h : readOnly g s t) (k : readOnly g t u) : readOnly g s u :=
  ⟨k.dram.trans h.dram, k.failed.trans h.failed, k.scrub.trans h.scrub, fun hs => (k.sectors (h.clean hs)).trans (h.sectors hs), fun hs => k.clean (h.clean hs)⟩

theorem readOnly.foldl {α : Type} {f : State → α → State} (h : ∀ t a, readOnly g t (f t a)) (xs : List α) (s : State) : readOnly g s (xs.foldl f s) := by
  induction xs generalizing s with
  | nil => exact .refl g s
  | cons x xs ih => exact (h s x).trans (ih _)

/-- Nothing of memory or of a controller differs. -/
theorem readOnly_of_same (hdram : t.dram = s.dram) (hsectors : t.sectors = s.sectors) (hmem : t.memcs = s.memcs) : readOnly g s t := by
  have hg : t.mem g = s.mem g := by rw [State.mem, State.mem, hmem]
  exact ⟨hdram, by rw [hg], by rw [hg], fun _ => hsectors, fun h => by rw [State.checksClean, hg]; exact h⟩

/-- The controller alone differs, and neither its self-test, its walker nor its check words. -/
theorem readOnly_onMem {f : Memc → Memc} (g : Nat) (s : State) (hfailed : ∀ m, (f m).failed = m.failed := by intro; rfl)
    (hscrub : ∀ m, (f m).scrub = m.scrub := by intro; rfl) (hchecks : ∀ m, (f m).checks = m.checks := by intro; rfl) : readOnly g s (s.onMem g f) := by
  refine ⟨rfl, ?_, ?_, fun _ => rfl, fun h => ?_⟩
  · rw [State.onMem_mem_same, hfailed]
  · rw [State.onMem_mem_same, hscrub]
  · rw [State.checksClean, State.onMem_mem_same, hchecks]
    exact h

/-- A set of check words is replaced by one without errors. -/
theorem readOnly.putChecks (ht : readOnly g s t) (k : Nat) {bs : List CheckBurst} (h : s.checksClean g → ∀ b ∈ bs, b.err = 0) :
    readOnly g s (t.onMem g (fun c => { c with checks := SMap.put k bs c.checks })) := by
  refine ⟨ht.dram, ?_, ?_, ht.sectors, fun hs => ?_⟩
  · rw [State.onMem_mem_same, ← ht.failed]
  · rw [State.onMem_mem_same, ← ht.scrub]
  · rw [State.checksClean, State.onMem_mem_same]
    intro e he
    rcases SMap.mem_put he with rfl | he
    · exact h hs
    · exact ht.clean hs e he

theorem readOnly.putSectors (ht : readOnly g s t) (q : SMap Sector) (h : s.checksClean g → q = s.sectors) : readOnly g s { t with sectors := q } :=
  ⟨ht.dram, ht.failed, ht.scrub, h, ht.clean⟩

/-- A check burst without an error covers no sector that is lost with it. -/
theorem readOnly.checkLost (ht : readOnly g s t) {b : CheckBurst} (h : s.checksClean g → b.err = 0) : readOnly g s (t.checkLost g b) := by
  unfold State.checkLost
  split
  · exact ht
  next hlost => exact ht.putSectors _ fun hs => absurd (h hs) (by omega)

theorem State.checksClean.set (h : s.checksClean g) {k : Nat} {b : CheckBurst} (hb : b ∈ (s.mem g).checks.get k []) : b.err = 0 :=
  h _ (SMap.mem_of_get hb) b hb

end

section
variable (g : Nat) (s : State)

/-! ### Registers and reports -/

theorem readOnly_inc (f : Fld) (u i n : Nat) : readOnly g s (s.inc f u i n) := readOnly_of_same rfl rfl rfl
theorem readOnly_onSlc (n : Nat) (f : Slice → Slice) : readOnly g s (s.onSlc n f) := readOnly_of_same rfl rfl rfl
theorem readOnly_used : readOnly g s s.used := readOnly_of_same rfl rfl rfl

theorem readOnly_report (r : Report) : readOnly g s (s.report r) := by
  have honly := (reported_report s r).only
  exact readOnly_of_same (by rw [honly]) (by rw [honly]) (by rw [honly])

theorem readOnly_corrected (cls unit addr : Nat) : readOnly g s (s.corrected cls unit addr) := by
  unfold State.corrected State.ceTable
  dsimp only
  split_ifs <;> exact readOnly_of_same rfl rfl rfl

theorem readOnly_memUe (q : Nat) : readOnly g s (s.memUe g q) := by
  unfold State.memUe
  dsimp only
  split <;> exact readOnly_of_same rfl rfl rfl

/-! ### Rows, keys and check words (R262, R266, R268) -/

theorem readOnly_columns (br : Nat × Nat) (n : Nat) : readOnly g s (s.columns g br n) := by
  unfold State.columns
  split
  · exact .refl g s
  split
  · exact readOnly_inc g s _ _ _ _
  · have hopened : readOnly g s ((s.inc F.MEMC_ROW_MISSES g 0).onMem g (fun m => { m with rows := SMap.put br.1 br.2 m.rows })) :=
      (readOnly_inc g s _ _ _ _).trans (readOnly_onMem g _)
    dsimp only
    split
    · exact hopened
    · exact hopened.trans (readOnly_inc g _ _ _ _ _)

theorem readOnly_keyLoad (h : Nat) : readOnly g s (s.keyLoad g h) := by
  have hkeys (f : Memc → List Nat) : readOnly g s (s.onMem g (fun c => { c with keys := f c })) :=
    readOnly_onMem g s
  unfold State.keyLoad
  dsimp only
  split
  · exact .refl g s
  split
  · exact hkeys fun c => h :: c.keys
  · exact (hkeys _).trans (readOnly_used g _)

theorem readOnly_keyTouch (h : Nat) : readOnly g s (s.keyTouch g h) := by
  unfold State.keyTouch
  split
  · exact .refl g s
  · exact (readOnly_inc g s _ _ _ _).trans (readOnly_keyLoad g _ h)

theorem readOnly_onCheck (k : Nat × Nat) {f : CheckBurst → CheckBurst} (h : ∀ b, b.err = 0 → (f b).err = 0) : readOnly g s (s.onCheck g k f) := by
  refine readOnly.putChecks (.refl g s) _ fun hs b hb => ?_
  obtain ⟨c, hc, rfl⟩ := List.mem_map.mp hb
  have hclean := hs.set hc
  split
  · exact h c hclean
  · exact hclean

/-- The burst that a fetched one displaces is written back where it is dirty. -/
theorem readOnly_checkLoad (k : Nat × Nat) : readOnly g s (s.checkLoad g k) := by
  have hcolumns := readOnly_columns g s (s.checkRow g k) 1
  unfold State.checkLoad
  dsimp only
  split
  · exact .refl g s
  split
  · exact hcolumns.putChecks _ fun hs => List.forall_mem_cons.mpr ⟨rfl, fun b hb => hs.set hb⟩
  · refine .trans (.putChecks ?_ _ fun hs => List.forall_mem_cons.mpr ⟨rfl, fun b hb => hs.set (List.eraseIdx_subset hb)⟩) (readOnly_used g _)
    split
    next b hb =>
      split
      · exact (hcolumns.checkLost fun hs => hs.set (List.mem_of_getElem? hb)).trans (readOnly_columns g _ _ 1)
      · exact hcolumns
    · exact hcolumns

theorem readOnly_checkErr (l : Nat) (k : Nat × Nat) : readOnly g s (s.checkErr g l k) := by
  unfold State.checkErr
  split
  · exact .refl g s
  next b hb =>
    have hclean (hs : s.checksClean g) : b.err = 0 := hs.set (List.mem_of_find?_eq_some hb)
    split
    · exact .refl g s
    · exact (readOnly_inc g s _ _ _ _).trans (readOnly_corrected g _ _ _ _)
    · refine .trans ?_ (readOnly_onCheck g _ k fun _ _ => rfl)
      split
      · exact readOnly.checkLost (.refl g s) hclean
      · exact readOnly_columns g s _ 1

theorem readOnly_checkTouch (l : Nat) (write : Bool) : readOnly g s (s.checkTouch g l write) := by
  have hload : readOnly g s (if (s.mem g).holds (s.checkOf g l) then s.checkErr g l (s.checkOf g l)
      else (s.inc F.MEMC_CHECK_MISSES g 0).checkLoad g (s.checkOf g l)) := by
    split
    · exact readOnly_checkErr g s l _
    · exact (readOnly_inc g s _ _ _ _).trans (readOnly_checkLoad g _ _)
  unfold State.checkTouch
  dsimp only
  split
  · exact hload.trans (readOnly_onCheck g _ _ fun _ hb => hb)
  · exact hload

/-! ### Reads of a line, and the slots (R262, R264, R268, R269) -/

theorem readOnly_fetchLine (l h : Nat) : readOnly g s (s.fetchLine g l h).1 := by
  have htouch := (readOnly_keyTouch g s h).trans (readOnly_checkTouch g _ l false)
  have hces (is : List Nat) (t : State) : readOnly g t (is.foldl (fun s i => (s.inc F.MEMC_CE g 0).corrected 4 g (32 * (4 * l + i))) t) :=
    .foldl (fun s i => (readOnly_inc g s _ _ _ _).trans (readOnly_corrected g _ 4 g _)) is t
  have hues (is : List Nat) (t : State) : readOnly g t (is.foldl (fun s i => s.memUe g (4 * l + i)) t) :=
    .foldl (fun s i => readOnly_memUe g s _) is t
  unfold State.fetchLine
  dsimp only
  split
  · exact htouch.trans ((hces _ _).trans (hues _ _))
  · exact htouch.trans (hces _ _)

theorem readOnly_readLine (l h : Nat) : readOnly g s (s.readLine g l h).1 :=
  (readOnly_columns g s _ 2).trans ((readOnly_inc g _ _ _ _ _).trans (readOnly_fetchLine g _ l h))

theorem readOnly_issueWrite (w : MemWrite) : readOnly g s (s.issueWrite g w) := by
  unfold State.issueWrite
  exact ((readOnly_columns g s _ _).trans (readOnly_inc g _ _ _ _ _)).trans (readOnly_onMem g _)

theorem readOnly_slotWrite (l : Nat) (is : List Nat) : readOnly g s (s.slotWrite g l is) := by
  have hwrites (t : State) (f : Memc → List MemWrite) : readOnly g t (t.onMem g (fun c => { c with writes := f c })) :=
    readOnly_onMem g t
  unfold State.slotWrite
  dsimp only
  split
  · exact hwrites s _
  refine .trans ?_ (hwrites _ _)
  split
  · split
    · exact readOnly_issueWrite g s _
    · exact .refl g s
  · exact .refl g s

theorem readOnly_countServed (m : Miss) (aged : Bool) : readOnly g s (s.countServed g m aged) := by
  unfold State.countServed
  dsimp only
  split_ifs <;> exact readOnly_of_same rfl rfl rfl

theorem readOnly_dropIdle : readOnly g s (s.dropIdle g) := by
  unfold State.dropIdle
  dsimp only
  split
  · exact .refl g s
  · exact readOnly_onMem g s

end

end Sys2Proof.Machine
end

section
/-! PROOFS. A line that memory returns to its miss register, and the resolve of a line of REDUCE (R236, R238, R244). -/

namespace Sys2Proof.Machine
open Sys2Proof Sys2Proof.Claims

/-! ### The bytes of a line in memory (R5, R236, R263) -/

theorem natByte_extract (d : BitVec 1024) {i b : Nat} (hb : b < 32) : natByte (d.extractLsb' (256 * i) 256).toNat b = lineByte d (32 * i + b) := by
  have hplace : 8 * (32 * i + b) = 256 * i + 8 * b := by omega
  refine BitVec.eq_of_getLsbD_eq fun j hj => ?_
  rw [natByte, lineByte, hplace, BitVec.getLsbD_ofNat, ← Nat.shiftRight_eq_div_pow, Nat.testBit_shiftRight, BitVec.testBit_toNat, BitVec.getLsbD_extractLsb',
    BitVec.getLsbD_extractLsb', decide_eq_true hj, decide_eq_true (show 8 * b + j < 256 by omega), Nat.add_assoc]
  rfl

/-- Memory as the first k sectors of a line are written. -/
def sectorsWritten (m : List Host.Cell) (l : Nat) (d : BitVec 1024) (k : Nat) : List Host.Cell :=
  (List.range k).foldl (fun m i => memWrites m (32 * (4 * l + i)) (leBytes 32 (d.extractLsb' (256 * i) 256).toNat)) m

theorem sectorsWritten_succ (m : List Host.Cell) (l : Nat) (d : BitVec 1024) (k : Nat) :
    sectorsWritten m l d (k + 1) = memWrites (sectorsWritten m l d k) (32 * (4 * l + k)) (leBytes 32 (d.extractLsb' (256 * k) 256).toNat) := by
  rw [sectorsWritten, List.range_succ, List.foldl_append, List.foldl_cons, List.foldl_nil, sectorsWritten]

theorem sectorsWritten_wf {m : List Host.Cell} (h : Memory.wf m = true) (l : Nat) (d : BitVec 1024) (k : Nat) : Memory.wf (sectorsWritten m l d k) = true := by
  induction k with
  | zero => exact h
  | succ k ih => rw [sectorsWritten_succ]; exact Memory.wf_memWrites _ ih _

theorem memRead_sectorsWritten {m : List Host.Cell} (h : Memory.wf m = true) (l : Nat) (d : BitVec 1024) {k j : Nat} (hj : j < 32 * k) :
    memRead (sectorsWritten m l d k) (128 * l + j) = lineByte d j := by
  induction k with
  | zero => omega
  | succ k ih =>
    have hwf := sectorsWritten_wf h l d k
    rw [sectorsWritten_succ]
    by_cases hjk : j < 32 * k
    · rw [memRead_memWrites_out _ hwf _ _ (.inl (by omega)), ih hjk]
    · obtain ⟨b, rfl⟩ := Nat.exists_eq_add_of_le (Nat.le_of_not_lt hjk)
      have hb : b < 32 := by omega
      have hlen : b < (leBytes 32 (d.extractLsb' (256 * k) 256).toNat).length := by rwa [leBytes_length]
      rw [show 128 * l + (32 * k + b) = 32 * (4 * l + k) + b by omega, memRead_memWrites_in _ hwf _ b hlen, ← List.getD_eq_getElem _ 0 hlen, leBytes_getD hb,
        natByte_extract d hb]

/-! ### A line written whole (R236, R268) -/

section
variable {s : State} {g l h : Nat} {d : BitVec 1024} {ctx : Option Nat}

theorem State.memInject_store (s : State) (g l : Nat) : (s.memInject g l).1.dram = s.dram ∧ ((s.memInject g l).1.mem g).failed = (s.mem g).failed := by
  unfold State.memInject
  dsimp only
  split_ifs
  · exact ⟨rfl, rfl⟩
  · exact ⟨rfl, by rw [State.onMem_mem_same]; rfl⟩
  · refine ⟨rfl, ?_⟩
    rw [State.onCheck, State.onMem_mem_same, State.onMem_mem_same]
    rfl

theorem State.mem_memory (s : State) (m : List Host.Cell) (q : SMap Sector) (g : Nat) : State.mem { s with dram := m, sectors := q } g = s.mem g := rfl

theorem State.writePart_of_whole (hok : (s.mem g).failed = false) {i : Nat} (hi : i < 4) :
    (s.writePart g l h i (BitVec.allOnes 128) d ctx).dram = memWrites s.dram (32 * (4 * l + i)) (leBytes 32 (d.extractLsb' (256 * i) 256).toNat)
      ∧ ((s.writePart g l h i (BitVec.allOnes 128) d ctx).mem g).failed = false := by
  obtain ⟨hdram, hfailed⟩ := s.memInject_store g l
  have hmask : (BitVec.allOnes 128).extractLsb' (32 * i) 32 = BitVec.allOnes 32 := by
    refine BitVec.eq_of_getLsbD_eq fun j hj => ?_
    simp only [BitVec.getLsbD_extractLsb', BitVec.getLsbD_allOnes, hj, decide_true, Bool.true_and]
    exact decide_eq_true (by omega)
  have hpart : s.writePart g l h i (BitVec.allOnes 128) d ctx
      = (s.memInject g l).1.writeSector (4 * l + i) h (d.extractLsb' (256 * i) 256) (s.memInject g l).2 := by
    unfold State.writePart
    dsimp only
    rw [hfailed, hok, if_neg nofun, if_pos hmask]
  rw [hpart]
  refine ⟨?_, ?_⟩
  · rw [State.writeSector, hdram]
  · rw [State.writeSector, State.mem_memory, hfailed, hok]

theorem State.writeParts_of_whole (hok : (s.mem g).failed = false) {k : Nat} (hk : k ≤ 4) :
    ((List.range k).foldl (fun s i => s.writePart g l h i (BitVec.allOnes 128) d ctx) s).dram = sectorsWritten s.dram l d k
      ∧ (((List.range k).foldl (fun s i => s.writePart g l h i (BitVec.allOnes 128) d ctx) s).mem g).failed = false := by
  induction k with
  | zero => exact ⟨rfl, hok⟩
  | succ k ih =>
    obtain ⟨hdram, hfailed⟩ := ih (by omega)
    rw [List.range_succ, List.foldl_append, List.foldl_cons, List.foldl_nil, sectorsWritten_succ, ← hdram]
    exact State.writePart_of_whole hfailed (by omega)

/-- Every byte of the line stands in memory, unless the controller has failed its self-test. -/
theorem State.writeLine_dram_of_whole (hok : (s.mem g).failed = false) :
    (s.writeLine g l h (BitVec.allOnes 128) d ctx).dram = sectorsWritten s.dram l d 4 := by
  have hall : maskSectors (BitVec.allOnes 128) = List.range 4 := by decide
  have hbursts : burstsOf ((List.range 4).filter (fun i => (BitVec.allOnes 128).extractLsb' (32 * i) 32 != BitVec.allOnes 32)) = 0 := by decide
  have hslot : readOnly g s (((s.keyTouch g h).checkTouch g l true).slotWrite g l (List.range 4)) :=
    ((readOnly_keyTouch g s h).trans (readOnly_checkTouch g _ l true)).trans (readOnly_slotWrite g _ l _)
  unfold State.writeLine
  rw [hall]
  dsimp only
  rw [hbursts, if_neg (by decide), if_pos rfl, (State.writeParts_of_whole (hslot.failed.trans hok) (Nat.le_refl 4)).1, hslot.dram]

/-- A line that reads without an uncorrectable error is of a controller that has passed its self-test (R309). -/
theorem State.not_failed_of_readLine (hread : (s.readLine g l h).2.2 = none) : (s.mem g).failed = false := by
  have hopen := (readOnly_columns g s (s.rowOf g l) 2).trans (readOnly_inc g _ F.MEMC_READ_BURSTS g 0 2)
  have htouch := hopen.trans ((readOnly_keyTouch g _ h).trans (readOnly_checkTouch g _ l false))
  rw [← htouch.failed]
  unfold State.readLine State.fetchLine at hread
  dsimp only at hread
  split at hread
  · nomatch hread
  next hbad =>
    have hzero := List.filter_eq_nil_iff.mp hbad 0 (by decide)
    rw [State.sectorBad, Bool.or_eq_true, not_or] at hzero
    exact Bool.eq_false_iff.mpr hzero.2

end

/-! ### A line that returns to its miss register (R238) -/

/-- The line after a fetch: bytes already written into it are kept. -/
def Line.filledBy (x : Line) (d : BitVec 1024) : Line :=
  { x with st := if x.st = .filling then .clean else x.st, data := mergeLine d x.data x.bvalid, bvalid := BitVec.allOnes 128 }

/-- The state with the line in its slice and the miss register free, before its waiters are served. -/
def State.filled (s : State) (n : Nat) (m : Miss) (x : Line) (d : BitVec 1024) : State :=
  ((s.freeMiss n m.line).onSlc n (fun sl => sl.putLine (x.filledBy d))).slcWrote n m.line

section
variable {s : State} {n : Nat} {m : Miss} {x : Line} {d : BitVec 1024}

theorem State.retryVictims_of_no_miss (h : (s.slc n).miss = []) : s.retryVictims n = s.onSlc n (fun sl => { sl with miss := [] }) := by
  unfold State.retryVictims State.onSlc
  simp only [h, List.filter_nil, List.map_nil, List.flatten_nil, State.serve]

theorem State.fillMiss_of_fetch (hkind : m.kind = .fetch) (hat : (s.slc n).at m.line = some x) :
    s.fillMiss n m d none = ((s.filled n m x d).serve n m.waiters).retryVictims n := by
  have hat' : ((s.freeMiss n m.line).slc n).at m.line = some x := by rw [State.freeMiss, State.onSlc_slc_same]; exact hat
  unfold State.fillMiss
  dsimp only
  rw [hkind, hat']
  rfl

theorem execLineFill_of_done (hn : n < nSlices) (hmiss : (s.slc n).miss = [m]) (hstage : m.stage = .done d none) :
    exec (.lineFill n 0) s = .next (s.fillMiss n m d none) := by
  rw [exec_lineFill, execLineFill, onUnit_of_lt hn, hmiss]
  simp [hstage]

/-- The slice after a fetch, without an injection that waits. -/
theorem State.filled_slc (hmiss : (s.slc n).miss = [m]) (hinj : (s.slc n).inject = 0) : (s.filled n m x d).slc n
    = { (s.slc n).putLine (x.filledBy d) with miss := [], errs := (s.slc n).errs.filter (fun e => e.1 != m.line) } := by
  have hput : (((s.freeMiss n m.line).onSlc n (fun sl => sl.putLine (x.filledBy d))).slc n).inject = 0 := by
    rw [State.onSlc_slc_same, State.freeMiss, State.onSlc_slc_same]
    exact hinj
  rw [State.filled, State.slcWrote_of_no_inject hput]
  simp [State.freeMiss, Slice.putLine, hmiss]

theorem State.filled_only (hinj : (s.slc n).inject = 0) : s.filled n m x d = { s with slices := (s.filled n m x d).slices } := by
  have hput : (((s.freeMiss n m.line).onSlc n (fun sl => sl.putLine (x.filledBy d))).slc n).inject = 0 := by
    rw [State.onSlc_slc_same, State.freeMiss, State.onSlc_slc_same]
    exact hinj
  rw [State.filled, State.slcWrote_of_no_inject hput]
  rfl

end

section
variable {s : State} {n : Nat} {m : Miss} {x : Line} {d : BitVec 1024}

theorem State.filled_at (hmiss : (s.slc n).miss = [m]) (hinj : (s.slc n).inject = 0) (hat : (s.slc n).at m.line = some x) :
    ((s.filled n m x d).slc n).at m.line = some (x.filledBy d) := by
  have hline : (x.filledBy d).line = m.line := (Slice.line_of_at hat : x.line = m.line)
  rw [State.filled_slc hmiss hinj]
  exact Slice.putLine_at_same hline

/-- A line that no request waits for (R238). -/
theorem lineFill_unwaited (hn : n < nSlices) (hat : (s.slc n).at m.line = some x) (hmiss : (s.slc n).miss = [m]) (hinj : (s.slc n).inject = 0)
    (hstage : m.stage = .done d none) (hkind : m.kind = .fetch) (hwaiters : m.waiters = []) :
    ∃ t y, exec (.lineFill n 0) s = .next t ∧ (t.slc n).miss = [] ∧ (t.slc n).at m.line = some y
      ∧ y.st = (if x.st = .filling then .clean else x.st) ∧ y.data = mergeLine d x.data x.bvalid ∧ y.bvalid = BitVec.allOnes 128
      ∧ t.dram = s.dram ∧ t.regs = s.regs ∧ t.resps = s.resps := by
  have hnone : ((s.filled n m x d).slc n).miss = [] := by rw [State.filled_slc hmiss hinj]
  have hserved : s.fillMiss n m d none = (s.filled n m x d).onSlc n (fun sl => { sl with miss := [] }) := by
    rw [State.fillMiss_of_fetch hkind hat, hwaiters, State.serve, State.retryVictims_of_no_miss hnone]
  refine ⟨_, x.filledBy d, execLineFill_of_done hn hmiss hstage, ?_⟩
  rw [hserved, State.onSlc_slc_same, State.onSlc_dram, State.onSlc_regs, State.onSlc_resps, State.filled_only hinj]
  refine ⟨rfl, ?_, rfl, rfl, rfl, rfl, rfl, rfl⟩
  rw [← State.filled_only hinj]
  exact State.filled_at hmiss hinj hat

/-- A read finds its line whole in the slice and is answered. -/
theorem State.serve_read {r : Req} (hclear : s.clearFor n r.line) (herrs : (s.slc n).errs = []) (hrec : (s.slc n).record = [])
    (hat : (s.slc n).at r.line = some x) (howner : x.owner = r.owner) (hkey : x.keyh = r.keyh) (hop : r.op = .read) (hst : x.st = .clean ∨ x.st = .dirty)
    (hwhole : x.bvalid = BitVec.allOnes 128) : s.serve n [r] = s.readHit n x r := by
  have hmask : r.mask &&& x.bvalid = r.mask := by rw [hwhole, BitVec.and_allOnes]
  have hoffer : s.reoffer n r = s.readHit n x r := by
    rw [State.reoffer, State.take_of_held hclear herrs hrec hat howner hkey, State.hit_read_of_whole hop hst hmask]
    rfl
  rw [State.serve, hoffer, hop]
  cases r.src.l1Of <;> rfl

/-- A line that one read waits for. -/
theorem lineFill_awaited {r : Req} (hn : n < nSlices) (hat : (s.slc n).at m.line = some x) (hmiss : (s.slc n).miss = [m]) (hinj : (s.slc n).inject = 0)
    (hstage : m.stage = .done d none) (hkind : m.kind = .fetch) (hwaiters : m.waiters = [r]) (hop : r.op = .read) (hline : r.line = m.line)
    (howner : r.owner = x.owner) (hkey : r.keyh = x.keyh) (hst : x.st = .filling ∨ x.st = .clean ∨ x.st = .dirty)
    (hparity : (s.slc n).parity = none) (herrs : (s.slc n).errs = []) (hrec : (s.slc n).record = []) :
    ∃ t, exec (.lineFill n 0) s = .next t ∧ (t.slc n).miss = [] ∧ t.resps = s.resps ++ [⟨r, mergeLine d x.data x.bvalid⟩] ∧ t.dram = s.dram := by
  have hslc := State.filled_slc (x := x) (d := d) hmiss hinj
  have hst' : (x.filledBy d).st = .clean ∨ (x.filledBy d).st = .dirty := by
    rcases hst with h | h | h <;> simp [Line.filledBy, h]
  have hserve : (s.filled n m x d).serve n [r] = (s.filled n m x d).readHit n (x.filledBy d) r := by
    refine State.serve_read ⟨?_, ?_⟩ ?_ ?_ (hline ▸ State.filled_at hmiss hinj hat) howner.symm hkey.symm hop hst' rfl
    · rw [hslc]; exact hparity
    · rw [hslc]; exact fun _ h => absurd h List.not_mem_nil
    · rw [hslc, herrs]; rfl
    · rw [hslc]; exact hrec
  have hnone : (((s.filled n m x d).readHit n (x.filledBy d) r).slc n).miss = [] := by
    rw [State.readHit_eq, State.answer_slc, State.onSlc_slc_same, hslc]
    rfl
  refine ⟨_, execLineFill_of_done hn hmiss hstage, ?_⟩
  rw [State.fillMiss_of_fetch hkind hat, hwaiters, hserve, State.retryVictims_of_no_miss hnone, State.onSlc_slc_same, State.onSlc_resps, State.onSlc_dram,
    State.readHit_eq, State.answer_resps, State.answer_dram, State.onSlc_resps, State.onSlc_dram, State.filled_only hinj]
  exact ⟨rfl, rfl, rfl⟩

end

/-! ### The resolve of a line (R244, R267) -/

theorem Slice.at_withMiss (sl : Slice) (ms : List Miss) (l : Nat) : Slice.at { sl with miss := ms } l = sl.at l := rfl

/-- The line after its resolve. -/
def Line.resolvedTo (x : Line) (d : BitVec 1024) : Line := { x.noSharers with st := .clean, data := d, bvalid := BitVec.allOnes 128, sdirty := 0 }

theorem Line.resolvedTo_data (x : Line) (d : BitVec 1024) : (x.resolvedTo d).data = d := rfl

/-- What a resolve of slice n reads of the line. -/
def State.resolveRead (s : State) (n : Nat) (x : Line) : State × BitVec 1024 × Option Nat := (s.inc F.SLC_RESOLVES n 0).readLine (n / 8) x.line x.keyh

/-- What the line becomes: its partial values combined with what memory holds. -/
def State.resolveData (s : State) (n : Nat) (x : Line) : BitVec 1024 := combineLine x.redop (s.resolveRead n x).2.1 x.data (BitVec.allOnes 128)

/-- The state after a resolve has written the line. -/
def State.resolveWritten (s : State) (n : Nat) (x : Line) : State :=
  (s.resolveRead n x).1.writeLine (n / 8) x.line x.keyh (BitVec.allOnes 128) (s.resolveData n x) x.writer

section
variable {s : State} {n : Nat} {m : Miss} {x : Line}

theorem State.resolveMem_of_readable (h : (s.resolveRead n x).2.2 = none) : s.resolveMem n x = (s.resolveWritten n x, some (s.resolveData n x)) := by
  rw [State.resolveRead] at h
  unfold State.resolveMem State.resolveWritten State.resolveData State.resolveRead
  dsimp only
  rw [h]

theorem State.aside_resolveWritten (s : State) (n : Nat) (x : Line) : (s.resolveWritten n x).aside = s.aside := by
  rw [State.resolveWritten, State.aside_writeLine, State.resolveRead, State.aside_readLine, State.aside_inc _ (by decide)]

/-- Memory holds the result of a resolve that could read the line. -/
theorem State.resolveWritten_dram (h : (s.resolveRead n x).2.2 = none) (hwf : Memory.wf s.dram = true) {i : Nat} (hi : i < 128) :
    memRead (s.resolveWritten n x).dram (128 * x.line + i) = lineByte (s.resolveData n x) i := by
  have hread : readOnly (n / 8) (s.inc F.SLC_RESOLVES n 0) (s.resolveRead n x).1 := readOnly_readLine _ _ _ _
  have hok := hread.failed.trans (State.not_failed_of_readLine h)
  have hwf' : Memory.wf (s.resolveRead n x).1.dram = true := by rw [hread.dram]; exact hwf
  rw [State.resolveWritten, State.writeLine_dram_of_whole hok]
  exact memRead_sectorsWritten hwf' _ _ (by omega)

/-- The state after a resolve that could read the line, which no Block holds. -/
def State.resolved (s : State) (n : Nat) (x : Line) : State :=
  (((s.resolveWritten n x).inc F.SLC_INVALS n 0 0).onSlc n (fun sl => sl.putLine (x.resolvedTo (s.resolveData n x)))).dropIdle (n / 8)

theorem State.resolved_slc (s : State) (n : Nat) (x : Line) : (s.resolved n x).slc n = (s.slc n).putLine (x.resolvedTo (s.resolveData n x)) := by
  rw [State.resolved, State.aside_slc (State.aside_dropIdle _ _), State.onSlc_slc_same, State.inc_slc, State.aside_slc (s.aside_resolveWritten n x)]

theorem State.resolved_blks (s : State) (n : Nat) (x : Line) : (s.resolved n x).blks = s.blks := by
  rw [State.resolved, State.aside_blks (State.aside_dropIdle _ _), State.onSlc_blks, State.inc_blks, State.aside_blks (s.aside_resolveWritten n x)]

theorem State.resolved_resps (s : State) (n : Nat) (x : Line) : (s.resolved n x).resps = s.resps := by
  rw [State.resolved, State.aside_resps (State.aside_dropIdle _ _), State.onSlc_resps, State.inc_resps, State.aside_resps (s.aside_resolveWritten n x)]

theorem State.resolved_dram (s : State) (n : Nat) (x : Line) : (s.resolved n x).dram = (s.resolveWritten n x).dram := by
  rw [State.resolved, (readOnly_dropIdle _ _).dram, State.onSlc_dram, State.inc_dram]

theorem State.countServed_of_not_lc (h : m.lc = false) (s : State) (g : Nat) : s.countServed g m false = s := by
  simp [State.countServed, h]

theorem State.dropSharers_of_none (h : s.sharers x = []) (n : Nat) : s.dropSharers n x = s.inc F.SLC_INVALS n 0 0 := by
  rw [State.dropSharers, h]
  rfl

theorem execResolve_of_ready (hn : n < nSlices) (hmiss : (s.slc n).miss = [m]) (hstage : m.stage = .slot) (hkind : m.kind = .resolve)
    (hkey : m.keyWait = false) (hcheck : m.checkWait = false) (hreach : s.reachable (n / 8) m.line = true) :
    exec (.resolve n 0) s = .next (s.resolveMiss n m) := by
  rw [exec_resolve, execResolve, onUnit_of_lt hn, hmiss]
  simp [hstage, hkind, hkey, hcheck, hreach]

/-- A resolve that can read the line, with no request that waits for it and no Block that holds it. -/
theorem State.resolveMiss_of_readable (hat : (s.slc n).at m.line = some x) (hmiss : (s.slc n).miss = [m]) (hlc : m.lc = false) (hwaiters : m.waiters = [])
    (hsharers : s.sharers x = []) (hread : ((s.freeMiss n m.line).resolveRead n x).2.2 = none) :
    s.resolveMiss n m = ((s.freeMiss n m.line).resolved n x).onSlc n (fun sl => { sl with miss := [] }) := by
  have hfree : ((s.freeMiss n m.line).slc n) = { s.slc n with miss := [] } := by simp [State.freeMiss, hmiss]
  have hat' : ((s.freeMiss n m.line).slc n).at m.line = some x := by rw [hfree]; exact hat
  have hsharers' : ((s.freeMiss n m.line).resolveWritten n x).sharers x = [] := by
    rw [State.quiet_sharers (State.aside_quiet ((s.freeMiss n m.line).aside_resolveWritten n x))]
    exact hsharers
  have hnone : (((s.freeMiss n m.line).resolved n x).slc n).miss = [] := by rw [State.resolved_slc, hfree]; rfl
  unfold State.resolveMiss
  dsimp only
  rw [State.countServed_of_not_lc hlc, hat', hwaiters]
  dsimp only
  rw [State.resolveMem_of_readable hread]
  dsimp only
  rw [State.serve, State.dropSharers_of_none hsharers']
  exact State.retryVictims_of_no_miss hnone

theorem resolve_readable (hn : n < nSlices) (hat : (s.slc n).at m.line = some x) (hmiss : (s.slc n).miss = [m]) (hstage : m.stage = .slot)
    (hkind : m.kind = .resolve) (hkey : m.keyWait = false) (hcheck : m.checkWait = false) (hlc : m.lc = false) (hwaiters : m.waiters = [])
    (hsharers : s.sharers x = []) (hreach : s.reachable (n / 8) m.line = true) (hwf : Memory.wf s.dram = true)
    (hread : ((s.freeMiss n m.line).resolveRead n x).2.2 = none) :
    ∃ t y, exec (.resolve n 0) s = .next t ∧ (t.slc n).miss = [] ∧ (t.slc n).at m.line = some y ∧ y.st = .clean ∧ y.sdirty = 0
      ∧ y.data = combineLine x.redop ((s.freeMiss n m.line).resolveRead n x).2.1 x.data (BitVec.allOnes 128)
      ∧ (∀ i, i < 128 → memRead t.dram (128 * m.line + i) = lineByte y.data i) ∧ t.blks = s.blks ∧ t.resps = s.resps := by
  have hline := Slice.line_of_at hat
  have hresolved : (x.resolvedTo ((s.freeMiss n m.line).resolveData n x)).line = m.line := hline
  refine ⟨_, x.resolvedTo ((s.freeMiss n m.line).resolveData n x), execResolve_of_ready hn hmiss hstage hkind hkey hcheck hreach, ?_⟩
  rw [State.resolveMiss_of_readable hat hmiss hlc hwaiters hsharers hread, State.onSlc_slc_same, Slice.at_withMiss, State.resolved_slc,
    Slice.putLine_at_same hresolved, Line.resolvedTo_data, State.onSlc_dram, State.resolved_dram, State.onSlc_blks, State.resolved_blks, State.onSlc_resps,
    State.resolved_resps]
  refine ⟨rfl, rfl, rfl, rfl, ?_, fun i hi => ?_, rfl, rfl⟩
  · rw [State.resolveData]
  · have hbyte := State.resolveWritten_dram hread hwf hi
    rwa [hline] at hbyte

end

/-- Settles O33: a fill puts the line in its slice and serves whom it finds waiting; a resolve reads the line and writes all of it. -/
theorem sliceFillsAndResolves : Obligations.SliceFillsAndResolves := by
  intro s n m x hn hat hmiss hinj
  refine ⟨fun d hstage hkind hwaiters => lineFill_unwaited hn hat hmiss hinj hstage hkind hwaiters, ?_, ?_⟩
  · intro d r hstage hkind hwaiters hop hline howner hkey _ hst hparity herrs hrec
    exact lineFill_awaited hn hat hmiss hinj hstage hkind hwaiters hop hline howner hkey hst hparity herrs hrec
  · intro hstage hkind hkey hcheck hlc hwaiters hsharers hreach hwf
    dsimp only
    intro hread
    have hresolve := resolve_readable hn hat hmiss hstage hkind hkey hcheck hlc hwaiters hsharers hreach hwf
    rw [State.resolveRead] at hresolve
    exact hresolve hread

end Sys2Proof.Machine
end

section
/-! PROOFS. Whatever the slices and controllers do for an access leaves the registers that traffic does not write, and of a slice what it has to drain and
where its walker stands (R231, R236 to R287, R305). -/

namespace Sys2Proof.Machine
open Sys2Proof Sys2Proof.Claims

/-- What no access of memory changes: registers at places that traffic does not write, what each slice has to drain (R251), where its walker stands (R305). -/
def State.calm (s : State) : ((Nat → Option DWord) × (Nat → Bool)) × (Nat → List Nat × Nat) := (s.quiet, fun n => ((s.slc n).moved, (s.slc n).scrub))

theorem State.calm_of_aside {s t : State} (h : t.aside = s.aside) : t.calm = s.calm := by
  unfold State.calm State.slc
  rw [State.aside_quiet h, State.aside_slices h]

theorem State.calm_quiet {s t : State} (h : t.calm = s.calm) : t.quiet = s.quiet := congrArg Prod.fst h

theorem State.calm_moved {s t : State} (h : t.calm = s.calm) (n : Nat) : (t.slc n).moved = (s.slc n).moved := congrArg (fun p => (p.2 n).1) h

theorem State.calm_scrub {s t : State} (h : t.calm = s.calm) (n : Nat) : (t.slc n).scrub = (s.slc n).scrub := congrArg (fun p => (p.2 n).2) h

theorem State.calm_foldl {α : Type} {f : State → α → State} (h : ∀ t a, (f t a).calm = t.calm) (xs : List α) (s : State) :
    (xs.foldl f s).calm = s.calm := by
  induction xs generalizing s with
  | nil => rfl
  | cons x xs ih => rw [List.foldl_cons, ih, h]

theorem State.calm_of_eq {α : Type} {p : State × α} {t : State} {a : α} (h : p = (t, a)) : t.calm = p.1.calm := by rw [h]

@[simp] theorem Slice.scrub_putLine (sl : Slice) (x : Line) : (sl.putLine x).scrub = sl.scrub := rfl
@[simp] theorem Slice.scrub_dropLine (sl : Slice) (l : Nat) : (sl.dropLine l).scrub = sl.scrub := rfl
@[simp] theorem Slice.scrub_touch (sl : Slice) (l way : Nat) : (sl.touch l way).scrub = sl.scrub := rfl

theorem Slice.putLine_still (x : Line) (sl : Slice) : (sl.putLine x).moved = sl.moved ∧ (sl.putLine x).scrub = sl.scrub := ⟨rfl, rfl⟩
theorem Slice.dropLine_still (l : Nat) (sl : Slice) : (sl.dropLine l).moved = sl.moved ∧ (sl.dropLine l).scrub = sl.scrub := ⟨rfl, rfl⟩

/-- The counters of the slices, of the controllers and of the gather engines stand where traffic writes. -/
@[simp] theorem traffic_counters :
    F.SLC_HITS.traffic = true ∧ F.SLC_MISSES.traffic = true ∧ F.SLC_MERGED.traffic = true ∧ F.SLC_REFUSED.traffic = true
    ∧ F.SLC_INVALS.traffic = true ∧ F.SLC_POISONED.traffic = true ∧ F.SLC_OWNER_MISS.traffic = true ∧ F.SLC_PIN_OVERFLOW.traffic = true
    ∧ F.SLC_CONSTRAINED.traffic = true ∧ F.SLC_CE.traffic = true ∧ F.SLC_STREAM_USEFUL.traffic = true ∧ F.SLC_RA_USEFUL.traffic = true
    ∧ F.SLC_STREAM_LATE.traffic = true ∧ F.SLC_RA_LATE.traffic = true ∧ F.SLC_RA_DROP_BOUNDARY.traffic = true ∧ F.SLC_RA_DROP_BUSY.traffic = true
    ∧ F.SLC_PF_ISSUED.traffic = true ∧ F.SLC_RLIST_FULL.traffic = true ∧ F.SLC_REDUCE_ALLOC.traffic = true ∧ F.SLC_RESOLVES.traffic = true
    ∧ F.SLC_VICTIM_WAIT.traffic = true ∧ F.GATH_G_REFUSED.traffic = true ∧ F.MEMC_KEY_MISS.traffic = true ∧ F.MEMC_CHECK_MISSES.traffic = true
    ∧ F.MEMC_READ_BURSTS.traffic = true := by decide

section
variable (s : State)

/-! ### Updates of one field, and the controllers -/

@[simp] theorem State.calm_inc {f : Fld} (h : f.traffic = true) (u n : Nat) : (s.inc f u 0 n).calm = s.calm := State.calm_of_aside (s.aside_inc h u n)
@[simp] theorem State.calm_cycles {f : Fld} (h : f.traffic = true) (u : Nat) : (s.cycles f u).calm = s.calm := s.calm_inc h u _

/-- An update of a slice that keeps what it has to drain and where its walker stands. -/
@[simp] theorem State.calm_onSlc {f : Slice → Slice} (h : ∀ sl, (f sl).moved = sl.moved ∧ (f sl).scrub = sl.scrub) (n : Nat) :
    (s.onSlc n f).calm = s.calm := by
  refine Prod.ext rfl (funext fun k => ?_)
  dsimp only [State.calm]
  by_cases hk : k = n
  · rw [hk, State.onSlc_slc_same, (h _).1, (h _).2]
  · rw [State.onSlc_slc_ne _ _ _ _ hk]

@[simp] theorem State.calm_used : s.used.calm = s.calm := rfl
@[simp] theorem State.calm_onMem (g : Nat) (f : Memc → Memc) : (s.onMem g f).calm = s.calm := rfl
@[simp] theorem State.calm_onCtx (n : Nat) (f : Ctx → Ctx) : (s.onCtx n f).calm = s.calm := rfl
@[simp] theorem State.calm_setBlk (p : Nat) (b : Block) : (s.setBlk p b).calm = s.calm := rfl
theorem State.calm_reqs (xs : List Req) : State.calm { s with reqs := xs } = s.calm := rfl
theorem State.calm_resps (xs : List Resp) : State.calm { s with resps := xs } = s.calm := rfl
theorem State.calm_invs (xs : List InvMsg) : State.calm { s with invs := xs } = s.calm := rfl

@[simp] theorem State.calm_record (r : Report) : (s.record r).calm = s.calm := State.calm_of_aside (s.aside_record r)
@[simp] theorem State.calm_report (r : Report) : (s.report r).calm = s.calm := State.calm_of_aside (s.aside_report r)
@[simp] theorem State.calm_event (code page addr detail : Nat) (writer : Option Nat) : (s.event code page addr detail writer).calm = s.calm :=
  State.calm_of_aside (s.aside_event code page addr detail writer)
@[simp] theorem State.calm_corrected (cls unit addr : Nat) : (s.corrected cls unit addr).calm = s.calm := State.calm_of_aside (s.aside_corrected cls unit addr)
@[simp] theorem State.calm_columns (g : Nat) (br : Nat × Nat) (n : Nat) : (s.columns g br n).calm = s.calm := State.calm_of_aside (s.aside_columns g br n)
@[simp] theorem State.calm_keyLoad (g h : Nat) : (s.keyLoad g h).calm = s.calm := State.calm_of_aside (s.aside_keyLoad g h)
@[simp] theorem State.calm_checkLoad (g : Nat) (k : Nat × Nat) : (s.checkLoad g k).calm = s.calm := State.calm_of_aside (s.aside_checkLoad g k)
@[simp] theorem State.calm_fetchLine (g l h : Nat) : (s.fetchLine g l h).1.calm = s.calm := State.calm_of_aside (s.aside_fetchLine g l h)
@[simp] theorem State.calm_readLine (g l h : Nat) : (s.readLine g l h).1.calm = s.calm := State.calm_of_aside (s.aside_readLine g l h)
@[simp] theorem State.calm_writeLine (g l h : Nat) (mask : BitVec 128) (d : BitVec 1024) (ctx : Option Nat) : (s.writeLine g l h mask d ctx).calm = s.calm :=
  State.calm_of_aside (s.aside_writeLine g l h mask d ctx)
@[simp] theorem State.calm_countServed (g : Nat) (m : Miss) (aged : Bool) : (s.countServed g m aged).calm = s.calm :=
  State.calm_of_aside (s.aside_countServed g m aged)
@[simp] theorem State.calm_dropIdle (g : Nat) : (s.dropIdle g).calm = s.calm := State.calm_of_aside (s.aside_dropIdle g)
@[simp] theorem State.calm_slcUe (n l : Nat) : (s.slcUe n l).calm = s.calm := State.calm_of_aside (s.aside_slcUe n l)
@[simp] theorem State.calm_writeBack (n : Nat) (x : Line) : (s.writeBack n x).calm = s.calm := State.calm_of_aside (s.aside_writeBack n x)
@[simp] theorem State.calm_resolveMem (n : Nat) (x : Line) : (s.resolveMem n x).1.calm = s.calm := State.calm_of_aside (s.aside_resolveMem n x)

/-! ### Slots (R268, R283, R287) -/

@[simp] theorem State.calm_onMiss (n l : Nat) (f : Miss → Miss) : (s.onMiss n l f).calm = s.calm :=
  s.calm_onSlc (f := fun sl => { sl with miss := sl.miss.map _ }) (fun _ => ⟨rfl, rfl⟩) n

@[simp] theorem State.calm_toSlot (g n : Nat) (m : Miss) : (s.toSlot g n m).calm = s.calm := by
  unfold State.toSlot
  dsimp only
  split_ifs <;> simp

@[simp] theorem State.calm_serveColumn (g n : Nat) (m : Miss) (aged : Bool) : (s.serveColumn g n m aged).calm = s.calm := by
  unfold State.serveColumn
  dsimp only
  split_ifs <;> simp

@[simp] theorem State.calm_slotReady (g n : Nat) (m : Miss) : (s.slotReady g n m).calm = s.calm := by
  simp only [State.slotReady, State.calm_onMiss]
  split
  · split <;> simp
  · split <;> simp

@[simp] theorem State.calm_finishSlot (g n l : Nat) : (s.finishSlot g n l).calm = s.calm := by
  unfold State.finishSlot forN
  rw [State.calm_foldl]
  · split
    · simp
    · rfl
  · intro t _
    split
    · split <;> simp
    · rfl

@[simp] theorem State.calm_clearSlots (g : Nat) (m : Miss) : (s.clearSlots g m).calm = s.calm := by
  unfold State.clearSlots
  split
  · rfl
  · refine State.calm_foldl (fun t x => ?_) _ s
    exact t.calm_finishSlot g x.1 x.2.line

@[simp] theorem State.calm_fetchNow (g n l : Nat) : (s.fetchNow g n l).calm = s.calm := by
  unfold State.fetchNow
  split
  · rfl
  split <;> simp

/-! ### Lines of a slice and of an L1 -/

@[simp] theorem State.calm_errGone (n l : Nat) : (s.errGone n l).calm = s.calm :=
  s.calm_onSlc (f := fun sl => { sl with errs := sl.errs.filter _ }) (fun _ => ⟨rfl, rfl⟩) n
@[simp] theorem State.calm_freeMiss (n l : Nat) : (s.freeMiss n l).calm = s.calm :=
  s.calm_onSlc (f := fun sl => { sl with miss := sl.miss.filter _ }) (fun _ => ⟨rfl, rfl⟩) n

@[simp] theorem State.calm_l1Drop (p l : Nat) : (s.l1Drop p l).calm = s.calm := State.calm_setBlk s _ _

@[simp] theorem State.calm_l1Fill (p : Nat) (x : L1Line) : (s.l1Fill p x).calm = s.calm := by
  unfold State.l1Fill
  dsimp only
  split_ifs <;> simp

@[simp] theorem State.calm_dropSharers (n : Nat) (x : Line) : (s.dropSharers n x).calm = s.calm := by
  unfold State.dropSharers
  rw [State.calm_foldl fun t p => t.calm_l1Drop p x.line]
  exact s.calm_inc (by decide) n _

@[simp] theorem State.calm_evict (n : Nat) (x : Line) : (s.evict n x).calm = s.calm := by
  unfold State.evict
  dsimp only
  rw [State.calm_onSlc _ (Slice.dropLine_still x.line)]
  split
  · simp
  · have hmem := (s.dropSharers n x).calm_resolveMem n x
    split
    case h_1 t _ h => rw [State.calm_of_eq h, hmem, State.calm_dropSharers]
    case h_2 t h => rw [State.calm_inc _ (by decide), State.calm_of_eq h, hmem, State.calm_dropSharers]
  · simp

@[simp] theorem State.calm_settleForeign (n : Nat) (x : Line) : (s.settleForeign n x).calm = s.calm := by
  simp [State.settleForeign]

/-! ### Answers -/

@[simp] theorem State.calm_answer (r : Req) (d : BitVec 1024) (fillL1 : Bool) : (s.answer r d fillL1).calm = s.calm := by
  unfold State.answer
  dsimp only
  split
  · split
    · rw [State.calm_l1Fill, State.calm_resps]
    · exact s.calm_resps _
  · exact s.calm_resps _

@[simp] theorem State.calm_slcWrote (n l : Nat) : (s.slcWrote n l).calm = s.calm := by
  unfold State.slcWrote
  dsimp only
  split <;> simp

@[simp] theorem State.calm_ackWrite (n : Nat) (x : Line) (r : Req) : (s.ackWrite n x r).calm = s.calm := by
  unfold State.ackWrite
  dsimp only
  split
  · simp
  · rw [State.calm_invs]
    simp

@[simp] theorem State.calm_pinLine (n l owner : Nat) : (s.pinLine n l owner).1.calm = s.calm := by
  unfold State.pinLine
  split
  · rfl
  · dsimp only
    split <;> simp

@[simp] theorem State.calm_readHit (n : Nat) (x : Line) (r : Req) : (s.readHit n x r).calm = s.calm := by
  simp [State.readHit]

@[simp] theorem State.calm_poisonHit (n : Nat) (r : Req) : (s.poisonHit n r).calm = s.calm := by
  unfold State.poisonHit
  dsimp only
  split <;> simp

@[simp] theorem State.calm_poisonLine (n : Nat) (x : Line) (writer : Option Nat) : (s.poisonLine n x writer).calm = s.calm := by
  simp [State.poisonLine]

@[simp] theorem State.calm_resolveFailed (n : Nat) (x : Line) : (s.resolveFailed n x).calm = s.calm := by
  simp [State.resolveFailed]

@[simp] theorem State.calm_lineErr (n : Nat) (x : Line) (reads scrub : Bool) : (s.lineErr n x reads scrub).calm = s.calm := by
  have hgone : (if scrub then s.errGone n x.line else s).calm = s.calm := by split <;> simp
  unfold State.lineErr
  split
  · rfl
  dsimp only
  split
  · split
    · simp [hgone]
    · rfl
  · simp [hgone]
  · simp [hgone]
  · simp
  · simp
  · split
    · rfl
    · split <;> simp

@[simp] theorem State.calm_findVictim (n set fuel : Nat) : (s.findVictim n set fuel).1.calm = s.calm := by
  induction fuel generalizing s with
  | zero => rfl
  | succ fuel ih =>
    unfold State.findVictim
    split
    · split
      · split
        · rw [ih, State.calm_lineErr]
        · split
          · rw [ih, State.calm_resolveFailed, State.calm_resolveMem]
          · rfl
      · rfl
    · rfl

/-! ### A request at a slice (R236 to R244) -/

@[simp] theorem State.calm_recordHit (n l : Nat) : (s.recordHit n l).calm = s.calm := by
  unfold State.recordHit
  split
  · rfl
  · dsimp only
    split <;> simp

@[simp] theorem State.calm_runAhead (n : Nat) (r : Req) (lo hi : Nat) : (s.runAhead n r lo hi).calm = s.calm := by
  unfold State.runAhead
  refine State.calm_foldl (fun t i => ?_) _ s
  dsimp only
  split
  · simp
  · rfl

@[simp] theorem State.calm_raFrom (n : Nat) (r : Req) (next : Bool) : (s.raFrom n r next).calm = s.calm := by
  unfold State.raFrom
  dsimp only
  split
  · exact s.calm_runAhead n r _ _
  · rfl

@[simp] theorem State.calm_register (n : Nat) (r : Req) (k : MKind) (alloc fresh : Bool) {f : Slice → Slice}
    (h : ∀ sl, (f sl).moved = sl.moved ∧ (f sl).scrub = sl.scrub) : (s.register n r k alloc fresh f).1.calm = s.calm := by
  have hadd : ∀ sl, Slice.moved { f sl with miss := (f sl).miss ++ [newMiss r k alloc [r]] } = sl.moved
      ∧ Slice.scrub { f sl with miss := (f sl).miss ++ [newMiss r k alloc [r]] } = sl.scrub := h
  unfold State.register
  dsimp only
  split
  · rw [State.calm_onSlc _ hadd]
    split <;> split <;> simp
  · rfl

@[simp] theorem State.calm_beginResolve (n : Nat) (x : Line) (r : Req) (fresh : Bool) : (s.beginResolve n x r fresh).1.calm = s.calm := by
  unfold State.beginResolve
  split
  case h_1 t h => rw [State.calm_onMiss, State.calm_of_eq h, State.calm_register _ _ _ _ _ _ (Slice.putLine_still _)]
  case h_2 t h => rw [State.calm_of_eq h, State.calm_register _ _ _ _ _ _ (Slice.putLine_still _)]

@[simp] theorem State.calm_hit (n : Nat) (x : Line) (r : Req) (fresh : Bool) : (s.hit n x r fresh).1.calm = s.calm := by
  have hcount : (if fresh then s.inc F.SLC_HITS n 0 else s).calm = s.calm := by split <;> simp
  unfold State.hit
  dsimp only
  split
  · rfl
  · split
    · simp [hcount]
    · simp
    · split <;> simp [hcount]
  · split
    · split <;> simp [hcount]
    · simp
    · simp [hcount]
  · split
    · simp [hcount]
    · split <;> simp [hcount]
    · split <;> simp [hcount]

@[simp] theorem State.calm_fetchReports (n q : Nat) (ws : List Req) : (s.fetchReports n q ws).calm = s.calm := by
  unfold State.fetchReports
  dsimp only
  split
  · split <;> simp
  · rw [State.calm_foldl fun t e => t.calm_record _, State.calm_report]

@[simp] theorem State.calm_reduceMem (n : Nat) (r : Req) (op : Nat) : (s.reduceMem n r op).calm = s.calm := by
  unfold State.reduceMem
  dsimp only
  split <;> simp

@[simp] theorem State.calm_missed (n : Nat) (r : Req) (fresh : Bool) : (s.missed n r fresh).1.calm = s.calm := by
  have hv := s.calm_findVictim n (setOf r.line) 16
  unfold State.missed
  generalize s.findVictim n (setOf r.line) 16 = q at *
  obtain ⟨t, v⟩ := q
  extract_lets g cons clear place fetch
  have hclear (u : State) (w : Nat) : (clear u w).calm = u.calm := by
    unfold clear
    split
    · simp
    · rfl
  have hplace (u : State) (w : Nat) (c : Bool) : (place u w c).1.calm = u.calm := by
    unfold place
    rw [State.calm_pinLine, hclear]
    unfold cons
    split <;> simp
  have hfetch (u : State) (w : Nat) (c : Bool) : (fetch u w c).1.calm = u.calm := by
    unfold fetch
    split
    · simp [hplace]
    · rfl
  clear_value cons clear place fetch
  dsimp only at hv ⊢
  split
  · split
    · split
      · simp [hv]
      · split
        · exact hv
        · simp [hplace, hv]
    · simp [hv]
  · split
    · simp [hv]
    · simp [hv]
    · simp [hfetch, hv]
  · split
    · simp [hv]
    · simp [hv]
    · simp [hplace, hv]
  · split
    · simp [hv]
    · simp [hv]
    · split
      · simp [hfetch, hv]
      · split
        · rw [hfetch]
          split <;> simp [hv]
        · simp [hplace, hv]

@[simp] theorem State.calm_take (n : Nat) (r : Req) (fresh : Bool) : (s.take n r fresh).1.calm = s.calm := by
  unfold State.take
  split
  · dsimp only
    split <;> simp
  split
  · split
    · rfl
    split
    · rfl
    · dsimp only
      rw [State.calm_onMiss]
      have hmerged : (if fresh then s.inc F.SLC_MERGED n 0 else s).calm = s.calm := by split <;> simp
      split
      case h_1 st _ => cases st <;> simp [hmerged]
      case h_2 => exact hmerged
  · extract_lets pf s1 s2 wasRec s3
    have h1 : s1.calm = s.calm := by
      unfold s1
      split
      · split <;> simp
      · rfl
    have h2 : s2.calm = s.calm := by
      unfold s2
      split
      · split <;> simp [h1]
      · exact h1
    clear_value s1 s2
    split
    · have h3 : s3.calm = s.calm := by
        unfold s3
        split <;> simp [h2]
      rw [State.calm_hit]
      split <;> simp [h3]
    · have hmissed := s2.calm_missed n r fresh
      split
      case h_1 t h =>
        have ht := (State.calm_of_eq h).trans hmissed
        dsimp only
        split <;> simp [ht, h2]
      case h_2 t h => exact ((State.calm_of_eq h).trans hmissed).trans h2

/-! ### Requests that wait (R237, R238) -/

@[simp] theorem State.calm_refuse (n : Nat) (r : Req) : (s.refuse n r).calm = s.calm := by
  unfold State.refuse
  dsimp only
  rw [State.calm_reqs]
  split <;> simp

@[simp] theorem State.calm_offer (n : Nat) (r : Req) : (s.offer n r).calm = s.calm := by
  have htake := s.calm_take n r true
  unfold State.offer
  split
  case h_1 t h => exact (State.calm_of_eq h).trans htake
  case h_2 t h => rw [State.calm_refuse, State.calm_of_eq h, htake]

@[simp] theorem State.calm_reoffer (n : Nat) (r : Req) : (s.reoffer n r).calm = s.calm := by
  have htake := s.calm_take n r false
  unfold State.reoffer
  split
  case h_1 t h => exact (State.calm_of_eq h).trans htake
  case h_2 t h => rw [State.calm_refuse, State.calm_of_eq h, htake]

@[simp] theorem State.calm_serve (n : Nat) (rs : List Req) : (s.serve n rs).calm = s.calm := by
  induction rs generalizing s with
  | nil => rfl
  | cons r rs ih =>
    unfold State.serve
    dsimp only
    rw [ih]
    split
    · split <;> simp
    · simp

@[simp] theorem State.calm_retryVictims (n : Nat) : (s.retryVictims n).calm = s.calm := by
  simp [State.retryVictims]

@[simp] theorem State.calm_serveBare (n keyh : Nat) (data : BitVec 1024) (rs : List Req) (written : Bool) :
    (s.serveBare n keyh data rs written).calm = s.calm := by
  induction rs generalizing s written with
  | nil => rw [State.serveBare]
  | cons r rs ih =>
    unfold State.serveBare
    split
    · exact ih s written
    · split
      · rw [ih, State.calm_answer]
      · dsimp only
        split <;> simp [ih]
    · simp [ih]
    · simp [ih]

@[simp] theorem State.calm_fillMiss (n : Nat) (m : Miss) (data : BitVec 1024) (ue : Option Nat) : (s.fillMiss n m data ue).calm = s.calm := by
  have hanswers (rs : List Req) (t : State) : (rs.foldl (fun (s : State) r => s.answer r 0 false) t).calm = t.calm :=
    State.calm_foldl (fun t r => t.calm_answer r 0 false) rs t
  unfold State.fillMiss
  extract_lets s1 old s4
  have h1 : s1.calm = s.calm := s.calm_freeMiss n m.line
  split
  · extract_lets s2 s3
    have h2 : s2.calm = s.calm := by
      unfold s2
      split <;> simp [h1]
    have h3 : s3.calm = s.calm := by
      unfold s3
      cases old with
      | none => exact h2
      | some x =>
        dsimp only
        split <;> simp [h2]
    simp only [State.calm_retryVictims, State.calm_serve]
    exact (hanswers _ s3).trans h3
  · have h4 : s4.calm = s.calm := by
      unfold s4
      split
      · split <;> simp [h1]
      · exact h1
    cases old <;> simp [h4]

@[simp] theorem State.calm_resolveMiss (n : Nat) (m : Miss) : (s.resolveMiss n m).calm = s.calm := by
  unfold State.resolveMiss
  extract_lets s1
  have h1 : s1.calm = s.calm := by simp [s1]
  split
  · simp [h1]
  case h_2 x _ =>
    have hmem := (s1.calm_resolveMem n x).trans h1
    rw [State.calm_retryVictims, State.calm_serve, State.calm_dropIdle]
    split
    case h_1 t d h => rw [State.calm_onSlc _ (Slice.putLine_still _), State.calm_dropSharers, State.calm_of_eq h, hmem]
    case h_2 t h => rw [State.calm_resolveFailed, State.calm_of_eq h, hmem]

/-! ### Lines settled for an access whose work is one step -/

@[simp] theorem State.calm_settleOne (n l : Nat) : (s.settleOne n l).calm = s.calm := by
  unfold State.settleOne
  split
  · rfl
  split
  · simp
  · dsimp only
    split
    · simp
    · split <;> simp

@[simp] theorem State.calm_settleSlice (n : Nat) : (s.settleSlice n).calm = s.calm :=
  State.calm_foldl (fun t l => t.calm_settleOne n l) _ s

@[simp] theorem State.calm_settleLine (n l : Nat) : (s.settleLine n l).calm = s.calm := by
  unfold State.settleLine
  split <;> simp

@[simp] theorem State.calm_makeRoom (n : Nat) (r : Req) : (s.makeRoom n r).calm = s.calm := by
  unfold State.makeRoom
  split
  · split <;> simp
  · split <;> simp

@[simp] theorem State.calm_settleInv (n id : Nat) : (s.settleInv n id).calm = s.calm := by
  unfold State.settleInv
  extract_lets ms s1 s2
  have h2 : s2.calm = s.calm :=
    (s1.calm_invs _).trans (State.calm_foldl (fun t m => t.calm_l1Drop m.blk m.line) ms s)
  split
  · exact h2
  · simp [h2]

@[simp] theorem State.calm_loseLine (n : Nat) (x : Line) : (s.loseLine n x).calm = s.calm := by
  unfold State.loseLine
  dsimp only
  rw [State.calm_onSlc _ (Slice.dropLine_still x.line)]
  split <;> simp

@[simp] theorem State.calm_drainLine (n : Nat) (unreadable : List Nat) (x : Line) : (s.drainLine n unreadable x).calm = s.calm := by
  unfold State.drainLine
  split
  · simp
  · dsimp only
    split
    · simp
    · split <;> simp

@[simp] theorem State.calm_drained1 (l : Nat) : (s.drained1 l).calm = s.calm := by
  unfold State.drained1
  split
  · rfl
  · dsimp only
    split <;> simp

/-! ### Accesses of a unit to memory (R231, R251) -/

@[simp] theorem State.calm_access (r : Req) : (s.access r).1.calm = s.calm := by
  unfold State.access
  split
  · rfl
  case h_2 n _ =>
    extract_lets r' s1 s2 s3 s4
    have h1 : s1.calm = s.calm := rfl
    have h4 : s4.calm = s.calm := by simp [s4, s3, s2, h1]
    split
    · exact (s4.calm_resps _).trans h4
    · exact (s4.calm_reqs _).trans h4


/-! ### Accesses of the host window (R251, R276) -/

@[simp] theorem State.calm_emit (k : String) (as : List Nat) (bs : List Byte) : (s.emit k as bs).calm = s.calm := rfl

@[simp] theorem State.calm_writeBytes (src : Src) (op : ROp) (owner h : Nat) (ctx : Option Nat) (shadow : Bool) (a : Nat) (bs : List Byte) (part : Nat) :
    (s.writeBytes src op owner h ctx shadow a bs part).calm = s.calm :=
  State.calm_foldl (fun t _ => t.calm_access _) _ s

@[simp] theorem State.calm_windowRead (port l lo k : Nat) : (s.windowRead port l lo k).1.calm = s.calm := by
  unfold State.windowRead
  split
  · rfl
  · dsimp only
    rw [State.calm_access]
    rfl

@[simp] theorem State.calm_windowServe (port a n : Nat) (data : Option (List Byte)) : (s.windowServe port a n data).calm = s.calm := by
  have hreads (xs : List (Nat × Nat × Nat × Nat)) (acc : State × List Byte) :
      (xs.foldl (fun acc x => ((acc.1.windowRead port x.1 x.2.1 x.2.2.1).1, acc.2 ++ (acc.1.windowRead port x.1 x.2.1 x.2.2.1).2)) acc).1.calm = acc.1.calm := by
    induction xs generalizing acc with
    | nil => rfl
    | cons x xs ih => rw [List.foldl_cons, ih, State.calm_windowRead]
  unfold State.windowServe
  cases data with
  | some bs =>
    refine State.calm_foldl (fun t x => ?_) _ s
    dsimp only
    split
    · rfl
    · exact t.calm_writeBytes _ _ _ _ _ _ _ _ _
  | none =>
    dsimp only
    rw [State.calm_emit]
    exact hreads (pieces a n) (s, [])

@[simp] theorem State.calm_windowResume : s.windowResume.calm = s.calm :=
  (State.calm_foldl (fun t _ => t.calm_windowServe _ _ _ _) _ _).trans rfl

end

end Sys2Proof.Machine
end

section
/-! PROOFS. Lines that leave a slice in a sweep or a drain, and the visits of a slice's walker (R251, R252, R305, R306). -/

namespace Sys2Proof.Machine
open Sys2Proof Sys2Proof.Claims

/-! ### Lines that leave (R236, R244, R249) -/

section
variable {s : State} {n : Nat} {x z : Line}

theorem Slice.mem_putLine {sl : Slice} {y : Line} (h : z ∈ (sl.putLine y).lines) : z = y ∨ z ∈ sl.lines :=
  (List.mem_cons.mp h).imp_right List.mem_of_mem_filter

theorem Slice.mem_dropLine {sl : Slice} {l : Nat} (h : z ∈ (sl.dropLine l).lines) : z ∈ sl.lines ∧ z.line ≠ l := by
  simpa [Slice.dropLine] using h

theorem State.dropSharers_slc (s : State) (n : Nat) (x : Line) (k : Nat) : (s.dropSharers n x).slc k = s.slc k := by
  have hdrop (ps : List Nat) (t : State) : (ps.foldl (fun s p => s.l1Drop p x.line) t).slc k = t.slc k := by
    induction ps generalizing t with
    | nil => rfl
    | cons p ps ih => rw [List.foldl_cons, ih, State.l1Drop, State.onBlk_slc]
  unfold State.dropSharers
  dsimp only
  rw [hdrop, State.inc_slc]

theorem State.event_slc (s : State) (code page addr detail : Nat) (writer : Option Nat) (k : Nat) : (s.event code page addr detail writer).slc k = s.slc k :=
  State.aside_slc (s.aside_event code page addr detail writer) k

theorem State.corrected_slc (s : State) (cls unit addr k : Nat) : (s.corrected cls unit addr).slc k = s.slc k :=
  State.aside_slc (s.aside_corrected cls unit addr) k

theorem State.slcUe_slc (s : State) (n l k : Nat) : (s.slcUe n l).slc k = s.slc k := State.aside_slc (s.aside_slcUe n l) k

theorem State.errGone_lines (s : State) (n l : Nat) : ((s.errGone n l).slc n).lines = (s.slc n).lines := by
  rw [State.errGone, State.onSlc_slc_same]

/-- What an eviction writes to memory leaves the slice, which then drops the line. -/
theorem State.evict_slc (s : State) (n : Nat) (x : Line) : (s.evict n x).slc n = (s.slc n).dropLine x.line := by
  unfold State.evict
  dsimp only
  rw [State.onSlc_slc_same]
  split
  · rw [State.aside_slc (State.aside_writeBack _ n x), State.dropSharers_slc]
  · have hmem := State.aside_slc (State.aside_resolveMem (s.dropSharers n x) n x) n
    split
    case h_1 t _ h => rw [h, State.dropSharers_slc] at hmem; rw [hmem]
    case h_2 t h => rw [h, State.dropSharers_slc] at hmem; rw [State.inc_slc, hmem]
  · rw [State.dropSharers_slc]

theorem State.mem_poisonLine {writer : Option Nat} (hz : z ∈ ((s.poisonLine n x writer).slc n).lines) (hne : z.line ≠ x.line) : z ∈ (s.slc n).lines := by
  unfold State.poisonLine at hz
  dsimp only at hz
  rw [State.onSlc_slc_same, State.event_slc, State.inc_slc, State.dropSharers_slc] at hz
  rcases Slice.mem_putLine hz with rfl | hz
  · exact absurd rfl hne
  · exact hz

/-- An error met in a line puts no other line into the slice. -/
theorem State.mem_lineErr {reads scrub : Bool} (hz : z ∈ ((s.lineErr n x reads scrub).slc n).lines) (hne : z.line ≠ x.line) : z ∈ (s.slc n).lines := by
  have hgone : ((if scrub then s.errGone n x.line else s).slc n).lines = (s.slc n).lines := by
    split
    · exact s.errGone_lines n x.line
    · rfl
  have hpoison {writer : Option Nat} {t : State} (ht : (t.slc n).lines = (s.slc n).lines) (hz : z ∈ ((t.poisonLine n x writer).slc n).lines) :
      z ∈ (s.slc n).lines := ht ▸ State.mem_poisonLine hz hne
  unfold State.lineErr at hz
  split at hz
  · exact hz
  dsimp only at hz
  split at hz
  · split at hz
    · rwa [State.corrected_slc, State.inc_slc, hgone] at hz
    · exact hz
  · rwa [State.corrected_slc, State.used_slc, State.inc_slc, hgone] at hz
  · rwa [State.corrected_slc, State.used_slc, State.inc_slc, hgone] at hz
  · exact hpoison (by rw [State.slcUe_slc, State.used_slc, State.errGone_lines]) hz
  · rw [State.onSlc_slc_same, State.dropSharers_slc, State.event_slc, State.slcUe_slc] at hz
    rcases Slice.mem_putLine hz with rfl | hz
    · exact absurd rfl hne
    · rwa [State.errGone_lines] at hz
  · split at hz
    · exact hz
    have hue : (((s.errGone n x.line).slcUe n x.line).slc n).lines = (s.slc n).lines := by rw [State.slcUe_slc, State.errGone_lines]
    split at hz
    · exact hpoison hue hz
    · exact hpoison hue hz
    · rw [State.onSlc_slc_same, State.dropSharers_slc, State.event_slc] at hz
      exact hue ▸ (Slice.mem_dropLine hz).1

/-- After the errors of a line are met, it leaves where it is still held. -/
theorem State.mem_flushLine (hz : z ∈ ((s.flushLine n x).slc n).lines) : z ∈ (s.slc n).lines ∧ z.line ≠ x.line := by
  unfold State.flushLine at hz
  dsimp only at hz
  split at hz
  next y hat =>
    rw [State.evict_slc, Slice.line_of_at hat] at hz
    obtain ⟨hz, hne⟩ := Slice.mem_dropLine hz
    exact ⟨State.mem_lineErr hz hne, hne⟩
  next hat =>
    have hne := Slice.at_eq_none_iff.mp hat z hz
    exact ⟨State.mem_lineErr hz hne, hne⟩

theorem State.loseLine_slc (s : State) (n : Nat) (x : Line) : (s.loseLine n x).slc n = (s.slc n).dropLine x.line := by
  unfold State.loseLine
  dsimp only
  rw [State.onSlc_slc_same]
  split
  · rw [State.onCtx_slc, State.event_slc, State.dropSharers_slc]
  · rw [State.event_slc, State.dropSharers_slc]

theorem State.mem_drainLine {un : List Nat} (hz : z ∈ ((s.drainLine n un x).slc n).lines) : z ∈ (s.slc n).lines ∧ z.line ≠ x.line := by
  unfold State.drainLine at hz
  split at hz
  · rw [State.loseLine_slc] at hz
    exact Slice.mem_dropLine hz
  dsimp only at hz
  split at hz
  next hat =>
    have hne := Slice.at_eq_none_iff.mp hat z hz
    exact ⟨State.mem_lineErr hz hne, hne⟩
  next y hat =>
    have hdrop : z ∈ (((s.lineErr n x true false).slc n).dropLine x.line).lines := by
      rw [← Slice.line_of_at hat]
      split at hz
      · rwa [State.loseLine_slc] at hz
      · rwa [State.evict_slc] at hz
    obtain ⟨hz, hne⟩ := Slice.mem_dropLine hdrop
    exact ⟨State.mem_lineErr hz hne, hne⟩

/-- After each of a list of lines has left, none of them is in the slice, and no other has come. -/
theorem State.mem_foldl_leave {f : State → Line → State}
    (hf : ∀ {t : State} {x z : Line}, z ∈ ((f t x).slc n).lines → z ∈ (t.slc n).lines ∧ z.line ≠ x.line)
    {xs : List Line} (hz : z ∈ ((xs.foldl f s).slc n).lines) : z ∈ (s.slc n).lines ∧ z ∉ xs := by
  induction xs generalizing s with
  | nil => exact ⟨hz, List.not_mem_nil⟩
  | cons x xs ih =>
    obtain ⟨hfirst, hrest⟩ := ih hz
    obtain ⟨hmem, hne⟩ := hf hfirst
    exact ⟨hmem, List.not_mem_cons_of_ne_of_not_mem (fun h => hne (h ▸ rfl)) hrest⟩

end

/-! ### Sweeps (R252) -/

section
variable {s : State} {n : Nat}

theorem State.settleSlice_of_no_miss (h : (s.slc n).miss = []) : s.settleSlice n = s := by
  rw [State.settleSlice, h]
  rfl

/-- Whether a sweep takes a line. -/
def Sweep.takes (w : Sweep) (x : Line) : Bool :=
  (match w.owner with | some o => x.owner == o | none => false) || (match w.handle with | some h => x.keyh == h || x.owner == 0x2000 + h | none => false)

theorem Sweep.not_takes {w : Sweep} {x : Line} (h : w.takes x = false) :
    w.owner ≠ some x.owner ∧ w.handle ≠ some x.keyh ∧ ∀ k, w.handle = some k → x.owner ≠ 0x2000 + k := by
  obtain ⟨howner, hhandle⟩ := Bool.or_eq_false_iff.mp h
  refine ⟨fun ho => ?_, fun hh => ?_, fun k hk hx => ?_⟩
  · simp [ho] at howner
  · simp [hh] at hhandle
  · simp [hk, hx] at hhandle

theorem State.sweepSlice_lines {w : Sweep} (hmiss : (s.slc n).miss = []) {z : Line} (hz : z ∈ ((s.sweepSlice n w).slc n).lines) : w.takes z = false := by
  have hfold : s.sweepSlice n w = ((s.slc n).lines.filter w.takes).foldl (fun s x => s.flushLine n x) s := by
    unfold State.sweepSlice
    dsimp only
    rw [State.settleSlice_of_no_miss hmiss]
    rfl
  rw [hfold] at hz
  obtain ⟨hmem, hnot⟩ := State.mem_foldl_leave (fun h => State.mem_flushLine h) hz
  exact Bool.eq_false_iff.mpr fun h => hnot (List.mem_filter.mpr ⟨hmem, h⟩)

theorem State.dropKey_slices (s : State) (h : Nat) : (s.dropKey h).slices = s.slices := by
  have hdrops (gs : List Nat) (t : State) :
      (gs.foldl (fun s g => (s.onMem g (fun m => { m with drops := h :: m.drops })).dropIdle g) t).slices = t.slices := by
    induction gs generalizing t with
    | nil => rfl
    | cons g gs ih => rw [List.foldl_cons, ih, State.aside_slices (State.aside_dropIdle _ g), State.onMem_slices]
  unfold State.dropKey forN
  dsimp only
  rw [hdrops]

theorem State.mbKeep_slices (s : State) (m st : Nat) (resp : List Byte) : (s.mbKeep m st resp).slices = s.slices := by
  unfold State.mbKeep State.mbDone
  dsimp only
  split
  · unfold State.msi
    split_ifs <;> rfl
  · rfl

theorem State.releaseSwept_slices (s : State) (c n : Nat) : (s.releaseSwept c n).slices = s.slices := by
  unfold State.releaseSwept
  dsimp only
  split_ifs
  · rw [State.dropKey_slices, State.onCtx_slices]
  · rfl
  · rfl

theorem State.revokeDone_slices (s : State) (t : Nat) : (s.revokeDone t).slices = s.slices := by
  have hdone : (((s.dropKey t).onTenant t (fun _ => Tenant.reset)).inc F.SEC_REVOKES 0 0).slices = s.slices := by
    rw [State.inc_slices, State.onTenant_slices, State.dropKey_slices]
  unfold State.revokeDone
  dsimp only
  split
  · rw [State.mbKeep_slices, hdone]
  · exact hdone

theorem State.revokeSwept_slices (s : State) (t n : Nat) : (s.revokeSwept t n).slices = s.slices := by
  unfold State.revokeSwept
  dsimp only
  split_ifs
  · rw [State.revokeDone_slices, State.onTenant_slices]
  · rfl
  · rfl

/-- What else ends with a sweep leaves the slices. -/
theorem execSweepEnd_slices {w : Sweep} {ws : List Sweep} (hn : n < nSlices) (h : (s.slc n).sweeps = w :: ws) :
    ∃ t, exec (.sweepEnd n) s = .next t ∧ t.slices = ((s.sweepSlice n w).onSlc n (fun sl => { sl with sweeps := ws })).slices := by
  rw [exec_sweepEnd, execSweepEnd, onUnit_of_lt hn, h]
  refine ⟨_, rfl, ?_⟩
  dsimp only
  cases w.owner <;> cases w.handle <;> simp only [State.releaseSwept_slices, State.revokeSwept_slices]

theorem sweepEnd_clears {w : Sweep} {ws : List Sweep} (hn : n < nSlices) (h : (s.slc n).sweeps = w :: ws) (hmiss : (s.slc n).miss = []) :
    ∃ t, exec (.sweepEnd n) s = .next t ∧ (t.slc n).sweeps = ws
      ∧ (∀ x ∈ (t.slc n).lines, w.owner ≠ some x.owner ∧ w.handle ≠ some x.keyh ∧ ∀ k, w.handle = some k → x.owner ≠ 0x2000 + k) := by
  obtain ⟨t, ht, hslices⟩ := execSweepEnd_slices hn h
  have hslc : t.slc n = { (s.sweepSlice n w).slc n with sweeps := ws } := by
    rw [State.slc, hslices]
    exact State.onSlc_slc_same _ _ _
  refine ⟨t, ht, by rw [hslc], fun x hx => ?_⟩
  rw [hslc] at hx
  exact Sweep.not_takes (State.sweepSlice_lines hmiss hx)

/-! ### The end of a drain (R251) -/

theorem State.windowResume_of_no_wait (h : s.winWait = []) (n : Nat) : s.windowResume.slc n = s.slc n := by
  rw [State.windowResume, h]
  rfl

/-- The slice after its drain. -/
def State.drainedSlice (s : State) (n : Nat) (un : List Nat) : State :=
  ((s.settleSlice n).slc n).lines.foldl (fun s x => s.drainLine n un x) (s.settleSlice n)

/-- The state after a drain has ended, before accesses that waited for it go on. -/
def State.retiredSlice (s : State) (n : Nat) (un : List Nat) : State :=
  (((s.drainedSlice n un).onSlc n (fun sl => { sl with moved := [] })).wr F.SLC_SLICE_STATE_MODE n 0 3).setEvt .slc n 7

theorem execRetired_of_draining (hn : n < nSlices) (hmode : s.rd F.SLC_SLICE_STATE_MODE n = 2) (un : List Nat) :
    exec (.retired n un) s = .next (s.retiredSlice n un).windowResume := by
  rw [exec_retired, execRetired, onUnit_of_lt hn, if_pos hmode]
  rfl

theorem State.retiredSlice_slc (s : State) (n : Nat) (un : List Nat) : (s.retiredSlice n un).slc n = { (s.drainedSlice n un).slc n with moved := [] } := by
  rw [State.retiredSlice, State.setEvt_slc, State.wr_slc, State.onSlc_slc_same]

theorem State.retiredSlice_winWait (s : State) (n : Nat) (un : List Nat) : (s.retiredSlice n un).winWait = s.winWait := by
  have hdrain : (s.drainedSlice n un).offMem = s.offMem :=
    (State.offMem_foldl (fun t x => t.offMem_drainLine n un x) _ _).trans (s.offMem_settleSlice n)
  exact (congrArg State.winWait hdrain :)

theorem State.drainedSlice_lines (hmiss : (s.slc n).miss = []) (un : List Nat) : ((s.drainedSlice n un).slc n).lines = [] := by
  rw [State.drainedSlice, State.settleSlice_of_no_miss hmiss]
  refine List.eq_nil_iff_forall_not_mem.mpr fun z hz => ?_
  obtain ⟨hmem, hnot⟩ := State.mem_foldl_leave (fun h => State.mem_drainLine h) hz
  exact hnot hmem

theorem retired_empties (hn : n < nSlices) (un : List Nat) (hmode : s.rd F.SLC_SLICE_STATE_MODE n = 2) :
    ∃ t, exec (.retired n un) s = .next t ∧ t.rd F.SLC_SLICE_STATE_MODE n = 3 ∧ bitOf (t.evts .slc n) 7 = true ∧ (t.slc n).moved = []
      ∧ (s.winWait = [] → (s.slc n).miss = [] → (t.slc n).lines = []) := by
  have hcalm := (s.retiredSlice n un).calm_windowResume
  refine ⟨_, execRetired_of_draining hn hmode un, ?_, ?_, ?_, fun hwait hmiss => ?_⟩
  · rw [State.quiet_rd (State.calm_quiet hcalm) (trafficKey_mode n), State.retiredSlice, State.rd_setEvt_of_off (pg := .slc) rfl (by decide),
      State.rd_wr_same _ _ _ _ _ (by decide)]
    rfl
  · rw [State.quiet_retired (State.calm_quiet hcalm)]
    exact State.bitOf_evts_setEvt _ _ _ (by decide)
  · rw [State.calm_moved hcalm, State.retiredSlice_slc]
  · rw [State.windowResume_of_no_wait ((s.retiredSlice_winWait n un).trans hwait), State.retiredSlice_slc]
    exact State.drainedSlice_lines hmiss un

/-! ### The walker of a slice (R305, R306) -/

@[simp] theorem State.calm_scrubLine (s : State) (n : Nat) (x : Line) : (s.scrubLine n x).calm = s.calm := by
  unfold State.scrubLine
  dsimp only
  split
  · rfl
  split
  · split <;> simp
  · simp

theorem execScrubVisit_of_slice (hn : n < nSlices) (henable : s.rd F.ERRQ_ENABLE_EFF ≠ 0) (hdom : s.rd F.DOM_STATE (24 + n / 32) = 2)
    (hmode : s.rd F.SLC_SLICE_STATE_MODE n < 2) : exec (.scrubVisit false n) s = .next (s.scrubSlice n) := by
  have hunit : n < if false = true then nDist else nSlices := hn
  rw [exec_scrubVisit, execScrubVisit, onUnit_of_lt hunit, if_neg henable, if_neg Bool.false_ne_true, if_pos ⟨hdom, hmode⟩]

theorem scrubVisit_slice (hn : n < nSlices) (henable : s.rd F.ERRQ_ENABLE_EFF ≠ 0) (hdom : s.rd F.DOM_STATE (24 + n / 32) = 2)
    (hmode : s.rd F.SLC_SLICE_STATE_MODE n < 2) :
    ∃ t, exec (.scrubVisit false n) s = .next t ∧ (t.slc n).scrub = (s.slc n).scrub + 1
      ∧ (((s.slc n).lines.find? (fun x => Machine.setOf x.line == (s.slc n).scrub % 196608 / 16 && x.way == (s.slc n).scrub % 196608 % 16)) = none →
          t = s.onSlc n (fun sl => { sl with scrub := sl.scrub + 1 })) := by
  have hlines : ((s.onSlc n (fun sl => { sl with scrub := sl.scrub + 1 })).slc n).lines = (s.slc n).lines := by rw [State.onSlc_slc_same]
  have hscrub : ((s.onSlc n (fun sl => { sl with scrub := sl.scrub + 1 })).slc n).scrub = (s.slc n).scrub + 1 := by rw [State.onSlc_slc_same]
  refine ⟨_, execScrubVisit_of_slice hn henable hdom hmode, ?_, fun hnone => ?_⟩
  · unfold State.scrubSlice
    dsimp only
    split
    · rw [State.calm_scrub (State.calm_scrubLine _ _ _), hscrub]
    · exact hscrub
  · unfold State.scrubSlice
    dsimp only
    rw [hlines, hnone]

end

end Sys2Proof.Machine
end

section
/-! PROOFS. The visits of a controller's walker, and the invalidations of the L1s (R241, R305, R306). -/

namespace Sys2Proof.Machine
open Sys2Proof Sys2Proof.Claims

/-! ### The turn of the walker (R283, R287, R305) -/

section
variable (g : Nat) (s : State)

theorem readOnly_onMiss (n l : Nat) (f : Miss → Miss) : readOnly g s (s.onMiss n l f) := readOnly_onSlc g s n _

theorem readOnly_serveColumn (n : Nat) (m : Miss) (aged : Bool) : readOnly g s (s.serveColumn g n m aged) := by
  have hcount : readOnly g s (if m.cols = 2 then s.countServed g m aged else s) := by
    split
    · exact readOnly_countServed g s m aged
    · exact .refl g s
  have hcolumn (t : State) : readOnly g t ((t.columns g (t.rowOf g m.line) 1).inc F.MEMC_READ_BURSTS g 0) :=
    (readOnly_columns g t _ 1).trans (readOnly_inc g _ _ _ _ _)
  have hburst := hcount.trans (hcolumn _)
  unfold State.serveColumn
  dsimp only
  split
  · exact hburst.trans (readOnly_onMiss g _ _ _ _)
  · exact hburst.trans ((readOnly_fetchLine g _ _ _).trans ((readOnly_onMiss g _ _ _ _).trans (readOnly_dropIdle g _)))

theorem readOnly_slotReady (n : Nat) (m : Miss) : readOnly g s (s.slotReady g n m) := by
  have hkey : readOnly g s (if m.keyWait then s.keyLoad g m.keyh else s) := by
    split
    · exact readOnly_keyLoad g s _
    · exact .refl g s
  unfold State.slotReady
  dsimp only
  refine .trans ?_ (readOnly_onMiss g _ n m.line _)
  split
  · exact hkey.trans (readOnly_checkLoad g _ _)
  · exact hkey

theorem readOnly_finishSlot (n l : Nat) : readOnly g s (s.finishSlot g n l) := by
  unfold State.finishSlot forN
  refine .trans ?_ (.foldl (fun t _ => ?_) _ _)
  · split
    · exact readOnly_slotReady g s n _
    · exact .refl g s
  · split
    · split
      · exact readOnly_serveColumn g t n _ false
      · exact .refl g t
    · exact .refl g t

theorem readOnly_clearSlots (m : Miss) : readOnly g s (s.clearSlots g m) := by
  unfold State.clearSlots
  split
  · exact .refl g s
  · exact .foldl (fun t (x : GMiss) => readOnly_finishSlot g t x.1 x.2.line) _ s

theorem readOnly_walkTurn (l : Nat) : readOnly g s (s.walkTurn g l) := by
  have hclear := readOnly_clearSlots g s (s.walkMiss g l)
  unfold State.walkTurn
  dsimp only
  split
  · split
    · exact hclear.trans (readOnly_onMem g _)
    · exact hclear
  · exact hclear

end

/-! ### The sector that the walker visits (R306) -/

/-- The state after the walker of a controller has read the sectors of a line. -/
def State.scrubRead (s : State) (g l : Nat) : State :=
  let s := (s.walkTurn g l).onMem g (fun m => { m with scrub := m.scrub + 1 })
  ((s.checkTouch g l false).columns g (s.rowOf g l) 1).inc F.MEMC_READ_BURSTS g 0

/-- The state after a single-bit error that the walker met is counted and recorded, and its sector is written. -/
def State.scrubCounted (s : State) (g q : Nat) : State :=
  (((s.inc F.MEMC_CE g 0).corrected 4 g (32 * q)).columns g (s.rowOf g (q / 4)) 1).inc F.MEMC_WRITE_BURSTS g 0

/-- The state with the error of a sector gone. -/
def State.sectorMended (s : State) (q : Nat) : State := { s with sectors := SMap.put q { (s.sectors.get q ⟨0, 0⟩) with err := 0 } s.sectors }

section
variable {s : State} {g q : Nat}

theorem State.scrubMem_of_walk (hq : q = s.rd F.MEMC_RANGE_BASE_BASE g / 32 + (s.mem g).scrub % s.scrubSectors g) (hwalk : s.canWalk g q = true) :
    s.scrubMem g = if (s.scrubRead g (q / 4)).sectorBad g q
      then ((s.scrubRead g (q / 4)).memUe g q).event ((s.scrubRead g (q / 4)).ueCode q) (pageIdx .memc g) (32 * q) (b2n ((s.scrubRead g (q / 4)).sectorErr q == 3))
      else if (s.scrubRead g (q / 4)).sectorErr q = 1 then ((s.scrubRead g (q / 4)).scrubCounted g q).sectorMended q else s.scrubRead g (q / 4) := by
  unfold State.scrubMem
  dsimp only
  rw [← hq, hwalk, if_neg nofun]
  rfl

/-- The walker's read: one sector further, and nothing else of memory differs where the check words hold no error. -/
theorem State.scrubRead_spec (hclean : s.checksClean g) (l : Nat) :
    (s.scrubRead g l).dram = s.dram ∧ (s.scrubRead g l).sectors = s.sectors ∧ ((s.scrubRead g l).mem g).scrub = (s.mem g).scrub + 1
      ∧ ((s.scrubRead g l).mem g).failed = (s.mem g).failed ∧ (s.scrubRead g l).checksClean g := by
  have hturn := readOnly_walkTurn g s l
  have hread : readOnly g ((s.walkTurn g l).onMem g (fun m => { m with scrub := m.scrub + 1 })) (s.scrubRead g l) :=
    (readOnly_checkTouch g _ l false).trans ((readOnly_columns g _ _ 1).trans (readOnly_inc g _ _ _ _ _))
  have hclean' : ((s.walkTurn g l).onMem g (fun m => { m with scrub := m.scrub + 1 })).checksClean g := by
    rw [State.checksClean, State.onMem_mem_same]
    exact hturn.clean hclean
  refine ⟨hread.dram.trans hturn.dram, (hread.sectors hclean').trans (hturn.sectors hclean), ?_, ?_, hread.clean hclean'⟩
  · rw [hread.scrub, State.onMem_mem_same, ← hturn.scrub]
  · rw [hread.failed, State.onMem_mem_same, ← hturn.failed]

theorem readOnly_event (g : Nat) (s : State) (code page addr detail : Nat) (writer : Option Nat) : readOnly g s (s.event code page addr detail writer) :=
  readOnly_report g s _

theorem readOnly_scrubCounted (g : Nat) (s : State) (q : Nat) : readOnly g s (s.scrubCounted g q) :=
  (readOnly_inc g s _ _ _ _).trans ((readOnly_corrected g _ _ _ _).trans ((readOnly_columns g _ _ 1).trans (readOnly_inc g _ _ _ _ _)))

theorem State.scrubMem_spec (hq : q = s.rd F.MEMC_RANGE_BASE_BASE g / 32 + (s.mem g).scrub % s.scrubSectors g) (hwalk : s.canWalk g q = true)
    (hok : (s.mem g).failed = false) (hclean : s.checksClean g) :
    (s.scrubMem g).dram = s.dram ∧ ((s.scrubMem g).mem g).scrub = (s.mem g).scrub + 1
      ∧ (s.sectorErr q = 1 → (s.scrubMem g).sectorErr q = 0 ∧ ((s.scrubMem g).sectors.get q ⟨0, 0⟩).key = (s.sectors.get q ⟨0, 0⟩).key)
      ∧ (s.sectorErr q ≠ 1 → (s.scrubMem g).sectors = s.sectors) := by
  obtain ⟨hdram, hsectors, hscrub, hfailed, hclean'⟩ := s.scrubRead_spec hclean (q / 4)
  have herr : (s.scrubRead g (q / 4)).sectorErr q = s.sectorErr q := by rw [State.sectorErr, hsectors, State.sectorErr]
  have hbad : (s.scrubRead g (q / 4)).sectorBad g q = decide (2 ≤ s.sectorErr q) := by rw [State.sectorBad, herr, hfailed, hok, Bool.or_false]
  rw [State.scrubMem_of_walk hq hwalk, hbad, herr]
  generalize s.scrubRead g (q / 4) = t at *
  split
  next htwo =>
    have htwo := of_decide_eq_true htwo
    have hread := (readOnly_memUe g t q).trans (readOnly_event g _ (t.ueCode q) (pageIdx .memc g) (32 * q) (b2n (t.sectorErr q == 3)) none)
    rw [herr] at hread
    exact ⟨hread.dram.trans hdram, hread.scrub.trans hscrub, fun hone => absurd htwo (by omega), fun _ => (hread.sectors hclean').trans hsectors⟩
  split
  next hone =>
    have hread := readOnly_scrubCounted g t q
    refine ⟨hread.dram.trans hdram, hread.scrub.trans hscrub, fun _ => ?_, fun hne => absurd hone hne⟩
    rw [State.sectorErr, State.sectorMended, SMap.get_put_same, (hread.sectors hclean').trans hsectors]
    exact ⟨rfl, rfl⟩
  next hne => exact ⟨hdram, hscrub, fun hone => absurd hone hne, fun _ => hsectors⟩

theorem scrubVisit_memc (hg : g < nDist) (henable : s.rd F.ERRQ_ENABLE_EFF ≠ 0) : exec (.scrubVisit true g) s = .next (s.scrubMem g) := by
  have hunit : g < if true = true then nDist else nSlices := hg
  rw [exec_scrubVisit, execScrubVisit, onUnit_of_lt hunit, if_neg henable, if_pos rfl]

end

/-! ### Invalidations (R241) -/

theorem inv_drops {s : State} {p i : Nat} {m : InvMsg} (hp : p < nBlks) (hfirst : s.invs.findIdx? (fun m => m.blk == p && !m.acked) = some i)
    (hm : s.invs[i]? = some m) : ∃ t, exec (.inv p) s = .next t ∧ onlyBlks { s with invs := t.invs } t ∧ t.regs = s.regs ∧ blksBut p s t
      ∧ t.invs = s.invs.set i { m with acked := true } ∧ (t.blk p).l1 = (s.blk p).l1.filter (fun y => y.line != m.line)
      ∧ t.blk p = { s.blk p with l1 := (t.blk p).l1 } := by
  have hexec : exec (.inv p) s = .next { s.l1Drop p m.line with invs := s.invs.set i { m with acked := true } } := by
    rw [exec_inv, execInv, onUnit_of_lt hp, hfirst]
    dsimp only
    rw [hm]
  have hblk : (s.l1Drop p m.line).blk p = { s.blk p with l1 := (s.blk p).l1.filter (fun y => y.line != m.line) } := State.onBlk_blk_same _ _ _
  have hl1 : (s.l1Drop p m.line).blk p = { s.blk p with l1 := ((s.l1Drop p m.line).blk p).l1 } := by rw [hblk]
  have hothers (k : Nat) (hk : k ≠ p) : (s.l1Drop p m.line).blk k = s.blk k := State.onBlk_blk_ne s k p _ hk
  exact ⟨_, hexec, rfl, rfl, hothers, rfl, congrArg Block.l1 hblk, hl1⟩

/-- The state after an acknowledgement is taken, before its write is looked at. -/
def State.ackTaken (s : State) (i : Nat) : State := { s with invs := s.invs.eraseIdx i }

theorem invAck_counts {s : State} {k i : Nat} {m : InvMsg} {w : InvWait} (hk : k < nSlices)
    (hfirst : s.invs.findIdx? (fun m => m.slice == k && m.acked) = some i) (hm : s.invs[i]? = some m)
    (hw : (s.slc k).invWait.find? (fun w => w.req.id == m.req) = some w) :
    ∃ t, exec (.invAck k) s = .next t ∧ t.invs = s.invs.eraseIdx i ∧ t.regs = s.regs ∧ t.dram = s.dram ∧ t.blks = s.blks
      ∧ (w.left.filter (fun p => p != m.blk) = [] → t.resps = s.resps ++ [⟨w.req, 0⟩]
        ∧ (t.slc k).invWait = (s.slc k).invWait.filter (fun w => w.req.id != m.req))
      ∧ (w.left.filter (fun p => p != m.blk) ≠ [] → t.resps = s.resps) := by
  have hw' : ((s.ackTaken i).slc k).invWait.find? (fun w => w.req.id == m.req) = some w := hw
  have hexec : exec (.invAck k) s = .next (if w.left.filter (fun p => p != m.blk) = []
      then ((s.ackTaken i).onSlc k (fun sl => { sl with invWait := sl.invWait.filter (fun w => w.req.id != m.req) })).answer w.req 0 false
      else (s.ackTaken i).onSlc k (fun sl => { sl with
        invWait := sl.invWait.map (fun v => if v.req.id = m.req then { v with left := w.left.filter (fun p => p != m.blk) } else v) })) := by
    rw [exec_invAck, execInvAck, onUnit_of_lt hk, hfirst]
    dsimp only
    rw [hm]
    dsimp only
    rw [← State.ackTaken, hw']
  refine ⟨_, hexec, ?_⟩
  by_cases hleft : w.left.filter (fun p => p != m.blk) = []
  · rw [if_pos hleft, State.answer_bare]
    refine ⟨rfl, rfl, rfl, rfl, fun _ => ⟨rfl, ?_⟩, fun hne => absurd hleft hne⟩
    rw [← State.answer_bare, State.answer_slc, State.onSlc_slc_same]
    rfl
  · rw [if_neg hleft]
    exact ⟨rfl, rfl, rfl, rfl, fun h => absurd h hleft, fun _ => rfl⟩

/-- Settles O35: the lines that a sweep or a drain meets leave one by one, and whatever else runs leaves the slice's state, its walker and its events. -/
theorem sweepsDrainsAndScrubs : Obligations.SweepsDrainsAndScrubs := by
  intro s n hn
  refine ⟨fun w ws h hmiss => sweepEnd_clears hn h hmiss, fun un hmode => retired_empties hn un hmode,
    fun henable hdom hmode => scrubVisit_slice hn henable hdom hmode, fun g hg => ?_, fun p i m hp hfirst hm => inv_drops hp hfirst hm,
    fun k i m w hk hfirst hm hw => invAck_counts hk hfirst hm hw⟩
  intro q henable hwalk hok hclean
  exact ⟨_, scrubVisit_memc hg henable, State.scrubMem_spec rfl hwalk hok hclean⟩

end Sys2Proof.Machine
end
